-- ==== Sys2Proof/Config.lean ====
section
/-! DEFINITION. What the spec leaves to the implementation, and the free values: constants without a body, so that no proof
can see a value of one. -/
namespace Sys2Proof.Config

/-- The sine of a binary32 angle in radians, as this device computes it (open in the last place). -/
opaque sin32 : BitVec 32 → BitVec 32
/-- The cosine of a binary32 angle in radians. -/
opaque cos32 : BitVec 32 → BitVec 32
/-- The exponential of a binary32 value. -/
opaque exp32 : BitVec 32 → BitVec 32
/-- The exponential of a binary64 value. -/
opaque exp64 : BitVec 64 → BitVec 64
/-- The angle of the point (x, y), arguments y then x, in radians. -/
opaque atan2_32 : BitVec 32 → BitVec 32 → BitVec 32
/-- One step of the back-EMF observer of R308, whose equations the spec does not state: from BEMF_BW, T1, R_S, L_D, L_Q,
PSI_PM, the stationary voltages and the stationary currents, all binary32, and the observer's state, its next state. Bits 31 to
0 of the state are the estimated back-EMF along alpha, bits 63 to 32 along beta. -/
opaque bemf : List (BitVec 32) → BitVec 128 → BitVec 128
/-- SHA-256 of a byte string. -/
opaque sha256 : List (BitVec 8) → BitVec 256
/-- SHA-384 of a byte string. -/
opaque sha384 : List (BitVec 8) → BitVec 384
/-- The n-th 256 bits the true random number generator gives. -/
opaque trng : Nat → BitVec 256
/-- AES-CMAC of a message under the key a key store holds under a number. -/
opaque cmac : Nat → List (BitVec 8) → BitVec 128
/-- The ICV (HMAC-SHA256-128) of a PTP message under the key a key store holds under a number. -/
opaque icv : Nat → List (BitVec 8) → BitVec 128
/-- The share of the switch frame buffer, in bytes, of frames received on a port in a class (open). -/
opaque rxShare : Nat → Nat → Nat
/-- The share of the switch frame buffer, in bytes, of frames queued at an egress port in a class (open). -/
opaque txShare : Nat → Nat → Nat
/-- The last 16 bits of the IPv4 link-local address that a MAC address selects (open but for RFC 3927's range). -/
opaque linkLocal : Nat → Nat
/-- The data of the answer to a PTP management GET of a managementId (open). -/
opaque mgmtData : Nat → List (BitVec 8)
/-- The calibrated path delay of a digital land in 125 ps, which the time unit removes from stamps (R114; open): 4·n + i for
FBn_Pi, 64 + i for LATi, 72 + i for DIi. -/
opaque pathDelay : Nat → Int
/-- The threshold, binary32 volts, at which field input `i` of Type 1 (false) or Type 3 (true) goes off (false) or on (true), within the
range of Table FI-1 (open). -/
opaque diThreshold : Nat → Bool → Bool → BitVec 32
/-- The falling (false) and rising (true) threshold of control rail `n`, and the current limit of VSTBY_5V, binary32, within the ranges
of Table PS-1 and R583 (open). -/
opaque railThreshold : Nat → Bool → BitVec 32
opaque vstbyLimit : BitVec 32
/-- The voltage, binary32, of a word of the sin/cos converters before calibration (open). -/
opaque scVolts : BitVec 16 → BitVec 32
/-- One step of the estimator of R135, whose equations the spec does not state: from its state and the two voltages of a
conversion, its next state, whose words 0 to 3 are the estimates: sine offset, cosine offset, gain ratio, phase error. -/
opaque scEst : BitVec 256 → BitVec 32 → BitVec 32 → BitVec 256
/-- AES-256-GCM with empty plaintext: the tag of a key, a nonce of 12 bytes and the associated data (R423). -/
opaque gcmTag : BitVec 256 → List (BitVec 8) → List (BitVec 8) → BitVec 128
/-- AES-256-CMAC of a message under a key (R425). -/
opaque aesCmac : BitVec 256 → List (BitVec 8) → BitVec 128
/-- The x-coordinate that ECDH on P-384 gives for the private key of a random number and a public point of 96 bytes. -/
opaque ecdhSecret : BitVec 256 → List (BitVec 8) → BitVec 384
/-- HKDF-SHA-384: input key material, salt, info, and which 32 bytes of the output, counted from 0. -/
opaque hkdf384 : BitVec 384 → List (BitVec 8) → List (BitVec 8) → Nat → BitVec 256
/-- The signature of the device key over a byte string. -/
opaque deviceSign : List (BitVec 8) → BitVec 768
/-- A public point of the identity of a handshake, 96 bytes, from a random number. -/
opaque ecdhPoint : BitVec 256 → BitVec 768
/-- SHA-384 of the Setirum key that may unlock the debug port of an unclaimed device. -/
opaque vendorKey : BitVec 384
/-- The public point of the device identity key, and SHA-384 of the key that VENDOR_CA_CERT certifies. -/
opaque devicePubkey : BitVec 768
opaque vendorCaKey : BitVec 384
/-- HW_VERSION, SW_VERSION of the running firmware's VERSION, and the two certificates, as the factory set them. -/
opaque hwVersion : List (BitVec 8)
opaque swVersion : Nat → List (BitVec 8)
opaque deviceCert : List (BitVec 8)
opaque vendorCaCert : List (BitVec 8)
/-- The Revision ID of the PCIe configuration header (open). -/
opaque pcieRevisionId : BitVec 8
/-- The code of a channel in SESSION_LIST (open): CAN 0 to 3, 4 Quinup, 5 mailbox. -/
opaque chanCode : Nat → BitVec 8
/-- The integer that a NaN converts to (open): precision of its format, raw value, scale. -/
opaque nanToInt : Nat → Nat → Int → Int
/-- The fraction of a NaN that an operation makes, by the precision of the format (open). -/
opaque nanFraction : Nat → Nat
/-- A quotient whose divisor is 0 (open), by its dividend. -/
opaque overZero : Int → Int

end Sys2Proof.Config
end

