-- ==== Sys2Proof/Word.lean ====
section
/-! DEFINITION. Words and the plainest arithmetic on them: two's complement readings (R6), modular Q32 positions (R7),
saturating Q32 speeds (R8), bit tests, and little-endian byte strings (R2). An object's value is held as the natural number
its bytes spell. -/
namespace Sys2Proof

/-- A byte of a frame, of a buffer or of a DOMAIN object. -/
abbrev Byte := BitVec 8

/-- A byte string, first byte first. -/
abbrev Bytes := List Byte

/-- The two's complement reading of the low `w` bits of `x` (Table OD-1). -/
def toS (w x : Nat) : Int :=
  let y := x % 2 ^ w
  if y < 2 ^ (w - 1) then (y : Int) else (y : Int) - (2 ^ w : Nat)

/-- The `w`-bit two's complement encoding of `i`, taken modulo 2^w. -/
def ofS (w : Nat) (i : Int) : Nat := (i % ((2 ^ w : Nat) : Int)).toNat

/-- `i` held between the most negative and the most positive value of `w` bits (R8). -/
def satS (w : Nat) (i : Int) : Int :=
  if i < -((2 ^ (w - 1) : Nat) : Int) then -((2 ^ (w - 1) : Nat) : Int)
  else if ((2 ^ (w - 1) : Nat) : Int) ≤ i then ((2 ^ (w - 1) : Nat) : Int) - 1
  else i

/-- A Q32 value of an object, as a signed raw integer (R6). -/
def q32 (x : Nat) : Int := toS 64 x

/-- A Q32 position written back: modulo 2^64 raw (R7). -/
def ofPos (i : Int) : Nat := ofS 64 i

/-- A Q32 velocity, acceleration or jerk written back: it saturates (R8). -/
def ofSat (i : Int) : Nat := ofS 64 (satS 64 i)

/-- The difference of two Q32 positions, modulo 2^64 and read as signed (R7). -/
def posDiff (a b : Int) : Int := toS 64 (ofS 64 (a - b))

/-- A position kept in the signed 64-bit range (R7). -/
def wrapPos (a : Int) : Int := toS 64 (ofS 64 a)

/-- Bit `i` of `x` (R1). -/
def bit (x i : Nat) : Bool := x.testBit i

/-- `x` with bit `i` set. -/
def orBit (x i : Nat) : Nat := x ||| (1 <<< i)

/-- `x` with bit `i` cleared. -/
def clrBit (x i : Nat) : Nat := if x.testBit i then x - (1 <<< i) else x

/-- `x` with the bits of `m` cleared, `m` at most 64 bits wide. -/
def clrMask (x m : Nat) : Nat := x - (x &&& m)

/-- `x` with bit `i` made `b`. -/
def putBit (x i : Nat) (b : Bool) : Nat := if b then orBit x i else clrBit x i

/-- A truth value as an object's number. -/
def b2n (b : Bool) : Nat := if b then 1 else 0

/-- The field of `n` bits of `x` from bit `lo` (R1). -/
def fld (x lo n : Nat) : Nat := (x >>> lo) % 2 ^ n

/-- The `n` bytes of `x`, least significant first (R2). -/
def leBytes : Nat → Nat → Bytes
  | 0, _ => []
  | n + 1, x => BitVec.ofNat 8 x :: leBytes n (x / 256)

/-- The number that bytes spell, least significant first (R2). -/
def leNat : Bytes → Nat
  | [] => 0
  | b :: bs => b.toNat + 256 * leNat bs

/-- `n` bytes of `bs` from offset `o`, as a number; bytes past the end count as 0. -/
def leAt (bs : Bytes) (o n : Nat) : Nat := leNat ((bs.drop o).take n)

/-- Division of integers rounding toward minus infinity; by 0 a free value, but for dividend 0 (log entry 7). -/
def fdiv (a b : Int) : Int := if b = 0 then (if a = 0 then 0 else Config.overZero a) else a.fdiv b

/-- Division rounding to nearest, halves away from minus infinity; by 0 a free value, but for dividend 0 (log entry 7). -/
def rdiv (a b : Int) : Int := if b = 0 then (if a = 0 then 0 else Config.overZero a) else (2 * a + b).fdiv (2 * b)

/-- `x` held in `[lo, hi]`. -/
def clampI (lo hi x : Int) : Int := if x < lo then lo else if hi < x then hi else x

/-- The absolute value of an integer, as an integer. -/
def absI (x : Int) : Int := if x < 0 then -x else x

/-- −1, 0 or 1. -/
def signI (x : Int) : Int := if x < 0 then -1 else if x = 0 then 0 else 1

/-- The integer square root, bit by bit from bit `k` down. -/
def isqrtFrom : Nat → Nat → Nat → Nat
  | 0, n, r => if (r + 1) * (r + 1) ≤ n then r + 1 else r
  | k + 1, n, r =>
    let t := r + 2 ^ (k + 1)
    isqrtFrom k n (if t * t ≤ n then t else r)

/-- The integer square root of `n`. -/
def isqrt (n : Nat) : Nat := isqrtFrom (n.log2 / 2 + 1) n 0

/-- The list with element `i` replaced. -/
def setL {α : Type} : List α → Nat → α → List α
  | [], _, _ => []
  | _ :: t, 0, a => a :: t
  | h :: t, i + 1, a => h :: setL t i a

end Sys2Proof
end

