-- ==== Sys2Proof/Machine/Types.lean ====
section
/-! DEFINITION. The types that commands carry and that the state holds: operands from outside (what a frame, a packet or a
request carries, the verdict of a cryptographic check), and the control state of axes, cascade levels, subscriptions and
publishers that a twin's state copy transports (Table TW-2). -/
namespace Sys2Proof


/-- The roles of Table SE-1 that a request can hold, in ascending order. -/
inductive Role where
  | none | observer | operator | owner
  deriving DecidableEq, Repr, Inhabited

/-- The channels of Table OD-4. -/
inductive Chan where
  | can (c : Fin 4)
  | quinup
  | mailbox
  deriving DecidableEq, Repr, Inhabited

/-- Where the frame of a transmit object stands when CANCEL is taken (Table CN-2). -/
inductive CanPhase where
  | waiting | arbitration | won
  deriving DecidableEq, Repr, Inhabited

/-- Where a UDP datagram came from: MAC address (first octet most significant), IPv4 address and port. -/
structure Peer where
  mac : Nat := 0
  ip : Nat := 0
  port : Nat := 0
  /-- The switch port at which the datagram came in. -/
  land : Fin 3 := 0
  deriving DecidableEq, Repr, Inhabited

/-- What IPv4 and UDP say of a received datagram: its source, the address and port that it is sent to, whether it is a fragment,
and whether its checksum is good (R100). -/
structure Udp where
  peer : Peer := {}
  ip : Nat := 0
  port : Nat := 0
  fragment : Bool := false
  sumOk : Bool := true
  deriving DecidableEq, Repr, Inhabited

/-- What surrounds a request when it is taken. Of the enclave: the signature in the data verifies (packet, certificate, FINISH,
firmware image, calibration image), the owner's countersignature of an image verifies, the plain text of a sealed body where it
decrypts, and the tamper causes that sensors report. Of the lands: the channels with an overcurrent and with a modulator fault
present, and where on its bus the frame of a cancelled transmit object stands. -/
structure Verdict where
  sig : Bool
  owner : Option Nat
  plain : Option Bytes
  reporting : Nat
  oc : Nat
  md : Nat
  phase : CanPhase
  deriving DecidableEq, Repr, Inhabited

/-- A write request that has reached the object-dictionary server: its channel, the session it runs in (0 for none; its
trailer has verified, R424), its REQUEST_ID and FRESHNESS, and the bytes written. -/
structure Wr where
  chan : Chan
  /-- Where a Quinup request came from. -/
  peer : Peer
  session : Nat
  reqId : Nat
  fresh : Nat
  data : Bytes
  vd : Verdict
  deriving DecidableEq, Repr, Inhabited

/-- A Quinup datagram or mailbox request after its format check fields have been parsed (Table LT-10). -/
structure Dgram where
  /-- The datagram that carried a Quinup request. -/
  udp : Udp := {}
  magic : Nat
  version : Nat
  reqId : Nat
  session : Nat
  fresh : Nat
  index : Nat
  sub : Nat
  last : Bool
  segOffset : Nat
  dataLength : Nat
  data : Bytes
  /-- The trailer is present and verifies under the session's request key (R423). -/
  macOk : Bool
  vd : Verdict
  deriving DecidableEq, Repr, Inhabited

/-- The authentication TLV of a PTP message: absent, or with its SPP and keyID and the verdict of its ICV. -/
inductive Icv where
  | absent
  | tlv (spp : Nat) (keyId : Nat) (ok : Bool)
  deriving DecidableEq, Repr, Inhabited

/-- A Sync with its Follow_Up where two-step (R61): whether it came over UDP, origin, correction in 2^-16 ns, ingress stamp
offset, the domain's rate estimate after it and the measured recovered clock, both F32 fractions against REF25_IN. -/
structure SyncMsg where
  port : Fin 3
  udp : Bool
  originSec : Nat
  originNs : Nat
  corr : Int
  off : Int
  icv : Icv
  rate : BitVec 32
  recovered : BitVec 32
  stampLost : Bool
  deriving DecidableEq, Repr, Inhabited

/-- What an Announce carries: the data set that the default best master clock algorithm compares, with the port identity of
its sender and the port it came on, and the time properties (flags, currentUtcOffset, timeSource) that a boundary clock passes
on. -/
structure Announce where
  priority1 : Nat
  clockClass : Nat
  accuracy : Nat
  variance : Nat
  priority2 : Nat
  identity : Nat
  steps : Nat
  sender : Nat
  port : Fin 3
  flags : Nat
  utcOffset : Nat
  timeSource : Nat
  deriving DecidableEq, Repr, Inhabited

/-- A PTP message other than a Sync. A request carries the port identity of its sender (80 bits) and its sequenceId. -/
inductive PtpMsg where
  | announce (a : Announce) (icv : Icv)
  /-- A Delay_Resp, or a Pdelay_Resp with its Follow_Up, that completes a delay measurement of the given result, 2^-16 ns. -/
  | delayResult (port : Fin 3) (delay : Int) (icv : Icv)
  /-- A Pdelay_Req (`peer`) or Delay_Req from a neighbour, with its correctionField (2^-16 ns) and its SFD, `off` units of 125 ps
  from now. -/
  | delayReq (port : Fin 3) (peer : Bool) (sender seq : Nat) (corr off : Int) (icv : Icv)
  /-- A management message: actionField 0 GET, 1 SET, 2 RESPONSE, 3 COMMAND, 4 ACKNOWLEDGE, and its managementId. -/
  | management (port : Fin 3) (action : Fin 5) (sender seq id : Nat) (icv : Icv)
  deriving DecidableEq, Repr, Inhabited

/-- The interval that has run out for a PTP instance. -/
inductive PtpTimer where
  | sync | announce | delayReq
  deriving DecidableEq, Repr, Inhabited

/-- An owner-signed or vendor-signed packet (Table SE-3) as parsed, with the verdicts of the enclave's cryptography and the
tamper causes that sensors report. -/
structure Packet where
  magicOk : Bool
  typ : Nat
  lengthOk : Bool
  target : Nat
  counter : Nat
  nonce : Nat
  /-- SHA-384 of the signer's public key. -/
  signer : Nat
  signatureOk : Bool
  decryptOk : Bool
  reporting : Nat
  deriving DecidableEq, Repr, Inhabited

/-- An entry of a SEALED_PARAMS body (Table SE-5). -/
structure SealedEntry where
  index : Nat
  sub : Nat
  len : Nat
  value : Bytes
  deriving DecidableEq, Repr, Inhabited

/-- An entry of a KEY_LOAD body (Table SE-6); the key itself is never modelled. -/
structure KeyEntry where
  cls : Nat
  delete : Bool
  place : Nat
  spp : Nat
  keyId : Nat
  deriving DecidableEq, Repr, Inhabited

/-- A role certificate of Table SE-8 with the verdict of its signature, or the owner public key's digest. -/
structure Cert where
  role : Nat
  serial : Nat
  target : Nat
  notBefore : Nat
  notAfter : Nat
  signatureOk : Bool
  deriving DecidableEq, Repr, Inhabited

/-- The credential of a HELLO. -/
inductive Cred where
  | cert (c : Cert)
  | ownerKey (digest : Nat)
  deriving DecidableEq, Repr, Inhabited

/-- What host software has written to the PCIe configuration space of Table HE-1 (Bus Master Enable apart): BAR0's address bits [31:22],
Memory Space Enable, a maximum payload of 256 bytes in place of 128, MSI-X Enable and Function Mask, D3hot in place of D0, and ASPM
Control. -/
structure PcieCfg where
  bar0 : BitVec 10 := 0
  memSpace : Bool := false
  payload256 : Bool := false
  msixEnable : Bool := false
  msixMask : Bool := false
  d3hot : Bool := false
  aspm : BitVec 2 := 0
  deriving DecidableEq, Repr, Inhabited

/-- A link that is back: 5.0 GT/s (or 2.5), and the configuration as software has written it by then (log entry 92). -/
structure LinkIn where
  gen2 : Bool
  cfg : PcieCfg
  deriving DecidableEq, Repr, Inhabited

/-- The causes of Table SE-11. -/
inductive Tamper where
  | voltage | clock | temperature | identity | integrity
  deriving DecidableEq, Repr, Inhabited

/-- A pass PDU (Table LT-11) as received or sent. Q32 fields are raw signed integers. -/
structure PassPdu where
  subtype : Nat
  version : Nat
  master : Nat
  flags : Nat
  sequence : Nat
  t0Sec : Nat
  t0Ns : Nat
  t0Frac : Nat
  p0 : Int
  v0 : Int
  a0 : Int
  j : Int
  validity : Nat
  keyId : Nat
  deriving DecidableEq, Repr, Inhabited

/-- A change of a land: the level that it takes and how long it keeps it, in 125 ps (the filters of R113, R150, R382). -/
structure Land where
  level : Bool
  stable : Nat
  deriving DecidableEq, Repr, Inhabited

/-- A change of a field input: the voltage at its land, binary32, and how long the level that it gives stays, in 125 ps (R381, R382). -/
structure DiLand where
  volts : BitVec 32
  stable : Nat
  deriving DecidableEq, Repr, Inhabited

/-- A measured value and how long it has stood, in ms (R378, R392). -/
structure Held where
  value : BitVec 32
  held : Nat
  deriving DecidableEq, Repr, Inhabited

/-- A field input has carried at most `current` for `held` ms (R384). -/
structure InputHeld where
  input : Fin 16
  current : BitVec 32
  held : Nat
  deriving DecidableEq, Repr, Inhabited

/-- A trip input has had a level for `samples` samples of 8 ns, the last one now (R219). -/
structure TripIn where
  input : Fin 8
  level : Bool
  samples : Nat
  deriving DecidableEq, Repr, Inhabited

/-- The last 128 bits of a modulator channel (R182). -/
structure ModBits where
  channel : Fin 32
  bits : BitVec 128
  deriving DecidableEq, Repr, Inhabited

/-- `passed` ns have passed since the last rising clock edge of an emulation output (R169). -/
structure MonoGap where
  output : Fin 4
  passed : Nat
  deriving DecidableEq, Repr, Inhabited

/-- What a wake source shows (R597): the port that moved, the direction of the edge of WAKE_IN, and for how many us it has stood. -/
structure WakeIn where
  port : Fin 4
  rising : Bool
  us : Nat
  deriving DecidableEq, Repr, Inhabited

/-- A PTP message and whether it came over UDP (Table LT-2). -/
structure PtpIn where
  udp : Bool
  msg : PtpMsg
  deriving DecidableEq, Repr, Inhabited

/-- The data land of an SSI or hybrid port around the L1 sample instant of its word: the level of long before and the instants
at which it changes, ascending, in 125 ps from the sample instant. -/
structure SsiWave where
  level : Bool
  toggles : List Int
  deriving DecidableEq, Repr, Inhabited

/-- A conversion of the sin and cos channels: the words of the two 16-bit converters, the quadrants that the comparators
counted since the last conversion, and the conversion's number since the L1 sample instant, 0 at it (R131). -/
structure ScConv where
  sin : BitVec 16
  cos : BitVec 16
  dq : Int
  k : Nat
  deriving DecidableEq, Repr, Inhabited

/-- How a transmission ends without success (R512, R513): arbitration lost; a bit error after the arbitration field; another
error, which raises TEC or, for a missing acknowledge of an error-passive node, does not. -/
inductive CanEnd where
  | lost | bitError | error (counts : Bool)
  deriving DecidableEq, Repr, Inhabited

/-- A transmission that ended without success: how; its SOF relative to now, 125 ps, at which arbitration started (R510); and the
delay that delay compensation measured in it, ns, if it came so far (R499). -/
structure CanFail where
  how : CanEnd
  sof : Int := 0
  tdc : Option (BitVec 16) := none
  deriving DecidableEq, Repr, Inhabited

end Sys2Proof

namespace Sys2Proof.Machine

/-- What the answer to a request repeats of it (Table LT-10): channel, session, REQUEST_ID, FRESHNESS, OP, INDEX, SUBINDEX,
FLAGS and SEG_OFFSET. -/
structure Ctx where
  chan : Chan
  /-- Where a Quinup request came from, and where its answer goes (R100). -/
  peer : Peer := {}
  session : Nat
  reqId : Nat
  fresh : Nat
  op : Nat
  index : Nat
  sub : Nat
  flags : Nat := 0
  seg : Nat := 0
  /-- The response key of the session in which the request was taken, which a close before the answer does not end (R422). -/
  key : BitVec 256 := 0
  deriving DecidableEq, Repr, Inhabited

/-- A sample: its instant in 125 ps of line time, position and speed in raw Q32. -/
structure Smp where
  t : Int
  x : Int
  v : Int
  deriving DecidableEq, Repr, Inhabited

/-! ### Axes (chapter 06) -/

/-- A set-point at an instant, 125 ps of line time: position, velocity and acceleration, raw Q32 (R257, R313). -/
structure SetPt where
  t : Int
  p : Int
  v : Int
  a : Int
  deriving DecidableEq, Repr, Inhabited

/-- A piece of a planned path: duration in units of 2^-32 ns and the raw position, velocity, acceleration at its start and
its jerk. -/
structure Seg where
  dur : Int
  p : Int
  v : Int
  a : Int
  j : Int
  deriving DecidableEq, Repr, Inhabited

/-- What an axis does at the standstill of a stop. -/
inductive AfterStop where
  | enabled | ready | fault | off
  /-- The move of a REPLACE: TARGET_POSITION and MOVE_FLAGS[0] as read when it took effect, and its SEQ. -/
  | move (target : Int) (relative : Bool) (seq : Nat)
  deriving DecidableEq, Repr, Inhabited

/-- The deceleration of a stop: D, QUICK_STOP_DEC, or CONTROLLED_STOP_DEC and others (Table MO-3). -/
inductive StopKind where
  | d | quick | other
  deriving DecidableEq, Repr, Inhabited

/-- A command waiting for the axis's next L3 sample instant: code, SEQ, and the request that waits for its answer. -/
structure AxCmd where
  code : Nat
  seq : Nat
  ctx : Option Ctx
  /-- The core clock t_w at which it was taken (R277). -/
  tw : Int
  deriving DecidableEq, Repr, Inhabited

/-- The profile parameters and TARGET_VELOCITY that a publishing source axis uses until T_c of a change (R329). -/
structure Params where
  tv : Int
  v : Int
  a : Int
  d : Int
  j : Int
  deriving DecidableEq, Repr, Inhabited

/-- A change to a publishing source axis (R329): a command, the values of Params, the controlled stop of R44, the stop of a cold takeover (R561), or the stop
polynomial of R333. -/
inductive Change where
  | cmd (c : AxCmd)
  | params (p : Params)
  | lock
  | stop
  | mains (p v a j dur : Int)
  deriving DecidableEq, Repr, Inhabited

/-- A change with the control-schedule instant T_c at which it takes effect, 2^-32 ns; until a publish instant gives it one, with the
core clock at which it was taken (R329). -/
structure Due where
  at_ : Int
  what : Change
  deriving DecidableEq, Repr, Inhabited

/-- An entry of the SETUP queue (R298): absolute target and V_MAX. -/
structure QEntry where
  target : Int
  vmax : Int
  deriving DecidableEq, Repr, Inhabited

/-- Phases of homing, coded as HOMING_PHASE. -/
inductive HPhase where
  | none | search | ret | approach | index | cross | hardStop
  deriving DecidableEq, Repr, Inhabited

def HPhase.code : HPhase → Nat
  | .none => 0 | .search => 1 | .ret => 2 | .approach => 3 | .index => 4 | .cross => 5 | .hardStop => 6

def HPhase.ofCode : Nat → HPhase
  | 1 => .search | 2 => .ret | 3 => .approach | 4 => .index | 5 => .cross | 6 => .hardStop | _ => .none

/-- Homing in progress beyond its objects. -/
structure HomeSt where
  /-- Core clock at which HOME took effect (R306). -/
  since : Int := 0
  /-- The phase ends with a stop that runs; the phase that follows it. -/
  turning : Bool := false
  next : HPhase := .none
  /-- Stamp of the latched edge of the phase, 125 ps of line time, and the position there; none until it is latched (R302). -/
  edge : Option (Int × Int) := none
  /-- Position at the active-going edge in CROSS. -/
  first : Option Int := none
  /-- Time since the first L2 sample of the present run that showed the hard-stop condition (R304), 2^-32 ns. -/
  hardTime : Option Int := none
  deriving DecidableEq, Repr, Inhabited

/-- Follow mode of an axis beyond its objects: the follow target of modes 1 and 2, the gearing remainder, the effective
master at the last evaluation instant, and the blend of R317. -/
structure FolSt where
  engaged : Bool := false
  f : Int := 0
  rem : Int := 0
  mLast : Int := 0
  /-- Time since engagement, 2^-32 ns, and the differences blended out: position and velocity, raw Q32. -/
  tau : Int := 0
  dp : Int := 0
  dv : Int := 0
  /-- Time of evaluation instants missed since the last one, 2^-32 ns (R265). -/
  lag : Int := 0
  deriving DecidableEq, Repr, Inhabited

/-- An axis beyond its objects. -/
structure AxisSt where
  /-- A controlled stop of a cold takeover waits for the next L3 sample instant (R561). -/
  cold : Bool := false
  fol : FolSt := {}
  lastSeq : Option Nat := none
  cmds : List AxCmd := []
  plan : List Seg := []
  /-- Time since the start of the plan, in 2^-32 ns. -/
  tPlan : Int := 0
  after : AfterStop := .enabled
  /-- Deceleration of the stop in progress, raw Q32, and its kind. -/
  stopDec : Int := 0
  stopKind : StopKind := .d
  target : Int := 0
  /-- A, D and J in force for the SETUP queue, and PROFILE_TYPE of the motion in progress (R288). -/
  ma : Int := 0
  md : Int := 0
  mj : Int := 0
  mtype : Nat := 1
  /-- The profile parameters or TARGET_VELOCITY changed since the last L3 sample (R286, R288). -/
  dirty : Bool := false
  queue : List QEntry := []
  queueDirty : Bool := false
  /-- Plan times at which the queued entries end (R299). -/
  marks : List Int := []
  /-- Time inside the in-position window, in 2^-32 ns; the rule is being judged. -/
  inPos : Int := 0
  judging : Bool := false
  feRun : Nat := 0
  home : HomeSt := {}
  /-- Class B causes waiting for the next L3 sample instant, one bit each (R282). -/
  classB : Nat := 0
  /-- Time of the latest sample in 125 ps of line time. -/
  sampT : Int := 0
  /-- Set-points since the last commit, newest first: the samples of a local master, and of a virtual axis (R152, R313). -/
  gens : List SetPt := []
  /-- Time of the latest set-point in 125 ps of line time. -/
  genT : Int := 0
  /-- The loop processor of the schedule in force, 255 for none (R258); for an axis with a follow mode, the start of each
  job with generation of the hyperperiod relative to its instant, 125 ps (R257, R313). -/
  lp : Nat := 255
  slots : List Int := []
  /-- The core clock t_w of the last CAM_NEXT (R341). -/
  camAt : Int := 0
  /-- Publishing source axes: parameters in use, changes not yet published, changes with their T_c (R329). -/
  use : Option Params := none
  taken : List Due := []
  due : List Due := []
  /-- Captures of the register latch unit counted so far (R344), and the sign of the last non-zero v_set (R342). -/
  regSeen : Nat := 0
  vSign : Int := 0
  /-- Control-schedule instant of the first cause of the present fault, in 2^-32 ns (R284). -/
  faultAt : Int := 0
  /-- Consecutive abandoned items of L2, L3 and L4 (R267). -/
  consecMiss : Vector Nat 3 := Vector.replicate 3 0
  deriving DecidableEq, Repr, Inhabited

/-! ### The cascade (chapter 05) -/

/-- Levels L2 to L4 of an axis beyond their objects: holding registers, published outputs, and the levels' states. Raw F32
values, except Q32 positions and speeds as signed raw integers and `aHat` as raw binary64. -/
structure CascSt where
  on2 : Bool := false
  on3 : Bool := false
  on4 : Bool := false
  iV : Nat := 0
  s11 : Nat := 0
  s12 : Nat := 0
  s21 : Nat := 0
  s22 : Nat := 0
  pHat : Int := 0
  vHat : Int := 0
  aHat : Nat := 0
  iqHeld : Nat := 0
  iqPub : Nat := 0
  vHeld : Int := 0
  ffHeld : Nat := 0
  vPub : Int := 0
  ffPub : Nat := 0
  /-- p_set and v_set for a stepper cell (R234), held and published, and the output instant in 125 ps of the control schedule. -/
  pSetHeld : Int := 0
  vSetHeld : Int := 0
  pSetPub : Int := 0
  vSetPub : Int := 0
  tOut : Int := 0
  u4Held : Nat := 0
  u4Pub : Nat := 0
  rRl : Nat := 0
  rS : Nat := 0
  i4 : Nat := 0
  d4 : Nat := 0
  yPrev : Nat := 0
  uPrev : Nat := 0
  started4 : Bool := false
  stale : Bool := false
  /-- The core clock t_w of the last SWAP_REQUEST of L1 to L4 (R249). -/
  swapAt : Vector Int 4 := Vector.replicate 4 0
  deriving DecidableEq, Repr, Inhabited

/-! ### Line shaft (chapter 07) -/

/-- A pass as held: T0 in 2^-16 ns of line time, raw Q32 polynomial, validity in ns. -/
structure Pass where
  seq : Nat
  t0 : Int
  p0 : Int
  v0 : Int
  a0 : Int
  j : Int
  validity : Nat
  flags : Nat
  deriving DecidableEq, Repr, Inhabited

/-- A CAN pass frame waiting for its partner (R331): MASTER_ID, SEQUENCE[7:0], its bytes. -/
structure Half where
  isA : Bool
  master : Nat
  seq8 : Nat
  bytes : Bytes
  /-- Receipt line time, 2^-16 ns. -/
  at_ : Int
  deriving DecidableEq, Repr, Inhabited

/-- What the state of a subscription is formed from (Table LS-5): SUB_STATE, its passes, and the common stop. -/
structure SubView where
  st : Nat := 0
  cur : Option Pass := none
  held : Option Pass := none
  ts : Int := 0
  ps : Int := 0
  vs : Nat := 0
  as_ : Nat := 0
  deriving DecidableEq, Repr, Inhabited

/-- A subscription beyond its objects. -/
structure SubSt where
  cur : Option Pass := none
  held : Option Pass := none
  lastSeq : Nat := 0
  /-- The common stop: its start in 2^-16 ns, position raw Q32, velocity and acceleration raw binary64 (R325). -/
  ts : Int := 0
  ps : Int := 0
  vs : Nat := 0
  as_ : Nat := 0
  lossSeen : Bool := false
  half : Option Half := none
  /-- The latest acceptances, newest first: their instants, 125 ps, and what stood before each (R326). -/
  before : List (Int × SubView) := []
  deriving DecidableEq, Repr, Inhabited

/-- A mains stop being published (R333): its first T0 and end in 2^-16 ns of line time, and its polynomial. -/
structure MStop where
  t0 : Int
  tEnd : Int
  p0 : Int
  v0 : Int
  a0 : Int
  j : Int
  deriving DecidableEq, Repr, Inhabited

/-- A publisher beyond its objects. -/
structure PubSt where
  stop : Option MStop := none
  /-- Mains loss has been reported and its stop pass is still to be published (R333). -/
  mainsDue : Bool := false
  /-- The core clock of the publish instant P_n of the first stop pass (R334). -/
  since : Int := 0
  deriving DecidableEq, Repr, Inhabited

/-- A state copy (Table TW-2): COPY_SEQ, CYCLE_STAMP, CONFIG_HASH, AXIS_MASK, device state, the status objects of axes,
publishers and subscriptions by key and value, their internal state, and the compare values in force. -/
structure TwinCopy where
  seq : Nat
  stamp : Nat
  at_ : Int
  hash : Nat
  mask : Nat
  dev : Nat
  regs : List (Nat × Nat)
  axis : Vector AxisSt 32
  casc : Vector CascSt 16
  sub : Vector SubSt 8
  pub : Vector PubSt 4
  compare : Vector (Option Nat) 48
  handover : Bool
  deriving DecidableEq, Repr, Inhabited

end Sys2Proof.Machine
end

