-- ==== Sys2Proof/Syntax.lean ====
section
/-! DEFINITION. The commands of the block: one constructor of Instr for each row of the table of operations and events, with
the operands that come from outside: what a frame, a packet or a request carries, what an edge's stamp is (as an offset
`off` from the present line time, in units of 125 ps), what an analogue measurement gave, and the verdict of a
cryptographic check. -/
namespace Sys2Proof
open Sys2Proof.Machine

/-- The commands, in the order of the table. -/
inductive Instr where
  /-- Release of PORST_N starts the boot sequence of Table AR-10 with every leg at high impedance. (R46) -/
  | porstNRelease
  /-- Boot completes and the device enters PRE-OPERATIONAL, or LOCKED again if a tamper sensor still reports. (R41) -/
  | bootComplete (reporting : BitVec 5) (storedOk calOk : Bool)
  /-- The boot slot is refused, or firmware has not reached PRE-OPERATIONAL within 1 s; BOOT_FAILS counts and slot fallback may follow. (R430) -/
  | bootFailure
  /-- No REF25_IN edge for 200 ns: legs are fenced and the device is held in reset until the reference returns. (R585) -/
  | ref25InAbsent
  /-- SYS_PLL loses lock: legs are fenced in hardware, then a warm reset follows once SYS_PLL relocks. (R38) -/
  | sysPllLoss
  /-- TIME_PLL loses lock: legs are fenced, the device enters SAFE, and stamps carry VALID 0 until relock. (R38) -/
  | timePllLoss
  /-- TIME_PLL relocks, which clears the TIME_PLL_LOSS SAFE cause. (R38) -/
  | timePllRelock
  /-- ETH_PLL loses lock: P1 and P2 links go down and line time enters holdover. (R38) -/
  | ethPllLoss
  /-- A voltage, clock, temperature, identity or integrity sensor reports: the device goes to LOCKED and an audit record is written. (R435) -/
  | tamperReport (t : Tamper)
  /-- DEVICE_REQUEST START moves the device from PRE-OPERATIONAL to OPERATIONAL, or is refused. (R451) -/
  | deviceStart (w : Wr)
  /-- DEVICE_REQUEST STOP moves the device from OPERATIONAL to PRE-OPERATIONAL and releases powered axes to READY. (R274) -/
  | deviceStop (w : Wr)
  /-- DEVICE_REQUEST RESET_SAFE leaves SAFE for PRE-OPERATIONAL if no SAFE cause persists. (R43) -/
  | deviceResetSafe (w : Wr)
  /-- The control schedule reaches line time again, its slew ends, and a record is written. (R25) -/
  | scheduleSlewEnd
  /-- The switch receives a frame on a port, checks it, classifies it and learns or forwards it. (R56) -/
  | frameReceive (p : Fin 3) (bytes : Bytes) (fcsOk : Bool) (icv : Icv) (stampLost : Bool) (off : Int)
  /-- An egress port starts sending the highest-priority queued frame, cut-through or stored. (R58) -/
  | frameTransmit (p : Fin 3) (off : Int)
  /-- A learned source address ages out after 300 s. (R54) -/
  | addressAgeing (mac : BitVec 48)
  /-- A Sync of a domain is received; estimates update and the servo writes a new increment. (R87) -/
  | ptpSyncReceive (d : Fin 2) (m : SyncMsg)
  /-- No Sync for three announce intervals: the domain is ABSENT and line time moves to the other domain or to HOLDOVER. (R90) -/
  | domainAbsent (d : Fin 2)
  /-- An UNTRUSTED domain whose Syncs met both bounds for REQUALIFY_TIME returns to ACQUIRING. (R89) -/
  | requalifyTimeExpiry (d : Fin 2)
  /-- The preferred domain has been COARSE or FINE for REQUALIFY_TIME, and line time moves back to it. (R92) -/
  | domainRevert (d : Fin 2)
  /-- An OPERATOR write moves line time to domain A or B under R91, or is refused. (R93) -/
  | selectRequest (w : Wr)
  /-- The servo writes the increment register, which takes effect at the next tick. (R82) -/
  | tuIncrement (v : BitVec 64)
  /-- The servo writes an offset add, summed with any not yet applied. (R84) -/
  | tuOffsetAdd (v : BitVec 64)
  /-- At the next tick the pending offset is applied atomically to line time, or refused if seconds would go negative. (R83) -/
  | offsetAddApply
  /-- A slew toward a new domain ends and SLEWING clears. (R91) -/
  | lineTimeSlewEnd
  /-- A rising PPS_IN edge is stamped and may align the line-time second or set TOD seconds. (R95) -/
  | ppsInEdge (off : Int)
  /-- A write sets the line-time seconds at the next PPS_IN edge. (R96) -/
  | todSeconds (w : Wr)
  /-- At each line-time second plus offset PPS_OUT rises, and falls after the configured width. (R97) -/
  | ppsOutPulse (rise : Bool)
  /-- An enabled alarm reaches its time, sets its ALARM_FIRED bit, disables itself, writes a record and raises its trigger. (R98) -/
  | lineTimeAlarm (a : Fin 4)
  /-- A write enables alarms, and an alarm whose time is past fires at once. (R98) -/
  | alarmEnable (w : Wr)
  /-- The module answers an ARP or ICMP echo request. (R99) -/
  | echoOrArpRequest (p : Fin 3) (bytes : Bytes)
  /-- A Quinup READ datagram reads one object and is answered. (R100) -/
  | quinupRead (d : Dgram)
  /-- A Quinup WRITE datagram writes one object and is answered. (R100) -/
  | quinupWrite (d : Dgram)
  /-- A Quinup READ_SEGMENT serves one segment of a VSTRING or DOMAIN read. (R448) -/
  | quinupReadSegment (d : Dgram)
  /-- A Quinup WRITE_SEGMENT carries one segment of a segmented write. (R448) -/
  | quinupWriteSegment (d : Dgram)
  /-- A Quinup SESSION datagram carries a session handshake message. (R421) -/
  | quinupSession (d : Dgram)
  /-- A pass frame is stamped, format-checked, verified by the enclave and checked under Table LS-4. (R104) -/
  | passFrameReceive (port : Fin 3) (p : PassPdu) (len : Nat) (macOk stampLost : Bool) (off : Int)
  /-- An accepted A or B transition is counted with direction hysteresis. (R115) -/
  | quadTransition (p : Fin 16) (isB : Bool) (l : Land) (off : Int)
  /-- At each L1 sample instant the port clocks in one SSI word and delivers the position sample. (R124) -/
  | ssiTransfer (p : Fin 16) (w : SsiWave) (clock : Int)
  /-- After commit the hybrid port reads an absolute word and sets its position from it. (R129) -/
  | hybridReference (p : Fin 16) (w : SsiWave) (clock : Int)
  /-- Every HYBRID_CHECK ms the port reads a word and checks the incremental position against it. (R130) -/
  | hybridCheck (p : Fin 16) (w : SsiWave) (clock : Int)
  /-- A sin/cos conversion is taken, corrected and combined with the quadrant count. (R131) -/
  | sincosConversion (p : Fin 4) (c : ScConv)
  /-- An index edge is stamped and sets the reference or is checked against the expected position. (R140) -/
  | indexEvent (p : Fin 16) (l : Land) (off : Int)
  /-- A write re-arms reference mode for the next index event. (R141) -/
  | indexArm (w : Wr) (n : Fin 16)
  /-- In standby the tracker samples A and B at 1 MHz and counts or declares tracking lost. (R146) -/
  | trackerSample (a : BitVec 4) (b : BitVec 4)
  /-- An event from a latch unit's source is taken, captured with positions, windowed and delivered. (R153) -/
  | latchEvent (i : Fin 8) (l : Land) (off : Int)
  /-- A write of 1 re-arms a single-mode latch unit. (R154) -/
  | arm (w : Wr) (u : Fin 16)
  /-- A write of 1 discards the oldest capture of the latch unit's object queue. (R159) -/
  | next (w : Wr) (u : Fin 16)
  /-- For each source sample the emulation output spreads the due counts as A/B edges. (R164) -/
  | emuSourceSample (e : Fin 4)
  /-- The first falling clock edge at EMUn_B latches c and the word is shifted out on following edges. (R168) -/
  | ssiTargetTransfer (e : Fin 4) (edges : Nat) (off : Int)
  /-- SSI_MONOFLOP passes after the last rising edge, and EMUn_A returns high. (R169) -/
  | ssiMonoflop (g : MonoGap)
  /-- At each L1 sample instant the current cell decimates currents, runs the d/q loop and computes duties. (R189) -/
  | currentCellSample (n : Fin 16) (w0 w1 : BitVec 256) (gap : Bool)
  /-- At a reload point new compare values take effect and newly eligible legs start or withdrawn legs fence. (R28) -/
  | reload (g : Fin 16) (peak : Bool)
  /-- A channel's bit stream stays constant for 128 SDCLK periods: flag set and the axis legs fenced. (R182) -/
  | modFault (b : ModBits)
  /-- The fast overcurrent condition qualifies, fences the axis legs within 20 ns and faults the axis. (R184) -/
  | overcurrent (k : Fin 32) (w : BitVec 128)
  /-- A W1C write clears OC_FLAGS or MOD_FAULT_FLAGS bits whose condition no longer holds. (R185) -/
  | ocFlags (w : Wr) (modFault : Bool)
  /-- Every 100 µs the delay-line replica is measured and tap maps are updated at each group's valley. (R208) -/
  | delayLineCalibration (spans : Bool) (tap : BitVec 32)
  /-- A trip input qualifies, fences its masked legs within 20 ns, sets its flag and faults affected axes. (R220) -/
  | trip (x : TripIn)
  /-- A W1C write clears a trip flag only if its input is inactive. (R222) -/
  | tripFlags (w : Wr)
  /-- A write enables or withdraws a direct-mode leg, refused if a set trip covers it. (R223) -/
  | directEnable (w : Wr) (l : Fin 48)
  /-- A write copies every direct-mode shadow into the pending set and sets LOAD_PENDING. (R215) -/
  | loadAll (w : Wr)
  /-- A group's pending set transfers at its next reload point or valley and LOAD_PENDING clears. (R216) -/
  | loadTransfer (g : Fin 16) (valley : Bool)
  /-- A write of CC_MODE, with voltage mode accepted only in SETUP. (R187) -/
  | ccMode (w : Wr) (n : Fin 16)
  /-- VDD_CORE or VDDIO_33 falls below its threshold and every leg is clamped to high impedance within 100 ns. (R569) -/
  | vddCoreLow (core : Bool)
  /-- At an L2 sample instant the velocity level runs the observer, PI, filters and clamp. (R237) -/
  | l2Sample (n : Fin 16)
  /-- At an L3 sample instant generation and L3 run, commands take effect and axis state updates. (R241) -/
  | l3Sample (n : Fin 16)
  /-- At an L4 sample instant the process level computes u4 or holds it on a stale input. (R247) -/
  | l4Sample (n : Fin 16)
  /-- At a virtual tick a virtual axis's generation job result becomes its sample. (R254) -/
  | virtualTick (n : Fin 32)
  /-- The time unit publishes a level's held output to the inner level at its output instant. (R30) -/
  | outputInstant (n : Fin 16) (lv : Fin 3)
  /-- An item unfinished at its deadline is abandoned, counted and recorded; repeated misses fault the axis. (R265) -/
  | deadlineMiss (n : Fin 32) (lv : Fin 3) (late : BitVec 32)
  /-- A write checks the inactive banks of the named levels and marks their swaps pending. (R248) -/
  | swapRequest (w : Wr) (n : Fin 16)
  /-- A pending bank swap takes effect at the level's next sample instant. (R249) -/
  | bankSwap (n : Fin 16) (lv : Fin 4)
  /-- A write runs every commit check on the pending configuration without committing. (R263) -/
  | admitCheck (w : Wr)
  /-- Command SWITCH_ON moves an OFF axis to READY if its checks hold. (R279) -/
  | switchOn (w : Wr) (n : Fin 32) (seq : BitVec 8)
  /-- Command SWITCH_OFF moves a READY axis to OFF. (R278) -/
  | switchOff (w : Wr) (n : Fin 32) (seq : BitVec 8)
  /-- Command ENABLE moves a READY axis to ENABLED holding its position. (R273) -/
  | enable (w : Wr) (n : Fin 32) (seq : BitVec 8)
  /-- Command DISABLE stops the axis at D_MAX if moving and then moves it to READY. (R278) -/
  | disable (w : Wr) (n : Fin 32) (seq : BitVec 8)
  /-- Command SETUP moves a READY axis to SETUP at standstill. (R273) -/
  | setup (w : Wr) (n : Fin 32) (seq : BitVec 8)
  /-- Command MOVE starts a position move, or appends an entry to the SETUP queue. (R289) -/
  | move (w : Wr) (n : Fin 32) (seq : BitVec 8)
  /-- Command VELOCITY starts velocity mode toward TARGET_VELOCITY. (R286) -/
  | velocity (w : Wr) (n : Fin 32) (seq : BitVec 8)
  /-- Command REPLACE stops the present motion and then moves to the new target. (R287) -/
  | replace (w : Wr) (n : Fin 32) (seq : BitVec 8)
  /-- Command STOP stops the axis at D_MAX and flushes the SETUP queue. (R285) -/
  | stop (w : Wr) (n : Fin 32) (seq : BitVec 8)
  /-- Command QUICK_STOP stops the axis at QUICK_STOP_DEC and flushes the SETUP queue. (R285) -/
  | quickStop (w : Wr) (n : Fin 32) (seq : BitVec 8)
  /-- Command HOME clears REFERENCED and runs the configured homing method. (R301) -/
  | home (w : Wr) (n : Fin 32) (seq : BitVec 8)
  /-- Command FOLLOW engages follow mode with a blended engagement. (R317) -/
  | follow (w : Wr) (n : Fin 32) (seq : BitVec 8)
  /-- Command RESET_FAULT clears the fault and moves the axis to READY if no cause stands. (R294) -/
  | resetFault (w : Wr) (n : Fin 32) (seq : BitVec 8)
  /-- A command with an unknown code is refused with BAD_COMMAND. (R278) -/
  | badCommand (w : Wr) (n : Fin 32) (code seq : BitVec 8)
  /-- A class A fault cause puts the axis into FAULT within one L1 period. (R281) -/
  | classAFault (n : Fin 32) (cause : Fin 8)
  /-- A class B fault cause fences the axis or quick-stops it with FAULT_PENDING at the next L3 sample. (R282) -/
  | classBFault (n : Fin 32) (cause : Fin 16)
  /-- A change of TARGET_VELOCITY in velocity mode replans at the next L3 sample instant. (R286) -/
  | targetVelocity (w : Wr) (n : Fin 32)
  /-- A write to V_MAX, A_MAX, D_MAX or J_MAX during motion replans or keeps the old values. (R288) -/
  | profileParameterWrite (w : Wr) (n : Fin 32) (which : Fin 4)
  /-- HOMING_TIMEOUT passes without a reference event; the axis stops and homing reads TIMEOUT. (R306) -/
  | homingTimeout (n : Fin 32)
  /-- At its T0 the held pass becomes the current pass and the subscription becomes ACTIVE. (R322) -/
  | passComesIntoForce (i : Fin 8)
  /-- T_end of the current pass is reached and the subscription enters GRACE or HELD. (R324) -/
  | passValidityEnd (i : Fin 8)
  /-- GRACE_TIME passes after T_end and the subscription enters COMMON_STOP. (R325) -/
  | graceTimeExpiry (i : Fin 8)
  /-- The common stop ends, the subscription enters LOST and followers leave follow mode. (R326) -/
  | commonStopEnd (i : Fin 8)
  /-- At a publish instant a publisher sends a pass of its source axis's plan. (R327) -/
  | publishInstant (q : Fin 4)
  /-- A CAN pass frame A or B is received and assembled with its partner into a pass. (R331) -/
  | canPassFrame (c : Fin 4) (id : BitVec 32) (bytes : Bytes) (macOk : Bool) (off : Int)
  /-- A CAN pass frame without its partner within 1 ms is dropped and counted. (R331) -/
  | passPartnerTimeout (i : Fin 8)
  /-- A write of GEAR_NUM or GEAR_DEN takes effect at the next evaluation instant and resets the remainder. (R316) -/
  | gearRatioWrite (w : Wr) (n : Fin 32) (den : Bool)
  /-- A write requests or cancels a cam table switch at the next forward wrap. (R341) -/
  | camNext (w : Wr) (n : Fin 32)
  /-- A write of table header or data puts the table in LOADING and replaces its data. (R337) -/
  | tableDataWrite (w : Wr) (t : Fin 80) (header : Option (Fin 7))
  /-- A write of FINISH checks a LOADING table and makes it READY. (R337) -/
  | finish (w : Wr) (t : Fin 80)
  /-- A write sets REG_TOTAL to 0 so the applied phase slews back. (R344) -/
  | regReset (w : Wr) (n : Fin 32)
  /-- START checks the acquisition configuration and begins segment 0. (R368) -/
  | acqStart (w : Wr)
  /-- STOP ends the acquisition at the next raw sample, closing a POST segment as ABORTED. (R373) -/
  | acqStop (w : Wr)
  /-- FORCE triggers at the first raw sample after the write in PRE or ARMED. (R367) -/
  | acqForce (w : Wr)
  /-- A raw sample is processed after ACQ_LAG: frames reduced, trigger units evaluated and state advanced. (R351) -/
  | rawSample (off : Int)
  /-- Hold-off ends and the engine reaches the re-arm instant. (R369) -/
  | holdoffEnd
  /-- The engine has set up the next segment store, or enters FULL or DONE. (R370) -/
  | segmentReady
  /-- A write releases read segments and may free a store for a FULL engine. (R372) -/
  | segReleased (w : Wr)
  /-- V24 has stayed at or above 18.0 V for 10 ms, and the field section starts. (R378) -/
  | v24Ok (x : Held) (volts : Vector (BitVec 32) 16)
  /-- V24 falls below 17.0 V: V24_OK clears, outputs turn off and V24_LOST is set. (R378) -/
  | v24Lost (volts : BitVec 32)
  /-- A field-input transition is accepted after its filter and stamped. (R382) -/
  | diTransition (i : Fin 16) (l : DiLand) (off : Int)
  /-- An input stays off below 0.30 mA for WB_TIME and is declared broken. (R384) -/
  | wireBreak (x : InputHeld)
  /-- A write of DO_SET changes the commanded outputs at once. (R387) -/
  | doSet (w : Wr)
  /-- An output over its current limit for 200 µs turns off and sets DO_SHORT. (R388) -/
  | doShort (i : Fin 8) (current : BitVec 32)
  /-- A write of 1 clears a DO_SHORT bit and the output follows its command again. (R389) -/
  | doShortClear (w : Wr)
  /-- The output currents exceed 2.4 A for 10 ms and every output turns off. (R390) -/
  | totalOverload
  /-- An enabled output on under 5 mA for 20 ms sets DO_OPEN_LOAD. (R392) -/
  | openLoad (i : Fin 8) (x : Held)
  /-- An analogue conversion completes at its instant plus AIN_DELAY, or is faulted. (R395) -/
  | ainConversion (a : Fin 4) (u : List (Int × BitVec 32)) (aref : BitVec 32)
  /-- A CLAIM packet binds the owner key on an unclaimed device. (R407) -/
  | claim (w : Wr) (p : Packet) (key : BitVec 384)
  /-- A TRANSFER packet binds a new owner key and closes every session. (R408) -/
  | transfer (w : Wr) (p : Packet) (key : BitVec 384)
  /-- A SEALED_PARAMS packet writes sealed values to MRAM together. (R417) -/
  | sealedParams (w : Wr) (p : Packet) (entries : List SealedEntry)
  /-- A KEY_LOAD packet loads, replaces or deletes keys together. (R419) -/
  | keyLoad (w : Wr) (p : Packet) (entries : List KeyEntry)
  /-- A REVOKE packet adds certificate serials to the revocation list, closing their sessions. (R420) -/
  | revoke (w : Wr) (p : Packet) (serials : List (BitVec 32))
  /-- A TWIN_PAIRING packet binds or unbinds the pairing key, taking effect at the next reset. (R565) -/
  | twinPairing (w : Wr) (p : Packet) (pairId : BitVec 32) (partner : BitVec 64)
  /-- An UNLOCK packet leads from LOCKED to PRE-OPERATIONAL if no tamper cause still reports. (R436) -/
  | unlock (w : Wr) (p : Packet)
  /-- A DEBUG_UNLOCK packet opens JTAG at the given level for its duration. (R433) -/
  | debugUnlock (w : Wr) (p : Packet) (level : BitVec 8) (duration : BitVec 32)
  /-- The release strap held for 10 s at PORST_N release erases ownership, keys and persistent objects. (R409) -/
  | physicalRelease
  /-- 1,800 s after power-on reset the claim window closes. (R407) -/
  | claimWindowExpiry
  /-- A HELLO handshake message is checked and answered with CHALLENGE, or busy. (R421) -/
  | hello (w : Wr) (role : BitVec 8) (cred : Cred)
  /-- A FINISH handshake message is verified and opens the session. (R421) -/
  | sessionFinish (w : Wr)
  /-- A CLOSE message closes a session and writes an audit record. (R422) -/
  | sessionClose (w : Wr) (id : BitVec 16)
  /-- A session with no valid request for SESSION_IDLE closes. (R422) -/
  | sessionIdle (id : BitVec 16)
  /-- A session's certificate passes NOT_AFTER once line time is checked, and the session closes. (R420) -/
  | certificateExpiry (id : BitVec 16)
  /-- A write to FW_IMAGE loads the inactive slot and checks it when complete. (R431) -/
  | fwImage (w : Wr) (offset : Nat)
  /-- A write selects a VALID slot for the next reset. (R431) -/
  | nextSlot (w : Wr)
  /-- A write raises ROLLBACK_LEVEL to the active slot's level. (R432) -/
  | fwConfirm (w : Wr)
  /-- DURATION passes and the debug port closes with an audit record. (R433) -/
  | debugExpiry
  /-- The TRNG health tests fail and random-dependent operations are refused. (R413) -/
  | trngFailure
  /-- A read returns all audit records with the hash chain, signed by the device key. (R438) -/
  | auditExport (w : Wr)
  /-- An object-dictionary write to an object with no behaviour of its own is checked and executed. (R446) -/
  | objectWrite (w : Wr) (index : BitVec 16) (sub : BitVec 8)
  /-- A write of COMMIT runs every configuration check and admission, or refuses. (R453) -/
  | commit (w : Wr)
  /-- At the first whole millisecond after the checks, the whole new configuration takes effect. (R453) -/
  | commitTakeEffect
  /-- A write of "save" snapshots persistent objects and tables for MRAM. (R454) -/
  | store (w : Wr)
  /-- The new stored set is complete in MRAM and the STORE write is answered. (R454) -/
  | storeComplete
  /-- A write of "load" marks the stored set so the next boot restores defaults. (R456) -/
  | restoreDefaults (w : Wr)
  /-- A segmented transfer receives no segment for 1 s and is abandoned. (R448) -/
  | segmentTimeout (chan : Chan) (session : BitVec 16) (index : BitVec 16) (sub : BitVec 8)
  /-- A CAN SDO frame is received, verified and executed as a request. (R449) -/
  | sdoFrame (c : Fin 4) (id : BitVec 30) (bytes : Bytes) (macOk : Bool) (vd : Verdict)
  /-- A write to HANDSHAKE carries a session message that binds or unbinds a CAN SDO server. (R450) -/
  | handshake (w : Wr) (c : Fin 4)
  /-- An Ethernet process-data frame is checked and verified for its receive object. (R462) -/
  | pdFrameReceive (port : Fin 3) (pdu : Bytes) (macOk : Bool) (off : Int) (vd : Verdict)
  /-- A CAN receive PDO is verified under its trailer and freshness. (R460) -/
  | canPdoReceive (c : Fin 4) (id : BitVec 30) (bytes : Bytes) (macOk : Bool) (vd : Verdict)
  /-- At the apply instant a verified frame's values are written together. (R464) -/
  | pdApply (r : Fin 24) (vd : Verdict)
  /-- At its transmit instant a transmit object reads its mapped objects and sends a frame. (R463) -/
  | pdTransmit (r : Fin 24)
  /-- No frame of a receive object for TIMEOUT sets RX_TIMEOUT and may quick-stop axes. (R466) -/
  | rxTimeout (r : Fin 24)
  /-- PCIE_PERST_N or a Function Level Reset resets PCIe state, disables rings and drops a mailbox response. (R472) -/
  | pciePerst (flr : Bool)
  /-- The PCIe link goes down or bus mastering is disabled, and the event engine stops writing. (R51) -/
  | pcieLinkDown (link : Bool)
  /-- Link and bus mastering return and delivery resumes with the oldest staged record. (R51) -/
  | pcieLinkRestored (x : LinkIn)
  /-- A read of the lowest word of a 64- or 96-bit field freezes its other words. (R476) -/
  | bar0ReadFreeze (offset : BitVec 22) (wide : Bool)
  /-- 1 µs after a freeze the frozen words are released. (R476) -/
  | freezeExpiry (offset : BitVec 22)
  /-- A BAR0 write to a register with no behaviour of its own. (R477) -/
  | bar0Write (offset : BitVec 22) (b : Bytes) (macOk : Bool) (vd : Verdict)
  /-- MBX_SUBMIT takes the mailbox request as one object-dictionary request. (R483) -/
  | mbxSubmit (macOk : Bool) (vd : Verdict)
  /-- A mailbox request ends; response written, DONE set and an interrupt sent. (R484) -/
  | mbxComplete
  /-- A write of FLUSH makes every ring signal its unsignalled records. (R492) -/
  | flush
  /-- A write to RING_CTRL setting ENABLE is checked and enables or refuses the ring. (R487) -/
  | ringEnable (n : Fin 16) (v : BitVec 32)
  /-- A write of CONSUMER frees ring slots, or is ignored with BAD_CONSUMER. (R491) -/
  | consumer (n : Fin 16) (v : BitVec 32)
  /-- A staged record is written to an admitting ring, or dropped under its policy. (R488) -/
  | recordDelivery (n : Fin 16)
  /-- MOD_TIME passes after the first unsignalled record and the ring signals. (R492) -/
  | ringSignalTimeout (n : Fin 16)
  /-- A valid CAN frame goes to a protocol function or the lowest matching receive object. (R506) -/
  | canFrameReceive (c : Fin 4) (id : BitVec 31) (fd brs : Bool) (bytes : Bytes) (macOk : Bool) (off : Int)
  /-- A write of TX_REQUEST sets TX_PENDING on a transmit object. (R508) -/
  | txRequest (w : Wr) (c : Fin 4) (n : Fin 128)
  /-- A write of CANCEL removes or lets complete a pending frame under Table CN-2. (R511) -/
  | cancel (w : Wr) (c : Fin 4) (n : Fin 128)
  /-- A transmitted frame completes; TRANSMITTED set and stamp taken. (R511) -/
  | canTransmitComplete (c : Fin 4) (off : Int) (tdc : BitVec 16)
  /-- A frame ends in error or loses arbitration and is offered again, or fails if one-shot. (R512) -/
  | canTxFailure (c : Fin 4) (why : CanFail)
  /-- A write of RECOVER starts bus-off recovery. (R516) -/
  | recover (w : Wr) (c : Fin 4)
  /-- Recovery completes after 128 occurrences of 11 recessive bits. (R516) -/
  | busOffRecovered (c : Fin 4)
  /-- An enabled channel joins the bus after 11 consecutive recessive bits. (R500) -/
  | canBusJoin (c : Fin 4)
  /-- A write of MST_TX starts one master transfer. (R522) -/
  | mstTx (w : Wr) (p : Fin 2)
  /-- A master transfer ends and MST_RESULT reads DONE. (R522) -/
  | masterTransferDone (p : Fin 2) (rx : Bytes)
  /-- SS0_N is asserted during a multi-master transfer and the port releases the bus. (R523) -/
  | modeFault (p : Fin 2)
  /-- A whole NOP target transfer is taken at release. (R527) -/
  | targetNop (p : Fin 2) (extra : BitVec 8) (inside : Bool)
  /-- A whole WRITE target transfer writes its words to BAR0. (R527) -/
  | targetWrite (p : Fin 2) (offset : BitVec 24) (n : BitVec 8) (data : Bytes) (inside macOk : Bool) (vd : Verdict)
  /-- A whole READ_REQ target transfer starts a fetch. (R527) -/
  | readReq (p : Fin 2) (offset : BitVec 24) (n : BitVec 8) (extra : BitVec 8) (inside : Bool)
  /-- A READ_DATA target transfer returns the fetched words. (R531) -/
  | readData (p : Fin 2) (count : Nat) (inside : Bool)
  /-- A READ_REQ fetch completes and READY returns to 1. (R527) -/
  | fetchComplete (p : Fin 2)
  /-- SS0_N is released inside a byte or early; nothing is taken and FRAMING is set. (R528) -/
  | framing (p : Fin 2) (bytes : Bytes) (inside : Bool)
  /-- TWL training completes and the link reaches UP. (R536) -/
  | twlTrainingComplete (taps : Vector (BitVec 7) 4) (ns : BitVec 32)
  /-- A missing clock, CRC failures or symbol errors make TWL declare the link lost. (R537) -/
  | twlLinkLoss (cause : Fin 3) (symbols : BitVec 32)
  /-- A TWL burst is received and its CRC checked. (R535) -/
  | twlBurstReceive (crcOk : Bool) (length : BitVec 16)
  /-- A lease core renews, and the lease timer reloads once all have renewed. (R547) -/
  | leaseRenewal (core : Fin 6)
  /-- The lease timer runs out; the unit stops its dribble and TWL, fences with keepers and enters FENCED. (R550) -/
  | leaseExpiry
  /-- 1 ms after entering FENCED the unit performs a warm reset. (R550) -/
  | fenceReset
  /-- Keepers are released after their hold time, a trip or VDD_CORE loss. (R545) -/
  | keeperRelease (trip : Option (Fin 8))
  /-- A write of HANDOVER on a playing unit marks the next copy for handover. (R551) -/
  | handover (w : Wr)
  /-- At the end of the handover burst the unit gives up the ball. (R551) -/
  | handoverRelease
  /-- At a twin instant the playing unit captures its state copy and starts its burst. (R553) -/
  | twinInstant (lag : BitVec 11)
  /-- A bench accepts a newer authenticated state copy. (R557) -/
  | copyReceive (counter : BitVec 64) (tagOk : Bool) (copy : TwinCopy)
  /-- Every 20 µs a unit sends a heartbeat on TWL. (R555) -/
  | heartbeatSend
  /-- A valid heartbeat arrives from the partner. (R555) -/
  | heartbeatReceive (counter : BitVec 64) (tagOk : Bool) (state : BitVec 8) (seen : Bool) (hash : BitVec 128)
  /-- No valid heartbeat for 100 µs raises a link fault. (R555) -/
  | heartbeatTimeout
  /-- No copy accepted for 4 TWIN_PERIODs makes the bench BENCH_STALE. (R555) -/
  | copyStaleTimeout
  /-- DRIBBLE_IN shows no edge for 4 µs; with a link fault a claim starts, otherwise a dribble fault. (R559) -/
  | dribbleSilence
  /-- The 1 µs contest check ends; the unit takes the ball or raises a partition fault. (R559) -/
  | contestCheckEnd (clocks : BitVec 4) (legs : BitVec 48)
  /-- Read-back mismatch or dribble activity while holding the ball raises a partition fault. (R562) -/
  | partitionFault (why : Fin 3)
  /-- The boot twin check reaches its decision or retry time and starts a claim. (R564) -/
  | twinCheckDecision
  /-- 400 ms in CHECK: the unit enters BENCH_STALE and boot continues. (R564) -/
  | twinCheckTimeout
  /-- A control rail stays below its falling threshold for 10 µs and the reset is held. (R568) -/
  | railLoss (rail : Fin 5) (volts : BitVec 32) (row : Option (Fin 10))
  /-- At the end of a rail loss with HV present the device enters STANDBY. (R594) -/
  | standbyEntry
  /-- A rail dips and recovers within 10 µs, and the device enters SAFE. (R572) -/
  | brownout (rail : Fin 5) (low : BitVec 32)
  /-- VAON falls below 1.55 V and the always-on domain is reset. (R574) -/
  | vaonLoss
  /-- Every 10 µs the mains section samples v and updates the envelope. (R577) -/
  | mainsSample (v : BitVec 32)
  /-- ENVELOPE stays below LOSS_LEVEL for LOSS_CONFIRM and mains loss is declared. (R581) -/
  | mainsLoss (report : Bool)
  /-- ENVELOPE stays at or above RETURN_LEVEL for RETURN_TIME and the state becomes OK. (R581) -/
  | mainsReturn
  /-- VSTBY_5V exceeds its limit for 10 ms and turns off. (R583) -/
  | vstbyOverload (current : BitVec 32)
  /-- 1 s after an overload VSTBY_5V turns on again. (R583) -/
  | vstbyRetry
  /-- VSTBY_5V below 4.50 V for 100 µs with the rails lost sets TRACKING_LOST. (R584) -/
  | vstbyLow (volts : BitVec 32)
  /-- A 60 s crystal measurement window completes and updates XT32_RATE. (R586) -/
  | xt32Window (rate : BitVec 32)
  /-- Once per second the holdover clock is set to line time. (R586) -/
  | aonTimeSet
  /-- The crystal stops for 1 ms and the always-on domain changes to its internal oscillator. (R587) -/
  | crystalStop
  /-- WARMRST_N low for 1 µs starts a warm reset. (R591) -/
  | warmrstN (low : Bool)
  /-- A write of "rset" schedules a warm reset 1 ms later. (R592) -/
  | resetRequest (w : Wr)
  /-- 1 ms after an accepted RESET_REQUEST the warm reset is performed. (R592) -/
  | softwareReset
  /-- A write of "slep" prepares STANDBY and deasserts WAKE_OUT. (R595) -/
  | standbyRequest (w : Wr)
  /-- The rails are not lost 1 s after deassertion and WAKE_OUT is asserted again. (R595) -/
  | standbyRequestLapse
  /-- An enabled wake source asserts WAKE_OUT in STANDBY. (R597) -/
  | wake (source : Fin 4) (x : WakeIn)
  /-- The junction rises above 120 °C and a POWER record is written. (R598) -/
  | tjWarning (tj : BitVec 32)
  /-- A write of "scal" checks the working copy and writes it to the unused slot. (R605) -/
  | calSave (w : Wr)
  /-- The new calibration slot is complete and takes effect. (R605) -/
  | calSaveComplete
  /-- An image written to CAL_IMPORT is checked and written as the new set. (R608) -/
  | calImport (w : Wr)
  /-- A write loads the set in force into the working copy. (R606) -/
  | calDiscard (w : Wr)
  /-- A read returns the signed image of the set in force. (R607) -/
  | calExport (w : Wr)
  /-- On each TIME_PLL tick the line-time clock adds the increment and carries nanoseconds into seconds. (R80) -/
  | timePllTick
  /-- REF25_IN returns after being absent, releasing the held reset so the device boots with cause REFERENCE_LOSS. (R38) -/
  | ref25InReturn (hostSel twinRole : Bool)
  /-- SYS_PLL relocks after a loss of lock and the warm reset and BOOT follow with cause SYS_PLL_LOSS. (R38) -/
  | sysPllRelock
  /-- ETH_PLL relocks after a loss of lock and the P1 and P2 links can come up again. (R38) -/
  | ethPllRelock
  /-- The 100BASE-TX link of P1 or P2 comes up after auto-negotiation or goes down, changing LINK_UP. (R52) -/
  | ethLinkChange (p : Fin 3) (up : Bool)
  /-- A PTP Announce, delay or management message of a domain is received and processed, updating the best master, link delay or grandmaster identity. (R94) -/
  | ptpMessageReceive (d : Fin 2) (x : PtpIn)
  /-- A PTP instance's Sync, Announce or delay-request interval runs out and it sends the message, one-step for Sync. (R70) -/
  | ptpMessageInterval (d : Fin 2) (t : PtpTimer) (p : Fin 3)
  /-- A control rail rises above its rising threshold, ending the leg clamp of R569 and the rail loss. (R568) -/
  | controlRailUp (rail : Fin 5) (volts : BitVec 32) (row : Option (Fin 10))
  /-- The internal reset is released at the end of its extension after the rails are up and PORST_N is released, and the straps are sampled. (R615) -/
  | internalResetRelease (hostSel twinRole : Bool)
  /-- 100 ms after PORST_N release with a rail still below its rising threshold, FAULT_N is asserted. (R571) -/
  | resetHoldTimeout
  /-- The always-on domain starts from reset, asserts WAKE_OUT and enters MAINS_STATE ABSENT. (R596) -/
  | alwaysOnDomainStart (hv crystal : Bool)
  /-- HV appears or disappears and VAON changes its source between the mains section and VDDIO_33, with VSTBY_5V following HV. (R574) -/
  | vaonSourceChange (hv : Bool)
  /-- PCIE_PERST_N is released, PCIE_WAKE_N is deasserted and the endpoint starts answering configuration requests. (R473) -/
  | pciePerstNRelease
  /-- A channel detects a bus error while receiving, updates REC and may change its error state. (R516) -/
  | canReceiveError (c : Fin 4) (eight : Bool)
  /-- A target transfer with an unknown command, bad offset or count, or a forbidden WRITE or READ_REQ returns 0xFF and sets CMD_ERROR. (R530) -/
  | cmdError (p : Fin 2) (bytes : Bytes)
  /-- The TWL receive clock reappears after a loss and training restarts with LINK_STATE TRAINING. (R536) -/
  | twlReceiveClockReturn
  /-- A unit in CHECK sees a dribble on DRIBBLE_IN and becomes a bench. (R564) -/
  | dribbleSeen
  /-- The current of a broken input reaches 0.30 mA or the input reads on, and its WIRE_BREAK bit clears at once. (R384) -/
  | wireBreakClear (i : Fin 16)
  /-- The junction temperature falls below 115 °C and TJ_WARN clears, re-arming the warning record. (R598) -/
  | tjWarnClear (tj : BitVec 32)
  /-- A write to PACKET_IN with an unknown TYPE or a malformed packet is refused with FORMAT and audited. (R414) -/
  | packetIn (w : Wr)
  deriving DecidableEq, Repr, Inhabited

end Sys2Proof
end

