-- ==== Sys2Proof/Machine/Float.lean ====
section
/-! DEFINITION. IEEE 754 arithmetic on raw bits, for the F32 quantities of R9 and for the wider binary64 the level laws name:
an operand is read exactly, the result is computed exactly and rounded once, to nearest with ties to even. The fraction
of a NaN that an operation makes, and what a NaN converts to, are open. Sine, cosine, arctangent and the exponential are open in the last place in the
spec: they are the uninterpreted functions of Config. -/
namespace Sys2Proof.Machine

/-- A binary format: significand bits with the hidden one, exponent of the least subnormal, exponent bits. -/
structure Fmt where
  p : Nat
  emin : Int
  eb : Nat
  deriving DecidableEq, Repr

/-- binary32. -/
def f32 : Fmt := ⟨24, -149, 8⟩
/-- binary64. -/
def f64 : Fmt := ⟨53, -1074, 11⟩

/-- What a raw value stands for: a NaN, an infinity, or (sign, m, e) for m·2^e. -/
inductive FV where
  | nan
  | inf (neg : Bool)
  | num (neg : Bool) (m : Nat) (e : Int)
  deriving DecidableEq, Repr

/-- The raw value of an infinity. -/
def Fmt.infRaw (f : Fmt) (neg : Bool) : Nat :=
  (if neg then 2 ^ (f.p - 1 + f.eb) else 0) + (2 ^ f.eb - 1) * 2 ^ (f.p - 1)

/-- The raw value of a NaN that an operation makes; its fraction is open (log entry 7). -/
def Fmt.nanRaw (f : Fmt) : Nat := (2 ^ f.eb - 1) * 2 ^ (f.p - 1) + 1 + Config.nanFraction f.p % (2 ^ (f.p - 1) - 1)

/-- Reading a raw value. -/
def Fmt.read (f : Fmt) (x : Nat) : FV :=
  let neg := x.testBit (f.p - 1 + f.eb)
  let ex := (x >>> (f.p - 1)) % 2 ^ f.eb
  let fr := x % 2 ^ (f.p - 1)
  if ex = 2 ^ f.eb - 1 then (if fr = 0 then .inf neg else .nan)
  else if ex = 0 then .num neg fr f.emin
  else .num neg (2 ^ (f.p - 1) + fr) (f.emin + (ex : Int) - 1)

/-- Rounding m·2^e (a little more where `sticky`) to the format. -/
def Fmt.round (f : Fmt) (neg : Bool) (m : Nat) (e : Int) (sticky : Bool) : Nat :=
  let sg := if neg then 2 ^ (f.p - 1 + f.eb) else 0
  if m = 0 then sg
  else
    let bits := m.log2 + 1
    let s1 : Int := (bits : Int) - (f.p : Int)
    let s2 : Int := f.emin - e
    let sh : Int := if s1 < s2 then s2 else s1
    let (m1, e1) :=
      if sh ≤ 0 then (m <<< (-sh).toNat, e + sh)
      else
        let k := sh.toNat
        let q := m >>> k
        let rem := m % 2 ^ k
        let half := 2 ^ (k - 1)
        let up := decide (half < rem) || (decide (rem = half) && (sticky || q % 2 == 1))
        (if up then q + 1 else q, e + sh)
    let (m2, e2) := if m1 = 2 ^ f.p then (2 ^ (f.p - 1), e1 + 1) else (m1, e1)
    let be : Int := e2 - f.emin + 1
    if m2 < 2 ^ (f.p - 1) then sg + m2
    else if ((2 ^ f.eb - 1 : Nat) : Int) ≤ be then f.infRaw neg
    else sg + be.toNat * 2 ^ (f.p - 1) + (m2 - 2 ^ (f.p - 1))

/-- Rounding an integer times a power of two. -/
def Fmt.ofDy (f : Fmt) (i : Int) (e : Int) : Nat := f.round (decide (i < 0)) i.natAbs e false

/-- Rounding the quotient of two integers, an infinity or a NaN for divisor 0 as in a division. -/
def Fmt.ofRat (f : Fmt) (n : Int) (d : Nat) : Nat :=
  if d = 0 then (if n = 0 then f.nanRaw else f.infRaw (decide (n < 0)))
  else
    let k := 2 * f.p + d.log2 + 4
    let m := n.natAbs <<< k
    f.round (decide (n < 0)) (m / d) (-(k : Int)) (decide (m % d ≠ 0))

def Fmt.neg (f : Fmt) (x : Nat) : Nat :=
  let b := 2 ^ (f.p - 1 + f.eb)
  if x.testBit (f.p - 1 + f.eb) then x - b else x + b

def Fmt.abs (f : Fmt) (x : Nat) : Nat := x % 2 ^ (f.p - 1 + f.eb)

def Fmt.add (f : Fmt) (x y : Nat) : Nat :=
  match f.read x, f.read y with
  | .nan, _ => f.nanRaw
  | _, .nan => f.nanRaw
  | .inf a, .inf b => if a == b then f.infRaw a else f.nanRaw
  | .inf a, _ => f.infRaw a
  | _, .inf b => f.infRaw b
  | .num a m e, .num b n g =>
    let lo := if e < g then e else g
    let mi : Int := (m <<< (e - lo).toNat : Nat)
    let ni : Int := (n <<< (g - lo).toNat : Nat)
    let s := (if a then -mi else mi) + (if b then -ni else ni)
    if s = 0 then (if a && b then 2 ^ (f.p - 1 + f.eb) else 0)
    else f.ofDy s lo

def Fmt.sub (f : Fmt) (x y : Nat) : Nat := f.add x (f.neg y)

def Fmt.mul (f : Fmt) (x y : Nat) : Nat :=
  match f.read x, f.read y with
  | .nan, _ => f.nanRaw
  | _, .nan => f.nanRaw
  | .inf a, .inf b => f.infRaw (a != b)
  | .inf a, .num b n _ => if n = 0 then f.nanRaw else f.infRaw (a != b)
  | .num a m _, .inf b => if m = 0 then f.nanRaw else f.infRaw (a != b)
  | .num a m e, .num b n g => f.round (a != b) (m * n) (e + g) false

def Fmt.div (f : Fmt) (x y : Nat) : Nat :=
  match f.read x, f.read y with
  | .nan, _ => f.nanRaw
  | _, .nan => f.nanRaw
  | .inf _, .inf _ => f.nanRaw
  | .inf a, .num b _ _ => f.infRaw (a != b)
  | .num a _ _, .inf b => if a != b then 2 ^ (f.p - 1 + f.eb) else 0
  | .num a m e, .num b n g =>
    if n = 0 then (if m = 0 then f.nanRaw else f.infRaw (a != b))
    else
      let k := 2 * f.p + 4
      let t := m <<< k
      f.round (a != b) (t / n) (e - g - (k : Int)) (decide (t % n ≠ 0))

/-- The square root, correctly rounded; a NaN for a negative operand. -/
def Fmt.sqrt (f : Fmt) (x : Nat) : Nat :=
  match f.read x with
  | .nan => f.nanRaw
  | .inf a => if a then f.nanRaw else f.infRaw false
  | .num a m e =>
    if m = 0 then x
    else if a then f.nanRaw
    else
      let k : Nat := 2 * f.p + 4
      let odd : Nat := if e % 2 = 0 then 0 else 1
      let t := m <<< (2 * k + odd)
      let r := isqrt t
      f.round false r ((e - (odd : Int)) / 2 - (k : Int)) (decide (r * r ≠ t))

/-- x < y; false where either is a NaN. -/
def Fmt.lt (f : Fmt) (x y : Nat) : Bool :=
  match f.read x, f.read y with
  | .nan, _ => false
  | _, .nan => false
  | .inf a, .inf b => a && !b
  | .inf a, _ => a
  | _, .inf b => !b
  | .num a m e, .num b n g =>
    let lo := if e < g then e else g
    let mi : Int := (m <<< (e - lo).toNat : Nat)
    let ni : Int := (n <<< (g - lo).toNat : Nat)
    decide ((if a then -mi else mi) < (if b then -ni else ni))

def Fmt.isNan (f : Fmt) (x : Nat) : Bool := match f.read x with | .nan => true | _ => false
def Fmt.isFin (f : Fmt) (x : Nat) : Bool := match f.read x with | .num _ _ _ => true | _ => false
def Fmt.le (f : Fmt) (x y : Nat) : Bool := !(f.lt y x) && !f.isNan x && !f.isNan y
/-- Equality of the values, so that the two zeros are equal. -/
def Fmt.eq (f : Fmt) (x y : Nat) : Bool := f.le x y && f.le y x

/-- Rounding x·2^k to the nearest integer, ties to even; a free value for a NaN, and a number beyond every range for an infinity. -/
def Fmt.toIntNearest (f : Fmt) (x : Nat) (k : Int) : Int :=
  match f.read x with
  | .nan => Config.nanToInt f.p x k
  | .inf a => if a then -((2 ^ 1100 : Nat) : Int) else ((2 ^ 1100 : Nat) : Int)
  | .num a m e =>
    let s := e + k
    let r : Nat :=
      if 0 ≤ s then m <<< s.toNat
      else
        let t := (-s).toNat
        let q := m >>> t
        let rem := m % 2 ^ t
        if 2 ^ t < 2 * rem || (2 ^ t == 2 * rem && q % 2 == 1) then q + 1 else q
    if a then -(r : Int) else (r : Int)

/-- Rounding x·2^k to the nearest integer, halves away from zero (llround of R323). -/
def Fmt.llround (f : Fmt) (x : Nat) (k : Int) : Int :=
  match f.read x with
  | .nan => Config.nanToInt f.p x k
  | .inf a => if a then -((2 ^ 1100 : Nat) : Int) else ((2 ^ 1100 : Nat) : Int)
  | .num a m e =>
    let s := e + k
    let r : Nat := if 0 ≤ s then m <<< s.toNat else (m + 2 ^ ((-s).toNat - 1)) >>> (-s).toNat
    if a then -(r : Int) else (r : Int)

/-- x·2^k rounded toward minus infinity. -/
def Fmt.toIntFloor (f : Fmt) (x : Nat) (k : Int) : Int :=
  match f.read x with
  | .nan => Config.nanToInt f.p x k
  | .inf a => if a then -((2 ^ 1100 : Nat) : Int) else ((2 ^ 1100 : Nat) : Int)
  | .num a m e =>
    let s := e + k
    let i : Int := if a then -(m : Int) else (m : Int)
    if 0 ≤ s then i * ((2 ^ s.toNat : Nat) : Int) else i.fdiv ((2 ^ (-s).toNat : Nat) : Int)

/-- A value of one format rounded to another. -/
def Fmt.conv (f g : Fmt) (x : Nat) : Nat :=
  match f.read x with
  | .nan => g.nanRaw
  | .inf a => g.infRaw a
  | .num a m e => g.round a m e false

namespace F
/-! binary32 under short names. -/
abbrev add := f32.add
abbrev sub := f32.sub
abbrev mul := f32.mul
abbrev div := f32.div
abbrev sqrt := f32.sqrt
abbrev neg := f32.neg
abbrev abs := f32.abs
abbrev lt := f32.lt
abbrev le := f32.le
abbrev eq := f32.eq
/-- 1.0 -/
def one : Nat := 0x3f800000
/-- 2.0 -/
def two : Nat := 0x40000000
/-- 0.5 -/
def half : Nat := 0x3f000000
/-- A natural number as binary32. -/
def ofNat (n : Nat) : Nat := f32.ofDy n 0
/-- An integer as binary32. -/
def ofInt (n : Int) : Nat := f32.ofDy n 0
/-- A Q32 raw value as binary32. -/
def ofQ (n : Int) : Nat := f32.ofDy n (-32)
/-- A binary32 value as a Q32 raw value, rounded to nearest and saturated (R8). -/
def toQ (x : Nat) : Int := satS 64 (f32.toIntNearest x 32)
/-- n / d as binary32. -/
def rat (n : Int) (d : Nat) : Nat := f32.ofRat n d
/-- x held in [lo, hi]. -/
def clamp (lo hi x : Nat) : Nat := if lt x lo then lo else if lt hi x then hi else x
/-- x held in [−l, l]. -/
def clampAbs (l x : Nat) : Nat := clamp (neg l) l x
/-- 2π as binary32. -/
def twoPi : Nat := 0x40c90fdb
/-- The sine in binary32 (Config.sin32). -/
def sin (x : Nat) : Nat := (Config.sin32 (BitVec.ofNat 32 x)).toNat
def cos (x : Nat) : Nat := (Config.cos32 (BitVec.ofNat 32 x)).toNat
def exp (x : Nat) : Nat := (Config.exp32 (BitVec.ofNat 32 x)).toNat
def atan2 (y x : Nat) : Nat := (Config.atan2_32 (BitVec.ofNat 32 y) (BitVec.ofNat 32 x)).toNat
end F

namespace D
/-! binary64 under short names. -/
abbrev add := f64.add
abbrev sub := f64.sub
abbrev mul := f64.mul
abbrev div := f64.div
abbrev neg := f64.neg
abbrev abs := f64.abs
abbrev lt := f64.lt
abbrev le := f64.le
/-- A Q32 raw value as binary64. -/
def ofQ (n : Int) : Nat := f64.ofDy n (-32)
def ofInt (n : Int) : Nat := f64.ofDy n 0
/-- A binary64 value as a Q32 raw value, rounded to nearest and saturated. -/
def toQ (x : Nat) : Int := satS 64 (f64.toIntNearest x 32)
/-- binary32 widened. -/
def ofF (x : Nat) : Nat := f32.conv f64 x
/-- binary64 rounded to binary32. -/
def toF (x : Nat) : Nat := f64.conv f32 x
def clamp (lo hi x : Nat) : Nat := if lt x lo then lo else if lt hi x then hi else x
end D

end Sys2Proof.Machine
end

