-- ==== Sys2Proof/Machine/Obj.lean ====
section
/-! DEFINITION. The keys of the object dictionary (chapters 02 to 17, rules R105, R170 to R174, R224 to R226,
R269, R311, R345 to R347, R377, R400, R439, R467, R518, R539, R566, R599, R610): every object of an object table under
its own name, as one number: 256 times its index plus its subindex (R440). A family takes its instance n (the axis, port,
unit, leg, group or channel), a coefficient-bank object its bank b (0 = A, 1 = B), a run of subindexes its member i. -/
namespace Sys2Proof.Machine.Obj

def LT_STATE : Nat := 0x210001
def LT_FOLLOWED_DOMAIN : Nat := 0x210002
def LT_LINE_TIME : Nat := 0x210003
def LT_OFFSET_EST : Nat := 0x210004
def LT_RATE_ADJ : Nat := 0x210005
def LT_SLEWING : Nat := 0x210006
def DOM_ENABLE (n : Nat) : Nat := 0x210101 + 0x100 * n
def DOM_DOMAIN_NUMBER (n : Nat) : Nat := 0x210102 + 0x100 * n
def DOM_INSTANCE (n : Nat) : Nat := 0x210103 + 0x100 * n
def DOM_DELAY_MECH (n : Nat) : Nat := 0x210104 + 0x100 * n
def DOM_TRANSPORT (n : Nat) : Nat := 0x210105 + 0x100 * n
def DOM_LOG_SYNC (n : Nat) : Nat := 0x210106 + 0x100 * n
def DOM_LOG_ANNOUNCE (n : Nat) : Nat := 0x210107 + 0x100 * n
def DOM_LOG_MIN_DELAY_REQ (n : Nat) : Nat := 0x210108 + 0x100 * n
def DOM_PRIORITY1 (n : Nat) : Nat := 0x210109 + 0x100 * n
def DOM_PRIORITY2 (n : Nat) : Nat := 0x21010a + 0x100 * n
def DOM_GM_CAPABLE (n : Nat) : Nat := 0x21010b + 0x100 * n
def DOM_RATE_BOUND (n : Nat) : Nat := 0x21010c + 0x100 * n
def DOM_OFFSET_BOUND (n : Nat) : Nat := 0x21010d + 0x100 * n
def DOM_SECURITY_REQUIRED (n : Nat) : Nat := 0x21010e + 0x100 * n
def DOM_STATE (n : Nat) : Nat := 0x21010f + 0x100 * n
def DOM_DOMAIN_OFFSET (n : Nat) : Nat := 0x210110 + 0x100 * n
def DOM_DOMAIN_RATE (n : Nat) : Nat := 0x210111 + 0x100 * n
def DOM_GM_IDENTITY (n : Nat) : Nat := 0x210112 + 0x100 * n
def DOM_STEPS_REMOVED (n : Nat) : Nat := 0x210113 + 0x100 * n
def DOM_PORT_STATE_P1 (n : Nat) : Nat := 0x210114 + 0x100 * n
def DOM_PORT_STATE_P2 (n : Nat) : Nat := 0x210115 + 0x100 * n
def DOM_UNTRUSTED_COUNT (n : Nat) : Nat := 0x210116 + 0x100 * n
def DOM_MEAN_LINK_DELAY (n : Nat) : Nat := 0x210117 + 0x100 * n
def DOM_REQUALIFY_TIME (n : Nat) : Nat := 0x210118 + 0x100 * n
def DOM_AUTH_DROPS (n : Nat) : Nat := 0x210119 + 0x100 * n
def SEL_PREFERRED : Nat := 0x210301
def SEL_REVERT : Nat := 0x210302
def SEL_SEAMLESS_THRESHOLD : Nat := 0x210303
def SEL_STEP_ON_SWITCH : Nat := 0x210304
def SEL_SELECT_REQUEST : Nat := 0x210305
def SEL_SWITCH_COUNT : Nat := 0x210306
def SEL_KP : Nat := 0x210307
def SEL_KI : Nat := 0x210308
def SYNT_ENABLE : Nat := 0x210401
def SYNT_SOURCE : Nat := 0x210402
def SYNT_FREQ_OFFSET : Nat := 0x210403
def SYNT_STATE : Nat := 0x210404
def CLK_INCREMENT : Nat := 0x210501
def CLK_FREE_RUNNING : Nat := 0x210502
def CLK_OFFSET_ADDS : Nat := 0x210503
def PPS_IN_ENABLE : Nat := 0x210601
def PPS_IN_STAMP : Nat := 0x210602
def PPS_TOD_SECONDS : Nat := 0x210603
def PPS_IN_DELAY : Nat := 0x210604
def PPS_OUT_ENABLE : Nat := 0x210605
def PPS_OUT_WIDTH : Nat := 0x210606
def PPS_OUT_OFFSET : Nat := 0x210607
def ALM_ALARM_TIME (i : Nat) : Nat := 0x210701 + i
def ALM_ALARM_ENABLE : Nat := 0x210705
def ALM_ALARM_FIRED : Nat := 0x210706
def NET_PORT_ENABLE : Nat := 0x210801
def NET_PCP_MAP : Nat := 0x210802
def NET_CUT_THROUGH : Nat := 0x210803
def NET_LINK_UP : Nat := 0x210804
def NET_QUINUP_PORT : Nat := 0x210805
def NET_PASS_ETHERTYPE : Nat := 0x210806
def NET_PASS_GROUP : Nat := 0x210807
def NET_IPV4_ADDRESS : Nat := 0x210808
def NET_IPV4_NETMASK : Nat := 0x210809
def NET_IPV4_GATEWAY : Nat := 0x21080a
def NET_MAC_ADDRESS : Nat := 0x21080b
def NET_PASS_VID : Nat := 0x21080c
def NETC_RX_DROPS (i : Nat) : Nat := 0x210901 + i
def NETC_TX_DROPS (i : Nat) : Nat := 0x21090d + i
def NETC_STOMPED : Nat := 0x210916
def NETC_ICV_INVERTED : Nat := 0x210917
def NETC_SPP_UNKNOWN : Nat := 0x210918
def NETC_STAMP_LOSS : Nat := 0x210919
def NETC_FORMAT_DROPS : Nat := 0x21091a
def NETA_P1_ASYMMETRY : Nat := 0x210a01
def NETA_P2_ASYMMETRY : Nat := 0x210a02
def FB_MODE (n : Nat) : Nat := 0x220001 + 0x100 * n
def FB_INVERT (n : Nat) : Nat := 0x220002 + 0x100 * n
def FB_FILTER (n : Nat) : Nat := 0x220003 + 0x100 * n
def FB_SSI_BITS (n : Nat) : Nat := 0x220004 + 0x100 * n
def FB_SSI_CODE (n : Nat) : Nat := 0x220005 + 0x100 * n
def FB_SSI_PARITY (n : Nat) : Nat := 0x220006 + 0x100 * n
def FB_SSI_ERROR_BIT (n : Nat) : Nat := 0x220007 + 0x100 * n
def FB_SSI_CLOCK (n : Nat) : Nat := 0x220008 + 0x100 * n
def FB_SSI_RECOVERY (n : Nat) : Nat := 0x220009 + 0x100 * n
def FB_SSI_DATA_DELAY (n : Nat) : Nat := 0x22000a + 0x100 * n
def FB_SSI_LATCH_LEAD (n : Nat) : Nat := 0x22000b + 0x100 * n
def FB_HYBRID_CHECK (n : Nat) : Nat := 0x22000c + 0x100 * n
def FB_HYBRID_SCALE (n : Nat) : Nat := 0x22000d + 0x100 * n
def FB_HYBRID_TOLERANCE (n : Nat) : Nat := 0x22000e + 0x100 * n
def FB_SC_CORR_ENABLE (n : Nat) : Nat := 0x22000f + 0x100 * n
def FB_SC_CORR_STATE (n : Nat) : Nat := 0x220010 + 0x100 * n
def FB_SC_OFFSET_SIN (n : Nat) : Nat := 0x220011 + 0x100 * n
def FB_SC_OFFSET_COS (n : Nat) : Nat := 0x220012 + 0x100 * n
def FB_SC_GAIN_RATIO (n : Nat) : Nat := 0x220013 + 0x100 * n
def FB_SC_PHASE (n : Nat) : Nat := 0x220014 + 0x100 * n
def FB_PORT_STATUS (n : Nat) : Nat := 0x220015 + 0x100 * n
def FB_QUAD_ERRORS (n : Nat) : Nat := 0x220016 + 0x100 * n
def FB_SSI_ERRORS (n : Nat) : Nat := 0x220017 + 0x100 * n
def FB_RAW_POSITION (n : Nat) : Nat := 0x220018 + 0x100 * n
def FB_INDEX_STAMP (n : Nat) : Nat := 0x220019 + 0x100 * n
def AF_MOTOR_PORT (n : Nat) : Nat := 0x301001 + 0x8000 * n
def AF_COUNTS_PER_REV (n : Nat) : Nat := 0x301002 + 0x8000 * n
def AF_DIRECTION (n : Nat) : Nat := 0x301003 + 0x8000 * n
def AF_SPEED_WINDOW (n : Nat) : Nat := 0x301004 + 0x8000 * n
def AF_ZERO_SPEED_TIMEOUT (n : Nat) : Nat := 0x301005 + 0x8000 * n
def AF_POSITION (n : Nat) : Nat := 0x301006 + 0x8000 * n
def AF_SPEED (n : Nat) : Nat := 0x301007 + 0x8000 * n
def AF_SAMPLE_STAMP (n : Nat) : Nat := 0x301008 + 0x8000 * n
def AI_INDEX_MODE (n : Nat) : Nat := 0x301101 + 0x8000 * n
def AI_REFERENCE_POSITION (n : Nat) : Nat := 0x301102 + 0x8000 * n
def AI_INDEX_TOLERANCE (n : Nat) : Nat := 0x301103 + 0x8000 * n
def AI_INDEX_CORRECT (n : Nat) : Nat := 0x301104 + 0x8000 * n
def AI_INDEX_FAULT (n : Nat) : Nat := 0x301105 + 0x8000 * n
def AI_INDEX_ARM (n : Nat) : Nat := 0x301106 + 0x8000 * n
def AI_LAST_DEVIATION (n : Nat) : Nat := 0x301107 + 0x8000 * n
def AI_INDEX_COUNT (n : Nat) : Nat := 0x301108 + 0x8000 * n
def AI_MISMATCH_COUNT (n : Nat) : Nat := 0x301109 + 0x8000 * n
def AI_CORRECTION_COUNT (n : Nat) : Nat := 0x30110a + 0x8000 * n
def LATI_LAT_FILTER (i : Nat) : Nat := 0x221001 + i
def LATI_LAT_INVERT : Nat := 0x221009
def LATI_LAT_LEVEL : Nat := 0x22100a
def TRK_TRACK_ENABLE : Nat := 0x221101
def TRK_TRACK_COUNT (i : Nat) : Nat := 0x221102 + i
def TRK_TRACK_LOST : Nat := 0x221106
def LU_MODE (n : Nat) : Nat := 0x222001 + 0x100 * n
def LU_SOURCE (n : Nat) : Nat := 0x222002 + 0x100 * n
def LU_EDGE (n : Nat) : Nat := 0x222003 + 0x100 * n
def LU_AXIS (n i : Nat) : Nat := 0x222004 + 0x100 * n + i
def LU_WINDOW (n : Nat) : Nat := 0x222008 + 0x100 * n
def LU_WIN_START (n : Nat) : Nat := 0x222009 + 0x100 * n
def LU_WIN_END (n : Nat) : Nat := 0x22200a + 0x100 * n
def LU_WIN_MODULUS (n : Nat) : Nat := 0x22200b + 0x100 * n
def LU_RECORD (n : Nat) : Nat := 0x22200c + 0x100 * n
def LU_ARM (n : Nat) : Nat := 0x22200d + 0x100 * n
def LU_PENDING (n : Nat) : Nat := 0x22200e + 0x100 * n
def LU_CAP_STAMP (n : Nat) : Nat := 0x22200f + 0x100 * n
def LU_CAP_POS (n i : Nat) : Nat := 0x222010 + 0x100 * n + i
def LU_CAP_FLAGS (n : Nat) : Nat := 0x222014 + 0x100 * n
def LU_NEXT (n : Nat) : Nat := 0x222015 + 0x100 * n
def LU_DISCARDED (n : Nat) : Nat := 0x222016 + 0x100 * n
def LU_DROPPED (n : Nat) : Nat := 0x222017 + 0x100 * n
def LU_ARMED (n : Nat) : Nat := 0x222018 + 0x100 * n
def EMU_MODE (n : Nat) : Nat := 0x223001 + 0x100 * n
def EMU_SOURCE_AXIS (n : Nat) : Nat := 0x223002 + 0x100 * n
def EMU_CPR (n : Nat) : Nat := 0x223003 + 0x100 * n
def EMU_SOURCE_REV (n : Nat) : Nat := 0x223004 + 0x100 * n
def EMU_Z_POSITION (n : Nat) : Nat := 0x223005 + 0x100 * n
def EMU_INVERT (n : Nat) : Nat := 0x223006 + 0x100 * n
def EMU_MAX_EDGE_RATE (n : Nat) : Nat := 0x223007 + 0x100 * n
def EMU_SSI_BITS (n : Nat) : Nat := 0x223008 + 0x100 * n
def EMU_SSI_CODE (n : Nat) : Nat := 0x223009 + 0x100 * n
def EMU_SSI_PARITY (n : Nat) : Nat := 0x22300a + 0x100 * n
def EMU_SSI_ERROR_BIT (n : Nat) : Nat := 0x22300b + 0x100 * n
def EMU_SSI_MONOFLOP (n : Nat) : Nat := 0x22300c + 0x100 * n
def EMU_STATUS (n : Nat) : Nat := 0x22300d + 0x100 * n
def EMU_COUNT (n : Nat) : Nat := 0x22300e + 0x100 * n
def EMU_LAG (n : Nat) : Nat := 0x22300f + 0x100 * n
def LEGS_LOAD_ALL : Nat := 0x230001
def LEGS_LOAD_PENDING : Nat := 0x230002
def LEGS_LOAD_DEFERRED : Nat := 0x230003
def LEGS_LOAD_REPLACED : Nat := 0x230004
def LEGS_FENCED_LEGS : Nat := 0x230005
def LEGS_TRIP_COUNT : Nat := 0x230006
def DL_STATE : Nat := 0x230101
def DL_CAL_COUNT : Nat := 0x230102
def DL_TAP : Nat := 0x230103
def SD_SDCLK_DIV (i : Nat) : Nat := 0x230201 + i
def SD_SDCLK_ACTIVE : Nat := 0x230205
def TRIP_FILTER (i : Nat) : Nat := 0x230301 + i
def TRIP_POLARITY : Nat := 0x230309
def TRIP_ENABLE : Nat := 0x23030a
def TRIP_MASK (i : Nat) : Nat := 0x23030b + i
def TRIP_FLAGS : Nat := 0x230313
def TRIP_LEVEL : Nat := 0x230314
def SDF_OC_FLAGS : Nat := 0x230401
def SDF_MOD_FAULT_FLAGS : Nat := 0x230402
def LEG_MODE (n : Nat) : Nat := 0x231001 + 0x100 * n
def LEG_GROUP (n : Nat) : Nat := 0x231002 + 0x100 * n
def LEG_DT_RISE (n : Nat) : Nat := 0x231003 + 0x100 * n
def LEG_DT_FALL (n : Nat) : Nat := 0x231004 + 0x100 * n
def LEG_POLARITY (n : Nat) : Nat := 0x231005 + 0x100 * n
def LEG_DIRECT_COMPARE (n : Nat) : Nat := 0x231006 + 0x100 * n
def LEG_COMPARE_ACTIVE (n : Nat) : Nat := 0x231007 + 0x100 * n
def LEG_DIRECT_ENABLE (n : Nat) : Nat := 0x231008 + 0x100 * n
def CG_PERIOD (n : Nat) : Nat := 0x234001 + 0x100 * n
def CG_PHASE (n : Nat) : Nat := 0x234002 + 0x100 * n
def CG_COUNT_MODE (n : Nat) : Nat := 0x234003 + 0x100 * n
def CG_LOCK (n : Nat) : Nat := 0x234004 + 0x100 * n
def CG_MIN_PULSE (n : Nat) : Nat := 0x234005 + 0x100 * n
def CG_RELOAD_AT_PEAK (n : Nat) : Nat := 0x234006 + 0x100 * n
def CG_DIRECT_PERIOD (n : Nat) : Nat := 0x234007 + 0x100 * n
def CG_PERIOD_ACTIVE (n : Nat) : Nat := 0x234008 + 0x100 * n
def SDC_SCALE (n : Nat) : Nat := 0x236001 + 0x100 * n
def SDC_OFFSET (n : Nat) : Nat := 0x236002 + 0x100 * n
def SDC_SAMPLE_DELAY (n : Nat) : Nat := 0x236003 + 0x100 * n
def SDC_OC_OSR (n : Nat) : Nat := 0x236004 + 0x100 * n
def SDC_OC_HIGH (n : Nat) : Nat := 0x236005 + 0x100 * n
def SDC_OC_LOW (n : Nat) : Nat := 0x236006 + 0x100 * n
def SDC_OC_COUNT (n : Nat) : Nat := 0x236007 + 0x100 * n
def SDC_CURRENT (n : Nat) : Nat := 0x236008 + 0x100 * n
def CC_MODE (n : Nat) : Nat := 0x302001 + 0x8000 * n
def CC_RATE (n : Nat) : Nat := 0x302002 + 0x8000 * n
def CC_OSR (n : Nat) : Nat := 0x302003 + 0x8000 * n
def CC_CARRIER_GROUP (n : Nat) : Nat := 0x302004 + 0x8000 * n
def CC_POLE_PAIRS (n : Nat) : Nat := 0x302005 + 0x8000 * n
def CC_ANGLE_OFFSET (n : Nat) : Nat := 0x302006 + 0x8000 * n
def CC_ID_LIMIT_MODE (n : Nat) : Nat := 0x302007 + 0x8000 * n
def CC_DECOUPLE (n : Nat) : Nat := 0x30200f + 0x8000 * n
def CC_FEEDFORWARD (n : Nat) : Nat := 0x302010 + 0x8000 * n
def CC_I_MAX (n : Nat) : Nat := 0x302011 + 0x8000 * n
def CC_V_LIMIT_FRAC (n : Nat) : Nat := 0x302012 + 0x8000 * n
def CC_VDC_SOURCE (n : Nat) : Nat := 0x302013 + 0x8000 * n
def CC_VDC_NOMINAL (n : Nat) : Nat := 0x302014 + 0x8000 * n
def CC_VDC_MIN (n : Nat) : Nat := 0x302015 + 0x8000 * n
def CC_DTC_TIME (n : Nat) : Nat := 0x302016 + 0x8000 * n
def CC_DTC_I_BAND (n : Nat) : Nat := 0x302017 + 0x8000 * n
def CC_ANGLE_ADVANCE (n : Nat) : Nat := 0x302018 + 0x8000 * n
def CC_MICROSTEPS (n : Nat) : Nat := 0x302019 + 0x8000 * n
def CCL_LEG (n i : Nat) : Nat := 0x302101 + 0x8000 * n + i
def CCV_ID_REF (n : Nat) : Nat := 0x302201 + 0x8000 * n
def CCV_IQ_REF (n : Nat) : Nat := 0x302202 + 0x8000 * n
def CCV_I_D (n : Nat) : Nat := 0x302203 + 0x8000 * n
def CCV_I_Q (n : Nat) : Nat := 0x302204 + 0x8000 * n
def CCV_V_D (n : Nat) : Nat := 0x302205 + 0x8000 * n
def CCV_V_Q (n : Nat) : Nat := 0x302206 + 0x8000 * n
def CCV_VDC (n : Nat) : Nat := 0x302207 + 0x8000 * n
def CCV_THETA_E (n : Nat) : Nat := 0x302208 + 0x8000 * n
def CCV_V_D_SET (n : Nat) : Nat := 0x302209 + 0x8000 * n
def CCV_V_Q_SET (n : Nat) : Nat := 0x30220a + 0x8000 * n
def CCV_THETA_SET (n : Nat) : Nat := 0x30220b + 0x8000 * n
def CCV_STEP_CURRENT (n : Nat) : Nat := 0x30220c + 0x8000 * n
def CCV_LOAD_INDICATOR (n : Nat) : Nat := 0x30220d + 0x8000 * n
def CCV_CC_STATUS (n : Nat) : Nat := 0x30220e + 0x8000 * n
def CCP_I_PHASE (n i : Nat) : Nat := 0x302301 + 0x8000 * n + i
def CCP_DUTY (n i : Nat) : Nat := 0x302304 + 0x8000 * n + i
def L1B_KP_D (n b : Nat) : Nat := 0x302401 + 0x8000 * n + 0x100 * b
def L1B_KI_D (n b : Nat) : Nat := 0x302402 + 0x8000 * n + 0x100 * b
def L1B_KP_Q (n b : Nat) : Nat := 0x302403 + 0x8000 * n + 0x100 * b
def L1B_KI_Q (n b : Nat) : Nat := 0x302404 + 0x8000 * n + 0x100 * b
def L1B_L_D (n b : Nat) : Nat := 0x302405 + 0x8000 * n + 0x100 * b
def L1B_L_Q (n b : Nat) : Nat := 0x302406 + 0x8000 * n + 0x100 * b
def L1B_R_S (n b : Nat) : Nat := 0x302407 + 0x8000 * n + 0x100 * b
def L1B_PSI_PM (n b : Nat) : Nat := 0x302408 + 0x8000 * n + 0x100 * b
def ADM_ADMISSION_RESULT : Nat := 0x240001
def ADM_REFUSED_AXIS : Nat := 0x240002
def ADM_REFUSED_LP : Nat := 0x240003
def ADM_HYPERPERIOD : Nat := 0x240004
def ADM_VIRTUAL_PERIOD : Nat := 0x240005
def ADM_VIRTUAL_PHASE : Nat := 0x240006
def ADM_ADMIT_CHECK : Nat := 0x240007
def ADM_LOAD_LIMIT : Nat := 0x240008
def LPS_LP_LOAD (i : Nat) : Nat := 0x240101 + i
def LPS_LP_JOBS (i : Nat) : Nat := 0x240105 + i
def LPS_LP_MISSES (i : Nat) : Nat := 0x240109 + i
def COST_TABLE (i : Nat) : Nat := 0x240201 + i
def SCH_LP_AFFINITY (n : Nat) : Nat := 0x241001 + 0x100 * n
def SCH_GEN_SET (n : Nat) : Nat := 0x241002 + 0x100 * n
def SCH_LP_ASSIGNED (n : Nat) : Nat := 0x241003 + 0x100 * n
def SCH_AXIS_LOAD (n : Nat) : Nat := 0x241004 + 0x100 * n
def SCH_CHAIN_START (n : Nat) : Nat := 0x241005 + 0x100 * n
def SCH_L4_START (n : Nat) : Nat := 0x241006 + 0x100 * n
def CAS_CONTROL_MODE (n : Nat) : Nat := 0x303001 + 0x8000 * n
def CAS_N2 (n : Nat) : Nat := 0x303002 + 0x8000 * n
def CAS_N3 (n : Nat) : Nat := 0x303003 + 0x8000 * n
def CAS_N4 (n : Nat) : Nat := 0x303004 + 0x8000 * n
def CAS_D2 (n : Nat) : Nat := 0x303005 + 0x8000 * n
def CAS_D3 (n : Nat) : Nat := 0x303006 + 0x8000 * n
def CAS_D4 (n : Nat) : Nat := 0x303007 + 0x8000 * n
def CAS_MISS_LIMIT (n : Nat) : Nat := 0x303008 + 0x8000 * n
def CAS_OBS_ENABLE (n : Nat) : Nat := 0x303009 + 0x8000 * n
def CAS_IQ_LIMIT (n : Nat) : Nat := 0x30300a + 0x8000 * n
def CAS_L3_OUT_LIMIT (n : Nat) : Nat := 0x30300b + 0x8000 * n
def CAS_TRIM_LIMIT (n : Nat) : Nat := 0x30300c + 0x8000 * n
def CAS_TORQUE_SET (n : Nat) : Nat := 0x30300d + 0x8000 * n
def BNK_BANK_ACTIVE (n : Nat) : Nat := 0x303101 + 0x8000 * n
def BNK_SWAP_REQUEST (n : Nat) : Nat := 0x303102 + 0x8000 * n
def BNK_SWAP_PENDING (n : Nat) : Nat := 0x303103 + 0x8000 * n
def BNK_SWAP_COUNT (n : Nat) : Nat := 0x303104 + 0x8000 * n
def L2B_KP_V (n b : Nat) : Nat := 0x303201 + 0x8000 * n + 0x100 * b
def L2B_KI_V (n b : Nat) : Nat := 0x303202 + 0x8000 * n + 0x100 * b
def L2B_BQ1_B0 (n b : Nat) : Nat := 0x303203 + 0x8000 * n + 0x100 * b
def L2B_BQ1_B1 (n b : Nat) : Nat := 0x303204 + 0x8000 * n + 0x100 * b
def L2B_BQ1_B2 (n b : Nat) : Nat := 0x303205 + 0x8000 * n + 0x100 * b
def L2B_BQ1_A1 (n b : Nat) : Nat := 0x303206 + 0x8000 * n + 0x100 * b
def L2B_BQ1_A2 (n b : Nat) : Nat := 0x303207 + 0x8000 * n + 0x100 * b
def L2B_BQ2_B0 (n b : Nat) : Nat := 0x303208 + 0x8000 * n + 0x100 * b
def L2B_BQ2_B1 (n b : Nat) : Nat := 0x303209 + 0x8000 * n + 0x100 * b
def L2B_BQ2_B2 (n b : Nat) : Nat := 0x30320a + 0x8000 * n + 0x100 * b
def L2B_BQ2_A1 (n b : Nat) : Nat := 0x30320b + 0x8000 * n + 0x100 * b
def L2B_BQ2_A2 (n b : Nat) : Nat := 0x30320c + 0x8000 * n + 0x100 * b
def L2B_OBS_BW (n b : Nat) : Nat := 0x30320d + 0x8000 * n + 0x100 * b
def L2B_KT_J (n b : Nat) : Nat := 0x30320e + 0x8000 * n + 0x100 * b
def L2B_DIST_COMP (n b : Nat) : Nat := 0x30320f + 0x8000 * n + 0x100 * b
def L3B_KV (n b : Nat) : Nat := 0x303401 + 0x8000 * n + 0x100 * b
def L3B_KVFF (n b : Nat) : Nat := 0x303402 + 0x8000 * n + 0x100 * b
def L3B_KAFF (n b : Nat) : Nat := 0x303403 + 0x8000 * n + 0x100 * b
def L4B_KP4 (n b : Nat) : Nat := 0x303601 + 0x8000 * n + 0x100 * b
def L4B_KI4 (n b : Nat) : Nat := 0x303602 + 0x8000 * n + 0x100 * b
def L4B_KD4 (n b : Nat) : Nat := 0x303603 + 0x8000 * n + 0x100 * b
def L4B_TF4 (n b : Nat) : Nat := 0x303604 + 0x8000 * n + 0x100 * b
def L4B_B_W (n b : Nat) : Nat := 0x303605 + 0x8000 * n + 0x100 * b
def L4B_C_W (n b : Nat) : Nat := 0x303606 + 0x8000 * n + 0x100 * b
def L4B_SP_RATE (n b : Nat) : Nat := 0x303607 + 0x8000 * n + 0x100 * b
def L4B_SP_TF (n b : Nat) : Nat := 0x303608 + 0x8000 * n + 0x100 * b
def L4B_U4_LIMIT (n b : Nat) : Nat := 0x303609 + 0x8000 * n + 0x100 * b
def L4B_U4_RATE (n b : Nat) : Nat := 0x30360a + 0x8000 * n + 0x100 * b
def L4_MODE (n : Nat) : Nat := 0x303801 + 0x8000 * n
def L4_PV_SOURCE (n : Nat) : Nat := 0x303802 + 0x8000 * n
def L4_PV_SCALE (n : Nat) : Nat := 0x303803 + 0x8000 * n
def L4_PV_OFFSET (n : Nat) : Nat := 0x303804 + 0x8000 * n
def L4_SETPOINT (n : Nat) : Nat := 0x303805 + 0x8000 * n
def L4_FF4 (n : Nat) : Nat := 0x303806 + 0x8000 * n
def L4_PV_TIMEOUT (n : Nat) : Nat := 0x303807 + 0x8000 * n
def L4_PV_STALE_FAULT (n : Nat) : Nat := 0x303808 + 0x8000 * n
def L4_U4_INVERT (n : Nat) : Nat := 0x303809 + 0x8000 * n
def L4_PV_DIRECT (n : Nat) : Nat := 0x30380a + 0x8000 * n
def CV_V_REF (n : Nat) : Nat := 0x303901 + 0x8000 * n
def CV_I_FF (n : Nat) : Nat := 0x303902 + 0x8000 * n
def CV_FOLLOWING_ERROR (n : Nat) : Nat := 0x303903 + 0x8000 * n
def CV_IQ_CMD (n : Nat) : Nat := 0x303904 + 0x8000 * n
def CV_V_HAT (n : Nat) : Nat := 0x303905 + 0x8000 * n
def CV_A_HAT (n : Nat) : Nat := 0x303906 + 0x8000 * n
def CV_PV (n : Nat) : Nat := 0x303907 + 0x8000 * n
def CV_SP_SHAPED (n : Nat) : Nat := 0x303908 + 0x8000 * n
def CV_U4 (n : Nat) : Nat := 0x303909 + 0x8000 * n
def CV_TRIM_OFFSET (n : Nat) : Nat := 0x30390a + 0x8000 * n
def CV_CASCADE_STATUS (n : Nat) : Nat := 0x30390b + 0x8000 * n
def MISS_L (n i : Nat) : Nat := 0x303a01 + 0x8000 * n + i
def MISS_CONSEC_MISS (n : Nat) : Nat := 0x303a04 + 0x8000 * n
def MISS_LAST_OVERRUN (n : Nat) : Nat := 0x303a05 + 0x8000 * n
def AX_COMMAND (n : Nat) : Nat := 0x300001 + 0x8000 * n
def AX_COMMAND_RESULT (n : Nat) : Nat := 0x300002 + 0x8000 * n
def AX_AXIS_STATE (n : Nat) : Nat := 0x300003 + 0x8000 * n
def AX_MOTION_MODE (n : Nat) : Nat := 0x300004 + 0x8000 * n
def AX_TARGET_POSITION (n : Nat) : Nat := 0x300005 + 0x8000 * n
def AX_TARGET_VELOCITY (n : Nat) : Nat := 0x300006 + 0x8000 * n
def AX_MOVE_FLAGS (n : Nat) : Nat := 0x300007 + 0x8000 * n
def AX_QUEUE_DEPTH (n : Nat) : Nat := 0x300008 + 0x8000 * n
def AX_FAULT_REACTION (n : Nat) : Nat := 0x300009 + 0x8000 * n
def PRF_PROFILE_TYPE (n : Nat) : Nat := 0x304001 + 0x8000 * n
def PRF_V_MAX (n : Nat) : Nat := 0x304002 + 0x8000 * n
def PRF_A_MAX (n : Nat) : Nat := 0x304003 + 0x8000 * n
def PRF_D_MAX (n : Nat) : Nat := 0x304004 + 0x8000 * n
def PRF_J_MAX (n : Nat) : Nat := 0x304005 + 0x8000 * n
def PRF_QUICK_STOP_DEC (n : Nat) : Nat := 0x304006 + 0x8000 * n
def PRF_P_SET (n : Nat) : Nat := 0x304007 + 0x8000 * n
def PRF_V_SET (n : Nat) : Nat := 0x304008 + 0x8000 * n
def PRF_A_SET (n : Nat) : Nat := 0x304009 + 0x8000 * n
def PRF_IN_POS_WINDOW (n : Nat) : Nat := 0x30400a + 0x8000 * n
def PRF_IN_POS_TIME (n : Nat) : Nat := 0x30400b + 0x8000 * n
def PRF_FE_LIMIT (n : Nat) : Nat := 0x30400c + 0x8000 * n
def PRF_FE_SAMPLES (n : Nat) : Nat := 0x30400d + 0x8000 * n
def LIM_LIMIT_ENABLE (n : Nat) : Nat := 0x304101 + 0x8000 * n
def LIM_LIMIT_POS (n : Nat) : Nat := 0x304102 + 0x8000 * n
def LIM_LIMIT_NEG (n : Nat) : Nat := 0x304103 + 0x8000 * n
def LIM_V_CEILING (n : Nat) : Nat := 0x304104 + 0x8000 * n
def LIM_A_CEILING (n : Nat) : Nat := 0x304105 + 0x8000 * n
def LIM_CONTROLLED_STOP_DEC (n : Nat) : Nat := 0x304106 + 0x8000 * n
def LIM_SETUP_V_LIMIT (n : Nat) : Nat := 0x304107 + 0x8000 * n
def LIM_SETUP_A_LIMIT (n : Nat) : Nat := 0x304108 + 0x8000 * n
def LIM_SETUP_IQ_LIMIT (n : Nat) : Nat := 0x304109 + 0x8000 * n
def LIM_LIMIT_SW_POS (n : Nat) : Nat := 0x30410a + 0x8000 * n
def LIM_LIMIT_SW_NEG (n : Nat) : Nat := 0x30410b + 0x8000 * n
def LIM_HOME_SW (n : Nat) : Nat := 0x30410c + 0x8000 * n
def LIM_SWITCH_POLARITY (n : Nat) : Nat := 0x30410d + 0x8000 * n
def HOM_HOMING_METHOD (n : Nat) : Nat := 0x304401 + 0x8000 * n
def HOM_HOMING_DIR (n : Nat) : Nat := 0x304402 + 0x8000 * n
def HOM_HOMING_FAST (n : Nat) : Nat := 0x304403 + 0x8000 * n
def HOM_HOMING_SLOW (n : Nat) : Nat := 0x304404 + 0x8000 * n
def HOM_HOME_OFFSET (n : Nat) : Nat := 0x304405 + 0x8000 * n
def HOM_HARD_STOP_CURRENT (n : Nat) : Nat := 0x304406 + 0x8000 * n
def HOM_HARD_STOP_TIME (n : Nat) : Nat := 0x304407 + 0x8000 * n
def HOM_HOMING_TIMEOUT (n : Nat) : Nat := 0x304408 + 0x8000 * n
def HOM_HOMING_LATCH_UNIT (n : Nat) : Nat := 0x304409 + 0x8000 * n
def HOM_HOMING_RESULT (n : Nat) : Nat := 0x30440a + 0x8000 * n
def HOM_HOMING_PHASE (n : Nat) : Nat := 0x30440b + 0x8000 * n
def HOM_HOMING_REF_POS (n : Nat) : Nat := 0x30440c + 0x8000 * n
def STL_AXIS_CLASS (n : Nat) : Nat := 0x304801 + 0x8000 * n
def STL_STALL_ENABLE (n : Nat) : Nat := 0x304802 + 0x8000 * n
def STL_HOLD_CURRENT (n : Nat) : Nat := 0x304803 + 0x8000 * n
def STL_RUN_CURRENT (n : Nat) : Nat := 0x304804 + 0x8000 * n
def STL_LI_LOW (n : Nat) : Nat := 0x304805 + 0x8000 * n
def STL_LI_HIGH (n : Nat) : Nat := 0x304806 + 0x8000 * n
def STL_CURRENT_SLEW (n : Nat) : Nat := 0x304807 + 0x8000 * n
def STL_STALL_LI (n : Nat) : Nat := 0x304808 + 0x8000 * n
def STL_STALL_ANGLE (n : Nat) : Nat := 0x304809 + 0x8000 * n
def STL_STALL_MIN_SPEED (n : Nat) : Nat := 0x30480a + 0x8000 * n
def STL_STALL_SAMPLES (n : Nat) : Nat := 0x30480b + 0x8000 * n
def STL_BEMF_BW (n : Nat) : Nat := 0x30480c + 0x8000 * n
def STL_LOAD_ANGLE (n : Nat) : Nat := 0x30480d + 0x8000 * n
def ST_AXIS_STATUS (n : Nat) : Nat := 0x307001 + 0x8000 * n
def ST_FAULT_CAUSE (n : Nat) : Nat := 0x307002 + 0x8000 * n
def ST_FAULT_CAUSES (n : Nat) : Nat := 0x307003 + 0x8000 * n
def ST_FAULT_COUNT (n : Nat) : Nat := 0x307004 + 0x8000 * n
def ST_STALL_COUNT (n : Nat) : Nat := 0x307005 + 0x8000 * n
def ST_MOVES_DONE (n : Nat) : Nat := 0x307006 + 0x8000 * n
def ST_COMMANDS_REFUSED (n : Nat) : Nat := 0x307007 + 0x8000 * n
def ST_TRUNCATIONS (n : Nat) : Nat := 0x307008 + 0x8000 * n
def ST_LIMIT_STOPS (n : Nat) : Nat := 0x307009 + 0x8000 * n
def ST_GEN_MISSES (n : Nat) : Nat := 0x30700a + 0x8000 * n
def PUB_ENABLE (n : Nat) : Nat := 0x250001 + 0x100 * n
def PUB_MASTER_ID (n : Nat) : Nat := 0x250002 + 0x100 * n
def PUB_SOURCE_AXIS (n : Nat) : Nat := 0x250003 + 0x100 * n
def PUB_PERIOD (n : Nat) : Nat := 0x250004 + 0x100 * n
def PUB_PHASE (n : Nat) : Nat := 0x250005 + 0x100 * n
def PUB_LEAD (n : Nat) : Nat := 0x250006 + 0x100 * n
def PUB_VALIDITY (n : Nat) : Nat := 0x250007 + 0x100 * n
def PUB_KEY_ID (n : Nat) : Nat := 0x250008 + 0x100 * n
def PUB_TRANSPORT (n : Nat) : Nat := 0x250009 + 0x100 * n
def PUB_CAN_CHANNEL (n : Nat) : Nat := 0x25000a + 0x100 * n
def PUB_CAN_ID (n : Nat) : Nat := 0x25000b + 0x100 * n
def PUB_SEQUENCE (n : Nat) : Nat := 0x25000c + 0x100 * n
def PUB_STATE (n : Nat) : Nat := 0x25000d + 0x100 * n
def PUB_PUBLISHED (n : Nat) : Nat := 0x25000e + 0x100 * n
def PUB_MAINS_STOP_ENABLE (n : Nat) : Nat := 0x25000f + 0x100 * n
def PUB_MAINS_STOP_DEC (n : Nat) : Nat := 0x250010 + 0x100 * n
def SUB_ENABLE (n : Nat) : Nat := 0x251001 + 0x100 * n
def SUB_MASTER_ID (n : Nat) : Nat := 0x251002 + 0x100 * n
def SUB_TRANSPORT (n : Nat) : Nat := 0x251003 + 0x100 * n
def SUB_CAN_CHANNEL (n : Nat) : Nat := 0x251004 + 0x100 * n
def SUB_CAN_ID (n : Nat) : Nat := 0x251005 + 0x100 * n
def SUB_MAX_LEAD (n : Nat) : Nat := 0x251006 + 0x100 * n
def SUB_V_BOUND (n : Nat) : Nat := 0x251007 + 0x100 * n
def SUB_A_BOUND (n : Nat) : Nat := 0x251008 + 0x100 * n
def SUB_J_BOUND (n : Nat) : Nat := 0x251009 + 0x100 * n
def SUB_JUMP_P (n : Nat) : Nat := 0x25100a + 0x100 * n
def SUB_JUMP_V (n : Nat) : Nat := 0x25100b + 0x100 * n
def SUB_GRACE_TIME (n : Nat) : Nat := 0x25100c + 0x100 * n
def SUB_STOP_DEC (n : Nat) : Nat := 0x25100d + 0x100 * n
def SUB_STOP_MIN_TIME (n : Nat) : Nat := 0x25100e + 0x100 * n
def SUB_STATE (n : Nat) : Nat := 0x25100f + 0x100 * n
def SUB_CUR_SEQUENCE (n : Nat) : Nat := 0x251010 + 0x100 * n
def SUB_CUR_T0 (n : Nat) : Nat := 0x251011 + 0x100 * n
def SUB_MASTER_P (n : Nat) : Nat := 0x251012 + 0x100 * n
def SUB_MASTER_V (n : Nat) : Nat := 0x251013 + 0x100 * n
def SUB_ACCEPTED (n : Nat) : Nat := 0x251014 + 0x100 * n
def SUB_REJECTED_STALE (n : Nat) : Nat := 0x251015 + 0x100 * n
def SUB_REJECTED_TIME (n : Nat) : Nat := 0x251016 + 0x100 * n
def SUB_REJECTED_BOUNDS (n : Nat) : Nat := 0x251017 + 0x100 * n
def SUB_REJECTED_JUMP (n : Nat) : Nat := 0x251018 + 0x100 * n
def SUB_REPLACED (n : Nat) : Nat := 0x251019 + 0x100 * n
def SUB_LATE (n : Nat) : Nat := 0x25101a + 0x100 * n
def SUB_LOSSES (n : Nat) : Nat := 0x25101b + 0x100 * n
def SUB_LAST_LOSS (n : Nat) : Nat := 0x25101c + 0x100 * n
def LSC_UNSUBSCRIBED : Nat := 0x253001
def LSC_NOT_FOLLOWED : Nat := 0x253002
def TAB_FREE_ENTRIES : Nat := 0x400001
def CAM_START (n : Nat) : Nat := 0x401001 + 0x100 * n
def CAM_LENGTH (n : Nat) : Nat := 0x401002 + 0x100 * n
def CAM_MASTER_SPAN (n : Nat) : Nat := 0x401003 + 0x100 * n
def CAM_SLAVE_STEP (n : Nat) : Nat := 0x401004 + 0x100 * n
def CAM_SLOPE_EXP (n : Nat) : Nat := 0x401005 + 0x100 * n
def CAM_TABLE_STATE (n : Nat) : Nat := 0x401006 + 0x100 * n
def CAM_FINISH (n : Nat) : Nat := 0x401007 + 0x100 * n
def CAM_TABLE_CRC (n : Nat) : Nat := 0x401008 + 0x100 * n
def CAM_USERS (n : Nat) : Nat := 0x401009 + 0x100 * n
def CMP_LENGTH (n : Nat) : Nat := 0x405002 + 0x100 * n
def CMP_SPAN (n : Nat) : Nat := 0x405003 + 0x100 * n
def CMP_ORIGIN (n : Nat) : Nat := 0x405004 + 0x100 * n
def CMP_INDEX_AXIS (n : Nat) : Nat := 0x405005 + 0x100 * n
def CAM_DATA (n : Nat) : Nat := 0x410001 + 0x100 * n
def CMP_COMP_DATA (n : Nat) : Nat := 0x418001 + 0x100 * n
def FOL_FOLLOW_MODE (n : Nat) : Nat := 0x306001 + 0x8000 * n
def FOL_MASTER (n : Nat) : Nat := 0x306002 + 0x8000 * n
def FOL_MASTER_SIGNAL (n : Nat) : Nat := 0x306003 + 0x8000 * n
def FOL_ENGAGE_MODE (n : Nat) : Nat := 0x306004 + 0x8000 * n
def FOL_ENGAGE_TIME (n : Nat) : Nat := 0x306005 + 0x8000 * n
def FOL_PHASE_OFFSET (n : Nat) : Nat := 0x306006 + 0x8000 * n
def FOL_PHASE_RATE (n : Nat) : Nat := 0x306007 + 0x8000 * n
def FOL_PHASE_APPLIED (n : Nat) : Nat := 0x306008 + 0x8000 * n
def GEAR_NUM (n : Nat) : Nat := 0x306101 + 0x8000 * n
def GEAR_DEN (n : Nat) : Nat := 0x306102 + 0x8000 * n
def CAMA_CAM_TABLE (n : Nat) : Nat := 0x306201 + 0x8000 * n
def CAMA_CAM_NEXT (n : Nat) : Nat := 0x306202 + 0x8000 * n
def CAMA_CAM_MASTER_OFFSET (n : Nat) : Nat := 0x306203 + 0x8000 * n
def CAMA_CAM_SLAVE_OFFSET (n : Nat) : Nat := 0x306204 + 0x8000 * n
def CAMA_CAM_ACTIVE (n : Nat) : Nat := 0x306205 + 0x8000 * n
def CAMA_CAM_PHASE (n : Nat) : Nat := 0x306206 + 0x8000 * n
def CAMA_CAM_CYCLES (n : Nat) : Nat := 0x306207 + 0x8000 * n
def CAMA_CAM_BASE (n : Nat) : Nat := 0x306208 + 0x8000 * n
def CAMA_CAM_SWITCHES (n : Nat) : Nat := 0x306209 + 0x8000 * n
def REG_LATCH_UNIT (n : Nat) : Nat := 0x306301 + 0x8000 * n
def REG_EXPECTED (n : Nat) : Nat := 0x306302 + 0x8000 * n
def REG_GAIN (n : Nat) : Nat := 0x306303 + 0x8000 * n
def REG_DEADBAND (n : Nat) : Nat := 0x306304 + 0x8000 * n
def REG_MAX_STEP (n : Nat) : Nat := 0x306305 + 0x8000 * n
def REG_TOTAL (n : Nat) : Nat := 0x306306 + 0x8000 * n
def REG_LAST_ERROR (n : Nat) : Nat := 0x306307 + 0x8000 * n
def REG_APPLIED (n : Nat) : Nat := 0x306308 + 0x8000 * n
def REG_DISCARDED (n : Nat) : Nat := 0x306309 + 0x8000 * n
def REG_RESET (n : Nat) : Nat := 0x30630a + 0x8000 * n
def COMPA_COMP_TABLE (n : Nat) : Nat := 0x306401 + 0x8000 * n
def COMPA_COMP_VALUE (n : Nat) : Nat := 0x306402 + 0x8000 * n
def LSS_LS_STATUS (n : Nat) : Nat := 0x306501 + 0x8000 * n
def LSS_LS_FAULT_REASON (n : Nat) : Nat := 0x306502 + 0x8000 * n
def LSS_FOLLOW_MASTER_P (n : Nat) : Nat := 0x306503 + 0x8000 * n
def LSS_FOLLOW_MASTER_V (n : Nat) : Nat := 0x306504 + 0x8000 * n
def ACQ_CONTROL : Nat := 0x500001
def ACQ_STATE : Nat := 0x500002
def ACQ_TB_AXIS : Nat := 0x500003
def ACQ_TB_DIV : Nat := 0x500004
def ACQ_TB_PERIOD : Nat := 0x500005
def ACQ_TB_PHASE : Nat := 0x500006
def ACQ_DECIM : Nat := 0x500007
def ACQ_SEG_COUNT : Nat := 0x500008
def ACQ_SEG_FRAMES : Nat := 0x500009
def ACQ_PRE_FRAMES : Nat := 0x50000a
def ACQ_SEG_MODE : Nat := 0x50000b
def ACQ_WAIT_PRE : Nat := 0x50000c
def ACQ_HOLDOFF_MODE : Nat := 0x50000d
def ACQ_HOLDOFF_TIME : Nat := 0x50000e
def ACQ_HOLDOFF_EVENTS : Nat := 0x50000f
def ACQ_TRIG_MASK : Nat := 0x500010
def ACQ_COMBINE : Nat := 0x500011
def ACQ_FRAME_BYTES : Nat := 0x500012
def ACQ_SEG_BYTES : Nat := 0x500013
def ACQ_LAG : Nat := 0x500014
def ACQ_START_RESULT : Nat := 0x500015
def ACQ_SEG_DONE : Nat := 0x500101
def ACQ_SEG_RELEASED : Nat := 0x500102
def ACQ_IGNORED_TOTAL : Nat := 0x500103
def ACQ_SUPPRESSED : Nat := 0x500104
def ACQ_FIRST_IGNORED : Nat := 0x500105
def ACQ_SEG_SELECT : Nat := 0x500201
def ACQ_SEG_HEADER : Nat := 0x500202
def ACQ_SEG_DATA : Nat := 0x500203
def SLOT_ENABLE (n : Nat) : Nat := 0x501001 + 0x100 * n
def SLOT_SIGNAL (n : Nat) : Nat := 0x501002 + 0x100 * n
def SLOT_STREAMS (n : Nat) : Nat := 0x501003 + 0x100 * n
def SLOT_THRESHOLD (n : Nat) : Nat := 0x501004 + 0x100 * n
def TRU_TRIG_TYPE (n : Nat) : Nat := 0x505001 + 0x100 * n
def TRU_TRIG_SLOT (n : Nat) : Nat := 0x505002 + 0x100 * n
def TRU_SOURCE (n : Nat) : Nat := 0x505003 + 0x100 * n
def TRU_POLARITY (n : Nat) : Nat := 0x505004 + 0x100 * n
def TRU_LEVEL_A (n : Nat) : Nat := 0x505005 + 0x100 * n
def TRU_LEVEL_B (n : Nat) : Nat := 0x505006 + 0x100 * n
def TRU_MASK (n : Nat) : Nat := 0x505007 + 0x100 * n
def TRU_TRIG_STATE (n : Nat) : Nat := 0x505008 + 0x100 * n
def TRU_UNIT_EVENTS (n : Nat) : Nat := 0x505009 + 0x100 * n
def FIELD_ENABLE : Nat := 0x260001
def FIELD_V24_VOLTAGE : Nat := 0x260002
def FIELD_STATUS : Nat := 0x260003
def DI_LEVEL : Nat := 0x260101
def DI_TYPE : Nat := 0x260102
def DI_INVERT : Nat := 0x260103
def DI_WB_ENABLE : Nat := 0x260104
def DI_WB_TIME : Nat := 0x260105
def DI_WIRE_BREAK : Nat := 0x260106
def DI_WB_LATCHED : Nat := 0x260107
def DI_FILTER (i : Nat) : Nat := 0x261001 + i
def DI_STAMP (i : Nat) : Nat := 0x261101 + i
def DO_SET : Nat := 0x262001
def DO_STATE : Nat := 0x262002
def DO_FALLBACK : Nat := 0x262003
def DO_OL_ENABLE : Nat := 0x262004
def DO_SHORT : Nat := 0x262005
def DO_OPEN_LOAD : Nat := 0x262006
def DO_SHORT_COUNT : Nat := 0x262007
def DO_CURRENT (i : Nat) : Nat := 0x262101 + i
def AIN_MODE (n : Nat) : Nat := 0x263001 + 0x100 * n
def AIN_RATE (n : Nat) : Nat := 0x263002 + 0x100 * n
def AIN_SCALE (n : Nat) : Nat := 0x263003 + 0x100 * n
def AIN_OFFSET (n : Nat) : Nat := 0x263004 + 0x100 * n
def AIN_VALUE (n : Nat) : Nat := 0x263005 + 0x100 * n
def AIN_RAW (n : Nat) : Nat := 0x263006 + 0x100 * n
def AIN_STAMP (n : Nat) : Nat := 0x263007 + 0x100 * n
def AIN_STATUS (n : Nat) : Nat := 0x263008 + 0x100 * n
def AIN_DELAY (n : Nat) : Nat := 0x263009 + 0x100 * n
def OWN_CLAIM_STATE : Nat := 0x2a0001
def OWN_OWNER_KEY_ID : Nat := 0x2a0002
def OWN_CLAIM_WINDOW : Nat := 0x2a0003
def OWN_OWNER_COUNTER : Nat := 0x2a0004
def OWN_ANON_READ : Nat := 0x2a0005
def OWN_ROLE : Nat := 0x2a0006
def CERT_DEVICE_CERT : Nat := 0x2a0101
def CERT_DEVICE_PUBKEY : Nat := 0x2a0102
def CERT_VENDOR_CA_CERT : Nat := 0x2a0103
def PKT_PACKET_IN : Nat := 0x2a0201
def PKT_PACKET_RESULT : Nat := 0x2a0202
def PKT_PACKET_NONCE : Nat := 0x2a0203
def PKT_PACKETS_ACCEPTED : Nat := 0x2a0204
def PKT_PACKETS_REFUSED : Nat := 0x2a0205
def SES_SESSIONS_OPEN : Nat := 0x2a0301
def SES_SESSION_LIST : Nat := 0x2a0302
def SES_SESSION_IDLE : Nat := 0x2a0303
def SES_SESSION_FAILS : Nat := 0x2a0304
def SES_REVOKED : Nat := 0x2a0305
def KEYS_KEY_INVENTORY : Nat := 0x2a0401
def FW_ACTIVE_SLOT : Nat := 0x2a0501
def FW_NEXT_SLOT : Nat := 0x2a0502
def FW_SLOT_A_VERSION : Nat := 0x2a0503
def FW_SLOT_B_VERSION : Nat := 0x2a0504
def FW_SLOT_A_STATE : Nat := 0x2a0505
def FW_SLOT_B_STATE : Nat := 0x2a0506
def FW_ROLLBACK_LEVEL : Nat := 0x2a0507
def FW_TX_SPP_A : Nat := 0x2a0508
def FW_TX_SPP_B : Nat := 0x2a0509
def FW_IMAGE : Nat := 0x2a050a
def FW_COUNTERSIGN_REQUIRED : Nat := 0x2a050b
def FW_CONFIRM : Nat := 0x2a050c
def FW_BOOT_FAILS : Nat := 0x2a050d
def DBG_DEBUG_STATE : Nat := 0x2a0601
def DBG_DEBUG_REMAIN : Nat := 0x2a0602
def TAMP_TAMPER_CAUSES : Nat := 0x2a0701
def TAMP_TAMPER_COUNT : Nat := 0x2a0702
def AUD_AUDIT_COUNT : Nat := 0x2a0801
def AUD_AUDIT_HEAD : Nat := 0x2a0802
def AUD_AUDIT_SELECT : Nat := 0x2a0803
def AUD_AUDIT_RECORD : Nat := 0x2a0804
def AUD_AUDIT_EXPORT : Nat := 0x2a0805
def SEC_FRESH_WINDOW : Nat := 0x2a0901
def ID_DEVICE_TYPE : Nat := 0x100000
def ID_ERROR_REGISTER : Nat := 0x100100
def ID_DEVICE_NAME : Nat := 0x100800
def ID_HW_VERSION : Nat := 0x100900
def ID_SW_VERSION : Nat := 0x100a00
def ID_STORE : Nat := 0x101001
def ID_RESTORE_DEFAULTS : Nat := 0x101101
def ID_VENDOR_ID : Nat := 0x101801
def ID_PRODUCT_CODE : Nat := 0x101802
def ID_REVISION : Nat := 0x101803
def ID_SERIAL_NUMBER : Nat := 0x101804
def ID_SERIAL_64 : Nat := 0x101805
def SDO_COB_RX (n : Nat) : Nat := 0x120001 + 0x100 * n
def SDO_COB_TX (n : Nat) : Nat := 0x120002 + 0x100 * n
def RPDO_COB_ID (n : Nat) : Nat := 0x140001 + 0x100 * n
def RPDO_CHANNEL (n : Nat) : Nat := 0x140010 + 0x100 * n
def RPDO_APPLY_LATENCY (n : Nat) : Nat := 0x140011 + 0x100 * n
def RPDO_TIMEOUT (n : Nat) : Nat := 0x140012 + 0x100 * n
def RPDO_TIMEOUT_ACTION (n : Nat) : Nat := 0x140013 + 0x100 * n
def RPDO_MAP_COUNT (n : Nat) : Nat := 0x160000 + 0x100 * n
def RPDO_MAP_ENTRY (n i : Nat) : Nat := 0x160001 + 0x100 * n + i
def TPDO_COB_ID (n : Nat) : Nat := 0x180001 + 0x100 * n
def TPDO_TRANSMISSION_TYPE (n : Nat) : Nat := 0x180002 + 0x100 * n
def TPDO_INHIBIT_TIME (n : Nat) : Nat := 0x180003 + 0x100 * n
def TPDO_CHANNEL (n : Nat) : Nat := 0x180010 + 0x100 * n
def TPDO_PERIOD (n : Nat) : Nat := 0x180011 + 0x100 * n
def TPDO_PHASE (n : Nat) : Nat := 0x180012 + 0x100 * n
def TPDO_MAP_COUNT (n : Nat) : Nat := 0x1a0000 + 0x100 * n
def TPDO_MAP_ENTRY (n i : Nat) : Nat := 0x1a0001 + 0x100 * n + i
def ERX_RX_ENABLE (n : Nat) : Nat := 0x1c0001 + 0x100 * n
def ERX_FRAME_ID (n : Nat) : Nat := 0x1c0002 + 0x100 * n
def ERX_APPLY_LATENCY (n : Nat) : Nat := 0x1c0003 + 0x100 * n
def ERX_TIMEOUT (n : Nat) : Nat := 0x1c0004 + 0x100 * n
def ERX_TIMEOUT_ACTION (n : Nat) : Nat := 0x1c0005 + 0x100 * n
def ERX_MAP_COUNT (n : Nat) : Nat := 0x1c8000 + 0x100 * n
def ERX_MAP_ENTRY (n i : Nat) : Nat := 0x1c8001 + 0x100 * n + i
def ETX_TX_ENABLE (n : Nat) : Nat := 0x1d0001 + 0x100 * n
def ETX_FRAME_ID (n : Nat) : Nat := 0x1d0002 + 0x100 * n
def ETX_DEST_ADDRESS (n : Nat) : Nat := 0x1d0003 + 0x100 * n
def ETX_PERIOD (n : Nat) : Nat := 0x1d0004 + 0x100 * n
def ETX_PHASE (n : Nat) : Nat := 0x1d0005 + 0x100 * n
def ETX_KEY_ID (n : Nat) : Nat := 0x1d0006 + 0x100 * n
def ETX_MAP_COUNT (n : Nat) : Nat := 0x1d8000 + 0x100 * n
def ETX_MAP_ENTRY (n i : Nat) : Nat := 0x1d8001 + 0x100 * n + i
def PD_ETHERTYPE : Nat := 0x1e0001
def PD_AUTH_DROPS : Nat := 0x1e0002
def PD_STALE_DROPS : Nat := 0x1e0003
def PD_LATE : Nat := 0x1e0004
def PD_TIMEOUTS : Nat := 0x1e0005
def PD_NOT_APPLIED : Nat := 0x1e0006
def PD_WRITE_ERRORS : Nat := 0x1e0007
def PD_RX_TIMEOUT : Nat := 0x1e0008
def DEV_DEVICE_REQUEST : Nat := 0x1f1001
def CMT_COMMIT : Nat := 0x1f1101
def CMT_COMMIT_RESULT : Nat := 0x1f1102
def CMT_COMMIT_REFUSED_OBJECT : Nat := 0x1f1103
def CMT_CHANGES_PENDING : Nat := 0x1f1104
def CMT_COMMIT_COUNT : Nat := 0x1f1105
def SDO_HANDSHAKE (n : Nat) : Nat := 0x1f2001 + 0x100 * n
def HOST_MODE : Nat := 0x2b0001
def HOST_LINK_STATE : Nat := 0x2b0002
def HOST_BUS_MASTER : Nat := 0x2b0003
def HOST_STAGING_LEVEL : Nat := 0x2b0004
def HOST_STAGING_DROPS : Nat := 0x2b0005
def HOST_FAULT_DROPS : Nat := 0x2b0006
def HOST_LINK_DOWNS : Nat := 0x2b0007
def HOST_MBX_REQUESTS : Nat := 0x2b0008
def RINGO_RING_ENABLED (n : Nat) : Nat := 0x2b1001 + 0x100 * n
def RINGO_RING_SIZE (n : Nat) : Nat := 0x2b1002 + 0x100 * n
def RINGO_RING_PRODUCER (n : Nat) : Nat := 0x2b1003 + 0x100 * n
def RINGO_RING_CONSUMER (n : Nat) : Nat := 0x2b1004 + 0x100 * n
def RINGO_RING_OVERFLOWS (n : Nat) : Nat := 0x2b1005 + 0x100 * n
def RINGO_RING_FILTER (n : Nat) : Nat := 0x2b1006 + 0x100 * n
def CAN_MODE (n : Nat) : Nat := 0x270001 + 0x100 * n
def CAN_NODE_ID (n : Nat) : Nat := 0x270002 + 0x100 * n
def CAN_FD_ENABLE (n : Nat) : Nat := 0x270003 + 0x100 * n
def CAN_NOM_PRESCALER (n : Nat) : Nat := 0x270004 + 0x100 * n
def CAN_NOM_TSEG1 (n : Nat) : Nat := 0x270005 + 0x100 * n
def CAN_NOM_TSEG2 (n : Nat) : Nat := 0x270006 + 0x100 * n
def CAN_NOM_SJW (n : Nat) : Nat := 0x270007 + 0x100 * n
def CAN_DATA_PRESCALER (n : Nat) : Nat := 0x270008 + 0x100 * n
def CAN_DATA_TSEG1 (n : Nat) : Nat := 0x270009 + 0x100 * n
def CAN_DATA_TSEG2 (n : Nat) : Nat := 0x27000a + 0x100 * n
def CAN_DATA_SJW (n : Nat) : Nat := 0x27000b + 0x100 * n
def CAN_TDC_ENABLE (n : Nat) : Nat := 0x27000c + 0x100 * n
def CAN_TDC_OFFSET (n : Nat) : Nat := 0x27000d + 0x100 * n
def CAN_RX_DELAY (n : Nat) : Nat := 0x27000e + 0x100 * n
def CAN_ID_CLASH_LIMIT (n : Nat) : Nat := 0x27000f + 0x100 * n
def CAN_BUSOFF_AUTO (n : Nat) : Nat := 0x270010 + 0x100 * n
def CANS_CHANNEL_STATUS (n : Nat) : Nat := 0x270401 + 0x100 * n
def CANS_TEC (n : Nat) : Nat := 0x270402 + 0x100 * n
def CANS_REC (n : Nat) : Nat := 0x270403 + 0x100 * n
def CANS_RECOVER (n : Nat) : Nat := 0x270404 + 0x100 * n
def CANS_TDC_MEASURED (n : Nat) : Nat := 0x270405 + 0x100 * n
def CANS_RX_FRAMES (n : Nat) : Nat := 0x270406 + 0x100 * n
def CANS_TX_FRAMES (n : Nat) : Nat := 0x270407 + 0x100 * n
def CANS_ERROR_FRAMES (n : Nat) : Nat := 0x270408 + 0x100 * n
def CANS_BUS_OFF_COUNT (n : Nat) : Nat := 0x270409 + 0x100 * n
def CANS_UNMATCHED (n : Nat) : Nat := 0x27040a + 0x100 * n
def CANS_LOST_FRAMES (n : Nat) : Nat := 0x27040b + 0x100 * n
def CANS_AUTH_DROPS (n : Nat) : Nat := 0x27040c + 0x100 * n
def CANS_PROTO_SUPPRESSED (n : Nat) : Nat := 0x27040d + 0x100 * n
def MO_CONFIG (n i : Nat) : Nat := 0x271001 + 0x1000 * n + i
def MO_ID (n i : Nat) : Nat := 0x271101 + 0x1000 * n + i
def MO_MASK (n i : Nat) : Nat := 0x271201 + 0x1000 * n + i
def MO_DLC (n i : Nat) : Nat := 0x271301 + 0x1000 * n + i
def MO_DATA (n i : Nat) : Nat := 0x271401 + 0x1000 * n + i
def MO_STAMP (n i : Nat) : Nat := 0x271501 + 0x1000 * n + i
def MO_STATUS (n i : Nat) : Nat := 0x271601 + 0x1000 * n + i
def MO_UPDATE (n i : Nat) : Nat := 0x271701 + 0x1000 * n + i
def MO_REQUEST (n i : Nat) : Nat := 0x271801 + 0x1000 * n + i
def MO_RX_ID (n i : Nat) : Nat := 0x271901 + 0x1000 * n + i
def SP_PORT_MODE (n : Nat) : Nat := 0x280001 + 0x100 * n
def SP_SPI_MODE (n : Nat) : Nat := 0x280002 + 0x100 * n
def SP_SCLK_DIV (n : Nat) : Nat := 0x280003 + 0x100 * n
def SP_SS_LEAD (n : Nat) : Nat := 0x280004 + 0x100 * n
def SP_SS_LAG (n : Nat) : Nat := 0x280005 + 0x100 * n
def SP_MST_SELECT (n : Nat) : Nat := 0x280006 + 0x100 * n
def SP_MST_TX (n : Nat) : Nat := 0x280007 + 0x100 * n
def SP_MST_RX (n : Nat) : Nat := 0x280008 + 0x100 * n
def SP_MST_RESULT (n : Nat) : Nat := 0x280009 + 0x100 * n
def SP_PORT_STATUS (n : Nat) : Nat := 0x28000a + 0x100 * n
def SP_TRANSFERS (n : Nat) : Nat := 0x28000b + 0x100 * n
def SP_FRAMING_COUNT (n : Nat) : Nat := 0x28000c + 0x100 * n
def SP_OVERRUN_COUNT (n : Nat) : Nat := 0x28000d + 0x100 * n
def SP_MODE_FAULT_COUNT (n : Nat) : Nat := 0x28000e + 0x100 * n
def TWL_ACTIVE : Nat := 0x280801
def TWL_LINK_STATE : Nat := 0x280802
def TWL_LANE_DELAY_MD (i : Nat) : Nat := 0x280803 + i
def TWL_LANE_DELAY_SD (i : Nat) : Nat := 0x280807 + i
def TWL_CRC_ERRORS : Nat := 0x28080b
def TWL_SYMBOL_ERRORS : Nat := 0x28080c
def TWL_LINK_LOSSES : Nat := 0x28080d
def TWL_BURSTS_TX : Nat := 0x28080e
def TWL_BURSTS_RX : Nat := 0x28080f
def TW_TWIN_ENABLE : Nat := 0x290001
def TW_PAIR_ID : Nat := 0x290002
def TW_PARTNER_SERIAL : Nat := 0x290003
def TW_STRAP_ROLE : Nat := 0x290004
def TW_TWIN_STATE : Nat := 0x290005
def TW_HOLDS_BALL : Nat := 0x290006
def TW_LEASE_TIME : Nat := 0x290007
def TW_LEASE_CORES : Nat := 0x290008
def TW_COLD_TAKEOVER : Nat := 0x290009
def TW_TWIN_PERIOD : Nat := 0x29000a
def TW_TWIN_PHASE : Nat := 0x29000b
def TW_HANDOVER : Nat := 0x29000c
def TW_TWIN_STATUS : Nat := 0x29000d
def TW_COPY_SEQ : Nat := 0x29000e
def TW_COPY_AGE : Nat := 0x29000f
def TW_COPY_BYTES : Nat := 0x290010
def TW_COPIES_REPLACED : Nat := 0x290011
def TW_COPIES_REJECTED : Nat := 0x290012
def TW_TAKEOVERS : Nat := 0x290013
def TW_LAST_TAKEOVER : Nat := 0x290014
def TW_LAST_GAP : Nat := 0x290015
def TW_CONFIG_HASH : Nat := 0x290016
def TW_BOOT_EPOCH : Nat := 0x290017
def TW_HB_TIMEOUTS : Nat := 0x290018
def DEV_DEVICE_STATE : Nat := 0x200001
def DEV_RESET_CAUSE : Nat := 0x200002
def DEV_RESET_COUNT : Nat := 0x200003
def DEV_RESET_REQUEST : Nat := 0x200004
def DEV_FAULT_N_AXES : Nat := 0x200005
def DEV_FAULT_N_LEVEL : Nat := 0x200006
def DEV_UPTIME : Nat := 0x200007
def DEV_SAFE_CAUSES : Nat := 0x200008
def RAIL_V_CORE : Nat := 0x200101
def RAIL_V_A09 : Nat := 0x200102
def RAIL_V_IO18 : Nat := 0x200103
def RAIL_V_IO33 : Nat := 0x200104
def RAIL_V_A33 : Nat := 0x200105
def RAIL_V_AON : Nat := 0x200106
def RAIL_STATUS : Nat := 0x200107
def RAIL_TJ : Nat := 0x200108
def RAIL_TJ_MAX : Nat := 0x200109
def RAIL_BROWNOUTS : Nat := 0x20010a
def CLKS_CLOCK_STATUS : Nat := 0x200201
def CLKS_XT32_RATE : Nat := 0x200202
def CLKS_AON_TIME : Nat := 0x200203
def MAINS_SUPPLY_KIND : Nat := 0x200301
def MAINS_NOMINAL : Nat := 0x200302
def MAINS_LOSS_LEVEL : Nat := 0x200303
def MAINS_LOSS_CONFIRM : Nat := 0x200304
def MAINS_RETURN_LEVEL : Nat := 0x200305
def MAINS_RETURN_TIME : Nat := 0x200306
def MAINS_DCLINK_SCALE : Nat := 0x200307
def MAINS_STATE : Nat := 0x200308
def MAINS_ENVELOPE : Nat := 0x200309
def MAINS_FREQ : Nat := 0x20030a
def MAINS_DC_LINK : Nat := 0x20030b
def MAINS_HV_STATUS : Nat := 0x20030c
def MAINS_LOSSES : Nat := 0x20030d
def MAINS_LAST_MAINS_LOSS : Nat := 0x20030e
def STBY_VSTBY_ENABLE : Nat := 0x200401
def STBY_VSTBY_VOLTAGE : Nat := 0x200402
def STBY_VSTBY_CURRENT : Nat := 0x200403
def STBY_STANDBY_REQUEST : Nat := 0x200404
def STBY_WAKE_ENABLE : Nat := 0x200405
def STBY_WAKE_IN_POLARITY : Nat := 0x200406
def STBY_WAKE_WINDOW (i : Nat) : Nat := 0x200407 + i
def STBY_ALARM : Nat := 0x20040b
def STBY_LAST_WAKE : Nat := 0x20040c
def STBY_STANDBY_ENTRIES : Nat := 0x20040d
def STBY_LAST_STANDBY_TIME : Nat := 0x20040e
def NV_WORD_WRITES (i : Nat) : Nat := 0x2c0001 + i
def NV_MAX_CYCLES (i : Nat) : Nat := 0x2c0008 + i
def NV_WEAR_WARN : Nat := 0x2c000f
def CAL_STATE : Nat := 0x2c0101
def CAL_SOURCE : Nat := 0x2c0102
def CAL_CRC : Nat := 0x2c0103
def CAL_WRITES : Nat := 0x2c0104
def CAL_PENDING : Nat := 0x2c0105
def CAL_SAVE : Nat := 0x2c0106
def CAL_EXPORT : Nat := 0x2c0107
def CAL_IMPORT : Nat := 0x2c0108
def CAL_RESULT : Nat := 0x2c0109
def CAL_DISCARD : Nat := 0x2c010a
def CALV_SD_GAIN (i : Nat) : Nat := 0x2c1001 + i
def CALV_SC_CAL (i : Nat) : Nat := 0x2c1101 + i
def CALV_AIN_CAL (i : Nat) : Nat := 0x2c1201 + i
def CALV_MAINS_GAIN : Nat := 0x2c1301
def CALV_MAINS_OFFSET : Nat := 0x2c1302
def CALV_P1_INGRESS : Nat := 0x2c1401
def CALV_P1_EGRESS : Nat := 0x2c1402
def CALV_P2_INGRESS : Nat := 0x2c1403
def CALV_P2_EGRESS : Nat := 0x2c1404
def CALV_DL_REF : Nat := 0x2c1501
def CALV_DL_TEMPCO : Nat := 0x2c1502
def CMP_START (n : Nat) : Nat := 0x405001 + 0x100 * n
def CMP_TABLE_STATE (n : Nat) : Nat := 0x405006 + 0x100 * n
def CMP_FINISH (n : Nat) : Nat := 0x405007 + 0x100 * n
def CMP_TABLE_CRC (n : Nat) : Nat := 0x405008 + 0x100 * n
def CMP_USERS (n : Nat) : Nat := 0x405009 + 0x100 * n

end Sys2Proof.Machine.Obj
end

