-- ==== Sys2Proof/Machine/Dict.lean ====
section
/-! DEFINITION. The object dictionary's table (R440, R444): for each object of the object tables of chapters 02 to 17 its index
family, subindexes, type (Table OD-1), access code (Table SC-4), read and write role (Table SE-1), default, constant range
(R441) and flags P, S and M. Rows follow the spec's tables; a family row stands for all its instances. -/
namespace Sys2Proof.Machine

/-- The types of Table OD-1. -/
inductive OTy where
  | bool | i8 | i16 | i32 | i64 | u8 | u16 | u32 | u64 | f32 | q32 | st64 | lt96 | vstr | domain
  deriving DecidableEq, Repr

/-- The access codes of Table SC-4. -/
inductive Acc where
  | ro | rw | wo | w1c | w1s | rc | rwb
  deriving DecidableEq, Repr

/-- How a family gives its default: a constant; a linear function of the instance; the special defaults of the tables. -/
inductive Dflt where
  | c (v : Nat)
  | lin (a b : Nat)
  | oneMinus
  | div3
  | legs
  | cost
  | cal4
  | node (b : Nat)
  deriving DecidableEq, Repr

/-- The constant range of an object (R441), or the rule that judges its values. -/
inductive Rng where
  | any
  | iv (l : List (Int × Int))
  | bits (m : Nat)
  | w1c (m : Nat)
  | f (lo hi : Nat)
  | fLim (lim : Nat → Nat)
  | pos
  | nonneg
  | pcp
  | fbMode
  | homing
  | qMod
  | map
  | len (lo hi : Nat)

/-- A row of the dictionary: `count` indexes `idx + stride·n`, `subs` subindexes from `sub`. Roles 0 NONE, 1 OBSERVER,
2 OPERATOR, 3 OWNER, 9 none. -/
structure Row where
  idx : Nat
  count : Nat
  stride : Nat
  sub : Nat
  subs : Nat
  ty : OTy
  acc : Acc
  readRole : Nat
  writeRole : Nat
  dflt : Dflt
  rng : Rng
  flags : Nat

/-- The row with these fields. -/
def r (idx count stride sub subs : Nat) (ty : OTy) (acc : Acc) (rr wr : Nat) (d : Dflt) (g : Rng) (fl : Nat) : Row :=
  ⟨idx, count, stride, sub, subs, ty, acc, rr, wr, d, g, fl⟩

/-- Flag P: persistent. -/
def Row.persistent (w : Row) : Bool := w.flags.testBit 0
/-- Flag S: sealed (R405). -/
def Row.isSealed (w : Row) : Bool := w.flags.testBit 1
/-- Flag M: mappable, and taking effect when written (R443). -/
def Row.mappable (w : Row) : Bool := w.flags.testBit 2

/-- Bytes of a type; 0 for VSTRING and DOMAIN. -/
def OTy.size : OTy → Nat
  | .bool | .i8 | .u8 => 1
  | .i16 | .u16 => 2
  | .i32 | .u32 | .f32 => 4
  | .i64 | .u64 | .q32 | .st64 => 8
  | .lt96 => 12
  | .vstr | .domain => 0

/-- Signed types. -/
def OTy.signed : OTy → Bool
  | .i8 | .i16 | .i32 | .i64 | .q32 => true
  | _ => false

open Obj
def rows1_0 : List Row := [
  r 0x1000 1 1 0x0 1 .u32 .ro 0 9 (.c 0) (.any) 0,
  r 0x1001 1 1 0x0 1 .u8 .ro 1 9 (.c 0) (.any) 4,
  r 0x1008 1 1 0x0 1 .vstr .ro 0 9 (.c 0) (.any) 0,
  r 0x1009 1 1 0x0 1 .vstr .ro 0 9 (.c 0) (.any) 0,
  r 0x100a 1 1 0x0 1 .vstr .ro 0 9 (.c 0) (.any) 0,
  r 0x1010 1 1 0x1 1 .u32 .rw 1 2 (.c 1) (.iv [(0x65766173,0x65766173)]) 0,
  r 0x1011 1 1 0x1 1 .u32 .rw 1 2 (.c 1) (.iv [(0x64616F6C,0x64616F6C)]) 0,
  r 0x1018 1 1 0x1 1 .u32 .ro 0 9 (.c 0x5e71) (.any) 0,
  r 0x1018 1 1 0x2 1 .u32 .ro 0 9 (.c 0x48160001) (.any) 0,
  r 0x1018 1 1 0x3 1 .u32 .ro 0 9 (.c 0x42000000) (.any) 0,
  r 0x1018 1 1 0x4 1 .u32 .ro 0 9 (.c 0) (.any) 0,
  r 0x1018 1 1 0x5 1 .u64 .ro 0 9 (.c 0) (.any) 0,
  r 0x1200 4 1 0x1 1 .u32 .rw 1 3 (.node 0x600) (.bits 0x3fffffff) 1,
  r 0x1200 4 1 0x2 1 .u32 .rw 1 3 (.node 0x580) (.bits 0x3fffffff) 1,
  r 0x1400 16 1 0x1 1 .u32 .rw 1 2 (.lin 0x80000200 1) (.bits 0xbfffffff) 1,
  r 0x1400 16 1 0x10 1 .u8 .rw 1 2 (.c 0) (.iv [(0,3)]) 1,
  r 0x1400 16 1 0x11 1 .u32 .rw 1 2 (.c 0) (.iv [(0,100000000)]) 1,
  r 0x1400 16 1 0x12 1 .u32 .rw 1 2 (.c 0) (.iv [(0,10000000)]) 1,
  r 0x1400 16 1 0x13 1 .u8 .rw 1 2 (.c 0) (.iv [(0,1)]) 1,
  r 0x1600 16 1 0x0 1 .u8 .rw 1 2 (.c 0) (.iv [(0,32)]) 1,
  r 0x1600 16 1 0x1 32 .u32 .rw 1 2 (.c 0) (.map) 1,
  r 0x1800 16 1 0x1 1 .u32 .rw 1 2 (.lin 0x80000180 1) (.bits 0xbfffffff) 1,
  r 0x1800 16 1 0x2 1 .u8 .rw 1 2 (.c 0xfe) (.iv [(0xfe,0xff)]) 1,
  r 0x1800 16 1 0x3 1 .u16 .rw 1 2 (.c 0) (.any) 1]

def rows1_1 : List Row := [
  r 0x1800 16 1 0x10 1 .u8 .rw 1 2 (.c 0) (.iv [(0,3)]) 1,
  r 0x1800 16 1 0x11 1 .u32 .rw 1 2 (.c 0xf4240) (.iv [(62500,1000000000)]) 1,
  r 0x1800 16 1 0x12 1 .u32 .rw 1 2 (.c 0) (.any) 1,
  r 0x1a00 16 1 0x0 1 .u8 .rw 1 2 (.c 0) (.iv [(0,32)]) 1,
  r 0x1a00 16 1 0x1 32 .u32 .rw 1 2 (.c 0) (.map) 1,
  r 0x1c00 8 1 0x1 1 .bool .rw 1 2 (.c 0) (.iv [(0,1)]) 1,
  r 0x1c00 8 1 0x2 1 .u16 .rw 1 2 (.c 0) (.iv [(0,65535)]) 1,
  r 0x1c00 8 1 0x3 1 .u32 .rw 1 2 (.c 0) (.iv [(0,100000000)]) 1,
  r 0x1c00 8 1 0x4 1 .u32 .rw 1 2 (.c 0) (.iv [(0,10000000)]) 1,
  r 0x1c00 8 1 0x5 1 .u8 .rw 1 2 (.c 0) (.iv [(0,1)]) 1,
  r 0x1c80 8 1 0x0 1 .u8 .rw 1 2 (.c 0) (.iv [(0,64)]) 1,
  r 0x1c80 8 1 0x1 64 .u32 .rw 1 2 (.c 0) (.map) 1,
  r 0x1d00 8 1 0x1 1 .bool .rw 1 2 (.c 0) (.iv [(0,1)]) 1,
  r 0x1d00 8 1 0x2 1 .u16 .rw 1 2 (.c 0) (.iv [(0,65535)]) 1,
  r 0x1d00 8 1 0x3 1 .u64 .rw 1 2 (.c 0x4b715e03) (.bits 0xffffffffffff) 1,
  r 0x1d00 8 1 0x4 1 .u32 .rw 1 2 (.c 0xf4240) (.iv [(62500,1000000000)]) 1,
  r 0x1d00 8 1 0x5 1 .u32 .rw 1 2 (.c 0) (.any) 1,
  r 0x1d00 8 1 0x6 1 .u16 .rw 1 2 (.c 0) (.any) 1,
  r 0x1d80 8 1 0x0 1 .u8 .rw 1 2 (.c 0) (.iv [(0,64)]) 1,
  r 0x1d80 8 1 0x1 64 .u32 .rw 1 2 (.c 0) (.map) 1,
  r 0x1e00 1 1 0x1 1 .u16 .rw 1 2 (.c 0x88b6) (.iv [(0x600,0x7ff), (0x801,0x805), (0x807,0x80ff), (0x8101,0x88f6), (0x88f8,0xffff)]) 1,
  r 0x1e00 1 1 0x2 1 .u32 .ro 1 9 (.c 0) (.any) 0,
  r 0x1e00 1 1 0x3 1 .u32 .ro 1 9 (.c 0) (.any) 0,
  r 0x1e00 1 1 0x4 1 .u32 .ro 1 9 (.c 0) (.any) 0]

def rows1_2 : List Row := [
  r 0x1e00 1 1 0x5 1 .u32 .ro 1 9 (.c 0) (.any) 0,
  r 0x1e00 1 1 0x6 1 .u32 .ro 1 9 (.c 0) (.any) 0,
  r 0x1e00 1 1 0x7 1 .u32 .ro 1 9 (.c 0) (.any) 0,
  r 0x1e00 1 1 0x8 1 .u32 .w1c 1 2 (.c 0) (.w1c 0xffffff) 4,
  r 0x1f10 1 1 0x1 1 .u8 .wo 9 2 (.c 0) (.iv [(1,3)]) 0,
  r 0x1f11 1 1 0x1 1 .u8 .w1s 1 2 (.c 0) (.bits 0x1) 0,
  r 0x1f11 1 1 0x2 1 .u8 .ro 1 9 (.c 0) (.any) 0,
  r 0x1f11 1 1 0x3 1 .u32 .ro 1 9 (.c 0) (.any) 0,
  r 0x1f11 1 1 0x4 1 .bool .ro 1 9 (.c 0) (.any) 4,
  r 0x1f11 1 1 0x5 1 .u32 .ro 1 9 (.c 0) (.any) 0,
  r 0x1f20 4 1 0x1 1 .domain .rw 0 0 (.c 0) (.any) 0]

/-- The objects of indexes 1xxx. -/
def rows1 : List Row := rows1_0 ++ rows1_1 ++ rows1_2

def rows20_0 : List Row := [
  r 0x2000 1 1 0x1 1 .u8 .ro 1 9 (.c 0) (.any) 4,
  r 0x2000 1 1 0x2 1 .u8 .ro 1 9 (.c 0) (.any) 0,
  r 0x2000 1 1 0x3 1 .u32 .ro 1 9 (.c 0) (.any) 0,
  r 0x2000 1 1 0x4 1 .u32 .wo 9 2 (.c 0) (.iv [(0x74657372,0x74657372)]) 0,
  r 0x2000 1 1 0x5 1 .bool .rw 1 2 (.c 0) (.iv [(0,1)]) 1,
  r 0x2000 1 1 0x6 1 .bool .ro 1 9 (.c 0) (.any) 4,
  r 0x2000 1 1 0x7 1 .u32 .ro 1 9 (.c 0) (.any) 0,
  r 0x2000 1 1 0x8 1 .u8 .ro 1 9 (.c 0) (.any) 4,
  r 0x2001 1 1 0x1 1 .f32 .ro 1 9 (.c 0) (.any) 4,
  r 0x2001 1 1 0x2 1 .f32 .ro 1 9 (.c 0) (.any) 4,
  r 0x2001 1 1 0x3 1 .f32 .ro 1 9 (.c 0) (.any) 4,
  r 0x2001 1 1 0x4 1 .f32 .ro 1 9 (.c 0) (.any) 4,
  r 0x2001 1 1 0x5 1 .f32 .ro 1 9 (.c 0) (.any) 4,
  r 0x2001 1 1 0x6 1 .f32 .ro 1 9 (.c 0) (.any) 0,
  r 0x2001 1 1 0x7 1 .u16 .w1c 1 2 (.c 0) (.w1c 0x1e) 4,
  r 0x2001 1 1 0x8 1 .f32 .ro 1 9 (.c 0) (.any) 4,
  r 0x2001 1 1 0x9 1 .f32 .ro 1 9 (.c 0) (.any) 0,
  r 0x2001 1 1 0xa 1 .u32 .ro 1 9 (.c 0) (.any) 0,
  r 0x2002 1 1 0x1 1 .u8 .ro 1 9 (.c 0) (.any) 4,
  r 0x2002 1 1 0x2 1 .f32 .ro 1 9 (.c 0) (.any) 0,
  r 0x2002 1 1 0x3 1 .lt96 .ro 1 9 (.c 0) (.any) 0,
  r 0x2003 1 1 0x1 1 .u8 .rw 1 3 (.c 0) (.iv [(0,1)]) 3,
  r 0x2003 1 1 0x2 1 .f32 .rw 1 3 (.c 0x43660000) (.f 0x42aa0000 0x43bb8000) 3,
  r 0x2003 1 1 0x3 1 .f32 .rw 1 3 (.c 0x3f333333) (.f 0x3f000000 0x3f666666) 3]

def rows20_1 : List Row := [
  r 0x2003 1 1 0x4 1 .u32 .rw 1 3 (.c 0x3e8) (.iv [(200,2000)]) 3,
  r 0x2003 1 1 0x5 1 .f32 .rw 1 3 (.c 0x3f59999a) (.f 0x3f000000 0x3f800000) 3,
  r 0x2003 1 1 0x6 1 .u32 .rw 1 3 (.c 0x14) (.iv [(1,10000)]) 3,
  r 0x2003 1 1 0x7 1 .f32 .rw 1 3 (.c 0x3f800000) (.f 0x3f800000 0x41000000) 3,
  r 0x2003 1 1 0x8 1 .u8 .ro 1 9 (.c 0) (.any) 4,
  r 0x2003 1 1 0x9 1 .f32 .ro 1 9 (.c 0) (.any) 4,
  r 0x2003 1 1 0xa 1 .f32 .ro 1 9 (.c 0) (.any) 0,
  r 0x2003 1 1 0xb 1 .f32 .ro 1 9 (.c 0) (.any) 4,
  r 0x2003 1 1 0xc 1 .u8 .w1c 1 2 (.c 0) (.w1c 0x30) 4,
  r 0x2003 1 1 0xd 1 .u32 .ro 1 9 (.c 0) (.any) 0,
  r 0x2003 1 1 0xe 1 .st64 .ro 1 9 (.c 0) (.any) 0,
  r 0x2004 1 1 0x1 1 .bool .rw 1 2 (.c 1) (.iv [(0,1)]) 1,
  r 0x2004 1 1 0x2 1 .f32 .ro 1 9 (.c 0) (.any) 4,
  r 0x2004 1 1 0x3 1 .f32 .ro 1 9 (.c 0) (.any) 4,
  r 0x2004 1 1 0x4 1 .u32 .wo 9 2 (.c 0) (.iv [(0x70656C73,0x70656C73)]) 0,
  r 0x2004 1 1 0x5 1 .u8 .rw 1 2 (.c 1) (.bits 0xf) 1,
  r 0x2004 1 1 0x6 1 .u8 .rw 1 2 (.c 0) (.iv [(0,1)]) 1,
  r 0x2004 1 1 0x7 4 .u32 .rw 1 2 (.c 0) (.iv [(0,2147483647)]) 1,
  r 0x2004 1 1 0xb 1 .lt96 .rw 1 2 (.c 0) (.any) 1,
  r 0x2004 1 1 0xc 1 .u8 .ro 1 9 (.c 0) (.any) 0,
  r 0x2004 1 1 0xd 1 .u32 .ro 1 9 (.c 0) (.any) 0,
  r 0x2004 1 1 0xe 1 .u32 .ro 1 9 (.c 0) (.any) 0]

/-- The objects of indexes 20xx. -/
def rows20 : List Row := rows20_0 ++ rows20_1

def rows21_0 : List Row := [
  r 0x2100 1 1 0x1 1 .u8 .ro 1 9 (.c 0) (.any) 4,
  r 0x2100 1 1 0x2 1 .u8 .ro 1 9 (.c 0xff) (.any) 4,
  r 0x2100 1 1 0x3 1 .lt96 .ro 1 9 (.c 0) (.any) 4,
  r 0x2100 1 1 0x4 1 .i64 .ro 1 9 (.c 0) (.any) 4,
  r 0x2100 1 1 0x5 1 .f32 .ro 1 9 (.c 0) (.any) 4,
  r 0x2100 1 1 0x6 1 .bool .ro 1 9 (.c 0) (.any) 4,
  r 0x2101 2 1 0x1 1 .bool .rw 1 2 (.oneMinus) (.iv [(0,1)]) 1,
  r 0x2101 2 1 0x2 1 .u8 .rw 1 2 (.lin 0 1) (.iv [(0,127)]) 1,
  r 0x2101 2 1 0x3 1 .u8 .rw 1 2 (.c 1) (.iv [(1,5)]) 1,
  r 0x2101 2 1 0x4 1 .u8 .rw 1 2 (.c 2) (.iv [(1,2)]) 1,
  r 0x2101 2 1 0x5 1 .u8 .rw 1 2 (.c 1) (.iv [(1,2)]) 1,
  r 0x2101 2 1 0x6 1 .i8 .rw 1 2 (.c 0xfc) (.iv [((-7),0)]) 1,
  r 0x2101 2 1 0x7 1 .i8 .rw 1 2 (.c 0) (.iv [((-3),4)]) 1,
  r 0x2101 2 1 0x8 1 .i8 .rw 1 2 (.c 0xfc) (.iv [((-7),5)]) 1,
  r 0x2101 2 1 0x9 1 .u8 .rw 1 2 (.c 0x80) (.iv [(0,255)]) 1,
  r 0x2101 2 1 0xa 1 .u8 .rw 1 2 (.c 0x80) (.iv [(0,255)]) 1,
  r 0x2101 2 1 0xb 1 .bool .rw 1 2 (.c 0) (.iv [(0,1)]) 1,
  r 0x2101 2 1 0xc 1 .f32 .rw 1 3 (.c 0x3851b717) (.f 0x358637bd 0x3951b717) 3,
  r 0x2101 2 1 0xd 1 .u32 .rw 1 3 (.c 0x3e8) (.iv [(10,1000000)]) 3,
  r 0x2101 2 1 0xe 1 .bool .rw 1 3 (.c 1) (.iv [(0,1)]) 3,
  r 0x2101 2 1 0xf 1 .u8 .ro 1 9 (.c 0) (.any) 4,
  r 0x2101 2 1 0x10 1 .i64 .ro 1 9 (.c 0) (.any) 0,
  r 0x2101 2 1 0x11 1 .f32 .ro 1 9 (.c 0) (.any) 0,
  r 0x2101 2 1 0x12 1 .u64 .ro 1 9 (.c 0) (.any) 0]

def rows21_1 : List Row := [
  r 0x2101 2 1 0x13 1 .u16 .ro 1 9 (.c 0) (.any) 0,
  r 0x2101 2 1 0x14 1 .u8 .ro 1 9 (.c 1) (.any) 0,
  r 0x2101 2 1 0x15 1 .u8 .ro 1 9 (.c 1) (.any) 0,
  r 0x2101 2 1 0x16 1 .u32 .ro 1 9 (.c 0) (.any) 0,
  r 0x2101 2 1 0x17 1 .i64 .ro 1 9 (.c 0) (.any) 0,
  r 0x2101 2 1 0x18 1 .u16 .rw 1 2 (.c 0xa) (.iv [(1,600)]) 1,
  r 0x2101 2 1 0x19 1 .u32 .ro 1 9 (.c 0) (.any) 0,
  r 0x2103 1 1 0x1 1 .u8 .rw 1 2 (.c 0) (.iv [(0,1)]) 1,
  r 0x2103 1 1 0x2 1 .bool .rw 1 2 (.c 1) (.iv [(0,1)]) 1,
  r 0x2103 1 1 0x3 1 .u32 .rw 1 2 (.c 0x3e8) (.iv [(0,1000000)]) 1,
  r 0x2103 1 1 0x4 1 .bool .rw 1 3 (.c 0) (.iv [(0,1)]) 3,
  r 0x2103 1 1 0x5 1 .u8 .wo 9 2 (.c 0) (.iv [(0,1)]) 0,
  r 0x2103 1 1 0x6 1 .u32 .ro 1 9 (.c 0) (.any) 0,
  r 0x2103 1 1 0x7 1 .f32 .rw 1 2 (.c 0x3f000000) (.f 0x3c23d70a 0x3f800000) 1,
  r 0x2103 1 1 0x8 1 .f32 .rw 1 2 (.c 0x3d000000) (.f 0x0 0x3e800000) 1,
  r 0x2104 1 1 0x1 1 .bool .rw 1 2 (.c 1) (.iv [(0,1)]) 1,
  r 0x2104 1 1 0x2 1 .u8 .ro 1 9 (.c 0) (.any) 0,
  r 0x2104 1 1 0x3 1 .f32 .ro 1 9 (.c 0) (.any) 0,
  r 0x2104 1 1 0x4 1 .u8 .ro 1 9 (.c 0) (.any) 0,
  r 0x2105 1 1 0x1 1 .u64 .ro 1 9 (.c 0x100000000) (.any) 0,
  r 0x2105 1 1 0x2 1 .lt96 .ro 1 9 (.c 0) (.any) 0,
  r 0x2105 1 1 0x3 1 .u32 .ro 1 9 (.c 0) (.any) 0,
  r 0x2106 1 1 0x1 1 .bool .rw 1 2 (.c 0) (.iv [(0,1)]) 1,
  r 0x2106 1 1 0x2 1 .st64 .ro 1 9 (.c 0) (.any) 4]

def rows21_2 : List Row := [
  r 0x2106 1 1 0x3 1 .u64 .wo 9 2 (.c 0) (.iv [(0,281474976710655)]) 0,
  r 0x2106 1 1 0x4 1 .i32 .rw 1 2 (.c 0) (.iv [((-1000000),1000000)]) 1,
  r 0x2106 1 1 0x5 1 .bool .rw 1 2 (.c 0) (.iv [(0,1)]) 1,
  r 0x2106 1 1 0x6 1 .u32 .rw 1 2 (.c 0x5f5e100) (.iv [(1000,500000000)]) 1,
  r 0x2106 1 1 0x7 1 .i32 .rw 1 2 (.c 0) (.iv [((-500000000),499999999)]) 1,
  r 0x2107 1 1 0x1 4 .lt96 .rw 1 2 (.c 0) (.any) 0,
  r 0x2107 1 1 0x5 1 .u8 .rw 1 2 (.c 0) (.bits 0xf) 0,
  r 0x2107 1 1 0x6 1 .u8 .rc 1 9 (.c 0) (.any) 4,
  r 0x2108 1 1 0x1 1 .u8 .rw 1 2 (.c 6) (.bits 0x6) 1,
  r 0x2108 1 1 0x2 1 .u16 .rw 1 2 (.c 0xa940) (.pcp) 1,
  r 0x2108 1 1 0x3 1 .u8 .rw 1 2 (.c 7) (.bits 0x7) 1,
  r 0x2108 1 1 0x4 1 .u8 .ro 1 9 (.c 0) (.any) 4,
  r 0x2108 1 1 0x5 1 .u16 .rw 1 2 (.c 0x8a52) (.iv [(1024,65535)]) 1,
  r 0x2108 1 1 0x6 1 .u16 .rw 1 2 (.c 0x88b5) (.iv [(0x600,0x7ff), (0x801,0x805), (0x807,0x80ff), (0x8101,0x88f6), (0x88f8,0xffff)]) 1,
  r 0x2108 1 1 0x7 1 .u64 .rw 1 2 (.c 0x4a715e03) (.bits 0xffffffffffff) 1,
  r 0x2108 1 1 0x8 1 .u32 .rw 1 2 (.c 0) (.any) 1,
  r 0x2108 1 1 0x9 1 .u32 .rw 1 2 (.c 0) (.any) 1,
  r 0x2108 1 1 0xa 1 .u32 .rw 1 2 (.c 0) (.any) 1,
  r 0x2108 1 1 0xb 1 .u64 .ro 1 9 (.c 0) (.any) 0,
  r 0x2108 1 1 0xc 1 .u16 .rw 1 2 (.c 0) (.iv [(0,4094)]) 1,
  r 0x2109 1 1 0x1 12 .u32 .ro 1 9 (.c 0) (.any) 0,
  r 0x2109 1 1 0xd 9 .u32 .ro 1 9 (.c 0) (.any) 0,
  r 0x2109 1 1 0x16 1 .u32 .ro 1 9 (.c 0) (.any) 0,
  r 0x2109 1 1 0x17 1 .u32 .ro 1 9 (.c 0) (.any) 0]

def rows21_3 : List Row := [
  r 0x2109 1 1 0x18 1 .u32 .ro 1 9 (.c 0) (.any) 0,
  r 0x2109 1 1 0x19 1 .u32 .ro 1 9 (.c 0) (.any) 0,
  r 0x2109 1 1 0x1a 1 .u32 .ro 1 9 (.c 0) (.any) 0,
  r 0x210a 1 1 0x1 1 .i32 .rw 1 2 (.c 0) (.iv [((-100000),100000)]) 1,
  r 0x210a 1 1 0x2 1 .i32 .rw 1 2 (.c 0) (.iv [((-100000),100000)]) 1]

/-- The objects of indexes 21xx. -/
def rows21 : List Row := rows21_0 ++ rows21_1 ++ rows21_2 ++ rows21_3

def rows22_0 : List Row := [
  r 0x2200 16 1 0x1 1 .u8 .rw 1 2 (.c 1) (.fbMode) 1,
  r 0x2200 16 1 0x2 1 .u8 .rw 1 2 (.c 0) (.bits 0xf) 1,
  r 0x2200 16 1 0x3 1 .u8 .rw 1 2 (.c 0xa) (.iv [(0,255)]) 1,
  r 0x2200 16 1 0x4 1 .u8 .rw 1 2 (.c 0x19) (.iv [(8,48)]) 1,
  r 0x2200 16 1 0x5 1 .u8 .rw 1 2 (.c 1) (.iv [(0,1)]) 1,
  r 0x2200 16 1 0x6 1 .u8 .rw 1 2 (.c 0) (.iv [(0,2)]) 1,
  r 0x2200 16 1 0x7 1 .u8 .rw 1 2 (.c 0) (.iv [(0,2)]) 1,
  r 0x2200 16 1 0x8 1 .u32 .rw 1 2 (.c 0x1e8480) (.iv [(100000,10000000)]) 1,
  r 0x2200 16 1 0x9 1 .u32 .rw 1 2 (.c 0x4e20) (.iv [(1000,100000)]) 1,
  r 0x2200 16 1 0xa 1 .u16 .rw 1 2 (.c 0) (.iv [(0,2000)]) 1,
  r 0x2200 16 1 0xb 1 .u16 .rw 1 2 (.c 0) (.iv [(0,10000)]) 1,
  r 0x2200 16 1 0xc 1 .u32 .rw 1 2 (.c 0x3e8) (.iv [(0,60000)]) 1,
  r 0x2200 16 1 0xd 1 .u32 .rw 1 2 (.c 4) (.iv [(1,65536)]) 1,
  r 0x2200 16 1 0xe 1 .u32 .rw 1 2 (.c 2) (.iv [(0,65535)]) 1,
  r 0x2200 16 1 0xf 1 .bool .rw 1 2 (.c 1) (.iv [(0,1)]) 1,
  r 0x2200 16 1 0x10 1 .u8 .ro 1 9 (.c 0) (.any) 0,
  r 0x2200 16 1 0x11 1 .f32 .ro 1 9 (.c 0) (.any) 0,
  r 0x2200 16 1 0x12 1 .f32 .ro 1 9 (.c 0) (.any) 0,
  r 0x2200 16 1 0x13 1 .f32 .ro 1 9 (.c 0x3f800000) (.any) 0,
  r 0x2200 16 1 0x14 1 .f32 .ro 1 9 (.c 0) (.any) 0,
  r 0x2200 16 1 0x15 1 .u16 .w1c 1 2 (.c 0) (.w1c 0x3f8) 4,
  r 0x2200 16 1 0x16 1 .u32 .ro 1 9 (.c 0) (.any) 0,
  r 0x2200 16 1 0x17 1 .u32 .ro 1 9 (.c 0) (.any) 0,
  r 0x2200 16 1 0x18 1 .q32 .ro 1 9 (.c 0) (.any) 4]

def rows22_1 : List Row := [
  r 0x2200 16 1 0x19 1 .st64 .ro 1 9 (.c 0) (.any) 4,
  r 0x2210 1 1 0x1 8 .u8 .rw 1 2 (.c 0x14) (.iv [(0,255)]) 1,
  r 0x2210 1 1 0x9 1 .u8 .rw 1 2 (.c 0) (.bits 0xff) 1,
  r 0x2210 1 1 0xa 1 .u8 .ro 1 9 (.c 0) (.any) 4,
  r 0x2211 1 1 0x1 1 .u8 .rw 1 2 (.c 0) (.bits 0xf) 1,
  r 0x2211 1 1 0x2 4 .i32 .ro 1 9 (.c 0) (.any) 0,
  r 0x2211 1 1 0x6 1 .u8 .ro 1 9 (.c 0) (.any) 0,
  r 0x2220 16 1 0x1 1 .u8 .rw 1 2 (.c 0) (.iv [(0,2)]) 1,
  r 0x2220 16 1 0x2 1 .u8 .rw 1 2 (.c 0) (.iv [(0,7), (0x10,0x1f), (0x20,0x2f), (0x30,0x33), (0x38,0x38), (0x40,0x47), (0x60,0x67)]) 1,
  r 0x2220 16 1 0x3 1 .u8 .rw 1 2 (.c 1) (.iv [(1,3)]) 1,
  r 0x2220 16 1 0x4 4 .u8 .rw 1 2 (.c 0xff) (.iv [(0,31), (255,255)]) 1,
  r 0x2220 16 1 0x8 1 .u8 .rw 1 2 (.c 0) (.iv [(0,2)]) 1,
  r 0x2220 16 1 0x9 1 .q32 .rw 1 2 (.c 0) (.any) 1,
  r 0x2220 16 1 0xa 1 .q32 .rw 1 2 (.c 0) (.any) 1,
  r 0x2220 16 1 0xb 1 .q32 .rw 1 2 (.c 0) (.nonneg) 1,
  r 0x2220 16 1 0xc 1 .bool .rw 1 2 (.c 0) (.iv [(0,1)]) 1,
  r 0x2220 16 1 0xd 1 .u8 .w1s 1 2 (.c 0) (.bits 0x1) 0,
  r 0x2220 16 1 0xe 1 .u8 .ro 1 9 (.c 0) (.any) 4,
  r 0x2220 16 1 0xf 1 .st64 .ro 1 9 (.c 0) (.any) 4,
  r 0x2220 16 1 0x10 4 .q32 .ro 1 9 (.c 0) (.any) 4,
  r 0x2220 16 1 0x14 1 .u8 .ro 1 9 (.c 0xf) (.any) 4,
  r 0x2220 16 1 0x15 1 .u8 .w1s 1 2 (.c 0) (.bits 0x1) 0,
  r 0x2220 16 1 0x16 1 .u32 .ro 1 9 (.c 0) (.any) 0,
  r 0x2220 16 1 0x17 1 .u32 .ro 1 9 (.c 0) (.any) 0]

def rows22_2 : List Row := [
  r 0x2220 16 1 0x18 1 .bool .ro 1 9 (.c 0) (.any) 4,
  r 0x2230 4 1 0x1 1 .u8 .rw 1 2 (.c 0) (.iv [(0,2)]) 1,
  r 0x2230 4 1 0x2 1 .u8 .rw 1 2 (.c 0) (.iv [(0,31)]) 1,
  r 0x2230 4 1 0x3 1 .u32 .rw 1 2 (.c 0x1000) (.iv [(1,1048576)]) 1,
  r 0x2230 4 1 0x4 1 .q32 .rw 1 2 (.c 0) (.nonneg) 1,
  r 0x2230 4 1 0x5 1 .u32 .rw 1 2 (.c 0) (.any) 1,
  r 0x2230 4 1 0x6 1 .u8 .rw 1 2 (.c 0) (.bits 0x3) 1,
  r 0x2230 4 1 0x7 1 .u32 .rw 1 2 (.c 0x989680) (.iv [(1000,10000000)]) 1,
  r 0x2230 4 1 0x8 1 .u8 .rw 1 2 (.c 0x19) (.iv [(8,48)]) 1,
  r 0x2230 4 1 0x9 1 .u8 .rw 1 2 (.c 1) (.iv [(0,1)]) 1,
  r 0x2230 4 1 0xa 1 .u8 .rw 1 2 (.c 0) (.iv [(0,2)]) 1,
  r 0x2230 4 1 0xb 1 .u8 .rw 1 2 (.c 0) (.iv [(0,2)]) 1,
  r 0x2230 4 1 0xc 1 .u32 .rw 1 2 (.c 0x4e20) (.iv [(1000,100000)]) 1,
  r 0x2230 4 1 0xd 1 .u8 .w1c 1 2 (.c 0) (.w1c 0x1) 4,
  r 0x2230 4 1 0xe 1 .u32 .ro 1 9 (.c 0) (.any) 4,
  r 0x2230 4 1 0xf 1 .u32 .ro 1 9 (.c 0) (.any) 0]

/-- The objects of indexes 22xx. -/
def rows22 : List Row := rows22_0 ++ rows22_1 ++ rows22_2

def rows23_0 : List Row := [
  r 0x2300 1 1 0x1 1 .u8 .w1s 1 2 (.c 0) (.bits 0x1) 4,
  r 0x2300 1 1 0x2 1 .u16 .ro 1 9 (.c 0) (.any) 4,
  r 0x2300 1 1 0x3 1 .u32 .ro 1 9 (.c 0) (.any) 0,
  r 0x2300 1 1 0x4 1 .u32 .ro 1 9 (.c 0) (.any) 0,
  r 0x2300 1 1 0x5 1 .u64 .ro 1 9 (.c 0xffffffffffff) (.any) 4,
  r 0x2300 1 1 0x6 1 .u32 .ro 1 9 (.c 0) (.any) 0,
  r 0x2301 1 1 0x1 1 .u8 .ro 1 9 (.c 0) (.any) 0,
  r 0x2301 1 1 0x2 1 .u32 .ro 1 9 (.c 0) (.any) 0,
  r 0x2301 1 1 0x3 1 .f32 .ro 1 9 (.c 0) (.any) 0,
  r 0x2302 1 1 0x1 4 .u8 .rw 1 2 (.c 0x32) (.iv [(40,40), (50,50), (80,80), (100,100), (125,125), (160,160), (200,200)]) 1,
  r 0x2302 1 1 0x5 1 .u8 .ro 1 9 (.c 0) (.any) 0,
  r 0x2303 1 1 0x1 8 .u8 .rw 1 2 (.c 4) (.iv [(0,255)]) 1,
  r 0x2303 1 1 0x9 1 .u8 .rw 1 2 (.c 0) (.bits 0xff) 1,
  r 0x2303 1 1 0xa 1 .u8 .rw 1 2 (.c 0) (.bits 0xff) 1,
  r 0x2303 1 1 0xb 8 .u64 .rw 1 2 (.c 0xffffffffffff) (.bits 0xffffffffffff) 1,
  r 0x2303 1 1 0x13 1 .u8 .w1c 1 2 (.c 0) (.w1c 0xff) 4,
  r 0x2303 1 1 0x14 1 .u8 .ro 1 9 (.c 0) (.any) 4,
  r 0x2304 1 1 0x1 1 .u32 .w1c 1 2 (.c 0) (.w1c 0xffffffff) 4,
  r 0x2304 1 1 0x2 1 .u32 .w1c 1 2 (.c 0) (.w1c 0xffffffff) 4,
  r 0x2310 48 1 0x1 1 .u8 .rw 1 2 (.c 0) (.iv [(0,0), (2,2)]) 1,
  r 0x2310 48 1 0x2 1 .u8 .rw 1 2 (.div3) (.iv [(0,15)]) 1,
  r 0x2310 48 1 0x3 1 .u16 .rw 1 2 (.c 0xfa0) (.iv [(0,65535)]) 1,
  r 0x2310 48 1 0x4 1 .u16 .rw 1 2 (.c 0xfa0) (.iv [(0,65535)]) 1,
  r 0x2310 48 1 0x5 1 .u8 .rw 1 2 (.c 0) (.bits 0x3) 1]

def rows23_1 : List Row := [
  r 0x2310 48 1 0x6 1 .u32 .rw 1 2 (.c 0) (.iv [(0,4294967295)]) 4,
  r 0x2310 48 1 0x7 1 .u32 .ro 1 9 (.c 0) (.any) 4,
  r 0x2310 48 1 0x8 1 .bool .rw 1 2 (.c 0) (.iv [(0,1)]) 4,
  r 0x2340 16 1 0x1 1 .u32 .rw 1 2 (.c 0x61a80) (.iv [(40000,4000000)]) 1,
  r 0x2340 16 1 0x2 1 .u32 .rw 1 2 (.c 0) (.any) 1,
  r 0x2340 16 1 0x3 1 .u8 .rw 1 2 (.c 0) (.iv [(0,1)]) 1,
  r 0x2340 16 1 0x4 1 .bool .rw 1 2 (.c 1) (.iv [(0,1)]) 1,
  r 0x2340 16 1 0x5 1 .u32 .rw 1 2 (.c 0x7d0) (.any) 1,
  r 0x2340 16 1 0x6 1 .bool .rw 1 2 (.c 0) (.iv [(0,1)]) 1,
  r 0x2340 16 1 0x7 1 .u32 .rw 1 2 (.c 0x61a80) (.iv [(40000,4000000)]) 4,
  r 0x2340 16 1 0x8 1 .u32 .ro 1 9 (.c 0x61a80) (.any) 0,
  r 0x2360 32 1 0x1 1 .f32 .rw 1 2 (.c 0x42480000) (.f 0xc61c4000 0x461c4000) 1,
  r 0x2360 32 1 0x2 1 .f32 .rw 1 2 (.c 0) (.f 0xc47a0000 0x447a0000) 1,
  r 0x2360 32 1 0x3 1 .u8 .rw 1 2 (.c 0) (.iv [(0,31)]) 1,
  r 0x2360 32 1 0x4 1 .u8 .rw 1 2 (.c 0x10) (.iv [(8,32)]) 1,
  r 0x2360 32 1 0x5 1 .f32 .rw 1 2 (.c 0x42200000) (.f 0xc61c4000 0x461c4000) 1,
  r 0x2360 32 1 0x6 1 .f32 .rw 1 2 (.c 0xc2200000) (.f 0xc61c4000 0x461c4000) 1,
  r 0x2360 32 1 0x7 1 .u8 .rw 1 2 (.c 2) (.iv [(1,16)]) 1,
  r 0x2360 32 1 0x8 1 .f32 .ro 1 9 (.c 0) (.any) 4]

/-- The objects of indexes 23xx. -/
def rows23 : List Row := rows23_0 ++ rows23_1

def rows24_0 : List Row := [
  r 0x2400 1 1 0x1 1 .u8 .ro 1 9 (.c 0) (.any) 0,
  r 0x2400 1 1 0x2 1 .u8 .ro 1 9 (.c 0xff) (.any) 0,
  r 0x2400 1 1 0x3 1 .u8 .ro 1 9 (.c 0xff) (.any) 0,
  r 0x2400 1 1 0x4 1 .u32 .ro 1 9 (.c 0) (.any) 0,
  r 0x2400 1 1 0x5 1 .u32 .rw 1 2 (.c 0x7a120) (.iv [(500000,8000000)]) 1,
  r 0x2400 1 1 0x6 1 .u32 .rw 1 2 (.c 0) (.any) 1,
  r 0x2400 1 1 0x7 1 .u8 .w1s 1 2 (.c 0) (.bits 0x1) 0,
  r 0x2400 1 1 0x8 1 .f32 .ro 1 9 (.c 0x3f59999a) (.any) 0,
  r 0x2401 1 1 0x1 4 .f32 .ro 1 9 (.c 0) (.any) 0,
  r 0x2401 1 1 0x5 4 .u16 .ro 1 9 (.c 0) (.any) 0,
  r 0x2401 1 1 0x9 4 .u32 .ro 1 9 (.c 0) (.any) 0,
  r 0x2402 1 1 0x1 11 .u32 .ro 1 9 (.cost) (.any) 0,
  r 0x2410 32 1 0x1 1 .u8 .rw 1 2 (.c 0xff) (.iv [(0,3), (255,255)]) 1,
  r 0x2410 32 1 0x2 1 .u8 .rw 1 2 (.c 1) (.bits 0x3f) 1,
  r 0x2410 32 1 0x3 1 .u8 .ro 1 9 (.c 0xff) (.any) 0,
  r 0x2410 32 1 0x4 1 .f32 .ro 1 9 (.c 0) (.any) 0,
  r 0x2410 32 1 0x5 1 .u32 .ro 1 9 (.c 0) (.any) 0,
  r 0x2410 32 1 0x6 1 .u32 .ro 1 9 (.c 0) (.any) 0]

/-- The objects of indexes 24xx. -/
def rows24 : List Row := rows24_0

def rows25_0 : List Row := [
  r 0x2500 4 1 0x1 1 .bool .rw 1 2 (.c 0) (.iv [(0,1)]) 1,
  r 0x2500 4 1 0x2 1 .u8 .rw 1 2 (.c 0) (.iv [(0,255)]) 1,
  r 0x2500 4 1 0x3 1 .u8 .rw 1 2 (.c 0x10) (.iv [(16,31)]) 1,
  r 0x2500 4 1 0x4 1 .u32 .rw 1 2 (.c 0xf4240) (.iv [(62500,100000000)]) 1,
  r 0x2500 4 1 0x5 1 .u32 .rw 1 2 (.c 0) (.any) 1,
  r 0x2500 4 1 0x6 1 .u32 .rw 1 2 (.c 0x1e8480) (.iv [(62500,100000000)]) 1,
  r 0x2500 4 1 0x7 1 .u32 .rw 1 2 (.c 0x2dc6c0) (.iv [(1000,4294967295)]) 1,
  r 0x2500 4 1 0x8 1 .u16 .rw 1 2 (.c 0) (.any) 1,
  r 0x2500 4 1 0x9 1 .u8 .rw 1 2 (.c 1) (.bits 0x3) 1,
  r 0x2500 4 1 0xa 1 .u8 .rw 1 2 (.c 0) (.iv [(0,3)]) 1,
  r 0x2500 4 1 0xb 1 .u32 .rw 1 2 (.c 0x100) (.bits 0x9fffffff) 1,
  r 0x2500 4 1 0xc 1 .u32 .ro 1 9 (.c 0) (.any) 4,
  r 0x2500 4 1 0xd 1 .u8 .ro 1 9 (.c 0) (.any) 4,
  r 0x2500 4 1 0xe 1 .u32 .ro 1 9 (.c 0) (.any) 0,
  r 0x2500 4 1 0xf 1 .bool .rw 1 3 (.c 0) (.iv [(0,1)]) 3,
  r 0x2500 4 1 0x10 1 .q32 .rw 1 3 (.c 0x2faf08000000000) (.pos) 3,
  r 0x2510 8 1 0x1 1 .bool .rw 1 2 (.c 0) (.iv [(0,1)]) 1,
  r 0x2510 8 1 0x2 1 .u8 .rw 1 2 (.c 0) (.iv [(0,255)]) 1,
  r 0x2510 8 1 0x3 1 .u8 .rw 1 2 (.c 1) (.iv [(1,2)]) 1,
  r 0x2510 8 1 0x4 1 .u8 .rw 1 2 (.c 0) (.iv [(0,3)]) 1,
  r 0x2510 8 1 0x5 1 .u32 .rw 1 2 (.c 0x100) (.bits 0x9fffffff) 1,
  r 0x2510 8 1 0x6 1 .u32 .rw 1 2 (.c 0x989680) (.iv [(100000,1000000000)]) 1,
  r 0x2510 8 1 0x7 1 .q32 .rw 1 3 (.c 0x5f5e10000000000) (.pos) 3,
  r 0x2510 8 1 0x8 1 .q32 .rw 1 3 (.c 0x3b9aca0000000000) (.pos) 3]

def rows25_1 : List Row := [
  r 0x2510 8 1 0x9 1 .q32 .rw 1 3 (.c 0x7735940000000000) (.pos) 3,
  r 0x2510 8 1 0xa 1 .q32 .rw 1 3 (.c 0x6400000000) (.pos) 3,
  r 0x2510 8 1 0xb 1 .q32 .rw 1 3 (.c 0x186a000000000) (.pos) 3,
  r 0x2510 8 1 0xc 1 .u32 .rw 1 3 (.c 0x4c4b40) (.iv [(0,1000000000)]) 3,
  r 0x2510 8 1 0xd 1 .q32 .rw 1 3 (.c 0x98968000000000) (.pos) 3,
  r 0x2510 8 1 0xe 1 .u32 .rw 1 3 (.c 0x989680) (.iv [(1000000,1000000000)]) 3,
  r 0x2510 8 1 0xf 1 .u8 .ro 1 9 (.c 0) (.any) 4,
  r 0x2510 8 1 0x10 1 .u32 .ro 1 9 (.c 0) (.any) 0,
  r 0x2510 8 1 0x11 1 .lt96 .ro 1 9 (.c 0) (.any) 0,
  r 0x2510 8 1 0x12 1 .q32 .ro 1 9 (.c 0) (.any) 4,
  r 0x2510 8 1 0x13 1 .q32 .ro 1 9 (.c 0) (.any) 4,
  r 0x2510 8 1 0x14 1 .u32 .ro 1 9 (.c 0) (.any) 0,
  r 0x2510 8 1 0x15 1 .u32 .ro 1 9 (.c 0) (.any) 0,
  r 0x2510 8 1 0x16 1 .u32 .ro 1 9 (.c 0) (.any) 0,
  r 0x2510 8 1 0x17 1 .u32 .ro 1 9 (.c 0) (.any) 0,
  r 0x2510 8 1 0x18 1 .u32 .ro 1 9 (.c 0) (.any) 0,
  r 0x2510 8 1 0x19 1 .u32 .ro 1 9 (.c 0) (.any) 0,
  r 0x2510 8 1 0x1a 1 .u32 .ro 1 9 (.c 0) (.any) 0,
  r 0x2510 8 1 0x1b 1 .u32 .ro 1 9 (.c 0) (.any) 0,
  r 0x2510 8 1 0x1c 1 .st64 .ro 1 9 (.c 0) (.any) 0,
  r 0x2530 1 1 0x1 1 .u32 .ro 1 9 (.c 0) (.any) 0,
  r 0x2530 1 1 0x2 1 .u32 .ro 1 9 (.c 0) (.any) 0]

/-- The objects of indexes 25xx. -/
def rows25 : List Row := rows25_0 ++ rows25_1

def rows26_0 : List Row := [
  r 0x2600 1 1 0x1 1 .bool .rw 1 2 (.c 1) (.iv [(0,1)]) 1,
  r 0x2600 1 1 0x2 1 .f32 .ro 1 9 (.c 0) (.any) 4,
  r 0x2600 1 1 0x3 1 .u8 .w1c 1 2 (.c 0) (.w1c 0x6) 4,
  r 0x2601 1 1 0x1 1 .u16 .ro 1 9 (.c 0) (.any) 4,
  r 0x2601 1 1 0x2 1 .u8 .rw 1 2 (.c 3) (.bits 0x3) 1,
  r 0x2601 1 1 0x3 1 .u16 .rw 1 2 (.c 0) (.bits 0xffff) 1,
  r 0x2601 1 1 0x4 1 .u16 .rw 1 2 (.c 0) (.bits 0xffff) 1,
  r 0x2601 1 1 0x5 1 .u16 .rw 1 2 (.c 0x64) (.iv [(10,10000)]) 1,
  r 0x2601 1 1 0x6 1 .u16 .ro 1 9 (.c 0) (.any) 4,
  r 0x2601 1 1 0x7 1 .u16 .w1c 1 2 (.c 0) (.w1c 0xffff) 4,
  r 0x2610 1 1 0x1 16 .u16 .rw 1 2 (.c 0x64) (.iv [(1,10000)]) 1,
  r 0x2611 1 1 0x1 16 .st64 .ro 1 9 (.c 0) (.any) 4,
  r 0x2620 1 1 0x1 1 .u8 .rw 1 2 (.c 0) (.bits 0xff) 4,
  r 0x2620 1 1 0x2 1 .u8 .ro 1 9 (.c 0) (.any) 4,
  r 0x2620 1 1 0x3 1 .u8 .rw 1 3 (.c 0) (.bits 0xff) 3,
  r 0x2620 1 1 0x4 1 .u8 .rw 1 2 (.c 0) (.bits 0xff) 1,
  r 0x2620 1 1 0x5 1 .u8 .w1c 1 2 (.c 0) (.w1c 0xff) 4,
  r 0x2620 1 1 0x6 1 .u8 .w1c 1 2 (.c 0) (.w1c 0xff) 4,
  r 0x2620 1 1 0x7 1 .u32 .ro 1 9 (.c 0) (.any) 0,
  r 0x2621 1 1 0x1 8 .f32 .ro 1 9 (.c 0) (.any) 4,
  r 0x2630 4 1 0x1 1 .u8 .rw 1 2 (.c 0) (.iv [(0,2)]) 1,
  r 0x2630 4 1 0x2 1 .u32 .rw 1 2 (.c 0xfa0) (.iv [(1000,1000), (2000,2000), (4000,4000), (8000,8000), (16000,16000), (32000,32000)]) 1,
  r 0x2630 4 1 0x3 1 .f32 .rw 1 2 (.c 0x3f800000) (.f 0xce6e6b28 0x4e6e6b28) 1,
  r 0x2630 4 1 0x4 1 .f32 .rw 1 2 (.c 0) (.f 0xce6e6b28 0x4e6e6b28) 1]

def rows26_1 : List Row := [
  r 0x2630 4 1 0x5 1 .f32 .ro 1 9 (.c 0) (.any) 4,
  r 0x2630 4 1 0x6 1 .f32 .ro 1 9 (.c 0) (.any) 4,
  r 0x2630 4 1 0x7 1 .st64 .ro 1 9 (.c 0) (.any) 4,
  r 0x2630 4 1 0x8 1 .u8 .w1c 1 2 (.c 0) (.w1c 0xc) 4,
  r 0x2630 4 1 0x9 1 .u32 .ro 1 9 (.c 0x3e418) (.any) 0]

/-- The objects of indexes 26xx. -/
def rows26 : List Row := rows26_0 ++ rows26_1

def rows27_0 : List Row := [
  r 0x2700 4 1 0x1 1 .u8 .rw 1 2 (.c 0) (.iv [(0,2)]) 1,
  r 0x2700 4 1 0x2 1 .u8 .rw 1 2 (.c 1) (.iv [(1,127)]) 1,
  r 0x2700 4 1 0x3 1 .bool .rw 1 2 (.c 1) (.iv [(0,1)]) 1,
  r 0x2700 4 1 0x4 1 .u16 .rw 1 2 (.c 1) (.iv [(1,256)]) 1,
  r 0x2700 4 1 0x5 1 .u16 .rw 1 2 (.c 0x1f) (.iv [(2,256)]) 1,
  r 0x2700 4 1 0x6 1 .u8 .rw 1 2 (.c 8) (.iv [(1,128)]) 1,
  r 0x2700 4 1 0x7 1 .u8 .rw 1 2 (.c 8) (.iv [(1,128)]) 1,
  r 0x2700 4 1 0x8 1 .u8 .rw 1 2 (.c 1) (.iv [(1,32)]) 1,
  r 0x2700 4 1 0x9 1 .u8 .rw 1 2 (.c 5) (.iv [(1,32)]) 1,
  r 0x2700 4 1 0xa 1 .u8 .rw 1 2 (.c 2) (.iv [(1,16)]) 1,
  r 0x2700 4 1 0xb 1 .u8 .rw 1 2 (.c 2) (.iv [(1,16)]) 1,
  r 0x2700 4 1 0xc 1 .bool .rw 1 2 (.c 1) (.iv [(0,1)]) 1,
  r 0x2700 4 1 0xd 1 .u8 .rw 1 2 (.c 6) (.iv [(0,127)]) 1,
  r 0x2700 4 1 0xe 1 .u16 .rw 1 2 (.c 0) (.iv [(0,1000)]) 1,
  r 0x2700 4 1 0xf 1 .u8 .rw 1 2 (.c 3) (.iv [(1,255)]) 1,
  r 0x2700 4 1 0x10 1 .bool .rw 1 2 (.c 1) (.iv [(0,1)]) 1,
  r 0x2704 4 1 0x1 1 .u16 .w1c 1 2 (.c 0) (.w1c 0x60) 4,
  r 0x2704 4 1 0x2 1 .u8 .ro 1 9 (.c 0) (.any) 4,
  r 0x2704 4 1 0x3 1 .u8 .ro 1 9 (.c 0) (.any) 4,
  r 0x2704 4 1 0x4 1 .u8 .w1s 1 2 (.c 0) (.bits 0x1) 0,
  r 0x2704 4 1 0x5 1 .u16 .ro 1 9 (.c 0) (.any) 0,
  r 0x2704 4 1 0x6 1 .u32 .ro 1 9 (.c 0) (.any) 0,
  r 0x2704 4 1 0x7 1 .u32 .ro 1 9 (.c 0) (.any) 0,
  r 0x2704 4 1 0x8 1 .u32 .ro 1 9 (.c 0) (.any) 0]

def rows27_1 : List Row := [
  r 0x2704 4 1 0x9 1 .u32 .ro 1 9 (.c 0) (.any) 0,
  r 0x2704 4 1 0xa 1 .u32 .ro 1 9 (.c 0) (.any) 0,
  r 0x2704 4 1 0xb 1 .u32 .ro 1 9 (.c 0) (.any) 0,
  r 0x2704 4 1 0xc 1 .u32 .ro 1 9 (.c 0) (.any) 0,
  r 0x2704 4 1 0xd 1 .u32 .ro 1 9 (.c 0) (.any) 0,
  r 0x2710 4 16 0x1 128 .u32 .rw 1 2 (.c 0) (.bits 0xff) 1,
  r 0x2711 4 16 0x1 128 .u32 .rw 1 2 (.c 0) (.bits 0x3fffffff) 1,
  r 0x2712 4 16 0x1 128 .u32 .rw 1 2 (.c 0x1fffffff) (.bits 0x1fffffff) 1,
  r 0x2713 4 16 0x1 128 .u8 .rw 1 2 (.c 8) (.any) 1,
  r 0x2714 4 16 0x1 128 .domain .rw 1 2 (.c 0) (.len 0 64) 0,
  r 0x2715 4 16 0x1 128 .st64 .ro 1 9 (.c 0) (.any) 0,
  r 0x2716 4 16 0x1 128 .u16 .w1c 1 2 (.c 0) (.w1c 0x3f) 0,
  r 0x2717 4 16 0x1 128 .u16 .ro 1 9 (.c 0) (.any) 0,
  r 0x2718 4 16 0x1 128 .u8 .w1s 1 2 (.c 0) (.bits 0x3) 0,
  r 0x2719 4 16 0x1 128 .u32 .ro 1 9 (.c 0) (.any) 0]

/-- The objects of indexes 27xx. -/
def rows27 : List Row := rows27_0 ++ rows27_1

def rows28_0 : List Row := [
  r 0x2800 2 1 0x1 1 .u8 .rw 1 2 (.c 0) (.iv [(0,3)]) 1,
  r 0x2800 2 1 0x2 1 .u8 .rw 1 2 (.c 0) (.iv [(0,3)]) 1,
  r 0x2800 2 1 0x3 1 .u16 .rw 1 2 (.c 0x32) (.iv [(10,5000)]) 1,
  r 0x2800 2 1 0x4 1 .u16 .rw 1 2 (.c 0x14) (.iv [(10,10000)]) 1,
  r 0x2800 2 1 0x5 1 .u16 .rw 1 2 (.c 0x14) (.iv [(10,10000)]) 1,
  r 0x2800 2 1 0x6 1 .u8 .rw 1 2 (.c 0) (.iv [(0,3)]) 1,
  r 0x2800 2 1 0x7 1 .domain .wo 9 2 (.c 0) (.len 1 256) 0,
  r 0x2800 2 1 0x8 1 .domain .ro 1 9 (.c 0) (.any) 0,
  r 0x2800 2 1 0x9 1 .u8 .ro 1 9 (.c 0) (.any) 4,
  r 0x2800 2 1 0xa 1 .u16 .w1c 1 2 (.c 0) (.w1c 0x78) 4,
  r 0x2800 2 1 0xb 1 .u32 .ro 1 9 (.c 0) (.any) 0,
  r 0x2800 2 1 0xc 1 .u32 .ro 1 9 (.c 0) (.any) 0,
  r 0x2800 2 1 0xd 1 .u32 .ro 1 9 (.c 0) (.any) 0,
  r 0x2800 2 1 0xe 1 .u32 .ro 1 9 (.c 0) (.any) 0,
  r 0x2808 1 1 0x1 1 .bool .ro 1 9 (.c 0) (.any) 0,
  r 0x2808 1 1 0x2 1 .u8 .ro 1 9 (.c 0) (.any) 4,
  r 0x2808 1 1 0x3 4 .u8 .ro 1 9 (.c 0) (.any) 0,
  r 0x2808 1 1 0x7 4 .u8 .ro 1 9 (.c 0) (.any) 0,
  r 0x2808 1 1 0xb 1 .u32 .ro 1 9 (.c 0) (.any) 0,
  r 0x2808 1 1 0xc 1 .u32 .ro 1 9 (.c 0) (.any) 0,
  r 0x2808 1 1 0xd 1 .u32 .ro 1 9 (.c 0) (.any) 0,
  r 0x2808 1 1 0xe 1 .u32 .ro 1 9 (.c 0) (.any) 0,
  r 0x2808 1 1 0xf 1 .u32 .ro 1 9 (.c 0) (.any) 0]

/-- The objects of indexes 28xx. -/
def rows28 : List Row := rows28_0

def rows29_0 : List Row := [
  r 0x2900 1 1 0x1 1 .bool .rw 1 3 (.c 0) (.iv [(0,1)]) 3,
  r 0x2900 1 1 0x2 1 .u32 .ro 1 9 (.c 0) (.any) 0,
  r 0x2900 1 1 0x3 1 .u64 .ro 1 9 (.c 0) (.any) 0,
  r 0x2900 1 1 0x4 1 .u8 .ro 1 9 (.c 0) (.any) 0,
  r 0x2900 1 1 0x5 1 .u8 .ro 1 9 (.c 0) (.any) 4,
  r 0x2900 1 1 0x6 1 .bool .ro 1 9 (.c 0) (.any) 4,
  r 0x2900 1 1 0x7 1 .u32 .rw 1 3 (.c 0x1f4) (.iv [(20,100000)]) 3,
  r 0x2900 1 1 0x8 1 .u8 .ro 1 9 (.c 0) (.any) 0,
  r 0x2900 1 1 0x9 1 .bool .rw 1 3 (.c 0) (.iv [(0,1)]) 3,
  r 0x2900 1 1 0xa 1 .u32 .rw 1 3 (.c 0xf4240) (.iv [(1000000,80000000)]) 3,
  r 0x2900 1 1 0xb 1 .u32 .rw 1 3 (.c 0) (.any) 3,
  r 0x2900 1 1 0xc 1 .u8 .w1s 1 2 (.c 0) (.bits 0x1) 0,
  r 0x2900 1 1 0xd 1 .u16 .w1c 1 2 (.c 0) (.w1c 0x1e0) 4,
  r 0x2900 1 1 0xe 1 .u32 .ro 1 9 (.c 0) (.any) 4,
  r 0x2900 1 1 0xf 1 .u32 .ro 1 9 (.c 0) (.any) 4,
  r 0x2900 1 1 0x10 1 .u32 .ro 1 9 (.c 0) (.any) 0,
  r 0x2900 1 1 0x11 1 .u32 .ro 1 9 (.c 0) (.any) 0,
  r 0x2900 1 1 0x12 1 .u32 .ro 1 9 (.c 0) (.any) 0,
  r 0x2900 1 1 0x13 1 .u32 .ro 1 9 (.c 0) (.any) 0,
  r 0x2900 1 1 0x14 1 .st64 .ro 1 9 (.c 0) (.any) 0,
  r 0x2900 1 1 0x15 1 .u32 .ro 1 9 (.c 0) (.any) 0,
  r 0x2900 1 1 0x16 1 .domain .ro 1 9 (.c 0) (.any) 0,
  r 0x2900 1 1 0x17 1 .u32 .ro 1 9 (.c 0) (.any) 0,
  r 0x2900 1 1 0x18 1 .u32 .ro 1 9 (.c 0) (.any) 0]

/-- The objects of indexes 29xx. -/
def rows29 : List Row := rows29_0

def rows2A_0 : List Row := [
  r 0x2a00 1 1 0x1 1 .u8 .ro 0 9 (.c 0) (.any) 0,
  r 0x2a00 1 1 0x2 1 .domain .ro 0 9 (.c 0) (.any) 0,
  r 0x2a00 1 1 0x3 1 .u32 .ro 0 9 (.c 0x708) (.any) 0,
  r 0x2a00 1 1 0x4 1 .u64 .ro 1 9 (.c 0) (.any) 0,
  r 0x2a00 1 1 0x5 1 .bool .rw 1 3 (.c 0) (.iv [(0,1)]) 3,
  r 0x2a00 1 1 0x6 1 .u8 .ro 0 9 (.c 0) (.any) 0,
  r 0x2a01 1 1 0x1 1 .domain .ro 0 9 (.c 0) (.any) 0,
  r 0x2a01 1 1 0x2 1 .domain .ro 0 9 (.c 0) (.any) 0,
  r 0x2a01 1 1 0x3 1 .domain .ro 0 9 (.c 0) (.any) 0,
  r 0x2a02 1 1 0x1 1 .domain .wo 9 0 (.c 0) (.len 176 65712) 0,
  r 0x2a02 1 1 0x2 1 .u8 .ro 0 9 (.c 0) (.any) 0,
  r 0x2a02 1 1 0x3 1 .domain .ro 0 9 (.c 0) (.any) 0,
  r 0x2a02 1 1 0x4 1 .u32 .ro 1 9 (.c 0) (.any) 0,
  r 0x2a02 1 1 0x5 1 .u32 .ro 1 9 (.c 0) (.any) 0,
  r 0x2a03 1 1 0x1 1 .u8 .ro 1 9 (.c 0) (.any) 0,
  r 0x2a03 1 1 0x2 1 .domain .ro 1 9 (.c 0) (.any) 0,
  r 0x2a03 1 1 0x3 1 .u16 .rw 1 3 (.c 0x3c) (.iv [(5,3600)]) 1,
  r 0x2a03 1 1 0x4 1 .u32 .ro 1 9 (.c 0) (.any) 0,
  r 0x2a03 1 1 0x5 1 .domain .ro 1 9 (.c 0) (.any) 0,
  r 0x2a04 1 1 0x1 1 .domain .ro 1 9 (.c 0) (.any) 0,
  r 0x2a05 1 1 0x1 1 .u8 .ro 1 9 (.c 0) (.any) 0,
  r 0x2a05 1 1 0x2 1 .u8 .rw 1 3 (.c 0) (.iv [(0,1)]) 0,
  r 0x2a05 1 1 0x3 1 .u32 .ro 1 9 (.c 0) (.any) 0,
  r 0x2a05 1 1 0x4 1 .u32 .ro 1 9 (.c 0) (.any) 0]

def rows2A_1 : List Row := [
  r 0x2a05 1 1 0x5 1 .u8 .ro 1 9 (.c 2) (.any) 0,
  r 0x2a05 1 1 0x6 1 .u8 .ro 1 9 (.c 0) (.any) 0,
  r 0x2a05 1 1 0x7 1 .u8 .ro 1 9 (.c 0) (.any) 0,
  r 0x2a05 1 1 0x8 1 .u8 .rw 1 3 (.c 0) (.iv [(0,255)]) 3,
  r 0x2a05 1 1 0x9 1 .u8 .rw 1 3 (.c 0) (.iv [(0,255)]) 3,
  r 0x2a05 1 1 0xa 1 .domain .wo 9 3 (.c 0) (.any) 0,
  r 0x2a05 1 1 0xb 1 .bool .rw 1 3 (.c 0) (.iv [(0,1)]) 3,
  r 0x2a05 1 1 0xc 1 .u8 .w1s 1 3 (.c 0) (.bits 0x1) 0,
  r 0x2a05 1 1 0xd 1 .u8 .ro 1 9 (.c 0) (.any) 0,
  r 0x2a06 1 1 0x1 1 .u8 .ro 1 9 (.c 0) (.any) 0,
  r 0x2a06 1 1 0x2 1 .u32 .ro 1 9 (.c 0) (.any) 0,
  r 0x2a07 1 1 0x1 1 .u8 .ro 0 9 (.c 0) (.any) 0,
  r 0x2a07 1 1 0x2 1 .u32 .ro 1 9 (.c 0) (.any) 0,
  r 0x2a08 1 1 0x1 1 .u32 .ro 1 9 (.c 0) (.any) 0,
  r 0x2a08 1 1 0x2 1 .domain .ro 1 9 (.c 0) (.any) 0,
  r 0x2a08 1 1 0x3 1 .u32 .rw 1 1 (.c 0) (.any) 0,
  r 0x2a08 1 1 0x4 1 .domain .ro 1 9 (.c 0) (.any) 0,
  r 0x2a08 1 1 0x5 1 .domain .ro 1 9 (.c 0) (.any) 0,
  r 0x2a09 1 1 0x1 1 .u32 .rw 1 3 (.c 0x3e8) (.iv [(100,100000)]) 3]

/-- The objects of indexes 2Axx. -/
def rows2A : List Row := rows2A_0 ++ rows2A_1

def rows2B_0 : List Row := [
  r 0x2b00 1 1 0x1 1 .u8 .ro 1 9 (.c 0) (.any) 0,
  r 0x2b00 1 1 0x2 1 .u8 .ro 1 9 (.c 0) (.any) 4,
  r 0x2b00 1 1 0x3 1 .bool .ro 1 9 (.c 0) (.any) 0,
  r 0x2b00 1 1 0x4 1 .u16 .ro 1 9 (.c 0) (.any) 4,
  r 0x2b00 1 1 0x5 1 .u32 .ro 1 9 (.c 0) (.any) 0,
  r 0x2b00 1 1 0x6 1 .u32 .ro 1 9 (.c 0) (.any) 0,
  r 0x2b00 1 1 0x7 1 .u32 .ro 1 9 (.c 0) (.any) 0,
  r 0x2b00 1 1 0x8 1 .u32 .ro 1 9 (.c 0) (.any) 0,
  r 0x2b10 16 1 0x1 1 .bool .ro 1 9 (.c 0) (.any) 0,
  r 0x2b10 16 1 0x2 1 .u32 .ro 1 9 (.c 0x40) (.any) 0,
  r 0x2b10 16 1 0x3 1 .u32 .ro 1 9 (.c 0) (.any) 0,
  r 0x2b10 16 1 0x4 1 .u32 .ro 1 9 (.c 0) (.any) 0,
  r 0x2b10 16 1 0x5 1 .u32 .ro 1 9 (.c 0) (.any) 0,
  r 0x2b10 16 1 0x6 1 .u32 .ro 1 9 (.c 0) (.any) 0]

/-- The objects of indexes 2Bxx. -/
def rows2B : List Row := rows2B_0

def rows2C_0 : List Row := [
  r 0x2c00 1 1 0x1 7 .u64 .ro 1 9 (.c 0) (.any) 0,
  r 0x2c00 1 1 0x8 7 .u32 .ro 1 9 (.c 0) (.any) 0,
  r 0x2c00 1 1 0xf 1 .u8 .ro 1 9 (.c 0) (.any) 0,
  r 0x2c01 1 1 0x1 1 .u8 .ro 1 9 (.c 0) (.any) 0,
  r 0x2c01 1 1 0x2 1 .u8 .ro 1 9 (.c 0) (.any) 0,
  r 0x2c01 1 1 0x3 1 .u32 .ro 1 9 (.c 0) (.any) 0,
  r 0x2c01 1 1 0x4 1 .u32 .ro 1 9 (.c 0) (.any) 0,
  r 0x2c01 1 1 0x5 1 .bool .ro 1 9 (.c 0) (.any) 0,
  r 0x2c01 1 1 0x6 1 .u32 .wo 9 3 (.c 0) (.iv [(0x6C616373,0x6C616373)]) 0,
  r 0x2c01 1 1 0x7 1 .domain .ro 1 9 (.c 0) (.any) 0,
  r 0x2c01 1 1 0x8 1 .domain .wo 9 3 (.c 0) (.any) 0,
  r 0x2c01 1 1 0x9 1 .u8 .ro 1 9 (.c 0) (.any) 0,
  r 0x2c01 1 1 0xa 1 .u8 .w1s 1 3 (.c 0) (.bits 0x1) 0,
  r 0x2c10 1 1 0x1 32 .f32 .rw 1 3 (.c 0x3f800000) (.any) 0,
  r 0x2c11 1 1 0x1 16 .f32 .rw 1 3 (.cal4) (.any) 0,
  r 0x2c12 1 1 0x1 16 .f32 .rw 1 3 (.cal4) (.any) 0,
  r 0x2c13 1 1 0x1 1 .f32 .rw 1 3 (.c 0x3f800000) (.any) 0,
  r 0x2c13 1 1 0x2 1 .f32 .rw 1 3 (.c 0) (.any) 0,
  r 0x2c14 1 1 0x1 1 .i32 .rw 1 3 (.c 0) (.any) 0,
  r 0x2c14 1 1 0x2 1 .i32 .rw 1 3 (.c 0) (.any) 0,
  r 0x2c14 1 1 0x3 1 .i32 .rw 1 3 (.c 0) (.any) 0,
  r 0x2c14 1 1 0x4 1 .i32 .rw 1 3 (.c 0) (.any) 0,
  r 0x2c15 1 1 0x1 1 .f32 .rw 1 3 (.c 0x2dafebff) (.any) 0,
  r 0x2c15 1 1 0x2 1 .f32 .rw 1 3 (.c 0) (.any) 0]

/-- The objects of indexes 2Cxx. -/
def rows2C : List Row := rows2C_0

def rows3_0 : List Row := [
  r 0x3010 16 128 0x1 1 .u8 .rw 1 2 (.lin 0 1) (.iv [(0,15), (255,255)]) 1,
  r 0x3010 16 128 0x2 1 .u32 .rw 1 2 (.c 0x2710) (.iv [(1,4294967295)]) 1,
  r 0x3010 16 128 0x3 1 .bool .rw 1 2 (.c 0) (.iv [(0,1)]) 1,
  r 0x3010 16 128 0x4 1 .u8 .rw 1 2 (.c 0) (.iv [(0,64)]) 1,
  r 0x3010 16 128 0x5 1 .u32 .rw 1 2 (.c 0x2710) (.iv [(100,1000000)]) 1,
  r 0x3010 16 128 0x6 1 .q32 .ro 1 9 (.c 0) (.any) 4,
  r 0x3010 16 128 0x7 1 .q32 .ro 1 9 (.c 0) (.any) 4,
  r 0x3010 16 128 0x8 1 .st64 .ro 1 9 (.c 0) (.any) 4,
  r 0x3011 16 128 0x1 1 .u8 .rw 1 2 (.c 0) (.iv [(0,2)]) 1,
  r 0x3011 16 128 0x2 1 .q32 .rw 1 2 (.c 0) (.any) 1,
  r 0x3011 16 128 0x3 1 .u32 .rw 1 2 (.c 2) (.iv [(0,65535)]) 1,
  r 0x3011 16 128 0x4 1 .bool .rw 1 2 (.c 1) (.iv [(0,1)]) 1,
  r 0x3011 16 128 0x5 1 .bool .rw 1 2 (.c 0) (.iv [(0,1)]) 1,
  r 0x3011 16 128 0x6 1 .u8 .w1s 1 2 (.c 0) (.bits 0x1) 0,
  r 0x3011 16 128 0x7 1 .q32 .ro 1 9 (.c 0) (.any) 0,
  r 0x3011 16 128 0x8 1 .u32 .ro 1 9 (.c 0) (.any) 0,
  r 0x3011 16 128 0x9 1 .u32 .ro 1 9 (.c 0) (.any) 0,
  r 0x3011 16 128 0xa 1 .u32 .ro 1 9 (.c 0) (.any) 0,
  r 0x3020 16 128 0x1 1 .u8 .rw 1 2 (.c 1) (.iv [(0,4)]) 1,
  r 0x3020 16 128 0x2 1 .u8 .rw 1 2 (.c 1) (.iv [(1,2)]) 1,
  r 0x3020 16 128 0x3 1 .u16 .rw 1 2 (.c 0x80) (.iv [(32,256)]) 1,
  r 0x3020 16 128 0x4 1 .u8 .rw 1 2 (.lin 0 1) (.iv [(0,15)]) 1,
  r 0x3020 16 128 0x5 1 .u8 .rw 1 2 (.c 4) (.iv [(1,64)]) 1,
  r 0x3020 16 128 0x6 1 .q32 .rw 1 2 (.c 0) (.any) 1]

def rows3_1 : List Row := [
  r 0x3020 16 128 0x7 1 .u8 .ro 1 9 (.c 0) (.any) 0,
  r 0x3020 16 128 0xf 1 .bool .rw 1 2 (.c 1) (.iv [(0,1)]) 1,
  r 0x3020 16 128 0x10 1 .bool .rw 1 2 (.c 1) (.iv [(0,1)]) 1,
  r 0x3020 16 128 0x11 1 .f32 .rw 1 3 (.c 0x41200000) (.f 0x0 0x44fa0000) 3,
  r 0x3020 16 128 0x12 1 .f32 .rw 1 2 (.c 0x3f733333) (.f 0x3f000000 0x3f800000) 1,
  r 0x3020 16 128 0x13 1 .u8 .rw 1 2 (.c 0) (.iv [(0,5)]) 1,
  r 0x3020 16 128 0x14 1 .f32 .rw 1 2 (.c 0x440c0000) (.f 0x3f800000 0x44fa0000) 1,
  r 0x3020 16 128 0x15 1 .f32 .rw 1 2 (.c 0x42480000) (.f 0x0 0x44fa0000) 1,
  r 0x3020 16 128 0x16 1 .f32 .rw 1 2 (.c 0) (.f 0x0 0x370967c8) 1,
  r 0x3020 16 128 0x17 1 .f32 .rw 1 2 (.c 0x3f000000) (.f 0x3a83126f 0x42c80000) 1,
  r 0x3020 16 128 0x18 1 .f32 .rw 1 2 (.c 0x3fc00000) (.f 0x0 0x40800000) 1,
  r 0x3020 16 128 0x19 1 .u16 .rw 1 2 (.c 0x100) (.iv [(1,256)]) 1,
  r 0x3021 16 128 0x1 4 .u8 .rw 1 2 (.legs) (.iv [(0,47), (255,255)]) 1,
  r 0x3022 16 128 0x1 1 .f32 .rw 1 2 (.c 0) (.fLim CC_I_MAX) 4,
  r 0x3022 16 128 0x2 1 .f32 .ro 1 9 (.c 0) (.any) 4,
  r 0x3022 16 128 0x3 1 .f32 .ro 1 9 (.c 0) (.any) 4,
  r 0x3022 16 128 0x4 1 .f32 .ro 1 9 (.c 0) (.any) 4,
  r 0x3022 16 128 0x5 1 .f32 .ro 1 9 (.c 0) (.any) 4,
  r 0x3022 16 128 0x6 1 .f32 .ro 1 9 (.c 0) (.any) 4,
  r 0x3022 16 128 0x7 1 .f32 .ro 1 9 (.c 0) (.any) 4,
  r 0x3022 16 128 0x8 1 .f32 .ro 1 9 (.c 0) (.any) 4,
  r 0x3022 16 128 0x9 1 .f32 .rw 1 2 (.c 0) (.f 0xc4fa0000 0x44fa0000) 4,
  r 0x3022 16 128 0xa 1 .f32 .rw 1 2 (.c 0) (.f 0xc4fa0000 0x44fa0000) 4,
  r 0x3022 16 128 0xb 1 .f32 .rw 1 2 (.c 0) (.f 0x0 0x40c90fdb) 4]

def rows3_2 : List Row := [
  r 0x3022 16 128 0xc 1 .f32 .ro 1 9 (.c 0) (.any) 4,
  r 0x3022 16 128 0xd 1 .f32 .ro 1 9 (.c 0) (.any) 4,
  r 0x3022 16 128 0xe 1 .u16 .w1c 1 2 (.c 0) (.w1c 0x3c) 4,
  r 0x3023 16 128 0x1 3 .f32 .ro 1 9 (.c 0) (.any) 4,
  r 0x3023 16 128 0x4 4 .f32 .ro 1 9 (.c 0) (.any) 4,
  r 0x3024 16 128 0x1 1 .f32 .rwb 1 2 (.c 0x41200000) (.f 0x0 0x461c4000) 1,
  r 0x3025 16 128 0x1 1 .f32 .rwb 1 2 (.c 0x41200000) (.f 0x0 0x461c4000) 1,
  r 0x3024 16 128 0x2 1 .f32 .rwb 1 2 (.c 0x461c4000) (.f 0x0 0x4cbebc20) 1,
  r 0x3025 16 128 0x2 1 .f32 .rwb 1 2 (.c 0x461c4000) (.f 0x0 0x4cbebc20) 1,
  r 0x3024 16 128 0x3 1 .f32 .rwb 1 2 (.c 0x41200000) (.f 0x0 0x461c4000) 1,
  r 0x3025 16 128 0x3 1 .f32 .rwb 1 2 (.c 0x41200000) (.f 0x0 0x461c4000) 1,
  r 0x3024 16 128 0x4 1 .f32 .rwb 1 2 (.c 0x461c4000) (.f 0x0 0x4cbebc20) 1,
  r 0x3025 16 128 0x4 1 .f32 .rwb 1 2 (.c 0x461c4000) (.f 0x0 0x4cbebc20) 1,
  r 0x3024 16 128 0x5 1 .f32 .rwb 1 2 (.c 0x3a83126f) (.f 0x0 0x41200000) 1,
  r 0x3025 16 128 0x5 1 .f32 .rwb 1 2 (.c 0x3a83126f) (.f 0x0 0x41200000) 1,
  r 0x3024 16 128 0x6 1 .f32 .rwb 1 2 (.c 0x3a83126f) (.f 0x0 0x41200000) 1,
  r 0x3025 16 128 0x6 1 .f32 .rwb 1 2 (.c 0x3a83126f) (.f 0x0 0x41200000) 1,
  r 0x3024 16 128 0x7 1 .f32 .rwb 1 2 (.c 0x3f000000) (.f 0x0 0x447a0000) 1,
  r 0x3025 16 128 0x7 1 .f32 .rwb 1 2 (.c 0x3f000000) (.f 0x0 0x447a0000) 1,
  r 0x3024 16 128 0x8 1 .f32 .rwb 1 2 (.c 0x3dcccccd) (.f 0x0 0x42c80000) 1,
  r 0x3025 16 128 0x8 1 .f32 .rwb 1 2 (.c 0x3dcccccd) (.f 0x0 0x42c80000) 1,
  r 0x3030 16 128 0x1 1 .u8 .rw 1 2 (.c 3) (.iv [(1,3)]) 1,
  r 0x3030 16 128 0x2 1 .u8 .rw 1 2 (.c 1) (.iv [(1,16)]) 1,
  r 0x3030 16 128 0x3 1 .u8 .rw 1 2 (.c 2) (.iv [(1,16)]) 1]

def rows3_3 : List Row := [
  r 0x3030 16 128 0x4 1 .u8 .rw 1 2 (.c 4) (.iv [(1,64)]) 1,
  r 0x3030 16 128 0x5 1 .u8 .rw 1 2 (.c 1) (.iv [(1,16)]) 1,
  r 0x3030 16 128 0x6 1 .u16 .rw 1 2 (.c 1) (.iv [(1,256)]) 1,
  r 0x3030 16 128 0x7 1 .u16 .rw 1 2 (.c 1) (.iv [(1,16384)]) 1,
  r 0x3030 16 128 0x8 1 .u8 .rw 1 2 (.c 3) (.iv [(1,255)]) 1,
  r 0x3030 16 128 0x9 1 .bool .rw 1 2 (.c 0) (.iv [(0,1)]) 1,
  r 0x3030 16 128 0xa 1 .f32 .rw 1 2 (.c 0x41200000) (.f 0x0 0x44fa0000) 1,
  r 0x3030 16 128 0xb 1 .q32 .rw 1 2 (.c 0x5f5e10000000000) (.pos) 1,
  r 0x3030 16 128 0xc 1 .q32 .rw 1 2 (.c 0xf424000000000) (.nonneg) 1,
  r 0x3030 16 128 0xd 1 .f32 .rw 1 2 (.c 0) (.fLim CAS_IQ_LIMIT) 4,
  r 0x3031 16 128 0x1 1 .u8 .ro 1 9 (.c 0) (.any) 5,
  r 0x3031 16 128 0x2 1 .u8 .w1s 1 2 (.c 0) (.bits 0xf) 4,
  r 0x3031 16 128 0x3 1 .u8 .ro 1 9 (.c 0) (.any) 4,
  r 0x3031 16 128 0x4 1 .u32 .ro 1 9 (.c 0) (.any) 0,
  r 0x3032 16 128 0x1 1 .f32 .rwb 1 2 (.c 0x38d1b717) (.f 0x0 0x3f800000) 1,
  r 0x3033 16 128 0x1 1 .f32 .rwb 1 2 (.c 0x38d1b717) (.f 0x0 0x3f800000) 1,
  r 0x3032 16 128 0x2 1 .f32 .rwb 1 2 (.c 0x3ca3d70a) (.f 0x0 0x42c80000) 1,
  r 0x3033 16 128 0x2 1 .f32 .rwb 1 2 (.c 0x3ca3d70a) (.f 0x0 0x42c80000) 1,
  r 0x3032 16 128 0x3 1 .f32 .rwb 1 2 (.c 0x3f800000) (.f 0xc1800000 0x41800000) 1,
  r 0x3033 16 128 0x3 1 .f32 .rwb 1 2 (.c 0x3f800000) (.f 0xc1800000 0x41800000) 1,
  r 0x3032 16 128 0x4 1 .f32 .rwb 1 2 (.c 0) (.f 0xc1800000 0x41800000) 1,
  r 0x3033 16 128 0x4 1 .f32 .rwb 1 2 (.c 0) (.f 0xc1800000 0x41800000) 1,
  r 0x3032 16 128 0x5 1 .f32 .rwb 1 2 (.c 0) (.f 0xc1800000 0x41800000) 1,
  r 0x3033 16 128 0x5 1 .f32 .rwb 1 2 (.c 0) (.f 0xc1800000 0x41800000) 1]

def rows3_4 : List Row := [
  r 0x3032 16 128 0x6 1 .f32 .rwb 1 2 (.c 0) (.f 0xc1800000 0x41800000) 1,
  r 0x3033 16 128 0x6 1 .f32 .rwb 1 2 (.c 0) (.f 0xc1800000 0x41800000) 1,
  r 0x3032 16 128 0x7 1 .f32 .rwb 1 2 (.c 0) (.f 0xc1800000 0x41800000) 1,
  r 0x3033 16 128 0x7 1 .f32 .rwb 1 2 (.c 0) (.f 0xc1800000 0x41800000) 1,
  r 0x3032 16 128 0x8 1 .f32 .rwb 1 2 (.c 0x3f800000) (.f 0xc1800000 0x41800000) 1,
  r 0x3033 16 128 0x8 1 .f32 .rwb 1 2 (.c 0x3f800000) (.f 0xc1800000 0x41800000) 1,
  r 0x3032 16 128 0x9 1 .f32 .rwb 1 2 (.c 0) (.f 0xc1800000 0x41800000) 1,
  r 0x3033 16 128 0x9 1 .f32 .rwb 1 2 (.c 0) (.f 0xc1800000 0x41800000) 1,
  r 0x3032 16 128 0xa 1 .f32 .rwb 1 2 (.c 0) (.f 0xc1800000 0x41800000) 1,
  r 0x3033 16 128 0xa 1 .f32 .rwb 1 2 (.c 0) (.f 0xc1800000 0x41800000) 1,
  r 0x3032 16 128 0xb 1 .f32 .rwb 1 2 (.c 0) (.f 0xc1800000 0x41800000) 1,
  r 0x3033 16 128 0xb 1 .f32 .rwb 1 2 (.c 0) (.f 0xc1800000 0x41800000) 1,
  r 0x3032 16 128 0xc 1 .f32 .rwb 1 2 (.c 0) (.f 0xc1800000 0x41800000) 1,
  r 0x3033 16 128 0xc 1 .f32 .rwb 1 2 (.c 0) (.f 0xc1800000 0x41800000) 1,
  r 0x3032 16 128 0xd 1 .f32 .rwb 1 2 (.c 0x43480000) (.f 0x3f800000 0x45fa0000) 1,
  r 0x3033 16 128 0xd 1 .f32 .rwb 1 2 (.c 0x43480000) (.f 0x3f800000 0x45fa0000) 1,
  r 0x3032 16 128 0xe 1 .f32 .rwb 1 2 (.c 0x49742400) (.f 0x3f800000 0x5368d4a5) 1,
  r 0x3033 16 128 0xe 1 .f32 .rwb 1 2 (.c 0x49742400) (.f 0x3f800000 0x5368d4a5) 1,
  r 0x3032 16 128 0xf 1 .f32 .rwb 1 2 (.c 0) (.f 0x0 0x3f800000) 1,
  r 0x3033 16 128 0xf 1 .f32 .rwb 1 2 (.c 0) (.f 0x0 0x3f800000) 1,
  r 0x3034 16 128 0x1 1 .f32 .rwb 1 2 (.c 0x42c80000) (.f 0x0 0x461c4000) 1,
  r 0x3035 16 128 0x1 1 .f32 .rwb 1 2 (.c 0x42c80000) (.f 0x0 0x461c4000) 1,
  r 0x3034 16 128 0x2 1 .f32 .rwb 1 2 (.c 0x3f800000) (.f 0x0 0x3fc00000) 1,
  r 0x3035 16 128 0x2 1 .f32 .rwb 1 2 (.c 0x3f800000) (.f 0x0 0x3fc00000) 1]

def rows3_5 : List Row := [
  r 0x3034 16 128 0x3 1 .f32 .rwb 1 2 (.c 0) (.f 0x0 0x3f800000) 1,
  r 0x3035 16 128 0x3 1 .f32 .rwb 1 2 (.c 0) (.f 0x0 0x3f800000) 1,
  r 0x3036 16 128 0x1 1 .f32 .rwb 1 2 (.c 0) (.f 0x0 0x4e6e6b28) 1,
  r 0x3037 16 128 0x1 1 .f32 .rwb 1 2 (.c 0) (.f 0x0 0x4e6e6b28) 1,
  r 0x3036 16 128 0x2 1 .f32 .rwb 1 2 (.c 0) (.f 0x0 0x4e6e6b28) 1,
  r 0x3037 16 128 0x2 1 .f32 .rwb 1 2 (.c 0) (.f 0x0 0x4e6e6b28) 1,
  r 0x3036 16 128 0x3 1 .f32 .rwb 1 2 (.c 0) (.f 0x0 0x4e6e6b28) 1,
  r 0x3037 16 128 0x3 1 .f32 .rwb 1 2 (.c 0) (.f 0x0 0x4e6e6b28) 1,
  r 0x3036 16 128 0x4 1 .f32 .rwb 1 2 (.c 0x3a83126f) (.f 0x0 0x3f800000) 1,
  r 0x3037 16 128 0x4 1 .f32 .rwb 1 2 (.c 0x3a83126f) (.f 0x0 0x3f800000) 1,
  r 0x3036 16 128 0x5 1 .f32 .rwb 1 2 (.c 0x3f800000) (.f 0x0 0x3f800000) 1,
  r 0x3037 16 128 0x5 1 .f32 .rwb 1 2 (.c 0x3f800000) (.f 0x0 0x3f800000) 1,
  r 0x3036 16 128 0x6 1 .f32 .rwb 1 2 (.c 0) (.f 0x0 0x3f800000) 1,
  r 0x3037 16 128 0x6 1 .f32 .rwb 1 2 (.c 0) (.f 0x0 0x3f800000) 1,
  r 0x3036 16 128 0x7 1 .f32 .rwb 1 2 (.c 0) (.f 0x0 0x5368d4a5) 1,
  r 0x3037 16 128 0x7 1 .f32 .rwb 1 2 (.c 0) (.f 0x0 0x5368d4a5) 1,
  r 0x3036 16 128 0x8 1 .f32 .rwb 1 2 (.c 0) (.f 0x0 0x41200000) 1,
  r 0x3037 16 128 0x8 1 .f32 .rwb 1 2 (.c 0) (.f 0x0 0x41200000) 1,
  r 0x3036 16 128 0x9 1 .f32 .rwb 1 2 (.c 0x49742400) (.f 0x0 0x5368d4a5) 1,
  r 0x3037 16 128 0x9 1 .f32 .rwb 1 2 (.c 0x49742400) (.f 0x0 0x5368d4a5) 1,
  r 0x3036 16 128 0xa 1 .f32 .rwb 1 2 (.c 0) (.f 0x0 0x58635fa9) 1,
  r 0x3037 16 128 0xa 1 .f32 .rwb 1 2 (.c 0) (.f 0x0 0x58635fa9) 1,
  r 0x3038 16 128 0x1 1 .u8 .rw 1 2 (.c 0) (.iv [(0,2)]) 1,
  r 0x3038 16 128 0x2 1 .u8 .rw 1 2 (.c 0) (.iv [(0,3), (0x10,0x70)]) 1]

def rows3_6 : List Row := [
  r 0x3038 16 128 0x3 1 .f32 .rw 1 2 (.c 0x3f800000) (.f 0xce6e6b28 0x4e6e6b28) 1,
  r 0x3038 16 128 0x4 1 .q32 .rw 1 2 (.c 0) (.any) 1,
  r 0x3038 16 128 0x5 1 .f32 .rw 1 2 (.c 0) (.any) 4,
  r 0x3038 16 128 0x6 1 .f32 .rw 1 2 (.c 0) (.any) 4,
  r 0x3038 16 128 0x7 1 .u32 .rw 1 2 (.c 0) (.iv [(0,10000000)]) 1,
  r 0x3038 16 128 0x8 1 .bool .rw 1 2 (.c 0) (.iv [(0,1)]) 1,
  r 0x3038 16 128 0x9 1 .bool .rw 1 2 (.c 0) (.iv [(0,1)]) 1,
  r 0x3038 16 128 0xa 1 .f32 .rw 1 2 (.c 0) (.any) 4,
  r 0x3039 16 128 0x1 1 .q32 .ro 1 9 (.c 0) (.any) 4,
  r 0x3039 16 128 0x2 1 .f32 .ro 1 9 (.c 0) (.any) 4,
  r 0x3039 16 128 0x3 1 .q32 .ro 1 9 (.c 0) (.any) 4,
  r 0x3039 16 128 0x4 1 .f32 .ro 1 9 (.c 0) (.any) 4,
  r 0x3039 16 128 0x5 1 .q32 .ro 1 9 (.c 0) (.any) 4,
  r 0x3039 16 128 0x6 1 .f32 .ro 1 9 (.c 0) (.any) 4,
  r 0x3039 16 128 0x7 1 .f32 .ro 1 9 (.c 0) (.any) 4,
  r 0x3039 16 128 0x8 1 .f32 .ro 1 9 (.c 0) (.any) 4,
  r 0x3039 16 128 0x9 1 .f32 .ro 1 9 (.c 0) (.any) 4,
  r 0x3039 16 128 0xa 1 .q32 .ro 1 9 (.c 0) (.any) 4,
  r 0x3039 16 128 0xb 1 .u8 .ro 1 9 (.c 0) (.any) 4,
  r 0x303a 16 128 0x1 3 .u32 .ro 1 9 (.c 0) (.any) 0,
  r 0x303a 16 128 0x4 1 .u8 .ro 1 9 (.c 0) (.any) 0,
  r 0x303a 16 128 0x5 1 .u32 .ro 1 9 (.c 0) (.any) 0,
  r 0x3000 32 128 0x1 1 .u32 .rw 1 2 (.c 0) (.bits 0xffff) 4,
  r 0x3000 32 128 0x2 1 .u32 .ro 1 9 (.c 0) (.any) 4]

def rows3_7 : List Row := [
  r 0x3000 32 128 0x3 1 .u8 .ro 1 9 (.c 0) (.any) 4,
  r 0x3000 32 128 0x4 1 .u8 .ro 1 9 (.c 0) (.any) 4,
  r 0x3000 32 128 0x5 1 .q32 .rw 1 2 (.c 0) (.any) 4,
  r 0x3000 32 128 0x6 1 .q32 .rw 1 2 (.c 0) (.any) 4,
  r 0x3000 32 128 0x7 1 .u8 .rw 1 2 (.c 0) (.bits 0x1) 4,
  r 0x3000 32 128 0x8 1 .u8 .ro 1 9 (.c 0) (.any) 4,
  r 0x3000 32 128 0x9 1 .u8 .rw 1 2 (.c 1) (.iv [(0,1)]) 1,
  r 0x3040 32 128 0x1 1 .u8 .rw 1 2 (.c 1) (.iv [(0,1)]) 1,
  r 0x3040 32 128 0x2 1 .q32 .rw 1 2 (.c 0xf424000000000) (.pos) 5,
  r 0x3040 32 128 0x3 1 .q32 .rw 1 2 (.c 0x98968000000000) (.pos) 5,
  r 0x3040 32 128 0x4 1 .q32 .rw 1 2 (.c 0x98968000000000) (.pos) 5,
  r 0x3040 32 128 0x5 1 .q32 .rw 1 2 (.c 0x3b9aca0000000000) (.pos) 5,
  r 0x3040 32 128 0x6 1 .q32 .rw 1 2 (.c 0x2faf08000000000) (.pos) 1,
  r 0x3040 32 128 0x7 1 .q32 .ro 1 9 (.c 0) (.any) 4,
  r 0x3040 32 128 0x8 1 .q32 .ro 1 9 (.c 0) (.any) 4,
  r 0x3040 32 128 0x9 1 .q32 .ro 1 9 (.c 0) (.any) 4,
  r 0x3040 32 128 0xa 1 .q32 .rw 1 2 (.c 0xa00000000) (.nonneg) 1,
  r 0x3040 32 128 0xb 1 .u32 .rw 1 2 (.c 0x3e8) (.iv [(0,10000000)]) 1,
  r 0x3040 32 128 0xc 1 .q32 .rw 1 2 (.c 0x271000000000) (.nonneg) 1,
  r 0x3040 32 128 0xd 1 .u16 .rw 1 2 (.c 1) (.iv [(1,1000)]) 1,
  r 0x3041 32 128 0x1 1 .bool .rw 1 3 (.c 0) (.iv [(0,1)]) 3,
  r 0x3041 32 128 0x2 1 .q32 .rw 1 3 (.c 0x3b9aca0000000000) (.any) 3,
  r 0x3041 32 128 0x3 1 .q32 .rw 1 3 (.c 0xc465360000000000) (.any) 3,
  r 0x3041 32 128 0x4 1 .q32 .rw 1 3 (.c 0x5f5e10000000000) (.pos) 3]

def rows3_8 : List Row := [
  r 0x3041 32 128 0x5 1 .q32 .rw 1 3 (.c 0x7fffffffffffffff) (.pos) 3,
  r 0x3041 32 128 0x6 1 .q32 .rw 1 3 (.c 0x2faf08000000000) (.pos) 3,
  r 0x3041 32 128 0x7 1 .q32 .rw 1 3 (.c 0x186a000000000) (.pos) 3,
  r 0x3041 32 128 0x8 1 .q32 .rw 1 3 (.c 0xf424000000000) (.pos) 3,
  r 0x3041 16 128 0x9 1 .f32 .rw 1 3 (.c 0x40000000) (.f 0x0 0x44fa0000) 3,
  r 0x3041 32 128 0xa 1 .u8 .rw 1 3 (.c 0xff) (.iv [(0,7), (0x20,0x2f), (0xff,0xff)]) 3,
  r 0x3041 32 128 0xb 1 .u8 .rw 1 3 (.c 0xff) (.iv [(0,7), (0x20,0x2f), (0xff,0xff)]) 3,
  r 0x3041 32 128 0xc 1 .u8 .rw 1 2 (.c 0xff) (.iv [(0,7), (0x20,0x2f), (0xff,0xff)]) 1,
  r 0x3041 32 128 0xd 1 .u8 .rw 1 3 (.c 0) (.bits 0x7) 3,
  r 0x3044 32 128 0x1 1 .u8 .rw 1 2 (.c 1) (.homing) 1,
  r 0x3044 32 128 0x2 1 .u8 .rw 1 2 (.c 0) (.iv [(0,1)]) 1,
  r 0x3044 32 128 0x3 1 .q32 .rw 1 2 (.c 0xc35000000000) (.pos) 1,
  r 0x3044 32 128 0x4 1 .q32 .rw 1 2 (.c 0x138800000000) (.pos) 1,
  r 0x3044 32 128 0x5 1 .q32 .rw 1 2 (.c 0) (.any) 1,
  r 0x3044 16 128 0x6 1 .f32 .rw 1 2 (.c 0x40000000) (.any) 1,
  r 0x3044 16 128 0x7 1 .u32 .rw 1 2 (.c 0x4e20) (.iv [(1000,1000000)]) 1,
  r 0x3044 32 128 0x8 1 .u32 .rw 1 2 (.c 0xea60) (.iv [(100,3600000)]) 1,
  r 0x3044 32 128 0x9 1 .u8 .rw 1 2 (.c 0) (.iv [(0,15)]) 1,
  r 0x3044 32 128 0xa 1 .u8 .ro 1 9 (.c 0) (.any) 4,
  r 0x3044 32 128 0xb 1 .u8 .ro 1 9 (.c 0) (.any) 0,
  r 0x3044 32 128 0xc 1 .q32 .ro 1 9 (.c 0) (.any) 0,
  r 0x3048 16 128 0x1 1 .u8 .rw 1 2 (.c 1) (.iv [(0,1)]) 1,
  r 0x3048 16 128 0x2 1 .bool .rw 1 2 (.c 0) (.iv [(0,1)]) 1,
  r 0x3048 16 128 0x3 1 .f32 .rw 1 2 (.c 0x3f000000) (.any) 1]

def rows3_9 : List Row := [
  r 0x3048 16 128 0x4 1 .f32 .rw 1 2 (.c 0x40000000) (.any) 1,
  r 0x3048 16 128 0x5 1 .f32 .rw 1 2 (.c 0x3f800000) (.f 0x0 0x447a0000) 1,
  r 0x3048 16 128 0x6 1 .f32 .rw 1 2 (.c 0x40a00000) (.f 0x0 0x447a0000) 1,
  r 0x3048 16 128 0x7 1 .f32 .rw 1 2 (.c 0x42c80000) (.f 0x3dcccccd 0x49742400) 1,
  r 0x3048 16 128 0x8 1 .f32 .rw 1 2 (.c 0x40c00000) (.f 0x0 0x447a0000) 1,
  r 0x3048 16 128 0x9 1 .f32 .rw 1 2 (.c 0x3fc90ff9) (.f 0x3dcccccd 0x40466666) 1,
  r 0x3048 16 128 0xa 1 .q32 .rw 1 2 (.c 0x271000000000) (.pos) 1,
  r 0x3048 16 128 0xb 1 .u16 .rw 1 2 (.c 0x10) (.iv [(1,65535)]) 1,
  r 0x3048 16 128 0xc 1 .f32 .rw 1 2 (.c 0x43fa0000) (.f 0x41200000 0x461c4000) 1,
  r 0x3048 16 128 0xd 1 .f32 .ro 1 9 (.c 0) (.any) 4,
  r 0x3070 32 128 0x1 1 .u32 .w1c 1 2 (.c 0) (.w1c 0x7c000) 4,
  r 0x3070 32 128 0x2 1 .u8 .ro 1 9 (.c 0) (.any) 4,
  r 0x3070 32 128 0x3 1 .u32 .ro 1 9 (.c 0) (.any) 0,
  r 0x3070 32 128 0x4 1 .u32 .ro 1 9 (.c 0) (.any) 0,
  r 0x3070 32 128 0x5 1 .u32 .ro 1 9 (.c 0) (.any) 0,
  r 0x3070 32 128 0x6 1 .u32 .ro 1 9 (.c 0) (.any) 0,
  r 0x3070 32 128 0x7 1 .u32 .ro 1 9 (.c 0) (.any) 0,
  r 0x3070 32 128 0x8 1 .u32 .ro 1 9 (.c 0) (.any) 0,
  r 0x3070 32 128 0x9 1 .u32 .ro 1 9 (.c 0) (.any) 0,
  r 0x3070 32 128 0xa 1 .u32 .ro 1 9 (.c 0) (.any) 0,
  r 0x3060 32 128 0x1 1 .u8 .rw 1 2 (.c 0) (.iv [(0,3)]) 1,
  r 0x3060 32 128 0x2 1 .u8 .rw 1 2 (.c 0xff) (.iv [(0,31), (0x80,0x87), (255,255)]) 1,
  r 0x3060 32 128 0x3 1 .u8 .rw 1 2 (.c 0) (.iv [(0,1)]) 1,
  r 0x3060 32 128 0x4 1 .u8 .rw 1 2 (.c 0) (.iv [(0,1)]) 1]

def rows3_10 : List Row := [
  r 0x3060 32 128 0x5 1 .u32 .rw 1 2 (.c 0x186a0) (.iv [(0,10000000)]) 1,
  r 0x3060 32 128 0x6 1 .q32 .rw 1 2 (.c 0) (.any) 5,
  r 0x3060 32 128 0x7 1 .q32 .rw 1 2 (.c 0x3e800000000) (.pos) 1,
  r 0x3060 32 128 0x8 1 .q32 .ro 1 9 (.c 0) (.any) 4,
  r 0x3061 32 128 0x1 1 .i32 .rw 1 2 (.c 1) (.iv [((-2147483648),2147483647)]) 5,
  r 0x3061 32 128 0x2 1 .u32 .rw 1 2 (.c 1) (.iv [(1,4294967295)]) 5,
  r 0x3062 32 128 0x1 1 .u8 .rw 1 2 (.c 0) (.iv [(0,63)]) 1,
  r 0x3062 32 128 0x2 1 .u8 .rw 1 2 (.c 0xff) (.iv [(0,63), (255,255)]) 4,
  r 0x3062 32 128 0x3 1 .q32 .rw 1 2 (.c 0) (.any) 1,
  r 0x3062 32 128 0x4 1 .q32 .rw 1 2 (.c 0) (.any) 1,
  r 0x3062 32 128 0x5 1 .u8 .ro 1 9 (.c 0xff) (.any) 4,
  r 0x3062 32 128 0x6 1 .q32 .ro 1 9 (.c 0) (.any) 4,
  r 0x3062 32 128 0x7 1 .i32 .ro 1 9 (.c 0) (.any) 4,
  r 0x3062 32 128 0x8 1 .q32 .ro 1 9 (.c 0) (.any) 0,
  r 0x3062 32 128 0x9 1 .u32 .ro 1 9 (.c 0) (.any) 0,
  r 0x3063 32 128 0x1 1 .u8 .rw 1 2 (.c 0xff) (.iv [(0,15), (255,255)]) 1,
  r 0x3063 32 128 0x2 1 .q32 .rw 1 2 (.c 0) (.qMod) 5,
  r 0x3063 32 128 0x3 1 .f32 .rw 1 2 (.c 0x3f000000) (.f 0xbf800000 0x3f800000) 1,
  r 0x3063 32 128 0x4 1 .q32 .rw 1 2 (.c 0) (.nonneg) 1,
  r 0x3063 32 128 0x5 1 .q32 .rw 1 2 (.c 0x271000000000) (.pos) 1,
  r 0x3063 32 128 0x6 1 .q32 .ro 1 9 (.c 0) (.any) 4,
  r 0x3063 32 128 0x7 1 .q32 .ro 1 9 (.c 0) (.any) 4,
  r 0x3063 32 128 0x8 1 .u32 .ro 1 9 (.c 0) (.any) 0,
  r 0x3063 32 128 0x9 1 .u32 .ro 1 9 (.c 0) (.any) 0]

def rows3_11 : List Row := [
  r 0x3063 32 128 0xa 1 .u8 .w1s 1 2 (.c 0) (.bits 0x1) 4,
  r 0x3064 32 128 0x1 1 .u8 .rw 1 2 (.c 0xff) (.iv [(0,15), (255,255)]) 1,
  r 0x3064 32 128 0x2 1 .q32 .ro 1 9 (.c 0) (.any) 4,
  r 0x3065 32 128 0x1 1 .u16 .w1c 1 2 (.c 0) (.w1c 0x2e0) 4,
  r 0x3065 32 128 0x2 1 .u8 .ro 1 9 (.c 0) (.any) 0,
  r 0x3065 32 128 0x3 1 .q32 .ro 1 9 (.c 0) (.any) 4,
  r 0x3065 32 128 0x4 1 .q32 .ro 1 9 (.c 0) (.any) 4]

/-- The objects of indexes 3xxx. -/
def rows3 : List Row := rows3_0 ++ rows3_1 ++ rows3_2 ++ rows3_3 ++ rows3_4 ++ rows3_5 ++ rows3_6 ++ rows3_7 ++ rows3_8 ++ rows3_9 ++ rows3_10 ++ rows3_11

def rows4_0 : List Row := [
  r 0x4000 1 1 0x1 1 .u32 .ro 1 9 (.c 0x40000) (.any) 0,
  r 0x4010 64 1 0x1 1 .u32 .rw 1 2 (.c 0) (.iv [(0,262143)]) 1,
  r 0x4010 64 1 0x2 1 .u32 .rw 1 2 (.c 0) (.iv [(0,0), (4,65536)]) 1,
  r 0x4010 64 1 0x3 1 .q32 .rw 1 2 (.c 0) (.pos) 1,
  r 0x4010 64 1 0x4 1 .q32 .rw 1 2 (.c 0) (.any) 1,
  r 0x4010 64 1 0x5 1 .i8 .rw 1 2 (.c 0) (.iv [((-32),15)]) 1,
  r 0x4010 64 1 0x6 1 .u8 .ro 1 9 (.c 0) (.any) 0,
  r 0x4010 64 1 0x7 1 .u8 .w1s 1 2 (.c 0) (.bits 0x1) 0,
  r 0x4010 64 1 0x8 1 .u32 .ro 1 9 (.c 0) (.any) 0,
  r 0x4010 64 1 0x9 1 .u8 .ro 1 9 (.c 0) (.any) 0,
  r 0x4050 16 1 0x2 1 .u32 .rw 1 2 (.c 0) (.iv [(0,0), (2,65536)]) 1,
  r 0x4050 16 1 0x3 1 .q32 .rw 1 2 (.c 0) (.pos) 1,
  r 0x4050 16 1 0x4 1 .q32 .rw 1 2 (.c 0) (.any) 1,
  r 0x4050 16 1 0x5 1 .u8 .rw 1 2 (.c 0xff) (.iv [(0,31), (255,255)]) 1,
  r 0x4100 64 1 0x1 1 .domain .rw 1 2 (.c 0) (.len 0 524288) 1,
  r 0x4180 16 1 0x1 1 .domain .rw 1 2 (.c 0) (.len 0 524288) 1,
  r 0x4050 16 1 0x1 1 .u32 .rw 1 2 (.c 0) (.iv [(0,262143)]) 1,
  r 0x4050 16 1 0x6 1 .u8 .ro 1 9 (.c 0) (.any) 0,
  r 0x4050 16 1 0x7 1 .u8 .w1s 1 2 (.c 0) (.bits 0x1) 0,
  r 0x4050 16 1 0x8 1 .u32 .ro 1 9 (.c 0) (.any) 0,
  r 0x4050 16 1 0x9 1 .u8 .ro 1 9 (.c 0) (.any) 0]

/-- The objects of indexes 4xxx. -/
def rows4 : List Row := rows4_0

def rows5_0 : List Row := [
  r 0x5000 1 1 0x1 1 .u8 .w1s 1 2 (.c 0) (.bits 0x7) 4,
  r 0x5000 1 1 0x2 1 .u8 .ro 1 9 (.c 0) (.any) 4,
  r 0x5000 1 1 0x3 1 .u8 .rw 1 2 (.c 0xff) (.iv [(0,15), (255,255)]) 1,
  r 0x5000 1 1 0x4 1 .u16 .rw 1 2 (.c 1) (.iv [(1,65535)]) 1,
  r 0x5000 1 1 0x5 1 .u32 .rw 1 2 (.c 0x61a80) (.iv [(62500,4000000000)]) 1,
  r 0x5000 1 1 0x6 1 .u32 .rw 1 2 (.c 0) (.any) 1,
  r 0x5000 1 1 0x7 1 .u16 .rw 1 2 (.c 1) (.iv [(1,65535)]) 1,
  r 0x5000 1 1 0x8 1 .u16 .rw 1 2 (.c 1) (.iv [(1,1024)]) 1,
  r 0x5000 1 1 0x9 1 .u16 .rw 1 2 (.c 0x400) (.iv [(2,65535)]) 1,
  r 0x5000 1 1 0xa 1 .u16 .rw 1 2 (.c 0x100) (.any) 1,
  r 0x5000 1 1 0xb 1 .u8 .rw 1 2 (.c 0) (.iv [(0,1)]) 1,
  r 0x5000 1 1 0xc 1 .bool .rw 1 2 (.c 0) (.iv [(0,1)]) 1,
  r 0x5000 1 1 0xd 1 .u8 .rw 1 2 (.c 0) (.iv [(0,1)]) 1,
  r 0x5000 1 1 0xe 1 .u32 .rw 1 2 (.c 0) (.iv [(0,4000000000)]) 1,
  r 0x5000 1 1 0xf 1 .u16 .rw 1 2 (.c 0) (.iv [(0,65535)]) 1,
  r 0x5000 1 1 0x10 1 .u8 .rw 1 2 (.c 0) (.bits 0xff) 1,
  r 0x5000 1 1 0x11 1 .u8 .rw 1 2 (.c 0) (.iv [(0,1)]) 1,
  r 0x5000 1 1 0x12 1 .u16 .ro 1 9 (.c 0) (.any) 0,
  r 0x5000 1 1 0x13 1 .u32 .ro 1 9 (.c 0x40) (.any) 0,
  r 0x5000 1 1 0x14 1 .u32 .ro 1 9 (.c 0x7d0) (.any) 0,
  r 0x5000 1 1 0x15 1 .u8 .ro 1 9 (.c 0) (.any) 0,
  r 0x5001 1 1 0x1 1 .u32 .ro 1 9 (.c 0) (.any) 4,
  r 0x5001 1 1 0x2 1 .u32 .rw 1 2 (.c 0) (.any) 4,
  r 0x5001 1 1 0x3 1 .u32 .ro 1 9 (.c 0) (.any) 0]

def rows5_1 : List Row := [
  r 0x5001 1 1 0x4 1 .u32 .ro 1 9 (.c 0) (.any) 0,
  r 0x5001 1 1 0x5 1 .st64 .ro 1 9 (.c 0) (.any) 0,
  r 0x5002 1 1 0x1 1 .u32 .rw 1 1 (.c 0) (.any) 0,
  r 0x5002 1 1 0x2 1 .domain .ro 1 9 (.c 0) (.any) 0,
  r 0x5002 1 1 0x3 1 .domain .ro 1 9 (.c 0) (.any) 0,
  r 0x5010 64 1 0x1 1 .bool .rw 1 2 (.c 0) (.iv [(0,1)]) 1,
  r 0x5010 64 1 0x2 1 .u32 .rw 1 2 (.c 0) (.bits 0xffffff) 1,
  r 0x5010 64 1 0x3 1 .u8 .rw 1 2 (.c 1) (.bits 0x1f) 1,
  r 0x5010 64 1 0x4 1 .i64 .rw 1 2 (.c 0) (.any) 1,
  r 0x5050 8 1 0x1 1 .u8 .rw 1 2 (.c 0) (.iv [(0,7)]) 1,
  r 0x5050 8 1 0x2 1 .u8 .rw 1 2 (.c 0) (.iv [(0,63)]) 1,
  r 0x5050 8 1 0x3 1 .u8 .rw 1 2 (.c 0) (.iv [(0,31),(255,255)]) 1,
  r 0x5050 8 1 0x4 1 .u8 .rw 1 2 (.c 0) (.iv [(0,2)]) 1,
  r 0x5050 8 1 0x5 1 .i64 .rw 1 2 (.c 0) (.any) 1,
  r 0x5050 8 1 0x6 1 .i64 .rw 1 2 (.c 0) (.any) 1,
  r 0x5050 8 1 0x7 1 .u64 .rw 1 2 (.c 0xffffffffffffffff) (.any) 1,
  r 0x5050 8 1 0x8 1 .bool .ro 1 9 (.c 0) (.any) 4,
  r 0x5050 8 1 0x9 1 .u32 .ro 1 9 (.c 0) (.any) 0]

/-- The objects of indexes 5xxx. -/
def rows5 : List Row := rows5_0 ++ rows5_1

/-- The rows an index can stand in, by its high digits (Table OD-2). -/
def rowsOf (i : Nat) : List Row :=
  if i < 0x2000 then rows1
  else if i < 0x3000 then
    match i / 256 with
    | 0x20 => rows20 | 0x21 => rows21 | 0x22 => rows22 | 0x23 => rows23 | 0x24 => rows24 | 0x25 => rows25
    | 0x26 => rows26 | 0x27 => rows27 | 0x28 => rows28 | 0x29 => rows29 | 0x2a => rows2A | 0x2b => rows2B
    | 0x2c => rows2C
    | _ => []
  else if i < 0x4000 then rows3
  else if i < 0x5000 then rows4
  else if i < 0x6000 then rows5
  else []

/-- The row holds the index. -/
def Row.hasIdx (w : Row) (i : Nat) : Bool :=
  decide (w.idx ≤ i) && (i - w.idx) % w.stride == 0 && decide ((i - w.idx) / w.stride < w.count)

/-- The row holds the subindex. -/
def Row.hasSub (w : Row) (s : Nat) : Bool := decide (w.sub ≤ s) && decide (s < w.sub + w.subs)

/-- The row of index `i`, subindex `s` (R444): none where no chapter defines it. -/
def findRow (i s : Nat) : Option Row := (rowsOf i).find? (fun w => w.hasSub s && w.hasIdx i)

/-- The index exists. -/
def idxExists (i : Nat) : Bool := (rowsOf i).any (fun w => w.hasIdx i)

/-- The highest subindex implemented of an index (R440). -/
def highestSub (i : Nat) : Nat :=
  (rowsOf i).foldl (fun m w => if w.hasIdx i && decide (m < w.sub + w.subs - 1) then w.sub + w.subs - 1 else m) 0

/-- The published costs of Table CL-7, in ns. -/
def costTable : List Nat := [1200, 300, 900, 1500, 300, 800, 400, 400, 300, 1000, 100]

/-- The default of a row for instance `n` and member `j`. A default that the spec leaves to the factory or to the running
firmware is the value that log entry 3 names. -/
def Dflt.value (d : Dflt) (n j : Nat) : Nat :=
  match d with
  | .c v => v
  | .lin a b => a + b * n
  | .oneMinus => 1 - n
  | .div3 => n / 3
  | .legs => if j < 3 then 3 * n + j else 255
  | .cost => costTable.getD j 0
  | .cal4 => if j % 2 = 0 then 0x3f800000 else 0
  | .node b => b + 1

/-- The default of the object with key `k` (R440, R443): what it reads until something is written to it. -/
def dflt (k : Nat) : Nat :=
  match findRow (k / 256) (k % 256) with
  | some w => w.dflt.value ((k / 256 - w.idx) / w.stride) (k % 256 - w.sub)
  | none => 0

end Sys2Proof.Machine
end

