-- ==== Sys2Proof/Machine/State.lean ====
section
/-! DEFINITION. The state of the JN4816 as plain data: the object values (written and in force), the block's internal state
chapter by chapter, the memories, the queue of waiting commands and what has left the lands; faults and refusals; reset. -/
namespace Sys2Proof.Machine

/-- Why a command stops the machine. -/
inductive Fault where
  /-- Raised by no command of this model: every command of the table has an effect. It stands for a state that cannot be
  continued, and would be safe. -/
  | stuck (why : String)
  deriving DecidableEq, Repr, Inhabited

/-- Why a command is not executed. -/
inductive Refusal where
  /-- Raised by the dispatcher for a command without a meaning; safe. -/
  | notModelled (mnemonic : String)
  deriving DecidableEq, Repr, Inhabited

/-! ### Object values -/

/-- Values of objects by key, keys strictly rising; an unlisted key reads its default. -/
abbrev Store := List (Nat × Nat)

/-- The value listed for a key. -/
def Store.find : Store → Nat → Option Nat
  | [], _ => none
  | (a, v) :: t, k => if a = k then some v else Store.find t k

/-- The value of a key: the one listed, else the object's default. -/
def Store.get (m : Store) (k : Nat) : Nat :=
  match m.find k with
  | some v => v
  | none => dflt k

/-- The list with the entry of `k` removed. -/
def Store.erase : Store → Nat → Store
  | [], _ => []
  | (a, w) :: t, k => if a = k then Store.erase t k else (a, w) :: Store.erase t k

/-- The list with `k` at `v`, in its place. -/
def Store.put : Store → Nat → Nat → Store
  | [], k, v => [(k, v)]
  | (a, w) :: t, k, v =>
    if k < a then (k, v) :: (a, w) :: t
    else if a = k then (a, v) :: t
    else (a, w) :: Store.put t k v

/-- The store with `k` at `v`; a value equal to the default is not listed. -/
def Store.set (m : Store) (k v : Nat) : Store := if v = dflt k then m.erase k else m.put k v

/-- Keys strictly rising from above `lo`, and no entry at its default. -/
def Store.wfFrom : Nat → Store → Bool
  | _, [] => true
  | lo, (a, v) :: t => decide (lo ≤ a) && decide (v ≠ dflt a) && Store.wfFrom (a + 1) t

/-- The canonical form of a store. -/
def Store.wf (m : Store) : Bool := Store.wfFrom 0 m

/-! ### Memory -/

/-- A RAM: its bytes that differ from 0, by rising address (log entry 4: an unwritten byte reads 0). -/
abbrev Memory := List Host.Cell

/-- The byte at an address. -/
def Memory.read : Memory → Nat → Byte
  | [], _ => 0
  | (a, b) :: t, k => if a = k then b else Memory.read t k

def Memory.erase : Memory → Nat → Memory
  | [], _ => []
  | (a, w) :: t, k => if a = k then Memory.erase t k else (a, w) :: Memory.erase t k

def Memory.put : Memory → Nat → Byte → Memory
  | [], k, v => [(k, v)]
  | (a, w) :: t, k, v =>
    if k < a then (k, v) :: (a, w) :: t
    else if a = k then (a, v) :: t
    else (a, w) :: Memory.put t k v

/-- The memory with one byte written. -/
def Memory.write (m : Memory) (k : Nat) (v : Byte) : Memory := if v = 0 then m.erase k else m.put k v

/-- Bytes written from an address on. -/
def Memory.writeAll (m : Memory) (k : Nat) : Bytes → Memory
  | [] => m
  | b :: bs => Memory.writeAll (m.write k b) (k + 1) bs

/-- `n` bytes read from an address on. -/
def Memory.readAll (m : Memory) (k : Nat) : Nat → Bytes
  | 0 => []
  | n + 1 => m.read k :: Memory.readAll m (k + 1) n

/-- A little-endian number of `n` bytes (R2). -/
def Memory.readLE (m : Memory) (k n : Nat) : Nat := leNat (m.readAll k n)

/-- Addresses strictly rising from `lo` on, and no entry 0. -/
def Memory.wfFrom : Nat → Memory → Bool
  | _, [] => true
  | lo, (a, v) :: t => decide (lo ≤ a) && decide (v ≠ 0) && Memory.wfFrom (a + 1) t

/-- The canonical form of a memory. -/
def Memory.wf (m : Memory) : Bool := Memory.wfFrom 0 m

/-! ### Enumerated states that objects show -/

/-- Device states (R39), coded as GLOBAL_STATUS[2:0] of Table HE-3; STANDBY is not readable and takes 5. -/
inductive Dev where
  | boot | preop | op | safe | locked | standby
  deriving DecidableEq, Repr, Inhabited

def Dev.code : Dev → Nat
  | .boot => 0 | .preop => 1 | .op => 2 | .safe => 3 | .locked => 4 | .standby => 5

def Dev.ofCode : Nat → Dev
  | 0 => .boot | 1 => .preop | 2 => .op | 3 => .safe | 4 => .locked | _ => .standby

/-- Domain states of Table LT-6. -/
inductive DomSt where
  | disabled | absent | acquiring | coarse | fine | untrusted
  deriving DecidableEq, Repr, Inhabited

def DomSt.code : DomSt → Nat
  | .disabled => 0 | .absent => 1 | .acquiring => 2 | .coarse => 3 | .fine => 4 | .untrusted => 5

def DomSt.ofCode : Nat → DomSt
  | 0 => .disabled | 1 => .absent | 2 => .acquiring | 3 => .coarse | 4 => .fine | _ => .untrusted

/-- Line-time states of Table LT-7. -/
inductive LtSt where
  | unset | acquiring | coarse | fine | holdover
  deriving DecidableEq, Repr, Inhabited

def LtSt.code : LtSt → Nat
  | .unset => 0 | .acquiring => 1 | .coarse => 2 | .fine => 3 | .holdover => 4

def LtSt.ofCode : Nat → LtSt
  | 0 => .unset | 1 => .acquiring | 2 => .coarse | 3 => .fine | _ => .holdover

/-! ### Records -/

/-- An event record before a ring gives it its SEQ (Table HE-7); the payload is bytes 16 to 31 as a number. -/
structure Rec where
  cls : Nat
  code : Nat
  detail : Nat
  index : Nat
  fault : Bool
  stamp : Nat
  payload : Nat
  deriving DecidableEq, Repr, Inhabited

/-- A staged record and the rings that still have to write or drop it (R486), one bit each; whether it took a place of
the fault reserve. -/
structure Staged where
  rcd : Rec
  rings : Nat
  reserve : Bool
  deriving DecidableEq, Repr, Inhabited

/-- The controls and state of one event ring (Table HE-10). -/
structure Ring where
  base : Nat := 0
  ctrl : Nat := 0x600
  sourceFilter : Nat := 0
  axisFilter : Nat := 0xffffffff
  modCount : Nat := 1
  modTime : Nat := 0
  producer : Nat := 0
  consumer : Nat := 0
  overflows : Nat := 0
  status : Nat := 0
  mirrorOffset : Nat := 0
  /-- Records written and not yet signalled; whether one of them is fault-class. -/
  unsignalled : Nat := 0
  unsignalledFault : Bool := false
  /-- Core clock at which the first of them was written. -/
  firstAt : Int := 0
  /-- The next record carries OVERFLOW (R50). -/
  overflowNext : Bool := false
  deriving DecidableEq, Repr, Inhabited

/-- One entry of the MSI-X table. -/
structure Msix where
  addr : Nat := 0
  data : Nat := 0
  masked : Bool := true
  deriving DecidableEq, Repr, Inhabited

/-- A frozen word of R476: offset and value. -/
structure Frozen where
  offset : Nat
  value : Nat
  field : Nat
  /-- The word has been read since. -/
  read : Bool := false
  /-- Core clock of the freeze. -/
  at_ : Int
  deriving DecidableEq, Repr, Inhabited

/-- The snapshot page of an axis (R480): its sequence and the fields shown, by offset and value; the sample that the next
swap publishes. -/
structure Page where
  seq : Nat := 0
  active : List (Nat × Nat) := []
  filling : List (Nat × Nat) := []
  /-- The instant of the sample being filled, 2^-32 ns of line time. -/
  at_ : Option Int := none
  deriving DecidableEq, Repr, Inhabited

/-- The host port: BAR0 registers, mailbox, rings, staging. -/
structure HostSt where
  irqStatus : Nat := 0
  irqEnable : Nat := 0
  scratch : Nat := 0
  msix : Vector Msix 32 := Vector.replicate 32 {}
  pba : Nat := 0
  linkUp : Bool := false
  busMaster : Bool := false
  /-- The PCIe configuration space, but for Bus Master Enable (R470, R472). -/
  cfg : PcieCfg := {}
  perst : Bool := true
  wakeN : Bool := false
  mbxStatus : Nat := 0
  mbxReqLength : Nat := 0
  mbxRespLength : Nat := 0
  mbxVector : Nat := 0
  mbxRequest : Memory := []
  mbxResponse : Memory := []
  /-- The response of the request in progress, once it is there; the request was dropped (R484). -/
  mbxReply : Option Bytes := none
  mbxDropped : Bool := false
  rings : Vector Ring 16 := Vector.replicate 16 {}
  staging : List Staged := []
  mirror : Memory := []
  frozen : List Frozen := []
  pages : Vector Page 32 := Vector.replicate 32 {}
  deriving DecidableEq, Repr, Inhabited

/-! ### Time and network -/

/-- A clock of the time unit: seconds, nanoseconds, and the fraction in units of 2^-32 ns (chapter 02). -/
structure Clock where
  sec : Nat
  ns : Nat
  frac : Nat
  deriving DecidableEq, Repr, Inhabited

/-- What the service processors keep of one PTP domain beside its objects. -/
structure DomInt where
  /-- Free-running time of the last Sync, in 2^-16 ns. -/
  lastFree : Option Int := none
  /-- Syncs in a row that met the COARSE conditions, and the FINE condition. -/
  coarseRun : Nat := 0
  fineRun : Nat := 0
  /-- Every Sync since the breach, or since the last that did not, met both bounds (R89). -/
  requalOk : Bool := false
  requalFirst : Bool := false
  /-- The domain has reached COARSE since it was last ABSENT, DISABLED or UNTRUSTED (R88). -/
  reached : Bool := false
  /-- Free-running time of the entry to ACQUIRING, 2^-16 ns (R90). -/
  acqAt : Int := 0
  /-- Core clock from which REQUALIFY_TIME runs: of the breach, or of the last Sync beyond a bound since (R89); of the entry to
  COARSE or FINE, or from which line time follows the other domain (R92). -/
  requalAt : Int := 0
  goodAt : Int := 0
  /-- The best master seen on each port, and the best of them, that the module follows; the port of that one. -/
  portBest : Vector (Option Announce) 3 := Vector.replicate 3 none
  /-- Free-running time of the last Announce of that master on each port, 2^-16 ns. -/
  heard : Vector Int 3 := Vector.replicate 3 0
  best : Option Announce := none
  gmPort : Fin 3 := 1
  /-- Free-running time of the last Sync of the grandmaster on each port, 2^-16 ns (R76). -/
  syncAt : Vector (Option Int) 3 := Vector.replicate 3 none
  /-- Syntonisation to the recovered clock is rejected until the domain enters COARSE (R79). -/
  rejected : Bool := false
  /-- sequenceId of the next message sent: 3 per port, of Sync, Announce and the delay request. -/
  seqs : Vector Nat 9 := Vector.replicate 9 0
  /-- The mean link delay of each port, 2^-16 ns. -/
  linkDelay : Vector Int 3 := Vector.replicate 3 0
  deriving DecidableEq, Repr, Inhabited

/-- The time unit and the servo. -/
structure TimeSt where
  line : Clock := ⟨0, 0, 0⟩
  free : Clock := ⟨0, 0, 0⟩
  /-- Control schedule minus line time, in 2^-32 ns, while it slews (R25). -/
  schedDiff : Int := 0
  /-- The control schedule slews (R25). -/
  schedSlew : Bool := false
  /-- The sum of the offset adds not yet applied, in 2^-16 ns (R84). -/
  offsetAdd : Option Int := none
  everCoarse : Bool := false
  /-- The integral term of the servo, binary64. -/
  rateI : Nat := 0
  /-- TOD_SECONDS waiting for the next PPS_IN edge (R96). -/
  todPending : Option Nat := none
  /-- Free-running time of the last PPS_IN edge since boot, in 2^-32 ns (R65). -/
  ppsLast : Option Int := none
  /-- The line-time instant at which the PPS_OUT pulse in progress rose, in 2^-32 ns. -/
  ppsOut : Option Int := none
  /-- Line-time alarms fired at the last tick, with their instants in 125 ps, that the latch units still take: a sample of that instant
  is taken first (R160). -/
  alarms : List (Nat × Int) := []
  /-- The domain followed last: DOM of a stamp (Table SC-3). -/
  lastDom : Nat := 0
  dom : Vector DomInt 2 := Vector.replicate 2 {}
  deriving DecidableEq, Repr, Inhabited

/-- A frame waiting at an egress port: its bytes with FCS, its class, whether it goes cut-through, whether its FCS turned
out bad, its ingress port and free-running ingress stamp (2^-16 ns), and the authentication verdict of a PTP frame. -/
structure QFrame where
  bytes : Bytes
  cls : Nat
  cut : Bool
  badFcs : Bool
  ingress : Fin 3
  stamp : Int
  icv : Icv
  deriving DecidableEq, Repr, Inhabited

/-- A learned address: its port, and the free-running time of its last frame, 2^-16 ns (R54). -/
structure Learned where
  mac : Nat
  port : Fin 3
  at_ : Int
  deriving DecidableEq, Repr, Inhabited

/-- The switch (R52 to R60), and what the module's own addresses need. -/
structure Switch where
  learned : List Learned := []
  /-- Link-local addresses given up since boot because another host used them (R99). -/
  conflicts : Nat := 0
  /-- Free-running time until which each port sends its present frame, 2^-16 ns. -/
  busyUntil : Vector Int 3 := Vector.replicate 3 0
  /-- Egress queues of P0 to P2, in order of arrival. -/
  egress : Vector (List QFrame) 3 := Vector.replicate 3 []
  deriving DecidableEq, Repr, Inhabited

/-! ### Power -/

/-- The supplies, the always-on domain and the resets (chapter 16). -/
structure Power where
  /-- VDD_CORE, VDDA_09, VDDIO_18, VDDIO_33, VDDA_33 up. -/
  railUp : Vector Bool 5 := Vector.replicate 5 true
  /-- Each within the tolerance of Table PS-1, as last measured. -/
  railStable : Vector Bool 5 := Vector.replicate 5 true
  /-- VDD_CORE, and VDDIO_33, below its falling threshold and not above its rising one since (R569, R387). -/
  coreLow : Bool := false
  ioLow : Bool := false
  porstLow : Bool := true
  warmLow : Bool := false
  /-- The internal reset is asserted. -/
  held : Bool := true
  refAbsent : Bool := false
  sysPllLost : Bool := false
  timePllLost : Bool := false
  ethPllLost : Bool := false
  /-- HV supplies the always-on domain. -/
  hv : Bool := false
  aonUp : Bool := true
  /-- The cause that the always-on domain holds for the next boot (Table PS-4). -/
  cause : Nat := 0
  aonLost : Bool := true
  /-- A boot has failed, and none has completed since; row 6 of Table PS-3 applies; how many slots have failed three times
  since a boot completed (R430). -/
  bootFailed : Bool := false
  holdTimeout : Bool := false
  slotFails : Nat := 0
  /-- Rows of Table PS-3 that the always-on domain saw since the last boot, in order. -/
  seqRows : List Nat := []
  wakeOut : Bool := true
  /-- An accepted STANDBY_REQUEST waits for the rails to go. -/
  stbyPrep : Bool := false
  swReset : Bool := false
  /-- Core clock of the deassertion of WAKE_OUT (R595), and of the accepted RESET_REQUEST (R592). -/
  stbyAt : Int := 0
  swAt : Int := 0
  /-- The wake settings that the always-on domain holds. -/
  wakeCfg : Store := []
  /-- Tracked counts at entry to STANDBY; microseconds in STANDBY. -/
  entryCount : Vector Int 4 := Vector.replicate 4 0
  standbyUs : Nat := 0
  /-- What the free-running clock had counted at the resets that set it back, 2^-32 ns; microseconds with a rail down. -/
  aonPast : Int := 0
  aonUs : Nat := 0
  /-- Instants of the always-on domain, 2^-32 ns: AON_TIME stood at its object's value; the window of R586 began; VSTBY_5V turned off;
  PORST_N was released; the internal reset may be released. -/
  aonAt : Int := 0
  xtAt : Int := 0
  vstbyAt : Int := 0
  porstAt : Int := 0
  releaseAt : Int := 0
  wakePort : Nat := 0
  /-- A crystal failure whose record waits for the next boot. -/
  crystalRec : Bool := false
  /-- The device was LOCKED at a warm reset. -/
  lockKept : Bool := false
  /-- The straps are still to be sampled for the last cold reset (R615). -/
  strapDue : Bool := true
  /-- Boot step 5 waits for the twin check (R564). -/
  bootWait : Bool := false
  hostSel : Bool := false
  twinRole : Bool := false
  /-- v of the last samples and e of the last 100, newest first, F32 volts. -/
  vLast : List Nat := []
  eLast : List Nat := []
  /-- Samples since the last zero crossing, and the half-periods of the last 8 periods in samples, newest first. -/
  sinceCross : Nat := 0
  halfPeriods : List Nat := []
  /-- Samples in a row below the loss level, and at or above the return level. -/
  belowRun : Nat := 0
  aboveRun : Nat := 0
  /-- Samples whose e is known. -/
  samples : Nat := 0
  /-- The sample that completed the span of loss, while the span lasts: its instant in line time, its number and ENVELOPE at it; the
  number of the sample that completed the span of return; the number of the sample of the last declaration of loss (R581). -/
  lossSpan : Option (Int × Nat × Nat) := none
  backSpan : Option Nat := none
  lostAt : Nat := 0
  /-- A declared loss whose report is on its way to the processors. -/
  lossDue : Bool := false
  vstbyOff : Bool := false
  deriving DecidableEq, Repr, Inhabited

/-! ### Security -/

/-- An open session (R421 to R424). -/
structure Session where
  id : Nat
  role : Role
  chan : Chan
  serial : Nat
  notAfter : Nat
  timeUnchecked : Bool
  fresh : Nat
  /-- REQUEST_ID and FRESHNESS of the last accepted request (R102). -/
  accepted : Option (Nat × Nat)
  failRun : Bool
  /-- Core clock at which it opened, or of its last valid request (R422). -/
  usedAt : Int := 0
  /-- The last executed request and its response (R102): REQUEST_ID, FRESHNESS, response. -/
  cached : Option (Nat × Nat × Bytes)
  /-- The request key, under which the trailers of its requests verify, and the response key, which signs the answers (R421, R423). -/
  reqKey : BitVec 256 := 0
  respKey : BitVec 256 := 0
  deriving DecidableEq, Repr, Inhabited

/-- A handshake between CHALLENGE and FINISH, with the session keys that it has agreed (R421). -/
structure Hello where
  id : Nat
  chan : Chan
  role : Role
  serial : Nat
  notAfter : Nat
  reqKey : BitVec 256 := 0
  respKey : BitVec 256 := 0
  deriving DecidableEq, Repr, Inhabited

/-- A key held, without its value (R412, R419): class, place, SPP, KEY_ID. -/
structure Key where
  cls : Nat
  place : Nat
  spp : Nat
  keyId : Nat
  deriving DecidableEq, Repr, Inhabited

/-- A firmware slot in MRAM beyond its objects: the bytes of the image received since the slot was erased, the first 16 of
them, LEVEL, SHA-384 of the key under which OWNER_SIG verifies, none where there is none, and FW_CONFIRM written for the image (R432). -/
structure Slot where
  received : Nat := 0
  header : Bytes := []
  level : Nat := 0
  countersigner : Option Nat := none
  confirmed : Bool := false
  deriving DecidableEq, Repr, Inhabited

/-- A twin pairing (R565): PAIR_ID and PARTNER_SERIAL; none for unbound. -/
abbrev Pairing := Option (Nat × Nat)

/-- The enclave. -/
structure Secure where
  /-- SHA-384 of the bound owner key. -/
  ownerKey : Option Nat := none
  revoked : List Nat := []
  keys : List Key := []
  sessions : List Session := []
  hellos : List Hello := []
  nextId : Nat := 1
  /-- Numbers drawn from the TRNG so far, and the present PACKET_NONCE, none where none could be drawn. -/
  drawn : Nat := 0
  nonce : Option Nat := none
  trngFailed : Bool := false
  /-- The audit ring, newest first, at most 4,096, and AUDIT_HEAD before the oldest. -/
  audit : List Rec := []
  auditTailHead : Nat := 0
  auditHead : Nat := 0
  /-- Slot A holds the image of the factory (log entry 90). -/
  slots : Vector Slot 2 := #v[{ confirmed := true }, {}]
  /-- The active slot has booted to PRE-OPERATIONAL. -/
  booted : Bool := false
  /-- Values of sealed objects in MRAM (R417). -/
  sealedStore : Store := []
  windowOpen : Bool := true
  /-- Free-running time at which the claim window ends and the debug port closes, 2^-32 ns. -/
  windowEnd : Int := 0
  debugEnd : Int := 0
  /-- The pairing that the next reset binds (R565). -/
  pairNext : Option Pairing := none
  deriving DecidableEq, Repr, Inhabited

/-! ### Requests -/

/-- A segmented transfer (R448): whose it is, the offset of the next segment, the bytes collected or the copy being served; on
CAN the size announced and the toggle bit of the next segment. -/
structure Xfer where
  chan : Chan
  session : Nat
  key : Nat
  write : Bool
  next : Nat := 0
  buf : Bytes := []
  abandoned : Bool := false
  size : Option Nat := none
  toggle : Bool := false
  /-- Core clock of its last segment (R448). -/
  seenAt : Int := 0
  deriving DecidableEq, Repr, Inhabited

/-- The stored set in MRAM: parameter values, strings and tables. -/
structure Stored where
  params : Store
  cobWritten : Nat
  blobs : List (Nat × Bytes)
  tables : List (Nat × Bytes)
  deriving DecidableEq, Repr, Inhabited

/-- A receive object of process data (CAN 0 to 15, Ethernet 16 to 23): SEQUENCE of the last accepted Ethernet frame, the
verified values that wait for their apply instant (125 ps of line time), and whether the last frame written had a refused
entry (R465). -/
structure RxSt where
  lastSeq : Option Nat := none
  waiting : Option (Int × Bytes) := none
  errorRun : Bool := false
  /-- Core clock of its last verified frame, or of its enable; its TIMEOUT has been taken since (R466). -/
  seenAt : Int := 0
  lapsed : Bool := false
  deriving DecidableEq, Repr, Inhabited

/-- A transmit object of process data (CAN 0 to 15, Ethernet 16 to 23): SEQUENCE of its next frame, the values last sent, and
the line time of the last transmission, 125 ps. -/
structure TxSt where
  seq : Nat := 0
  last : Option Bytes := none
  at_ : Option Int := none
  deriving DecidableEq, Repr, Inhabited

/-- The object-dictionary server, commit, store and process data. -/
structure Dict where
  xfers : List Xfer := []
  /-- The configuration whose commit waits for its instant, and the request that waits with it. -/
  committing : Option Store := none
  commitCtx : Option Ctx := none
  /-- Core clock 1 ms after its checks ended (R453). -/
  commitFrom : Int := 0
  /-- A configuration is in force. -/
  committed : Bool := false
  /-- The set that a STORE writes, its request; the set stored; it is marked for defaults at the next boot (R456). -/
  storing : Option Stored := none
  storeCtx : Option Ctx := none
  stored : Option Stored := none
  restoreMark : Bool := false
  /-- The calibration set that is being written, with its CAL_SOURCE; the set in force; its slot. -/
  calSaving : Option (Store × Nat) := none
  calInForce : Store := []
  calSlot : Nat := 0
  /-- Requests answered busy because the queue of their channel was full (Table AR-11). -/
  busyReplies : Nat := 0
  /-- Passes dropped because their authentication failed (R26). -/
  passDrops : Nat := 0
  /-- Objects 1200h+c that have been written: bit 2·c for SDO_COB_RX, 2·c + 1 for SDO_COB_TX (their default follows NODE_ID). -/
  cobWritten : Nat := 0
  /-- The session that an SDO server is bound to, 0 for none (R450), and the answer that HANDSHAKE reads. -/
  sdoBound : Vector Nat 4 := Vector.replicate 4 0
  handshake : Vector Bytes 4 := Vector.replicate 4 []
  /-- Process data: what an enabled receive object keeps. -/
  rx : Vector RxSt 24 := Vector.replicate 24 {}
  tx : Vector TxSt 24 := Vector.replicate 24 {}
  deriving DecidableEq, Repr, Inhabited

/-- The ICV of a PTP frame as it leaves: none or untouched, recomputed, or the inverse of a valid one (R73 to R75). -/
inductive IcvOut where
  | kept | valid | inverted
  deriving DecidableEq, Repr, Inhabited

/-- What leaves the lands or answers a requester. -/
inductive Output where
  | frame (port : Fin 3) (bytes : Bytes) (icv : IcvOut)
  /-- PPS_OUT changes, at a line-time instant in 125 ps. -/
  | pps (level : Bool) (at_ : Int)
  /-- A frame on a CAN bus: its channel, identifier (bit 29 for extended), FD format, bit rate switch, data. -/
  | canFrame (channel : Nat) (id : Nat) (fd brs : Bool) (bytes : Bytes)
  /-- Bytes clocked out as master under a select, in SPI_MODE at 500 MHz / SCLK_DIV; bytes returned as target. -/
  | spi (port select mode sclkDiv : Nat) (bytes : Bytes)
  | miso (port : Nat) (bytes : Bytes)
  /-- TWL payloads: a state copy, and a heartbeat with its fields (Table TW-4). -/
  | twlCopy (counter : Nat) (c : TwinCopy)
  | heartbeat (counter state : Nat) (seen : Bool) (ack stamp hash : Nat)
  | pcieWrite (addr : Nat) (data : Bytes)
  /-- A word of BAR0 returned to a read. -/
  | bar0 (offset value : Nat)
  | msix (vector addr data : Nat)
  deriving DecidableEq, Repr, Inhabited

/-! ### Legs and current cells (chapter 04) -/

/-- The switching signal of a leg over the half-period (or up-mode period) that began at `at_`, 125 ps of the control schedule:
high for `high` units from `start` on, of `len` units in all (R206); its level before, and the instant of its last change
before. -/
structure Wave where
  start : Nat := 0
  high : Nat := 0
  len : Nat := 0
  at_ : Int := 0
  before : Bool := false
  changed : Int := 0
  deriving DecidableEq, Repr, Inhabited

/-- The leg outputs beyond their objects. -/
structure LegSt where
  /-- Legs driven, one bit each; every other leg is at high impedance (R210). -/
  driven : Nat := 0
  /-- Legs whose fence stands until their owner enables again (R182, R184, R194, R195, R223). -/
  fenced : Nat := 0
  /-- The pending set of LOAD_ALL: compare of each leg, period of each group (R215). -/
  pendCompare : Vector Nat 48 := Vector.replicate 48 0
  pendPeriod : Vector Nat 16 := Vector.replicate 16 0
  /-- Duties committed by the cells for the next reload, none where nothing was committed (R28). -/
  cellCompare : Vector (Option Nat) 48 := Vector.replicate 48 none
  /-- The switching signals since the last reload point, and the instant at which each leg was last started (R211). -/
  wave : Vector Wave 48 := Vector.replicate 48 {}
  started : Vector Int 48 := Vector.replicate 48 0
  /-- The axis whose voltage mode has ended and whose next reload point releases the leg (R187, R212). -/
  leaving : Vector (Option Nat) 48 := Vector.replicate 48 none
  /-- The core clock t_w of the last LOAD_ALL (R216). -/
  loadAt : Int := 0
  /-- Groups with a new tap map waiting for the valley, and groups whose tap map places edges at 1 ns (R208). -/
  tapPending : Nat := 0
  coarse : Nat := 0
  /-- The valley from which a group with LOCK 0 counts, in units of 125 ps of the control schedule (R203). -/
  anchor : Vector Int 16 := Vector.replicate 16 0
  /-- The levels of the TRIP lands (R219), low while left open (R614). -/
  tripLand : Nat := 0
  /-- Channels whose overcurrent or modulator-fault condition holds now (R185). -/
  ocNow : Nat := 0
  modNow : Nat := 0
  deriving DecidableEq, Repr, Inhabited

/-- A current cell beyond its objects; F32 raw values. -/
structure CellSt where
  intD : Nat := 0
  intQ : Nat := 0
  thetaLast : Nat := 0
  omegaLast : Nat := 0
  /-- Consecutive samples with POS_VALID 0 (R195). -/
  invalidRun : Nat := 0
  /-- The last 16 magnitudes of R198, newest first. -/
  load : List Nat := []
  stallRun : Nat := 0
  /-- The state of the back-EMF observer of R308 (Config.bemf). -/
  obs : BitVec 128 := 0
  /-- Duties in force in the L1 period that ends at this sample, and those that take effect at its reload (R28, R308). -/
  prevDuty : Vector Nat 4 := Vector.replicate 4 0
  nextDuty : Vector Nat 4 := Vector.replicate 4 0
  deriving DecidableEq, Repr, Inhabited

/-! ### Feedback (chapter 03) -/

/-- A counted transition: its stamp in 125 ps of line time, its direction, the output position and the hysteresis after it, and the
instant from which an index reference has cleared that hysteresis (R141). -/
structure Tr where
  t : Int
  dir : Int
  out : Int
  held : Bool
  freed : Option Int := none
  deriving DecidableEq, Repr, Inhabited

/-- What a count found, to be taken back (R116): the direction of the count; output minus raw count, hysteresis and directions
before it. -/
structure Undo where
  dir : Int
  gap : Int
  held : Bool
  lastDir : Int
  idxDir : Int
  deriving DecidableEq, Repr, Inhabited

/-- An accepted transition of A or B, for the comparison of R116: its land and stamp, and its count while that stands. -/
structure LastEdge where
  isB : Bool
  t : Int
  undo : Option Undo
  deriving DecidableEq, Repr, Inhabited

/-- The estimates of R135 while the signal stood in one quadrant: quadrants counted until then, least and greatest value of
each estimate (R137). -/
structure ScSpan where
  quads : Nat
  lo : Vector Nat 4
  hi : Vector Nat 4
  deriving DecidableEq, Repr, Inhabited

/-- A reference or correction of a port: positions at `t` and later carry `d` (raw Q32); those before do not, where they lie
after `since` (R144). -/
structure Shift where
  since : Option Int
  t : Int
  d : Int
  deriving DecidableEq, Repr, Inhabited

/-- A feedback port beyond its objects. Positions are those of the port, before DIRECTION. -/
structure PortSt where
  /-- Accepted land levels of P0 to P2, before INVERT. -/
  lvl : Vector Bool 3 := Vector.replicate 3 false
  raw : Int := 0
  out : Int := 0
  held : Bool := false
  /-- Direction of the last count, 0 for none (R118), and of the last one since boot or commit (R140). -/
  lastDir : Int := 0
  idxDir : Int := 0
  /-- What a reference or correction left below one count, raw Q32 (R141, R143). -/
  sub : Int := 0
  /-- Counted transitions, newest first, and the output position before the oldest of them. -/
  trs : List Tr := []
  outBefore : Int := 0
  /-- The last accepted transitions of A and B, newest first. -/
  recent : List LastEdge := []
  /-- Samples, newest first. -/
  hist : List Smp := []
  /-- References and corrections of the last second, newest first (R144). -/
  shifts : List Shift := []
  idxArmed : Bool := true
  idxBase : Option Int := none
  ssiWord : Option Nat := none
  errRun : Nat := 0
  /-- An absolute word is still wanted for the position (R127, R129). -/
  wantWord : Bool := true
  /-- Sin/cos: offset of the output position against the quadrant counter, the first conversion still to come, the state of
  the estimator of R135 (Config.scEst), quadrants counted, and its estimates over the last 64 periods, newest first. -/
  scOff : Int := 0
  scInit : Bool := true
  scObs : BitVec 256 := 0
  scQuads : Nat := 0
  scHist : List ScSpan := []
  deriving DecidableEq, Repr, Inhabited

/-- A capture of a latch unit (R152). -/
structure Cap where
  stamp : Nat
  t : Int
  pos : Vector Int 4
  flags : Nat
  deriving DecidableEq, Repr, Inhabited

/-- A latch unit beyond its objects. -/
structure LatchSt where
  /-- Stamp of the event taken last (R153). -/
  last : Option Int := none
  /-- A capture of this pass through the window has been accepted, and no sample outside it has been seen since; the sample instant at
  which the last pass ended (R156). -/
  locked : Bool := false
  passEnd : Option Int := none
  queue : List Cap := []
  /-- The captures accepted since the last commit, newest first, at most 16: what the loop processors see (R158). -/
  recent : List Cap := []
  /-- How many had CAP_FLAGS[0] = 0, and the newest of them: the instant at which each reached the loop processors, 125 ps, and its
  number (R344). -/
  validCount : Nat := 0
  valids : List (Int × Nat × Cap) := []
  deriving DecidableEq, Repr, Inhabited

/-- An emulation output beyond its objects. -/
structure EmuSt where
  /-- Emulated count that the outputs step toward. -/
  target : Option Int := none
  /-- Counts that the source samples so far have left due (R165). -/
  due : Int := 0
  /-- What MAX_EDGE_RATE lets out before the next source sample, in counts · 2^-32 ns/s: a count takes one second of it. -/
  credit : Int := 1000000000 * 2 ^ 32 - 1
  /-- SSI target: the word being shifted out, the bits driven so far, and SSI_MONOFLOP still to pass. -/
  word : List Bool := []
  sent : List Bool := []
  dataLow : Bool := false
  deriving DecidableEq, Repr, Inhabited

/-- The standby tracker of one port (R145, R146). -/
structure TrackSt where
  /-- The port is tracked, and the inversion of its A and B inputs, as the always-on domain took them when the rails fell. -/
  on : Bool := false
  invA : Bool := false
  invB : Bool := false
  a : Bool := false
  b : Bool := false
  /-- Samples since the last count, none before the first. -/
  since : Option Nat := none
  /-- REFERENCED at entry to STANDBY. -/
  referenced : Bool := false
  deriving DecidableEq, Repr, Inhabited

/-- The field section beyond its objects: the filtered land levels of the inputs, before inversion. -/
structure FieldSt where
  lands : Nat := 0
  /-- Accepted levels of LAT0 to LAT7 before LAT_INVERT. -/
  lats : Nat := 0
  /-- The core clock from which the V24 monitor has run (R378); the instant of V24_OK, 125 ps, and the inputs that have taken no level since
  (R380). -/
  since : Int := 0
  okAt : Int := 0
  first : Nat := 0
  /-- The core clocks of the last short of each output and of the last overload, and of the last write of DO_SET with DO_STATE before it
  (R391). -/
  shortAt : Vector Int 8 := Vector.replicate 8 (-1)
  overAt : Int := -1
  setAt : Int := -1
  onBefore : Nat := 0
  deriving DecidableEq, Repr, Inhabited

/-! ### CAN (chapter 13) -/

/-- A protocol frame that waits for the bus: identifier (bit 29 for extended), data, and since when, 125 ps. -/
structure CanFrame where
  id : Nat
  data : Bytes
  at_ : Int
  deriving DecidableEq, Repr, Inhabited

/-- A channel beyond its objects. -/
structure CanSt where
  proto : List CanFrame := []
  /-- The transmit object whose frame is in transmission when CANCEL finds it so, and whether it has won arbitration. -/
  tx : Option Nat := none
  /-- Objects whose cancellation waits for the outcome of their frame. -/
  cancel : List Nat := []
  /-- The instants of the transmit requests that stand, by object, 125 ps (R510). -/
  asked : List (Nat × Int) := []
  /-- Clash counts of R513: of objects, and of protocol identifiers. -/
  clash : List (Nat × Nat) := []
  protoClash : List (Nat × Nat) := []
  /-- Frames of AUTH objects with the trailer computed at their request. -/
  sealed_ : List (Nat × Bytes) := []
  /-- FRESHNESS of the last frame accepted on a receive object, and of the frames sent under an identifier, newest first (R426). -/
  rxFresh : List (Nat × Nat) := []
  txFresh : List (Nat × Nat) := []
  recovering : Bool := false
  deriving DecidableEq, Repr, Inhabited

/-! ### Serial ports and twin (chapters 14, 15) -/

/-- A serial port beyond its objects. -/
structure SpSt where
  /-- Bytes of the master transfer in progress. -/
  tx : Bytes := []
  /-- Core clock at which the master transfer started. -/
  startAt : Int := 0
  /-- Whole target transfers taken since boot, modulo 32; the last one ended with an error. -/
  seq : Nat := 0
  err : Bool := false
  /-- A fetch in progress: offset and words; the words that the last completed one returned. -/
  fetch : Option (Nat × Nat) := none
  data : Option Bytes := none
  framingRun : Bool := false
  overrunRun : Bool := false
  deriving DecidableEq, Repr, Inhabited

/-- The twin controller beyond its objects. -/
structure TwinSt where
  /-- Consecutive bursts with a bad CRC. -/
  crcRun : Nat := 0
  /-- DRIBBLE_OUT carries the square wave; DRIBBLE_IN shows edges; time of its last edge, 125 ps of free-running time. -/
  dribble : Bool := false
  dribbleIn : Bool := false
  lastEdge : Int := 0
  /-- Lease cores that have renewed since the last reload, and the free-running time at which the lease timer runs out, in
  2^-32 ns. -/
  renewed : Nat := 0
  leaseEnd : Int := 0
  /-- The keepers that hold (bit l of leg l, then SDCLK0 to SDCLK3, FB0_P3 to FB15_P3, and A, B, Z of EMU0 to EMU3), and the core clock of the fence that enabled them (R545, R550). -/
  keepers : Nat := 0
  fencedAt : Int := 0
  /-- Core clock of the last valid heartbeat and of the last copy accepted, or of the start of twin operation (R555). -/
  hbAt : Int := 0
  copyAt : Int := 0
  /-- Core clock at which CHECK began, and of the next decision (R564). -/
  checkAt : Int := 0
  decideAt : Int := 0
  /-- Core clock at which a claim began (R559), and at which DRIBBLE_IN began to show edges (R562). -/
  claimAt : Int := 0
  dribbleFrom : Int := 0
  /-- Core clock at which the burst of the copy on the lanes ends, at which the lanes are free, and of the next heartbeat (R553, R555). -/
  copyEnd : Int := 0
  laneFree : Int := 0
  hbDue : Int := 0
  /-- Control-schedule value of the last twin instant taken, 2^-32 ns (R552). -/
  instantAt : Option Int := none
  /-- The state copy held, the one whose burst runs, the one in the second buffer. -/
  held : Option TwinCopy := none
  sending : Option TwinCopy := none
  waiting : Option TwinCopy := none
  /-- HANDOVER accepted: the next copy carries it. -/
  handover : Bool := false
  /-- The partner's last heartbeat, and the COUNTER of the last payload accepted from it. -/
  partnerState : Nat := 0
  partnerCounter : Nat := 0
  bursts : Nat := 0
  /-- No valid heartbeat for 100 µs; no copy for 4 TWIN_PERIODs. -/
  hbLost : Bool := true
  copyLate : Bool := false
  rejectRun : Bool := false
  /-- The state a claim was started from, and the conditions of R559 were met before. -/
  claimFrom : Nat := 2
  claimed : Bool := false
  /-- Instant of the claim, 125 ps of line time: legs keep the compare value of the copy until a window lies after it. -/
  resume : Option Int := none
  deriving DecidableEq, Repr, Inhabited

/-! ### Acquisition (chapter 08) -/

/-- An event of Table AQ-5 types 4 to 7 that no raw sample has seen: type, source, sense (0 rising, 1 falling), and attributed
instant in 125 ps of line time. -/
structure AcqEv where
  typ : Nat
  src : Nat
  pol : Nat
  t : Int
  deriving DecidableEq, Repr, Inhabited

/-- A trigger unit between raw samples: its last x, whether there is one, and whether a crossing may count (Table AQ-5). -/
structure TrigSt where
  last : Option Nat := none
  rise : Bool := false
  fall : Bool := false
  deriving DecidableEq, Repr, Inhabited

/-- The trigger of the current segment: its raw sample in the segment, its instant in 125 ps of line time, its stamp, TRIG_UNITS, FORCED, and the ignored
triggers before it. -/
structure TrigAt where
  k : Nat
  t : Int
  stamp : Nat
  units : Nat
  forced : Bool
  ignored : Nat
  firstIgnored : Nat
  deriving DecidableEq, Repr, Inhabited

/-- The acquisition engine beyond its objects. -/
structure AcqSt where
  /-- The acquisition objects as START took them (R358). -/
  cfg : Store := []
  /-- START has been taken and its first raw sample is still to come, or the next segment is set up: not before this time,
  125 ps. -/
  readyAt : Option Int := none
  /-- The re-arm instant of the segment that is being set up (R370), 125 ps. -/
  rAt : Option Int := none
  /-- The instants at which a STOP and a FORCE that wait for their raw sample were taken, 125 ps (R367, R373). -/
  stopReq : Option Int := none
  forceReq : Option Int := none
  events : List AcqEv := []
  /-- Instant of the previous raw sample; conditions and combination then. -/
  prevT : Option Int := none
  prevUnits : Nat := 0
  prevComb : Bool := false
  unit : Vector TrigSt 8 := Vector.replicate 8 {}
  /-- Number of the segment in progress or last begun; raw samples taken in it; frames complete in it. -/
  seg : Nat := 0
  k : Nat := 0
  frames : Nat := 0
  /-- Raw values of the block in progress of each slot, newest first, and the stamps of x_0 of the frames of the segment,
  newest first. -/
  block : List (List Nat) := []
  starts : List Nat := []
  /-- The values of the enabled slots since the last raw sample, newest first: slot, attributed instant in 125 ps, value; under 64 VALID and
  DOM of stamps (R350). -/
  past : List (Nat × Int × Nat) := []
  /-- The completion of the last segment, 125 ps (R369). -/
  doneAt : Int := 0
  trig : Option TrigAt := none
  /-- Ignored triggers since the last trigger; hold-off events since it; hold-off over. -/
  ignored : Nat := 0
  holdCount : Nat := 0
  holdOver : Bool := false
  deriving DecidableEq, Repr, Inhabited

/-- The machine. -/
structure State where
  /-- Object values as last written, and status, counters and measurements as the device holds them. -/
  regs : Store := []
  /-- The configuration in force since the last commit (R443). -/
  force : Store := []
  /-- DOMAIN and VSTRING objects that are stored as written. -/
  blobs : List (Nat × Bytes) := []
  time : TimeSt := {}
  net : Switch := {}
  pw : Power := {}
  sec : Secure := {}
  dict : Dict := {}
  host : HostSt := {}
  leg : LegSt := {}
  cell : Vector CellSt 16 := Vector.replicate 16 {}
  axis : Vector AxisSt 32 := Vector.replicate 32 {}
  port : Vector PortSt 16 := Vector.replicate 16 {}
  latch : Vector LatchSt 16 := Vector.replicate 16 {}
  emu : Vector EmuSt 4 := Vector.replicate 4 {}
  track : Vector TrackSt 4 := Vector.replicate 4 {}
  field : FieldSt := {}
  casc : Vector CascSt 16 := Vector.replicate 16 {}
  sub : Vector SubSt 8 := Vector.replicate 8 {}
  pub : Vector PubSt 4 := Vector.replicate 4 {}
  /-- Table RAM, 2 MiB, and the length of the latest data write of each table since it entered LOADING (R337): cams 0 to 63,
  compensation tables 64 to 79. -/
  tableRam : Memory := []
  tableLen : Vector (Option Nat) 80 := Vector.replicate 80 none
  acq : AcqSt := {}
  sp : Vector SpSt 2 := Vector.replicate 2 {}
  twin : TwinSt := {}
  can : Vector CanSt 4 := Vector.replicate 4 {}
  /-- Acquisition memory, 1 MiB (R356). -/
  acqRam : Memory := []
  /-- What has left the lands, in order. -/
  out : List Output := []
  /-- The commands that wait, first in, first out. -/
  pending : List Instr := []
  deriving DecidableEq, Repr, Inhabited

/-- The machine right after power-on reset (R46, R589): PORST_N still low, device in BOOT, every leg at high impedance, every
object at its default, nothing listed in memory, no command waiting. Values that the spec does not give are those of log
entries 3 and 6. -/
def State.reset : State := {}

end Sys2Proof.Machine
end

