-- ==== Sys2Proof/Machine/Ops.lean ====
section
/-! DEFINITION. The named operations over the state that every meaning uses: reading and writing object values, the value in
force, counters and flag bits, the two clocks and ST64 stamps, records and their staging, the audit log, free values, roles,
and what leaves the lands. -/
namespace Sys2Proof.Machine

/-! ### Object values -/

/-- The object's value as last written or as the device holds it (R443). -/
def State.rd (s : State) (k : Nat) : Nat := s.regs.get k

/-- The object's value set. -/
def State.wr (s : State) (k v : Nat) : State := { s with regs := s.regs.set k v }

/-- The value in force since the last configuration commit (R443, R453). -/
def State.cf (s : State) (k : Nat) : Nat := s.force.get k

/-- The value in force set without a commit. -/
def State.wrForce (s : State) (k v : Nat) : State := { s with force := s.force.set k v }

/-- A U32 counter incremented; at its greatest value it goes on from 0 (log entry 5). -/
def State.bump (s : State) (k : Nat) : State := s.wr k ((s.rd k + 1) % 2 ^ 32)

/-- A flag bit of an object set. -/
def State.setBit (s : State) (k i : Nat) : State := s.wr k (orBit (s.rd k) i)

/-- A flag bit of an object cleared. -/
def State.clrBit (s : State) (k i : Nat) : State := s.wr k (Sys2Proof.clrBit (s.rd k) i)

/-- A flag bit of an object made `b`. -/
def State.putBit (s : State) (k i : Nat) (b : Bool) : State := s.wr k (Sys2Proof.putBit (s.rd k) i b)

/-- Bit `i` of an object. -/
def State.bitOf (s : State) (k i : Nat) : Bool := (s.rd k).testBit i

/-- A BOOL object in force. -/
def State.on (s : State) (k : Nat) : Bool := s.cf k != 0

/-- A Q32 object as a signed raw integer. -/
def State.q (s : State) (k : Nat) : Int := q32 (s.rd k)

/-- A Q32 object in force. -/
def State.cq (s : State) (k : Nat) : Int := q32 (s.cf k)

/-- A Q32 position written, modulo 2^64 (R7). -/
def State.wrPos (s : State) (k : Nat) (v : Int) : State := s.wr k (ofPos v)

/-- A Q32 speed, acceleration or jerk written, saturated (R8). -/
def State.wrSat (s : State) (k : Nat) (v : Int) : State := s.wr k (ofSat v)

/-- Applying an update for each number of a list, in order. -/
def each {α : Type} (l : List α) (s : State) (f : State → α → State) : State := l.foldl f s

/-- The list of the numbers below `n`, ascending. -/
def upto (n : Nat) : List Nat := List.range n

/-! ### Elements -/

/-- Element `i` of a vector, the default outside it. -/
def at' {α : Type} [Inhabited α] {n : Nat} (v : Vector α n) (i : Nat) : α := (v[i]?).getD default

/-- A stored DOMAIN or VSTRING. -/
def State.blob (s : State) (k : Nat) : Bytes := ((s.blobs.find? (fun e => e.1 == k)).map (·.2)).getD []

/-- A DOMAIN stored; an empty one is not listed. -/
def State.wrBlob (s : State) (k : Nat) (b : Bytes) : State :=
  let rest := s.blobs.filter (fun e => e.1 != k)
  if b.isEmpty then { s with blobs := rest }
  else { s with blobs := rest.filter (fun e => decide (e.1 < k)) ++ (k, b) :: rest.filter (fun e => decide (k < e.1)) }

/-- The internal part of axis `n`. -/
def State.ax (s : State) (n : Nat) : AxisSt := at' s.axis n

/-- The internal part of axis `n` changed. -/
def State.modAx (s : State) (n : Nat) (f : AxisSt → AxisSt) : State :=
  { s with axis := s.axis.setIfInBounds n (f (s.ax n)) }

/-- The internal part of cell `n`. -/
def State.cl (s : State) (n : Nat) : CellSt := at' s.cell n

def State.modCl (s : State) (n : Nat) (f : CellSt → CellSt) : State :=
  { s with cell := s.cell.setIfInBounds n (f (s.cl n)) }

def State.pt (s : State) (n : Nat) : PortSt := at' s.port n
def State.modPt (s : State) (n : Nat) (f : PortSt → PortSt) : State :=
  { s with port := s.port.setIfInBounds n (f (s.pt n)) }

def State.lu (s : State) (n : Nat) : LatchSt := at' s.latch n
def State.modLu (s : State) (n : Nat) (f : LatchSt → LatchSt) : State :=
  { s with latch := s.latch.setIfInBounds n (f (s.lu n)) }

def State.em (s : State) (n : Nat) : EmuSt := at' s.emu n
def State.modEm (s : State) (n : Nat) (f : EmuSt → EmuSt) : State :=
  { s with emu := s.emu.setIfInBounds n (f (s.em n)) }

/-- What leaves the lands or answers a requester, noted. -/
def State.emit (s : State) (o : Output) : State := { s with out := s.out ++ [o] }

/-! ### Device state -/

def State.dev (s : State) : Dev := Dev.ofCode (s.rd Obj.DEV_DEVICE_STATE)

/-- The device is claimed (CLAIM_STATE). -/
def State.claimed (s : State) : Bool := s.rd Obj.OWN_CLAIM_STATE == 1

/-- The object dictionary is served (Table AR-8). -/
def State.served (s : State) : Bool :=
  match s.dev with
  | .boot | .standby => false
  | _ => true

/-! ### Time -/

/-- Nanoseconds per second. -/
def nsPerSec : Nat := 1000000000

/-- One second in units of 2^-32 ns. -/
def secU : Nat := nsPerSec * 2 ^ 32

/-- 125 ps in units of 2^-32 ns. -/
def tickU : Nat := 2 ^ 29

/-- The clock as one count of 2^-32 ns. -/
def Clock.units (c : Clock) : Nat := (c.sec * nsPerSec + c.ns) * 2 ^ 32 + c.frac

/-- The clock that shows a count of 2^-32 ns, its seconds modulo 2^48 (R10). -/
def Clock.ofUnits (n : Nat) : Clock :=
  ⟨n / secU % 2 ^ 48, n / 2 ^ 32 % nsPerSec, n % 2 ^ 32⟩

/-- A clock with other seconds, modulo 2^48. -/
def Clock.withSec (c : Clock) (sec : Nat) : Clock := ⟨sec % 2 ^ 48, c.ns, c.frac⟩

/-- The nanoseconds and fraction of a clock are in their ranges, the seconds in 48 bits. -/
def Clock.wf (c : Clock) : Bool := decide (c.ns < nsPerSec) && decide (c.frac < 2 ^ 32) && decide (c.sec < 2 ^ 48)

/-- One tick (R80): the increment is added to nanoseconds and fraction, and a full second is carried. -/
def Clock.tick (c : Clock) (inc : Nat) : Clock :=
  let f := c.frac + inc % 2 ^ 32
  let n := c.ns + inc / 2 ^ 32 + f / 2 ^ 32
  if nsPerSec ≤ n then ⟨(c.sec + 1) % 2 ^ 48, n - nsPerSec, f % 2 ^ 32⟩
  else ⟨c.sec, n, f % 2 ^ 32⟩

/-- The clock as an LT96 (R10): its fraction is the top 16 bits of the internal one. -/
def Clock.lt96 (c : Clock) : Nat := c.sec * 2 ^ 48 + c.ns * 2 ^ 16 + c.frac / 2 ^ 16

/-- An LT96 value in units of 2^-32 ns. -/
def lt96Units (x : Nat) : Nat := ((x / 2 ^ 48) * nsPerSec + x / 2 ^ 16 % 2 ^ 32) * 2 ^ 32 + x % 2 ^ 16 * 2 ^ 16

def State.ltSt (s : State) : LtSt := LtSt.ofCode (s.rd Obj.LT_STATE)

def State.domSt (s : State) (d : Nat) : DomSt := DomSt.ofCode (s.rd (Obj.DOM_STATE d))

/-- Line time is COARSE, FINE or HOLDOVER. -/
def LtSt.good : LtSt → Bool
  | .coarse | .fine | .holdover => true
  | _ => false

/-- Line time now, in units of 2^-32 ns. -/
def State.now (s : State) : Int := s.time.line.units

/-- The control schedule now (R24, R25), in units of 2^-32 ns. -/
def State.sched (s : State) : Int := s.now + s.time.schedDiff

/-- What line time adds at a tick (Table AR-7): the increment, or 40 ns without TIME_PLL lock. -/
def State.tickInc (s : State) : Nat := if s.pw.timePllLost then 40 * 2 ^ 32 else s.rd Obj.CLK_INCREMENT % 2 ^ 36

/-- The latest instant of a grid, of period `per` from `ph`, at or before `t`. -/
def gridBefore (t ph per : Int) : Int := fdiv (t - ph) per * per + ph

/-- The core clock: one count a nanosecond (R80). What must lie strictly after the clock t_w of a write compares this. -/
def State.clock (s : State) : Int := s.time.free.units

/-- Stamps carry VALID 1: a locked or holdover line time (Table LT-7) and TIME_PLL in lock (Table AR-7). -/
def State.stampsValid (s : State) : Bool := s.ltSt.good && !s.pw.timePllLost

/-- The ST64 of an instant in units of 2^-32 ns (R13 to R15): all zero unless valid. -/
def st64 (valid : Bool) (dom : Nat) (t : Int) : Nat :=
  if valid then
    let u := t.toNat
    let sec := u / secU % 2 ^ 29
    let ns := u / 2 ^ 32 % nsPerSec
    let eighth := u / tickU % 8
    sec * 2 ^ 35 + ns * 2 ^ 5 + eighth * 4 + dom % 2 * 2 + 1
  else 0

/-- The stamp of an event `off` units of 125 ps from now. -/
def State.stamp (s : State) (off : Int) : Nat :=
  st64 s.stampsValid s.time.lastDom (s.now + off * (tickU : Int))

/-- The stamp of a line time in units of 2^-32 ns. -/
def State.stampOf (s : State) (t : Int) : Nat := st64 s.stampsValid s.time.lastDom t

/-- VALID of a stamp. -/
def stampValid (x : Nat) : Bool := x.testBit 0

/-- The seconds-of-epoch-free part of a stamp in 125 ps units: SEC, NS and EIGHTH (R13). -/
def stampTicks (x : Nat) : Nat := ((x >>> 35) * nsPerSec + (x >>> 5) % 2 ^ 30) * 8 + (x >>> 2) % 8

/-- Line time in units of 125 ps. -/
def State.nowT (s : State) : Int := s.now / (tickU : Int)

/-- The ST64 of an instant in units of 125 ps of line time. -/
def State.stampT (s : State) (t : Int) : Nat := s.stampOf (t * (tickU : Int))

/-- An entry of the calibration set in force (R602). -/
def State.calv (s : State) (k : Nat) : Nat := s.dict.calInForce.get k

/-! ### Records -/

/-- A value at byte offset `o` (16 to 31) of a record's payload. -/
def pay (o v : Nat) : Nat := v <<< (8 * (o - 16))

/-- Codes that Table HE-9, Table CN-3, Table SP-8, Table TW-9, Table PS-8 and R485 mark fault-class. -/
def faultClass (cls code : Nat) : Bool :=
  match cls, code with
  | 4, 1 => true
  | 5, 1 => true | 5, 2 => true | 5, 3 => true
  | 8, 3 => true | 8, 6 => true
  | 0x0b, 3 => true
  | 0x0c, 5 => true
  | 0x0d, 4 => true | 0x0d, 5 => true
  | 0x0e, 0x10 => true
  | 0x0f, 1 => true | 0x0f, 3 => true
  | _, _ => false

/-- Ring `n` admits the record (Table HE-10): enabled, its class bit set, and for class 4 its axis bit. -/
def Ring.admits (g : Ring) (r : Rec) : Bool :=
  g.ctrl.testBit 0 && g.sourceFilter.testBit r.cls && (r.cls != 4 || g.axisFilter.testBit r.index)

/-- The rings that admit a record, one bit each. -/
def State.admitting (s : State) (r : Rec) : Nat :=
  (upto 16).foldl (fun m n => if (at' s.host.rings n).admits r then orBit m n else m) 0

/-- Records staged in the general part, and in the fault reserve. -/
def HostSt.general (h : HostSt) : Nat := (h.staging.filter (fun e => !e.reserve)).length
def HostSt.reserved (h : HostSt) : Nat := (h.staging.filter (fun e => e.reserve)).length

/-- The next record of every ring of the mask carries OVERFLOW (R50). -/
def HostSt.markOverflow (h : HostSt) (mask : Nat) : HostSt :=
  { h with rings := h.rings.mapIdx (fun i g => if mask.testBit i then { g with overflowNext := true } else g) }

/-- A record staged (R48, R486): one that no enabled ring admits leaves at once; one that finds the general part full takes
the fault reserve if it is fault-class; one that finds no place is dropped and counted, and the rings that would have
admitted it carry OVERFLOW next. -/
def State.stage (s : State) (r : Rec) : State :=
  let m := s.admitting r
  if m = 0 then s
  else if s.host.general < 224 then
    { s with host := { s.host with staging := s.host.staging ++ [⟨r, m, false⟩] } }
  else if r.fault && decide (s.host.reserved < 32) then
    { s with host := { s.host with staging := s.host.staging ++ [⟨r, m, true⟩] } }
  else
    let s1 := s.bump (if r.fault then Obj.HOST_FAULT_DROPS else Obj.HOST_STAGING_DROPS)
    { s1 with host := s1.host.markOverflow m }

/-- A record written with a given stamp (R485). -/
def State.recordAt (s : State) (stamp cls code detail index payload : Nat) : State :=
  s.stage ⟨cls, code, detail, index, faultClass cls code, stamp, payload⟩

/-- A record written with the present instant as its stamp. -/
def State.record (s : State) (cls code detail index payload : Nat) : State :=
  s.recordAt (s.stamp 0) cls code detail index payload

/-- The 32 bytes of a record with its SEQ and OVERFLOW (Table HE-7, Table HE-8). -/
def Rec.bytes (r : Rec) (seq : Nat) (overflow : Bool) : Bytes :=
  leBytes 2 seq ++ leBytes 1 r.cls ++ leBytes 1 r.code ++
  leBytes 4 (r.index % 2 ^ 16 + r.detail % 256 * 2 ^ 16 + (if overflow then 2 ^ 24 else 0) + (if r.fault then 2 ^ 25 else 0)) ++
  leBytes 8 r.stamp ++ leBytes 16 r.payload

/-- MRAM words written in region `r` (R601), `w` 64-bit words; WEAR_WARN at 8·10^8 cycles of a block. A write of the region
counts one cycle of its most written block. -/
def State.wear (s : State) (r w : Nat) : State :=
  let s := s.wr (Obj.NV_WORD_WRITES r) ((s.rd (Obj.NV_WORD_WRITES r) + w) % 2 ^ 64)
  let s := s.bump (Obj.NV_MAX_CYCLES r)
  if 800000000 ≤ s.rd (Obj.NV_MAX_CYCLES r) then s.setBit Obj.NV_WEAR_WARN r else s

/-- An audit record (R437, R438, Table SE-12): the log's ring of 4,096, AUDIT_COUNT, AUDIT_HEAD, and delivery as any
record. -/
def State.audit (s : State) (code typ result session : Nat) : State :=
  let r : Rec := ⟨0x0e, code, 0, 0, faultClass 0x0e code, s.stamp 0, pay 16 typ + pay 17 result + pay 18 session⟩
  let head := (Config.sha256 (leBytes 32 s.sec.auditHead ++ r.bytes 0 false)).toNat
  let full := decide (4096 ≤ s.sec.audit.length)
  let tail :=
    if full then
      match s.sec.audit.getLast? with
      | some o => (Config.sha256 (leBytes 32 s.sec.auditTailHead ++ o.bytes 0 false)).toNat
      | none => s.sec.auditTailHead
    else s.sec.auditTailHead
  let s := { s with sec := { s.sec with
    audit := r :: (if full then s.sec.audit.dropLast else s.sec.audit),
    auditHead := head, auditTailHead := tail } }
  ((s.bump Obj.AUD_AUDIT_COUNT).wear 6 4).stage r

/-- An event that trigger units may see (R361): noted while the engine runs or its START is taken, with a valid stamp. -/
def State.acqEvent (s : State) (typ src pol : Nat) (t : Int) : State :=
  let a := s.rd Obj.ACQ_STATE
  if ((a = 0 ∨ a = 7) ∧ s.acq.readyAt.isNone) ∨ !s.stampsValid then s
  else { s with acq := { s.acq with events := s.acq.events ++ [⟨typ, src, pol, t⟩] } }

/-! ### Roles and answers -/

def Role.level : Role → Nat
  | .none => 0 | .observer => 1 | .operator => 2 | .owner => 3

/-- The open session of a number. -/
def State.session (s : State) (id : Nat) : Option Session := s.sec.sessions.find? (fun x => x.id == id)

/-- The role of a request for a write (R403, R406): OWNER on an unclaimed device, that of its session, else NONE. -/
def State.writeRole (s : State) (session : Nat) : Role :=
  if !s.claimed then .owner
  else if session = 0 then .none
  else match s.session session with
    | some x => x.role
    | none => .none

/-- The role of a request for a read: as for a write, but OBSERVER without a session where ANON_READ is 1 (R404). -/
def State.readRole (s : State) (session : Nat) : Role :=
  if s.claimed && session == 0 && s.on Obj.OWN_ANON_READ then .observer else s.writeRole session

/-- The abort codes of Table OD-5; 0 is success. -/
def cBusy : Nat := 0x5E710004
def cNoObject : Nat := 0x06020000
def cNoSub : Nat := 0x06090011
def cWriteOnly : Nat := 0x06010001
def cReadOnly : Nat := 0x06010002
def cDenied : Nat := 0x5E710001
def cState : Nat := 0x08000022
def cLength : Nat := 0x06070010
def cRange : Nat := 0x06090030
def cNotMappable : Nat := 0x06040041
def cRefused : Nat := 0x5E710002
def cAdmission : Nat := 0x5E710003
def cProtocol : Nat := 0x05040001
def cTimeout : Nat := 0x05040000

/-- The result of taking a request: the state after it and its abort code, 0 for success. -/
structure Res where
  st : State
  code : Nat

/-- Success. -/
def okRes (s : State) : Res := ⟨s, 0⟩

/-- Refusal with a code, nothing changed. -/
def refuse (s : State) (c : Nat) : Res := ⟨s, c⟩

end Sys2Proof.Machine
end

