-- ==== Sys2Proof/Machine/Legs.lean ====
section
/-! DEFINITION. Legs (chapter 04): who owns a leg, when it is driven, fences, reload points, direct mode and LOAD_ALL, trips,
the fast overcurrent path, and the delay line. -/
namespace Sys2Proof.Machine
open Obj

/-- The bits of a mask below 64, ascending. -/
def bitsOf (m : Nat) : List Nat := (upto 64).filter (fun i => m.testBit i)

/-- CC_MODE in force of axis `n`; 0 for a virtual axis. -/
def State.ccMode (s : State) (n : Nat) : Nat := if n < 16 then s.cf (CC_MODE n) else 0

/-- The legs of the leg set in force of axis `n` (R201). -/
def State.legSet (s : State) (n : Nat) : Nat :=
  if s.ccMode n = 0 then 0
  else (upto 4).foldl (fun m i => let l := s.cf (CCL_LEG n i); if l < 48 then orBit m l else m) 0

/-- The axis that owns leg `l`, if it is cell-owned. -/
def State.legOwner (s : State) (l : Nat) : Option Nat := (upto 16).find? (fun n => (s.legSet n).testBit l)

/-- The leg is in direct mode: LEG_MODE 2 in force and not cell-owned. -/
def State.direct (s : State) (l : Nat) : Bool := s.cf (LEG_MODE l) == 2 && (s.legOwner l).isNone

/-- The axis on whose carrier a leg runs: its owner, or the one whose voltage mode has ended until its next reload point (R187,
R212). -/
def State.legAxis (s : State) (l : Nat) : Option Nat := (s.legOwner l).or (at' s.leg.leaving l)

/-- The carrier group of a leg (chapter 04, Carrier groups). -/
def State.groupOf (s : State) (l : Nat) : Nat :=
  match s.legAxis l with
  | some n => s.cf (CC_CARRIER_GROUP n)
  | none => s.cf (LEG_GROUP l)

/-- The driven legs of an axis lose their owner, and its next reload point releases them (R187, R212). -/
def State.leaveLegs (s : State) (n : Nat) : State :=
  let m := s.legSet n &&& s.leg.driven
  { s with leg := { s.leg with leaving := s.leg.leaving.mapIdx (fun l o => if m.testBit l then some n else o) } }

/-- The power stage of an axis in state `v` of Table MO-1 is on (R271). -/
def powerStage (v : Nat) : Bool := v == 2 || v == 3 || v == 4 || v == 6

/-- The axis state of axis `n` (Table MO-1). -/
def State.axState (s : State) (n : Nat) : Nat := s.rd (AX_AXIS_STATE n)

def State.stageOn (s : State) (n : Nat) : Bool := powerStage (s.axState n)

/-- The unit drives the shared nets: single, or PLAYING (R542). -/
def State.drivesNets (s : State) : Bool := let t := s.rd TW_TWIN_STATE; t == 0 || t == 5

/-- The unit is a twin bench unit: CHECK, BENCH, BENCH_STALE or CLAIMING (R540). -/
def State.isBench (s : State) : Bool := let t := s.rd TW_TWIN_STATE; decide (1 ≤ t) && decide (t ≤ 4)

/-- The legs that a set trip flag covers (R221, R223). -/
def State.tripped (s : State) : Nat :=
  (upto 8).foldl (fun m i => if s.bitOf TRIP_FLAGS i then m ||| s.cf (TRIP_MASK i) else m) 0

/-- The device state permits the legs of axis `n` to be driven (Table AR-8). -/
def State.axisMayDrive (s : State) (n : Nat) : Bool :=
  match s.dev with
  | .op => true
  | .preop => !s.claimed && s.axState n == 6
  | .locked => s.axState n == 4
  | _ => false

/-- A leg is eligible to be driven (R210). -/
def State.legEligible (s : State) (l : Nat) : Bool :=
  s.drivesNets && !s.pw.sysPllLost && !s.pw.coreLow && !s.pw.ioLow && !s.tripped.testBit l &&
  match s.legOwner l with
  | some n => s.axisMayDrive n && s.stageOn n && !s.leg.fenced.testBit l
  | none => s.direct l && s.dev == .op && s.rd (LEG_DIRECT_ENABLE l) == 1

/-- Legs at high impedance at once and a fence standing on them until their owner enables again (R212, R220). -/
def State.fenceNow (s : State) (m : Nat) : State :=
  { s with leg := { s.leg with driven := clrMask s.leg.driven m, fenced := s.leg.fenced ||| m } }

/-- Every leg at high impedance at once. -/
def State.fenceAll (s : State) : State := s.fenceNow (2 ^ 48 - 1)

/-- A fence on legs that acts at their next reload point (R194, R195). -/
def State.fenceAtReload (s : State) (m : Nat) : State := { s with leg := { s.leg with fenced := s.leg.fenced ||| m } }

/-- The fences on the legs of an axis end when it enables again (R223). -/
def State.unfence (s : State) (m : Nat) : State := { s with leg := { s.leg with fenced := clrMask s.leg.fenced m } }

/-- The value clamped to the pulse limits of its group (R205, third case). -/
def clampPulse (minPulse period c : Nat) : Nat := max minPulse (min c (period - minPulse))

/-- Units of 125 ps with the bits below 1 ns truncated where the delay line cannot span 1 ns (R208). -/
def tapTrunc (coarse : Bool) (x : Nat) : Nat := if coarse then x / 8 * 8 else x

/-- The switching signal of a leg from this reload point on (R205, R206). `peak` marks the falling half. -/
def waveOf (upMode peak coarse : Bool) (period minPulse c : Nat) : Wave :=
  let half := if upMode then period else if peak then period - period / 2 else period / 2
  let edges (a b : Nat) : Wave := { start := tapTrunc coarse a, high := tapTrunc coarse b - tapTrunc coarse a, len := half }
  if c = 0 then { start := half, high := 0, len := half }
  else if c = 0xFFFFFFFF then { start := 0, high := half, len := half }
  else
    let k := clampPulse minPulse period c
    if upMode then edges 0 k
    else if peak then edges 0 (k - k / 2)
    else { edges (half - k / 2) half with high := half - tapTrunc coarse (half - k / 2) }

/-- The level of the switching signal at `t`. -/
def Wave.level (w : Wave) (t : Int) : Bool :=
  if t < w.at_ then w.before else decide (w.at_ + w.start ≤ t) && decide (t < w.at_ + w.start + w.high)

/-- The instant of the last change of the switching signal up to `t`. -/
def Wave.since (w : Wave) (t : Int) : Int :=
  if t < w.at_ then w.changed
  else if w.level t then (if w.start = 0 ∧ w.before then w.changed else w.at_ + w.start)
  else if 0 < w.high ∧ w.at_ + w.start + w.high ≤ t then w.at_ + w.start + w.high
  else if w.before then w.at_ else w.changed

/-- The signal goes on as `new` from `t` on. -/
def Wave.next (w new : Wave) (t : Int) : Wave := { new with at_ := t, before := w.level (t - 1), changed := w.since (t - 1) }

/-- The latest valley, or peak, of carrier group `g` up to now, in units of 125 ps of the control schedule (R203): with LOCK 1 the
valleys S hold (S − PHASE) mod PERIOD = 0, with LOCK 0 they count from the group's anchor; a peak lies at the midpoint. -/
def State.lastPoint (s : State) (g : Nat) (peak : Bool) : Int :=
  let per := s.rd (CG_PERIOD_ACTIVE g)
  let first : Int := if s.on (CG_LOCK g) then ((s.cf (CG_PHASE g) : Nat) : Int) else at' s.leg.anchor g
  gridBefore (s.sched / (tickU : Int)) (first + ((if peak then per / 2 else 0 : Nat) : Int)) ((max 1 per : Nat) : Int)

/-- A valley, or in up-down mode a peak, of group `g` lies within the core clock that ends now. -/
def State.atPoint (s : State) (g : Nat) (peak : Bool) : Bool :=
  decide (s.sched - ((s.tickInc : Nat) : Int) < s.lastPoint g peak * (tickU : Int)) && !(peak && s.cf (CG_COUNT_MODE g) == 1)

/-- Edges of a leg are placed at 1 ns by the tap map of its group (R208). -/
def State.coarseLeg (s : State) (l : Nat) : Bool := s.leg.coarse.testBit (s.groupOf l)

/-- The switching signal of leg `l` from the reload point of this core clock on. -/
def State.waveNow (s : State) (peak : Bool) (l : Nat) : Wave :=
  let g := s.groupOf l
  (at' s.leg.wave l).next
    (waveOf (s.cf (CG_COUNT_MODE g) == 1) peak (s.coarseLeg l) (s.rd (CG_PERIOD_ACTIVE g)) (s.cf (CG_MIN_PULSE g))
      (s.rd (LEG_COMPARE_ACTIVE l))) (s.lastPoint g peak)

/-- LEGn_H and LEGn_L asserted at `t` of the control schedule: H from DT_RISE after the signal has risen, or the leg has started
with it high, until it falls; L from DT_FALL after it has fallen, or the leg has started with it low, until it rises (R209,
R211). -/
def State.legOn (s : State) (l : Nat) (t : Int) : Bool × Bool :=
  let w := at' s.leg.wave l
  let dt (k : Nat) : Int := tapTrunc (s.coarseLeg l) (s.cf k)
  let age := t - max (w.since t) (at' s.leg.started l)
  (w.level t && decide (dt (LEG_DT_RISE l) ≤ age), !w.level t && decide (dt (LEG_DT_FALL l) ≤ age))

/-- The lands LEGn_H and LEGn_L at `t`: at their levels by POLARITY where the leg is driven, none at high impedance (R209,
R210). -/
def State.legLands (s : State) (l : Nat) (t : Int) : Option (Bool × Bool) :=
  if s.leg.driven.testBit l then
    some ((s.legOn l t).1 != (s.cf (LEG_POLARITY l)).testBit 0, (s.legOn l t).2 != (s.cf (LEG_POLARITY l)).testBit 1)
  else none

/-- The reload point of leg `l` at a valley, or at a peak (R204); a driven leg that has lost its owner is released at the next
one (R187, R212). -/
def State.isReload (s : State) (l : Nat) (peak : Bool) : Bool :=
  let g := s.groupOf l
  match s.legAxis l with
  | some n => !peak || s.cf (CC_RATE n) == 2
  | none => if s.direct l then !peak || (s.on (CG_RELOAD_AT_PEAK g) && s.cf (CG_COUNT_MODE g) == 0)
    else s.leg.driven.testBit l

/-- One leg at its reload point: a committed duty takes effect (R28), and the leg starts or goes to high impedance (R211,
R212). -/
def State.reloadLeg (s : State) (peak : Bool) (l : Nat) : State :=
  let s := match at' s.leg.cellCompare l with
    | some c => { s.wr (LEG_COMPARE_ACTIVE l) c with
        leg := { s.leg with cellCompare := s.leg.cellCompare.setIfInBounds l none } }
    | none => s
  let w := s.waveNow peak l
  let on := s.legEligible l
  { s with leg := { s.leg with
    driven := Sys2Proof.putBit s.leg.driven l on
    wave := s.leg.wave.setIfInBounds l w
    started := if on && !s.leg.driven.testBit l then s.leg.started.setIfInBounds l w.at_ else s.leg.started
    leaving := s.leg.leaving.setIfInBounds l none } }

/-- The signal of a leg goes on into the next half with the compare in force (R206). -/
def State.waveOn (s : State) (peak : Bool) (l : Nat) : State :=
  { s with leg := { s.leg with wave := s.leg.wave.setIfInBounds l (s.waveNow peak l) } }

/-- A group takes the tap map that the last measurement gave it (R208). -/
def State.takeTaps (s : State) (g : Nat) : State :=
  if s.leg.tapPending.testBit g then
    { s with leg := { s.leg with
      tapPending := Sys2Proof.clrBit s.leg.tapPending g
      coarse := Sys2Proof.putBit s.leg.coarse g (s.rd DL_STATE == 2) } }
  else s

/-- A valley or peak of carrier group `g`: at a valley a new tap map is taken (R208), its legs reload, the others go on. -/
def State.reload (s : State) (g : Nat) (peak : Bool) : State :=
  let s := if peak then s else s.takeTaps g
  let legs := (upto 48).filter (fun l => s.groupOf l == g && s.isReload l peak)
  let others := (upto 48).filter (fun l => s.groupOf l == g && !s.isReload l peak)
  let s := each legs s (fun s l => s.reloadLeg peak l)
  each others s (fun s l => s.waveOn peak l)

/-- RELOAD of a group whose valley or peak lies in this core clock (R203); at another instant nothing happens. -/
def execReload (g : Fin 16) (peak : Bool) (s : State) : Host.Outcome State Fault Refusal :=
  .next (if s.atPoint g.val peak then s.reload g.val peak else s)

/-- The groups that have a direct-mode leg. -/
def State.directGroups (s : State) : Nat :=
  (upto 48).foldl (fun m l => if s.direct l then orBit m (s.groupOf l) else m) 0

/-- A reload point of the direct-mode legs of group `g` may lie at a valley, or at a peak (R204). -/
def State.loadPoint (s : State) (g : Nat) (valley : Bool) : Bool :=
  valley || (s.on (CG_RELOAD_AT_PEAK g) && s.cf (CG_COUNT_MODE g) == 0)

/-- The groups with a reload point of their direct-mode legs in this core clock (R217). -/
def State.loadPoints (s : State) : Nat :=
  (upto 16).foldl (fun m g =>
    if s.atPoint g false || (s.loadPoint g false && s.atPoint g true) then orBit m g else m) 0

/-- LOAD_ALL taken (R215, R217, R218): every direct-mode shadow goes to the pending set; one that coincides with a reload point of
its group waits for the following one. -/
def State.loadAll (s : State) : State :=
  let gs := s.directGroups
  let old := s.rd LEGS_LOAD_PENDING
  let s := each (bitsOf (gs &&& old)) s (fun s _ => s.bump LEGS_LOAD_REPLACED)
  let s := each (bitsOf (gs &&& s.loadPoints)) s (fun s _ => s.bump LEGS_LOAD_DEFERRED)
  let pc := (upto 48).foldl (fun v l => if s.direct l then v.setIfInBounds l (s.rd (LEG_DIRECT_COMPARE l)) else v) s.leg.pendCompare
  let pp := (upto 16).foldl (fun v g =>
    v.setIfInBounds g (if s.on (CG_LOCK g) then s.rd (CG_PERIOD_ACTIVE g) else s.rd (CG_DIRECT_PERIOD g))) s.leg.pendPeriod
  { s.wr LEGS_LOAD_PENDING (old ||| gs) with
    leg := { s.leg with pendCompare := pc, pendPeriod := pp, loadAt := s.clock } }

/-- The pending set of a group transfers at a reload point of its direct-mode legs (R204) strictly after its LOAD_ALL, at a
valley if its period changes (R216): a group with LOCK 0 counts from the valley of its new period on (R203). The new values are in
force from this point on, whether the RELOAD of the point comes before or after. -/
def State.loadTransfer (s : State) (g : Nat) (valley : Bool) : State :=
  let p := at' s.leg.pendPeriod g
  if !s.bitOf LEGS_LOAD_PENDING g ∨ !s.loadPoint g valley ∨ !s.atPoint g (!valley) ∨ s.clock ≤ s.leg.loadAt then s
  else if p ≠ s.rd (CG_PERIOD_ACTIVE g) ∧ !valley then s
  else
    let legs := (upto 48).filter (fun l => s.direct l && s.groupOf l == g)
    let s := if p = s.rd (CG_PERIOD_ACTIVE g) then s
      else { s with leg := { s.leg with anchor := s.leg.anchor.setIfInBounds g (s.lastPoint g false) } }
    let s := each legs s (fun s l => s.wr (LEG_COMPARE_ACTIVE l) (at' s.leg.pendCompare l))
    let s := (s.wr (CG_PERIOD_ACTIVE g) p).clrBit LEGS_LOAD_PENDING g
    each legs s (fun s l => s.waveOn (!valley) l)

def execLoadTransfer (g : Fin 16) (valley : Bool) (s : State) : Host.Outcome State Fault Refusal :=
  .next (s.loadTransfer g.val valley)

/-- DIRECT_ENABLE written (R212, R223, R562): refused while a set trip flag covers the leg; a withdrawal acts at the next
reload point. -/
def State.directEnable (s : State) (l v : Nat) : Res :=
  if v = 1 ∧ s.tripped.testBit l then refuse s cState
  else
    let s := s.wr (LEG_DIRECT_ENABLE l) v
    okRes (if v = 1 then s.unfence (1 <<< l) else s)

/-- TRIP_LEVEL: a bit reads 1 while its land is at the active level by TRIP_POLARITY. -/
def State.tripActive (s : State) : Nat := (255 - s.leg.tripLand % 256) ^^^ (s.cf TRIP_POLARITY % 256)
def State.tripLevels (s : State) : State := s.wr TRIP_LEVEL s.tripActive

/-- A trip flag bit cleared by writing 1, only while its input is at its inactive level (R222). -/
def State.clearTrips (s : State) (m : Nat) : State :=
  s.wr TRIP_FLAGS (clrMask (s.rd TRIP_FLAGS) (clrMask m s.tripActive))

/-- OC_FLAGS or MOD_FAULT_FLAGS bits cleared by writing 1, only where the condition no longer holds (R185). -/
def State.clearOc (s : State) (m : Nat) : State := s.wr SDF_OC_FLAGS (clrMask (s.rd SDF_OC_FLAGS) (clrMask m s.leg.ocNow))
def State.clearMod (s : State) (m : Nat) : State :=
  s.wr SDF_MOD_FAULT_FLAGS (clrMask (s.rd SDF_MOD_FAULT_FLAGS) (clrMask m s.leg.modNow))

/-- The delay-line replica measured (R208): within 1 ns, or OUT_OF_RANGE with a record; each group takes its map at its
next valley. `tap` is the mean tap delay, F32 seconds. -/
def State.delayLine (s : State) (spans : Bool) (tap : Nat) : State :=
  let old := s.rd DL_STATE
  let s := ((s.wr DL_STATE (if spans then 1 else 2)).bump DL_CAL_COUNT).wr DL_TAP tap
  let s := if !spans && old != 2 then s.record 5 4 0 0 0 else s
  { s with leg := { s.leg with tapPending := 0xffff } }

def execDelayLineCalibration (spans : Bool) (tap : BitVec 32) (s : State) : Host.Outcome State Fault Refusal :=
  .next (s.delayLine spans tap.toNat)

end Sys2Proof.Machine
end

