-- ==== Sys2Proof/Machine/CanQueue.lean ====
section
/-! DEFINITION. Protocol frames on their way to a CAN bus (R501, R502, R504): the listen-only rule, the queue of a channel, the
keys and the FRESHNESS of the trailer of R425 outside sessions. -/
namespace Sys2Proof.Machine
open Obj

def State.cn (s : State) (c : Nat) : CanSt := at' s.can c
def State.modCn (s : State) (c : Nat) (f : CanSt → CanSt) : State := { s with can := s.can.setIfInBounds c (f (s.cn c)) }

/-- The channel operates in listen-only (R501, R502). -/
def State.listenOnly (s : State) (c : Nat) : Bool := s.cf (CAN_MODE c) == 2 || (s.cf (CAN_MODE c) == 1 && s.isBench)

/-- A protocol frame goes to a channel: queued for the bus, or counted as suppressed in listen-only (R501). -/
def State.canSend (s : State) (c id : Nat) (data : Bytes) : State :=
  if s.cf (CAN_MODE c) = 0 then s
  else if s.listenOnly c then s.bump (CANS_PROTO_SUPPRESSED c)
  else s.modCn c (fun x => { x with proto := x.proto ++ [⟨id, data, s.nowT⟩] })

/-- CAN_ID of a publisher or subscription ([28:0], [31] extended) as the identifier of a frame, bit 29 for extended (R331, R504). -/
def passIdent (v : Nat) : Nat := v % 2 ^ 29 + (if v.testBit 31 then 2 ^ 29 else 0)


/-- Line time in microseconds modulo 2^32 (R426). -/
def usOf (t : Int) : Nat := (t.toNat / (2 ^ 32 * 1000)) % 2 ^ 32

/-- The value found in a list of pairs. -/
def pairOf (l : List (Nat × Nat)) (k : Nat) : Option Nat := (l.find? (fun e => e.1 == k)).map (·.2)
/-- The list with a pair replaced. -/
def pairSet (l : List (Nat × Nat)) (k v : Nat) : List (Nat × Nat) := (k, v) :: l.filter (fun e => e.1 != k)

/-- FRESHNESS of a frame under an identifier, taken from an instant in 2^-32 ns: where that value has been sent under it, the previous
value + 1 (R426). Values 2^31 and more behind the last one are of an earlier round of the modulus, and no repeat (log entry 83). -/
def State.canFresh (s : State) (c id : Nat) (t : Int) : State × Nat :=
  let f := usOf t
  let l := (s.cn c).txFresh
  let f := match pairOf l id with
    | some last => if l.contains (id, f) then (last + 1) % 2 ^ 32 else f
    | none => f
  (s.modCn c (fun x => { x with
    txFresh := (id, f) :: l.filter (fun e => e.1 != id || decide ((f + 2 ^ 32 - e.2) % 2 ^ 32 < 2 ^ 31)) }), f)

/-- The process-data keys of a channel, newest last, numbered for the key store. -/
def State.canKeys (s : State) (c : Nat) : List Nat :=
  (s.sec.keys.filter (fun k => k.cls == 3 && k.place == c)).map (fun k => 3 * 2 ^ 40 + c * 2 ^ 32 + k.keyId)

/-- What the MAC of R425 is taken over: the identifier with bit 31 set for an extended one, the payload's length, the payload and
FRESHNESS. -/
def macInput (id fresh : Nat) (payload : Bytes) : Bytes :=
  let ident := if id.testBit 29 then id % 2 ^ 29 + 2 ^ 31 else id % 2 ^ 29
  leBytes 4 ident ++ leBytes 1 payload.length ++ payload ++ leBytes 4 fresh

/-- The trailer of R425 on a payload, under the newest process-data key of the channel. -/
def State.canTrailer (s : State) (c id fresh : Nat) (payload : Bytes) : Bytes :=
  let mac := Config.cmac ((s.canKeys c).getLastD 0) (macInput id fresh payload)
  payload ++ leBytes 4 fresh ++ leBytes 8 mac.toNat

/-- The freshness rule of R426 for a received frame: line time is good, the value lies in the half-open window (R17), and it is newer
than the last accepted on the object. -/
def State.freshOk (s : State) (last : Option Nat) (fresh : Nat) : Bool :=
  let own := usOf s.now
  let w := s.cf SEC_FRESH_WINDOW
  let d := (fresh + 2 ^ 32 - own) % 2 ^ 32
  s.ltSt.good && (decide (d < w) || decide (2 ^ 32 ≤ d + w)) &&
  (match last with
   | some l => decide (0 < (fresh + 2 ^ 32 - l) % 2 ^ 32) && decide ((fresh + 2 ^ 32 - l) % 2 ^ 32 < 2 ^ 31)
   | none => true)

end Sys2Proof.Machine
end

