-- ==== Sys2Proof/Machine/Planner.lean ====
section
/-! DEFINITION. The generator's paths (R285, R299): velocity changes, stops, moves to a target and moves through a queue, as
pieces of constant jerk over exact times. Positions, velocities, accelerations and jerks are raw Q32 integers; times are in
units of 2^-32 ns. The last piece of a plan has duration 0 and holds from then on. -/
namespace Sys2Proof.Machine

/-- One second in plan time, as an integer. -/
def secI : Int := (secU : Int)

/-- A quotient of raw values in double precision, rounded to the nearest raw value (R285). -/
def dblRaw (num den : Int) : Int := f64.toIntNearest (f64.ofRat num (den.toNat * 2 ^ 32)) 32

/-- The state of a piece `t` units after its start. -/
def Seg.posAt (x : Seg) (t : Int) : Int :=
  dblRaw (6 * secI * secI * secI * x.p + 6 * secI * secI * x.v * t + 3 * secI * x.a * t * t + x.j * t * t * t) (6 * secI * secI * secI)
def Seg.velAt (x : Seg) (t : Int) : Int := dblRaw (2 * secI * secI * x.v + 2 * secI * x.a * t + x.j * t * t) (2 * secI * secI)
def Seg.accAt (x : Seg) (t : Int) : Int := dblRaw (secI * x.a + x.j * t) secI

/-- A set-point state: position, velocity, acceleration, jerk. -/
structure PVA where
  p : Int
  v : Int
  a : Int
  j : Int := 0
  deriving DecidableEq, Repr, Inhabited

/-- The plan evaluated `t` units after its start. -/
def evalPlan : List Seg → Int → PVA
  | [], _ => ⟨0, 0, 0, 0⟩
  | [x], t => ⟨x.posAt t, x.velAt t, x.accAt t, x.j⟩
  | x :: xs, t => if t < x.dur then ⟨x.posAt t, x.velAt t, x.accAt t, x.j⟩ else evalPlan xs (t - x.dur)

/-- The plan has reached its last piece. -/
def planDone : List Seg → Int → Bool
  | [], _ => true
  | [_], _ => true
  | x :: xs, t => if t < x.dur then false else planDone xs (t - x.dur)

/-- The total duration of the pieces before the last. -/
def planLen (l : List Seg) : Int := l.foldl (fun n x => n + x.dur) 0

/-- The effective limits of a move (R285): rise limit A, fall limit D, jerk, and whether the profile is an S-curve. -/
structure Lims where
  v : Int
  a : Int
  d : Int
  j : Int
  s : Bool
  deriving DecidableEq, Repr, Inhabited

/-- A phase: its duration, its acceleration at the start and its jerk. -/
structure Ph where
  dur : Int
  a : Int
  j : Int
  deriving DecidableEq, Repr

/-- The phase that takes the acceleration from `x` to `y` at jerk `j`. -/
def phTo (x y j : Int) : Ph := ⟨rdiv (absI (y - x) * secI) j, x, signI (y - x) * j⟩

/-- The velocity gained while the acceleration goes from `x` to `y` at jerk `j`, times 2j. -/
def gain2 (x y : Int) : Int := (x + y) * absI (y - x)

/-- An S-curve change from (v0, a0) to (v1, a1) whose acceleration stays within `l` (R285): to a peak, held where the peak
would exceed `l`, and to a1. -/
def sRamp (l j v0 a0 v1 a1 : Int) : List Ph :=
  let dv := v1 - v0
  let s : Int := if 2 * j * dv < gain2 a0 a1 then -1 else 1
  let x := s * a0
  let y := s * a1
  let pk2 := (2 * j * (s * dv) + x * x + y * y) / 2
  let pk : Int := if pk2 < 0 then 0 else (isqrt pk2.toNat : Nat)
  let ph (p q : Int) : Ph := let h := phTo p q j; ⟨h.dur, s * h.a, s * h.j⟩
  if pk ≤ l then [ph x pk, ph pk y]
  else
    let hold := rdiv ((2 * j * (s * dv) - gain2 x l - gain2 l y) * secI) (2 * j * l)
    [ph x l, ⟨if hold < 0 then 0 else hold, s * l, 0⟩, ph l y]

/-- A velocity change from (v0, a0) to (v1, 0) under the limits, the fall limit up to a crossing of v = 0 and the rise limit
from there (R285). -/
def rampV (l : Lims) (v0 a0 v1 : Int) : List Ph :=
  let cross := decide (v0 * v1 < 0)
  if l.s then
    if !cross then
      let s : Int := if 2 * l.j * (v1 - v0) < gain2 a0 0 then -1 else 1
      let w := if v1 = 0 then v0 else v1
      sRamp (if v1 ≠ 0 ∧ 0 < s * w then l.a else l.d) l.j v0 a0 v1 0
    else
      let s := signI (v1 - v0)
      let m := if l.a < l.d then l.a else l.d
      if 2 * l.j * absI v0 < m * m - a0 * a0 then sRamp l.a l.j v0 a0 v1 0
      else if 2 * l.j * absI v1 < m * m then sRamp l.d l.j v0 a0 v1 0
      else sRamp l.d l.j v0 a0 0 (s * m) ++ sRamp l.a l.j 0 (s * m) v1 0
  else if !cross then
    let lim := if absI v0 ≤ absI v1 then l.a else l.d
    [⟨rdiv (absI (v1 - v0) * secI) lim, signI (v1 - v0) * lim, 0⟩]
  else
    let s := signI (v1 - v0)
    [⟨rdiv (absI v0 * secI) l.d, s * l.d, 0⟩, ⟨rdiv (absI v1 * secI) l.a, s * l.a, 0⟩]

/-- The pieces of a list of phases from (p, v); the first component is the reversed list so far. -/
def layPhases : List Ph → Int → Int → List Seg × Int × Int
  | [], p, v => ([], p, v)
  | h :: t, p, v =>
    let x : Seg := ⟨h.dur, p, v, h.a, h.j⟩
    let (xs, p', v') := layPhases t (x.posAt h.dur) (x.velAt h.dur)
    (x :: xs, p', v')

/-- Where phases from velocity `v` lead, from position 0. -/
def phasesDisp (h : List Ph) (v : Int) : Int := (layPhases h 0 v).2.1

/-- The velocity change as a plan from `p`, steady at v1 after it. -/
def planVel (l : Lims) (p v0 a0 v1 : Int) : List Seg :=
  let (xs, q, _) := layPhases (rampV l v0 a0 v1) p v0
  xs ++ [⟨0, q, v1, 0, 0⟩]

/-- The limits of a stop at a deceleration: it governs rise and fall alike. -/
def stopLims (dec j : Int) (s : Bool) : Lims := ⟨0, dec, dec, j, s⟩

/-- The stop from (p, v0, a0) at deceleration `dec`. -/
def planStop (dec j : Int) (s : Bool) (p v0 a0 : Int) : List Seg := planVel (stopLims dec j s) p v0 a0 0

/-- Where that stop ends. -/
def stopEnd (dec j : Int) (s : Bool) (p v0 a0 : Int) : Int := p + phasesDisp (rampV (stopLims dec j s) v0 a0 0) v0

/-- The greatest integer of [lo, hi) that a downward closed test holds for, by bisection. -/
def bisect (f : Int → Bool) : Nat → Int → Int → Int
  | 0, lo, _ => lo
  | n + 1, lo, hi =>
    let m := (lo + hi) / 2
    if hi ≤ lo + 1 then lo else if f m then bisect f n m hi else bisect f n lo m

/-- Phases from velocity `v` up to `t` units after their start, with velocity and acceleration there. -/
def cutPhases : List Ph → Int → Int → List Ph × Int × Int
  | [], v, _ => ([], v, 0)
  | h :: hs, v, t =>
    let x : Seg := ⟨h.dur, 0, v, h.a, h.j⟩
    if t < h.dur then ([{ h with dur := t }], x.velAt t, x.accAt t)
    else
      let (r, w, a) := cutPhases hs (x.velAt h.dur) (t - h.dur)
      (h :: r, w, a)

/-- The phases that go toward `l.v` for `t` units and then change to velocity ve. -/
def turnAt (l : Lims) (v0 a0 ve t : Int) : List Ph :=
  let (r, w, a) := cutPhases (rampV l v0 a0 l.v) v0 t
  r ++ rampV l w a ve

/-- The time-optimal phases over `need`, not less than the way of the change from v0 to ve: toward `l.v` for as long as the change to
ve still ends on `need`, with a cruise at `l.v` where that is reached (R285). The way grows with the time before the turn. -/
def movePhases (l : Lims) (v0 a0 need ve : Int) : List Ph :=
  let up := rampV l v0 a0 l.v
  let down := rampV l l.v 0 ve
  let rest := need - phasesDisp up v0 - phasesDisp down l.v
  if 0 ≤ rest then up ++ [⟨if l.v ≤ 0 then 0 else rdiv (rest * secI) l.v, 0, 0⟩] ++ down
  else
    let len := up.foldl (fun n h => n + h.dur) 0
    turnAt l v0 a0 ve (bisect (fun t => decide (phasesDisp (turnAt l v0 a0 ve t) v0 ≤ need)) 128 0 len)

/-- Two ways to a joint that differ by less, 2^-20 count, differ by the rounding of the set-points only (log entry 64). -/
def slack : Int := 4096

/-- The pieces of a move over `need` from (p, v0, a0) to velocity ve (R285): the change to ve alone where it leads to the joint. A way
that is shorter than that of the change to ve is reached from the other side. -/
def moveSegs (l : Lims) (p v0 a0 need ve : Int) : List Seg :=
  let way := phasesDisp (rampV l v0 a0 ve) v0
  if ve ≠ 0 ∧ absI (need - way) ≤ slack then (layPhases (rampV l v0 a0 ve) p v0).1
  else
    let s : Int := if need < way then -1 else 1
    let ph := (movePhases l (s * v0) (s * a0) (s * need) (s * ve)).map (fun h => { h with a := s * h.a, j := s * h.j })
    (layPhases ph p v0).1

/-- A position move to `target`, at rest there (R285). -/
def planMove (l : Lims) (p v0 a0 target : Int) : List Seg :=
  moveSegs l p v0 a0 (posDiff target p) 0 ++ [⟨0, target, 0, 0, 0⟩]

/-- The greatest velocity up to `cap` from which `ve` is reached within `len` at the fall limit; where `ve` is not below `cap`, it is
the later joint that has to be reduced. -/
def backReach (l : Lims) (cap ve len : Int) : Int :=
  if cap ≤ ve ∨ phasesDisp (rampV l cap 0 ve) cap ≤ len then cap
  else bisect (fun w => decide (phasesDisp (rampV l w 0 ve) w ≤ len)) 70 ve cap

/-- Where the velocity goes while the acceleration `a` is taken back to 0. -/
def coastV (l : Lims) (v a : Int) : Int := if l.s then v + rdiv (a * absI a) (2 * l.j) else v

/-- The greatest velocity up to `cap` reached from (v0, a0) within `len`; 0 where none is. -/
def foreReach (l : Lims) (cap v0 a0 len : Int) : Int :=
  let lo := if coastV l v0 a0 < 0 then 0 else coastV l v0 a0
  if phasesDisp (rampV l v0 a0 cap) v0 ≤ len + slack then cap
  else if cap ≤ lo ∨ len + slack < phasesDisp (rampV l v0 a0 lo) v0 then 0
  else bisect (fun w => decide (phasesDisp (rampV l v0 a0 w) v0 ≤ len)) 70 lo cap

/-- A queued entry as a signed length and its V (R299). -/
structure Leg1 where
  len : Int
  v : Int
  deriving DecidableEq, Repr

/-- The joint velocity bound between two entries: 0 on a reversal or a zero length, else the lower V (R299). -/
def jointCap (x y : Leg1) : Int :=
  if x.len * y.len ≤ 0 then 0 else if x.v < y.v then x.v else y.v

/-- The joint velocities (magnitudes) after each entry, reduced so that every later joint can be reached. -/
def jointsBack (l : Lims) : List Leg1 → List Int
  | [] => []
  | [_] => [0]
  | x :: y :: t =>
    let r := jointsBack l (y :: t)
    let cap := jointCap x y
    let w := if cap ≤ 0 then 0 else backReach { l with v := y.v } cap (r.headD 0) (absI y.len)
    w :: r

/-- The path through the entries from (p, v0, a0): pieces and the plan time at which each entry ends. -/
def queueSegs (l : Lims) : List Leg1 → List Int → Int → Int → Int → Int → List Seg × List Int
  | x :: t, w :: ws, p, v0, a0, t0 =>
    let d := signI x.len
    let l1 := { l with v := x.v }
    let f := foreReach l1 w (d * v0) (d * a0) (absI x.len)
    let ve := d * (if f < w then f else w)
    let xs := moveSegs l1 p v0 a0 x.len ve
    let t1 := t0 + planLen xs
    let (ys, ms) := queueSegs l t ws (p + x.len) ve 0 t1
    (xs ++ ys, t1 :: ms)
  | _, _, _, _, _, _ => ([], [])

/-- The lengths of the entries, each from the target before it. -/
def legsOf (p : Int) : List QEntry → List Leg1
  | [] => []
  | e :: t => ⟨posDiff e.target p, e.vmax⟩ :: legsOf e.target t

/-- The joint path through a queue (R299), at rest on its last target. -/
def planQueue (l : Lims) (q : List QEntry) (p v0 a0 : Int) : List Seg × List Int :=
  let ls := legsOf p q
  let (xs, ms) := queueSegs l ls (jointsBack l ls) p v0 a0 0
  let last := match q.getLast? with | some e => e.target | none => p
  (xs ++ [⟨0, last, 0, 0, 0⟩], ms)

/-- The instants inside a piece at which its velocity crosses 0. -/
def Seg.turns (x : Seg) : List Int :=
  let ts : List Int :=
    if x.j = 0 then (if x.a = 0 then [] else [rdiv (-x.v * secI) x.a])
    else
      let q := x.a * x.a - 2 * x.j * x.v
      if q < 0 then [] else
        let r : Int := ((isqrt q.toNat : Nat) : Int)
        [rdiv ((-x.a + r) * secI) x.j, rdiv ((-x.a - r) * secI) x.j]
  ts.filter (fun t => decide (0 < t) && decide (t < x.dur))

/-- The positions at the ends of the pieces and at the turning points inside them: between two of them a path moves one way (R300). -/
def planTurns (xs : List Seg) : List Int := xs.flatMap (fun x => x.p :: x.posAt x.dur :: x.turns.map x.posAt)

/-- A queue's first entry is reached without passing its target: its joint can be reached on the way (R288). -/
def queueMeets (l : Lims) (q : List QEntry) (p v0 a0 : Int) : Bool :=
  match legsOf p q with
  | [] => true
  | x :: t =>
    let d := signI x.len
    let w := ((jointsBack l (x :: t)).headD 0)
    let l1 := { l with v := x.v }
    decide (phasesDisp (rampV l1 (d * v0) (d * a0) (foreReach l1 w (d * v0) (d * a0) (absI x.len))) (d * v0) ≤ absI x.len + slack)

end Sys2Proof.Machine
end

