-- ==== Sys2Proof/Machine/AxisCore.lean ====
section
/-! DEFINITION. What every chapter needs of an axis (chapter 06): its periods, set-point state, effective limits and window;
leaving a motion mode; stops; faults of class A and B; and what an axis does when the device state changes. -/
namespace Sys2Proof.Machine
open Obj

/-! ### Values of Table MO-1, Table MO-5, MOTION_MODE and HOMING_RESULT -/

def axOff : Nat := 0
def axReady : Nat := 1
def axEnabled : Nat := 2
def axRunning : Nat := 3
def axStopping : Nat := 4
def axFault : Nat := 5
def axSetup : Nat := 6

def mmHold : Nat := 0
def mmPosition : Nat := 1
def mmVelocity : Nat := 2
def mmHoming : Nat := 3
def mmFollow : Nat := 4
def mmQueue : Nat := 5
def mmStop : Nat := 6

def fcTrip : Nat := 1
def fcOvercurrent : Nat := 2
def fcModFault : Nat := 3
def fcUndervoltage : Nat := 4
def fcAngle : Nat := 5
def fcDeadline : Nat := 6
def fcSafe : Nat := 7
def fcPositionLost : Nat := 8
def fcFollowing : Nat := 9
def fcProcess : Nat := 10
def fcIndex : Nat := 11
def fcStall : Nat := 12
def fcLineShaft : Nat := 13

def hrNone : Nat := 0
def hrProgress : Nat := 1
def hrSuccess : Nat := 2
def hrLimit : Nat := 3
def hrTimeout : Nat := 4
def hrAborted : Nat := 5

/-- Axes 0 to 15 are physical, 16 to 31 virtual. -/
def physical (n : Nat) : Bool := decide (n < 16)

/-! ### Periods (R228, R229) -/

/-- The axis runs on its carrier: a physical axis whose CC_MODE is not 0. -/
def State.onCarrier (s : State) (n : Nat) : Bool := physical n && s.ccMode n != 0

/-- The virtual period in 2^-32 ns (R254). -/
def State.tVirtual (s : State) : Int := ((s.cf ADM_VIRTUAL_PERIOD * tickU : Nat) : Int)

/-- The L1 period of an axis in 2^-32 ns (R228); for an axis off the carrier the virtual period. -/
def State.t1 (s : State) (n : Nat) : Int :=
  if s.onCarrier n then ((s.cf (CG_PERIOD (s.cf (CC_CARRIER_GROUP n))) / max 1 (s.cf (CC_RATE n)) * tickU : Nat) : Int)
  else s.tVirtual

/-- T2, T3 and T4 (R229). -/
def State.t2 (s : State) (n : Nat) : Int := if s.onCarrier n then s.t1 n * (s.cf (CAS_N2 n) : Nat) else s.tVirtual
def State.t3 (s : State) (n : Nat) : Int := if s.onCarrier n then s.t2 n * (s.cf (CAS_N3 n) : Nat) else s.tVirtual
def State.t4 (s : State) (n : Nat) : Int := if s.onCarrier n then s.t3 n * (s.cf (CAS_N4 n) : Nat) else s.tVirtual

/-- A duration of 2^-32 ns as binary32 seconds. -/
def secondsF (t : Int) : Nat := f32.ofRat t secU
/-- A duration of 2^-32 ns as binary64 seconds. -/
def secondsD (t : Int) : Nat := f64.ofRat t secU

/-! ### Set-points -/

def State.pSet (s : State) (n : Nat) : Int := s.q (PRF_P_SET n)
def State.vSet (s : State) (n : Nat) : Int := s.q (PRF_V_SET n)
def State.aSet (s : State) (n : Nat) : Int := s.q (PRF_A_SET n)

/-- The set-point state taken. -/
def State.setPoint (s : State) (n : Nat) (x : PVA) : State :=
  ((s.wrPos (PRF_P_SET n) x.p).wrSat (PRF_V_SET n) x.v).wrSat (PRF_A_SET n) x.a

/-- v_set and a_set are 0. -/
def State.standstill (s : State) (n : Nat) : Bool := s.vSet n == 0 && s.aSet n == 0

def State.axMode (s : State) (n : Nat) : Nat := s.rd (AX_MOTION_MODE n)
/-- The axis state; leaving SETUP ends voltage mode: CC_MODE reads 0 and its legs are released at their next reload (R187). -/
def State.setAx (s : State) (n st : Nat) : State :=
  let s := if s.axState n = axSetup ∧ st ≠ axSetup ∧ s.ccMode n = 2 then
      ((s.leaveLegs n).wr (CC_MODE n) 0).wrForce (CC_MODE n) 0 else s
  s.wr (AX_AXIS_STATE n) st
def State.setMode (s : State) (n m : Nat) : State := s.wr (AX_MOTION_MODE n) m

/-! ### Ports, switches, window -/

/-- The motor port of an axis, in force (R106). -/
def State.motorPort (s : State) (n : Nat) : Option Nat :=
  if physical n then (let p := s.cf (AF_MOTOR_PORT n); if p < 16 then some p else none) else none

/-- A PORT_STATUS bit of the motor port of an axis; false without a port. -/
def State.portBit (s : State) (n i : Nat) : Bool :=
  match s.motorPort n with
  | some p => s.bitOf (FB_PORT_STATUS p) i
  | none => false

def State.posValid (s : State) (n : Nat) : Bool := s.portBit n 1

/-- A virtual axis is always referenced, a physical one while its motor port reads REFERENCED (R290). -/
def State.referenced (s : State) (n : Nat) : Bool := !physical n || s.portBit n 2

/-- The permitted window while it is applied (R290). -/
def State.window (s : State) (n : Nat) : Option (Int × Int) :=
  if s.on (LIM_LIMIT_ENABLE n) && s.referenced n then some (s.cq (LIM_LIMIT_NEG n), s.cq (LIM_LIMIT_POS n)) else none

/-- The filtered level of an input code of Table FB-5 that is a LAT or DI input. -/
def State.inputLevel (s : State) (c : Nat) : Bool :=
  if c < 8 then s.bitOf LATI_LAT_LEVEL c
  else if 0x20 ≤ c ∧ c < 0x30 then s.bitOf DI_LEVEL (c - 0x20)
  else false

/-- A switch is at its active level: 0 positive limit, 1 negative limit, 2 home (SWITCH_POLARITY). A limit switch on an input
with a broken wire counts as active (R385). -/
def State.switchActive (s : State) (n w : Nat) : Bool :=
  let c := s.cf (if w = 0 then LIM_LIMIT_SW_POS n else if w = 1 then LIM_LIMIT_SW_NEG n else LIM_HOME_SW n)
  let broken := decide (w < 2) && decide (0x20 ≤ c) && decide (c < 0x30) && s.bitOf DI_WIRE_BREAK (c - 0x20)
  c != 0xff && (broken || (s.inputLevel c != (s.cf (LIM_SWITCH_POLARITY n)).testBit w))

/-! ### Effective limits (R285) -/

def minI (a b : Int) : Int := if a < b then a else b
def maxI (a b : Int) : Int := if a < b then b else a

/-- The axis is in SETUP. -/
def State.inSetup (s : State) (n : Nat) : Bool := s.axState n == axSetup

/-- The enabled publisher whose source axis is `n` (R329). -/
def State.publisherOf (s : State) (n : Nat) : Option Nat :=
  (upto 4).find? (fun q => s.on (PUB_ENABLE q) && s.cf (PUB_SOURCE_AXIS q) == n)

/-- TARGET_VELOCITY and the profile parameters of axis `n` as it uses them: as written, and on a publishing source axis
those of the last T_c (R329). -/
def State.written (s : State) (n : Nat) : Params :=
  ⟨s.q (AX_TARGET_VELOCITY n), s.q (PRF_V_MAX n), s.q (PRF_A_MAX n), s.q (PRF_D_MAX n), s.q (PRF_J_MAX n)⟩
def State.params (s : State) (n : Nat) : Params := (s.ax n).use.getD (s.written n)

/-- V, A, D, J and profile of a move of axis `n` under R285, with V_MAX as given. -/
def State.limsWith (s : State) (n : Nat) (vmax : Int) (setup : Bool) : Lims :=
  let v := minI vmax (s.cq (LIM_V_CEILING n))
  let u := s.params n
  let a := minI u.a (s.cq (LIM_A_CEILING n))
  let d := minI u.d (s.cq (LIM_A_CEILING n))
  let j := u.j
  let sc := s.rd (PRF_PROFILE_TYPE n) == 1
  if setup then
    let c := s.cq (LIM_SETUP_A_LIMIT n)
    ⟨minI v (s.cq (LIM_SETUP_V_LIMIT n)), minI a c, minI d c, j, sc⟩
  else ⟨v, a, d, j, sc⟩

def State.lims (s : State) (n : Nat) : Lims := s.limsWith n (s.params n).v (s.inSetup n)

/-- The limits with the PROFILE_TYPE of the motion in progress: a write of PROFILE_TYPE applies from the next move (R288). -/
def State.moveLims (s : State) (n : Nat) : Lims := { s.lims n with s := (s.ax n).mtype == 1 }

/-- A motion takes PROFILE_TYPE as it stands. -/
def State.takeType (s : State) (n : Nat) : State :=
  let k := s.rd (PRF_PROFILE_TYPE n)
  s.modAx n (fun a => { a with mtype := k })

/-- Where a stop at D from the present set-point state ends. -/
def State.stopPoint (s : State) (n : Nat) : Int :=
  let l := s.moveLims n
  stopEnd l.d l.j l.s (s.pSet n) (s.vSet n) (s.aSet n)

/-! ### Leaving a motion mode -/

/-- Homing ends with a result, and a record is written where the homing chapter asks for one (R301 to R306). -/
def State.endHoming (s : State) (n res : Nat) : State :=
  if s.rd (HOM_HOMING_RESULT n) = hrProgress then
    let s := (s.wr (HOM_HOMING_RESULT n) res).wr (HOM_HOMING_PHASE n) 0
    let s := s.modAx n (fun a => { a with home := {} })
    s.record 4 6 0 n (pay 16 res + pay 24 (s.rd (HOM_HOMING_REF_POS n)))
  else s

/-- The SETUP queue flushed. -/
def State.flushQueue (s : State) (n : Nat) : State :=
  (s.modAx n (fun a => { a with queue := [], queueDirty := false, marks := [] })).wr (AX_QUEUE_DEPTH n) 0

/-- Follow mode ended: no cam is active, and no evaluation instant shows a blend or a state of the master (log entry 14). -/
def State.endFollow (s : State) (n : Nat) : State :=
  if (s.ax n).fol.engaged then
    ((s.wr (CAMA_CAM_ACTIVE n) 255).wr (LSS_LS_STATUS n) (clrMask (s.rd (LSS_LS_STATUS n)) 15)).modAx n
      (fun a => { a with fol := {} })
  else s

/-- The motion mode left: queue flushed, homing ended with ABORTED, follow ended. -/
def State.dropMotion (s : State) (n : Nat) : State := ((s.flushQueue n).endHoming n hrAborted).endFollow n

/-! ### Stops -/

/-- A stop at deceleration `dec` planned from the present set-point state, with what follows at standstill. In SETUP the
axis stays in SETUP (Table MO-3). -/
def State.startStop (s : State) (n : Nat) (dec : Int) (after : AfterStop) (kind : StopKind := .d) : State :=
  let l := s.moveLims n
  let xs := planStop dec l.j l.s (s.pSet n) (s.vSet n) (s.aSet n)
  let s := s.modAx n (fun a => { a with plan := xs, tPlan := 0, after := after, stopDec := dec, stopKind := kind })
  let s := s.setMode n mmStop
  if s.inSetup n then s else s.setAx n axStopping

/-- The stop in progress goes on, with another end. -/
def State.afterStop (s : State) (n : Nat) (after : AfterStop) : State := s.modAx n (fun a => { a with after := after })

/-- A stop is in progress. -/
def State.stopping (s : State) (n : Nat) : Bool := s.axMode n == mmStop

/-- The stop in progress leads to FAULT (FAULT_PENDING). -/
def State.faultPending (s : State) (n : Nat) : Bool :=
  s.stopping n && (match (s.ax n).after with | .fault => true | _ => false)

/-- Position held at standstill. -/
def State.rest (s : State) (n : Nat) : State :=
  let p := s.pSet n
  ((s.setMode n mmHold).setPoint n ⟨p, 0, 0, 0⟩).modAx n (fun a => { a with plan := [⟨0, p, 0, 0, 0⟩], tPlan := 0 })

/-! ### Faults -/

/-- The L1 period of an axis that an instant of the control schedule (2^-32 ns) lies in (R228). -/
def State.l1Index (s : State) (n : Nat) (t : Int) : Int :=
  let ph := s.cf (if s.onCarrier n then CG_PHASE (s.cf (CC_CARRIER_GROUP n)) else ADM_VIRTUAL_PHASE)
  fdiv (t - ((ph * tickU : Nat) : Int)) (s.t1 n)

/-- A cause arises (R284): FAULT_CAUSES takes its bit; FAULT_CAUSE keeps the first, or the lowest of those of one L1 period. -/
def State.arise (s : State) (n c : Nat) : State :=
  let f := s.rd (ST_FAULT_CAUSE n)
  let now := s.sched
  let s := s.setBit (ST_FAULT_CAUSES n) c
  if f = 0 then (s.wr (ST_FAULT_CAUSE n) c).modAx n (fun a => { a with faultAt := now })
  else if s.l1Index n now = s.l1Index n (s.ax n).faultAt ∧ c < f then s.wr (ST_FAULT_CAUSE n) c
  else s

/-- No cause of a fault stands, unless one still waits for its L3 sample instant. -/
def State.clearCauses (s : State) (n : Nat) : State :=
  if (s.ax n).classB = 0 then (s.wr (ST_FAULT_CAUSE n) 0).wr (ST_FAULT_CAUSES n) 0 else s

/-- Entry to FAULT: the generator stops, FAULT_COUNT increments, and a record carries the causes (R284). -/
def State.enterFault (s : State) (n : Nat) : State :=
  let s := s.dropMotion n
  let s := (s.rest n).setAx n axFault
  let s := (s.modAx n (fun a => { a with classB := 0, after := .enabled })).bump (ST_FAULT_COUNT n)
  (s.record 4 1 0 n (pay 16 (s.rd (ST_FAULT_CAUSES n)) + pay 20 (s.rd (ST_FAULT_CAUSE n)))).acqEvent 5 n 0 s.nowT

/-- A class A cause (R281, R283). -/
def State.faultA (s : State) (n c : Nat) : State :=
  if s.axState n = axFault then s.arise n c else (s.arise n c).enterFault n

/-- A class B cause arises, and waits for the axis's next L3 sample instant (R282, R284); one in FAULT or in a stop with
FAULT_PENDING is only added to the causes (R283); an axis in OFF is not in use and keeps none (log entry 12). -/
def State.raiseB (s : State) (n c : Nat) : State :=
  if s.axState n = axOff then s
  else (s.arise n c).modAx n (fun a => { a with classB := orBit a.classB c })

/-- The class B causes of an axis at its L3 sample instant (R282, R283): a fence, or a quick stop with FAULT_PENDING. An axis
in READY has nothing to stop and enters FAULT (log entry 12). -/
def State.takeB (s : State) (n : Nat) : State :=
  let m := (s.ax n).classB
  let s := s.modAx n (fun a => { a with classB := 0 })
  if m = 0 ∨ s.axState n = axOff ∨ s.faultPending n = true ∨ s.axState n = axFault then s
  else if s.cf (AX_FAULT_REACTION n) = 0 ∨ s.axState n = axReady then s.enterFault n
  else
    let s := (s.dropMotion n).setAx n axStopping
    s.startStop n (s.cq (PRF_QUICK_STOP_DEC n)) .fault .quick

/-! ### Device state changes -/

/-- An axis goes to READY at once, its legs to high impedance at their next reload point (R274). A stop with FAULT_PENDING that
this cuts short leaves no cause behind (log entry 12). -/
def State.toReady (s : State) (n : Nat) : State := (((s.dropMotion n).rest n).setAx n axReady).clearCauses n

def State.toOff (s : State) (n : Nat) : State :=
  ((((s.dropMotion n).rest n).setAx n axOff).modAx n (fun a => { a with classB := 0 })).clearCauses n

/-- The numbers of all axes. -/
def allAxes : List Nat := upto 32

/-- On entry to SAFE every axis with its power stage on faults (R275). -/
def State.axesSafe (s : State) : State :=
  each allAxes s (fun s n => if s.stageOn n then s.faultA n fcSafe else s)

/-- The controlled stop of an axis whose power stage is on (R44). -/
def State.controlledStop (s : State) (n : Nat) : State :=
  if !s.stageOn n then s
  else if s.faultPending n then s.setAx n axStopping
  else
    let dec := s.cq (LIM_CONTROLLED_STOP_DEC n)
    let keep := s.stopping n && decide (dec < (s.ax n).stopDec)
    let s := (s.dropMotion n).setAx n axStopping
    if keep then s.afterStop n .off else s.startStop n dec .off .other

/-- A change to a publishing source axis, taken at this core clock: it waits for its T_c (R329). -/
def State.holdBack (s : State) (n : Nat) (c : Change) : State :=
  let now := s.clock
  s.modAx n (fun a => { a with taken := a.taken ++ [⟨now, c⟩] })

/-- One axis on entry to LOCKED (R44, R275); on a publishing source axis the stop waits for its T_c (R329). -/
def State.axisLocked (s : State) (n : Nat) : State :=
  if s.axState n = axReady then s.toOff n
  else if (s.publisherOf n).isSome && s.stageOn n then s.holdBack n .lock
  else s.controlledStop n

def State.axesLocked (s : State) : State := each allAxes s (fun s n => s.axisLocked n)

/-- Leaving OPERATIONAL for PRE-OPERATIONAL (R274): every powered axis goes to READY, but for SETUP on an unclaimed device. -/
def State.axesReleased (s : State) : State :=
  each allAxes s (fun s n => if s.stageOn n && !(s.inSetup n && !s.claimed) then s.toReady n else s)

/-- Some leg is driven, or some physical axis is in ENABLED, RUNNING, STOPPING or SETUP (R25). -/
def State.inMotion (s : State) : Bool := s.leg.driven != 0 || (upto 16).any (fun n => s.stageOn n)

end Sys2Proof.Machine
end

