-- ==== Sys2Proof/Machine/Feedback.lean ====
section
/-! DEFINITION. Feedback ports (chapter 03): quadrature counting with hysteresis, positions at an instant, speed, SSI words,
hybrid reference and check, sin/cos conversions, index events, and standby tracking. Times are in units of 125 ps of line
time, positions and speeds raw Q32 of the port before DIRECTION unless said otherwise. -/
namespace Sys2Proof.Machine
open Obj

/-- One count as a raw Q32 value. -/
def oneQ : Int := 2 ^ 32

/-- Units of 125 ps per second. -/
def tickHz : Int := 8000000000

/-- The mode of a port in force (Table FB-1). -/
def State.portMode (s : State) (p : Nat) : Nat := s.cf (FB_MODE p)

/-- The physical axis whose motor port is `p`. -/
def State.boundAxis (s : State) (p : Nat) : Option Nat := (upto 16).find? (fun n => s.motorPort n == some p)

/-- A land level after INVERT (R115). -/
def State.landOf (s : State) (p i : Nat) : Bool := at' (s.pt p).lvl i != (s.cf (FB_INVERT p)).testBit i

/-- The port is enabled and samples; the island of a port that is not stands still (R36). -/
def State.portActive (s : State) (p : Nat) : Bool := s.bitOf (FB_PORT_STATUS p) 0

/-- The stamp of a transition that reaches the input behind its path `off` units of 125 ps from now and whose new level then
holds for `stable` of them: accepted once FILTER ns have passed, and stamped with the filter delay and the path delay of the
land removed (R113, R114); none where the pulse is shorter. -/
def State.accepted (s : State) (filter land : Nat) (off : Int) (stable : Nat) : Option Int :=
  let passed := s.nowT + off + 8 * (filter : Int)
  if 8 * filter ≤ stable then some (passed - 8 * (filter : Int) - Config.pathDelay land) else none

/-! ### Positions at an instant (R119, R152) -/

/-- The fraction of R119 in raw Q32: |v|·Δt, below one count, truncated to 2^-16 count. -/
def fraction (spd dt : Int) : Int := minI (absI spd * dt / (tickHz * 2 ^ 16)) 65535 * 2 ^ 16

/-- The newest counted transition stamped before `t`. -/
def trBefore : List Tr → Int → Option Tr
  | [], _ => none
  | x :: xs, t => if x.t < t then some x else trBefore xs t

/-- The references and corrections that take effect after `t`: a position at `t` does not carry them (R144). -/
def shiftAfter (l : List Shift) (t : Int) : Int :=
  ((l.filter (fun x => decide (t < x.t) && (match x.since with | some u => decide (u < t) | none => true))).map (·.d)).foldl (· + ·) 0

/-- The output is held under R118 at `t`, the transition being the last one before it; and the output then. -/
def Tr.holds (x : Tr) (t : Int) : Bool := x.held && !x.freed.any (fun u => decide (u ≤ t))
def Tr.outAt (x : Tr) (t : Int) : Int := if x.held && !x.holds t then x.out + x.dir else x.out

/-- Position of a quadrature or hybrid port at `t`, with the speed `v` of the latest sample at or before `t` (R119). -/
def PortSt.quadAt (q : PortSt) (t v : Int) : Int :=
  (match trBefore q.trs t with
   | none => q.outBefore * oneQ + q.sub
   | some x => x.outAt t * oneQ + q.sub + (if x.holds t ∨ v = 0 then 0 else x.dir * fraction v (t - x.t)))
  - shiftAfter q.shifts t

/-- The newest sample at or before `t`. -/
def sampleAt : List Smp → Int → Option Smp
  | [], _ => none
  | x :: xs, t => if x.t ≤ t then some x else sampleAt xs t

/-- The speed of the latest sample of a list. -/
def lastSpeed (l : List Smp) : Int := match l with | x :: _ => x.v | [] => 0

/-- A sample carried on at a speed, to whole raw values toward minus infinity, as R152 truncates. -/
def carry (p v dt : Int) : Int := p + (v * dt).fdiv tickHz

/-- A sample carried on to `t`. -/
def Smp.at_ (x : Smp) (t : Int) : Int := carry x.x x.v (t - x.t)

/-- Position of a port at `t`, negated where `neg`: R119 for quadrature and hybrid, the latest sample at or before `t` carried on for SSI
and sin/cos (R152). A sample is carried on as the axis sees it, since R152 truncates what R111 has negated. -/
def State.portPosAs (s : State) (neg : Bool) (p : Nat) (t : Int) : Int :=
  let q := s.pt p
  let sg (x : Int) : Int := if neg then -x else x
  let x := sampleAt q.hist t
  if s.portMode p = 1 ∨ s.portMode p = 3 then sg (q.quadAt t (match x with | some y => y.v | none => 0))
  else (match x with | some y => carry (sg y.x) (sg y.v) (t - y.t) | none => sg (q.out * oneQ + q.sub)) - sg (shiftAfter q.shifts t)

/-- Position of a port at `t`, before DIRECTION. -/
def State.portPos (s : State) (p : Nat) (t : Int) : Int := s.portPosAs false p t

/-- A port value as the axis sees it (R111). -/
def State.dirOf (s : State) (n : Nat) (x : Int) : Int := if s.on (AF_DIRECTION n) then -x else x

/-- The newest set-point at or before `t`. -/
def genAt (l : List SetPt) (t : Int) : Option SetPt := l.find? (fun x => decide (x.t ≤ t))

/-- A set-point carried on to `t` with its speed. -/
def SetPt.at_ (x : SetPt) (t : Int) : Int := carry x.p x.v (t - x.t)

/-- POSITION and SPEED of an axis at its latest sample; a virtual axis is where its profile is. -/
def State.posOf (s : State) (n : Nat) : Int := if physical n then s.q (AF_POSITION n) else s.pSet n
def State.speedOf (s : State) (n : Nat) : Int := if physical n then s.q (AF_SPEED n) else s.vSet n

/-- Position of an axis at `t`, before truncation: that of its motor port, or a virtual axis's profile sample carried on
(R152). -/
def State.axisPos (s : State) (n : Nat) (t : Int) : Int :=
  match s.motorPort n with
  | some p => wrapPos (s.portPosAs (s.on (AF_DIRECTION n)) p t)
  | none =>
    if physical n then s.posOf n
    else match genAt (s.ax n).gens t with
      | some x => wrapPos (x.at_ t)
      | none => s.pSet n

/-- A position truncated to 2^-16 count. -/
def trunc16 (x : Int) : Int := x / 2 ^ 16 * 2 ^ 16

/-- The samples of an axis, newest first: its instants and positions, those of its motor port or of its profile. -/
def State.axisSamples (s : State) (n : Nat) : List Smp :=
  match s.motorPort n with
  | some p => (s.pt p).hist.map (fun x => ⟨x.t, wrapPos (s.dirOf n x.x), s.dirOf n x.v⟩)
  | none => (s.ax n).gens.map (fun x => ⟨x.t, x.p, x.v⟩)

/-- The latest sample of an axis at or before `t`, carried on to `t` (R168). -/
def State.latestAt (s : State) (n : Nat) (t : Int) : Int :=
  match sampleAt (s.axisSamples n) t with
  | some x => wrapPos (x.at_ t)
  | none => s.posOf n

/-! ### Shifting a position (R129, R141, R143, R303) -/

/-- The position of a port moved by `d` from instant `t` on: whole counts go into the counters, the rest stays below one count.
Speeds are unaffected (R144). The amount is taken exactly: a REFERENCE_POSITION with a part below 2^-16 count stays in every later
position, though R119 speaks of 16 fractional bits (log entry 85). -/
def PortSt.shift (q : PortSt) (t d : Int) : PortSt :=
  let tot := q.sub + d
  let k := tot / oneQ
  { q with
    raw := q.raw + k, out := q.out + k, outBefore := q.outBefore + k, sub := tot - k * oneQ, scOff := q.scOff + k,
    trs := q.trs.map (fun x => { x with out := x.out + k }),
    hist := q.hist.map (fun x => { x with x := x.x + d }),
    shifts := ⟨none, t, d⟩ :: q.shifts }

/-- The hysteresis cleared at `t`: the output takes the raw count from then on (R141). -/
def PortSt.release (q : PortSt) (t : Int) : PortSt :=
  if q.held then
    { q with
      held := false, out := q.raw
      outBefore := if q.trs.isEmpty then q.raw else q.outBefore
      trs := (match q.trs with | x :: xs => { x with freed := some t } :: xs | [] => []) }
  else q

/-- A position set by its index or its word stands whatever the last edges counted: R116 takes nothing back from it. -/
def PortSt.settle (q : PortSt) : PortSt := { q with recent := q.recent.map (fun e => { e with undo := none }) }

/-- The ports that the tracker follows. -/
def State.tracked (s : State) (p : Nat) : Bool := (s.cf TRK_TRACK_ENABLE).testBit p && s.portMode p == 1

/-- Every control rail is up. -/
def Power.railsUp (p : Power) : Bool := (upto 5).all (fun i => at' p.railUp i)

/-- Every rail is stable (R568). -/
def Power.allStable (p : Power) : Bool := (upto 5).all (fun i => at' p.railUp i && at' p.railStable i)

/-- The configuration of the ports is that of the set in force: outside reset and boot up to step 4 (R147). -/
def State.portsSet (s : State) : Bool := s.pw.railsUp && !s.pw.held && s.dev != .standby && (s.dev != .boot || s.pw.bootWait)

/-- The tracked count follows the raw count of a tracked quadrature port: at every 1 MHz sample (R145), and, so that none of
them has to be waited for, at whatever changes the raw count (log entry 76). Before boot step 4 the raw count is not yet loaded from
it (R147), and is not copied. -/
def State.trackCopy (s : State) (p : Nat) : State :=
  if p < 4 ∧ s.tracked p = true ∧ s.portsSet = true then s.wr (TRK_TRACK_COUNT p) (ofS 32 (s.pt p).raw) else s

/-- A port moved by `d` from `t` on. -/
def State.shiftPort (s : State) (p : Nat) (t d : Int) : State := (s.modPt p (fun q => q.shift t d)).trackCopy p

/-- The position of the motor port of an axis moved from instant `t` on so that the axis moves by `d`; POSITION carries it at
once. -/
def State.shiftAxis (s : State) (n : Nat) (t d : Int) : State :=
  match s.motorPort n with
  | some p => (s.shiftPort p t (s.dirOf n d)).wrPos (AF_POSITION n) (s.posOf n + d)
  | none => s

/-- A port referenced: REFERENCED set, TRACKING_LOST cleared (R149). -/
def State.setReferenced (s : State) (p : Nat) : State :=
  let s := (s.setBit (FB_PORT_STATUS p) 2).clrBit (FB_PORT_STATUS p) 9
  if p < 4 then s.clrBit TRK_TRACK_LOST p else s

/-! ### Counting (R113 to R118) -/

/-- The direction of a transition of A or B after inversion (R115). -/
def quadDir (isB level other : Bool) : Int :=
  if isB then (if level == other then 1 else -1) else (if level == other then -1 else 1)

/-- One counted transition with the hysteresis of R118. -/
def PortSt.countOne (q : PortSt) (t dir : Int) : PortSt :=
  let raw := q.raw + dir
  let rev := q.lastDir != 0 && q.lastDir != dir
  let (out, held) :=
    if rev then (if q.held then (q.out, false) else (q.out, true))
    else (raw, false)
  { q with raw := raw, out := out, held := held, lastDir := dir, idxDir := dir,
           trs := { t := t, dir := dir, out := out, held := held } :: q.trs }

/-- A count taken back (R116): its direction goes off the raw count, and the hysteresis is as before it. -/
def PortSt.undoOne (q : PortSt) (u : Undo) : PortSt :=
  { q with raw := q.raw - u.dir, out := q.raw - u.dir + u.gap, held := u.held, lastDir := u.lastDir, idxDir := u.idxDir,
           trs := q.trs.drop 1 }

/-- What a count of direction `dir` at this state finds. -/
def PortSt.finds (q : PortSt) (dir : Int) : Undo := ⟨dir, q.out - q.raw, q.held, q.lastDir, q.idxDir⟩

/-- The counts of a list of transitions, newest first, taken back, and counted again but for those of `bad` (R116). -/
def PortSt.recount (bad : LastEdge → Bool) : List LastEdge → PortSt → PortSt × List LastEdge
  | [], q => (q, [])
  | e :: es, q =>
    match e.undo with
    | none => let r := PortSt.recount bad es q; (r.1, e :: r.2)
    | some u =>
      let r := PortSt.recount bad es (q.undoOne u)
      if bad e then (r.1, { e with undo := none } :: r.2)
      else (r.1.countOne e.t u.dir, { e with undo := some (r.1.finds u.dir) } :: r.2)

/-- The port with the counts of the `bad` ones among its recent transitions taken back. -/
def PortSt.takeBack (q : PortSt) (bad : LastEdge → Bool) : PortSt :=
  if q.recent.any (fun e => bad e && e.undo.isSome) then
    let r := PortSt.recount bad q.recent q
    { r.1 with recent := r.2 }
  else q

/-- An accepted transition of A or B (R115, R116): one less than 2 ns from accepted transitions of the other input is not counted, nor
are those. -/
def State.quadEdge (s : State) (p : Nat) (isB level : Bool) (t : Int) : State :=
  let q := s.pt p
  let li := if isB then 1 else 0
  if at' q.lvl li = level then s
  else
    let s := s.modPt p (fun q => { q with lvl := q.lvl.setIfInBounds li level })
    if (s.portMode p ≠ 1 ∧ s.portMode p ≠ 3) ∨ s.portActive p = false then s
    else
      let near (e : LastEdge) : Bool := e.isB != isB && decide (absI (t - e.t) < 16)
      let note (e : LastEdge) (l : List LastEdge) : List LastEdge := (e :: l).take 16
      if q.recent.any near then
        let s := s.modPt p (fun r =>
          let r := r.takeBack near
          { r with recent := note ⟨isB, t, none⟩ r.recent })
        ((s.setBit (FB_PORT_STATUS p) 3).bump (FB_QUAD_ERRORS p)).trackCopy p
      else
        let dir := quadDir isB (s.landOf p li) (s.landOf p (1 - li))
        (s.modPt p (fun r => { (r.countOne t dir) with
          recent := note ⟨isB, t, some (q.finds dir)⟩ r.recent })).trackCopy p

def execQuadTransition (p : Fin 16) (isB : Bool) (l : Land) (off : Int) (s : State) : Host.Outcome State Fault Refusal :=
  .next (match s.accepted (s.cf (FB_FILTER p.val)) (4 * p.val + (if isB then 1 else 0)) off l.stable with
    | some t => s.quadEdge p.val isB l.level t
    | none => s)

/-! ### Speed (R120 to R122) -/

/-- The speed window of an axis in 125 ps (R120). -/
def State.speedWindow (s : State) (n : Nat) : Int :=
  let w := s.cf (AF_SPEED_WINDOW n)
  (if w = 0 then s.t2 n else s.t1 n * (w : Nat)) / (tickU : Int)

/-- The transitions of a window, oldest first, from the last reversing one on; `prev` is the stamp before them. -/
def sinceReversal : List Tr → Option Int → List Tr × Option Int
  | [], prev => ([], prev)
  | [x], prev => ([x], prev)
  | x :: y :: t, prev =>
    let r := sinceReversal (y :: t) (some x.t)
    if (x :: y :: t).zip (y :: t) |>.any (fun e => e.1.dir != e.2.dir) then r else (x :: y :: t, prev)

/-- counts/s as raw Q32: `k` counts over `dt` units of 125 ps, rounded to the nearest. -/
def rateQ (k dt : Int) : Int := rdiv (k * tickHz * oneQ) dt

/-- Speed of a quadrature or hybrid port at a sample instant (R121). The first counted transition of all has no stamp before
it: its interval is taken as T_ZERO (DESIGN CHOICE, log entry 77). -/
def PortSt.quadSpeed (q : PortSt) (ts w tz : Int) : Int :=
  let past := (q.trs.filter (fun x => decide (x.t < ts))).reverse
  let win := past.filter (fun x => decide (ts - w ≤ x.t))
  let before := (past.filter (fun x => decide (x.t < ts - w))).getLast?
  let (e, tprev) := sinceReversal win (before.map (·.t))
  match e, e.getLast?, past.getLast? with
  | x :: _ :: _, some z, _ => z.dir * rateQ ((e.length : Int) - 1) (z.t - x.t)
  | [x], _, _ => x.dir * rateQ 1 (match tprev with | some u => minI (x.t - u) tz | none => tz)
  | _, _, some l =>
    let v := lastSpeed q.hist
    if tz ≤ ts - l.t then 0 else signI v * minI (absI v) (rateQ 1 (ts - l.t))
  | _, _, none => 0

/-- Speed of an SSI or sin/cos port from its own samples (R122); until a sample lies W back, from the oldest it has. -/
def histSpeed (h : List Smp) (ts x w : Int) : Int :=
  match (sampleAt h (ts - w)).or h.getLast? with
  | some y => rdiv (toS 64 (ofS 64 (x - y.x)) * tickHz) (ts - y.t)
  | none => 0

/-! ### Samples -/

/-- 20 ms in units of 125 ps: an event is known that long after its instant at the most (DI_FILTER, R383). -/
def backT : Int := 160000000

/-- The newest entries of a list that an instant up to 20 ms before `ts` needs, `least` of them at the least; `f` is their instant. -/
def keepBack {α : Type} (f : α → Int) (least : Nat) (ts : Int) (l : List α) : List α :=
  l.take (max least ((l.takeWhile (fun x => decide (ts - backT < f x))).length + 1))

/-- The counted transitions of the last 2 s and the one before them, and the output position before the oldest of those (R119, R121:
T_ZERO is 1 s at the most). -/
def PortSt.forget (q : PortSt) (ts : Int) : PortSt :=
  let r := q.trs.span (fun x => decide (ts - 2 * tickHz ≤ x.t))
  { q with
    trs := r.1 ++ r.2.take 1
    outBefore := (match r.2.drop 1 with | x :: _ => x.outAt ts | [] => q.outBefore)
    shifts := q.shifts.filter (fun x => decide (ts - 2 * tickHz ≤ x.t)) }

/-- A sample of a port taken: position and speed stored with the instant, history kept for as long as it is needed. -/
def State.takeSample (s : State) (p : Nat) (ts x v : Int) : State :=
  let s := s.modPt p (fun q => { q.forget ts with hist := keepBack (·.t) 200 ts (⟨ts, x, v⟩ :: q.hist) })
  let s := s.wrPos (FB_RAW_POSITION p) x
  match s.boundAxis p with
  | some n =>
    ((s.wrPos (AF_POSITION n) (s.dirOf n x)).wrSat (AF_SPEED n) (s.dirOf n v)).wr (AF_SAMPLE_STAMP n) (s.stampT ts)
  | none => s

/-- The sample of a quadrature or hybrid port at `ts` (R27, R119, R121): its own speed carries the fraction (R160). -/
def State.sampleQuad (s : State) (p : Nat) (ts : Int) : State :=
  let q := s.pt p
  match s.boundAxis p with
  | some n =>
    let v := q.quadSpeed ts (s.speedWindow n) ((s.cf (AF_ZERO_SPEED_TIMEOUT n) : Int) * 8000)
    s.takeSample p ts (q.quadAt ts v) v
  | none => s

/-- An axis samples its port at an L1 sample instant, where the port samples without a word or a conversion (R27). -/
def State.sampleAxis (s : State) (n : Nat) (ts : Int) : State :=
  let s := s.modAx n (fun a => { a with sampT := ts })
  match s.motorPort n with
  | some p => if s.portMode p = 1 ∨ s.portMode p = 3 then s.sampleQuad p ts else s
  | none => s

/-! ### Deviations (R143, Table FB-4) -/

/-- The outcome of an index check (`idx`) or an absolute check at `t` with a deviation in units of 2^-16 count. LAST_DEVIATION takes
index deviations only, and the record carries the instant of the check: R130 says neither (log entry 85). -/
def State.deviate (s : State) (p n : Nat) (idx : Bool) (t dev : Int) (tol : Nat) : State :=
  let ok := decide (-((tol : Int) * 65536) ≤ dev) && decide (dev < (tol : Int) * 65536 + 1)
  let code := if idx then 2 else 3
  let s := if idx then s.wrPos (AI_LAST_DEVIATION n) (dev * 65536) else s
  let rcd (s : State) (row : Nat) : State := s.recordAt (s.stampT t) 6 code row p (pay 16 (ofS 64 (dev * 65536)))
  if ok && s.on (AI_INDEX_CORRECT n) then
    rcd (((s.modPt p PortSt.settle).shiftPort p t (-(dev * 65536))).bump (AI_CORRECTION_COUNT n)) 1
  else if ok then rcd s 2
  else
    let s := (s.setBit (FB_PORT_STATUS p) (if idx then 8 else 7)).bump (AI_MISMATCH_COUNT n)
    let s := rcd s 3
    if s.on (AI_INDEX_FAULT n) then s.raiseB n fcIndex else s

/-! ### SSI (R123 to R128) -/

/-- Gray to binary, `w` bits. -/
def grayToBin (w x : Nat) : Nat := (upto w).foldl (fun a i => a ^^^ (x >>> i)) 0

/-- Binary to Gray. -/
def binToGray (x : Nat) : Nat := x ^^^ (x >>> 1)

/-- The number of ones in the low `w` bits. -/
def ones (w x : Nat) : Nat := ((upto w).filter (fun i => x.testBit i)).length

/-- Bits of a whole transfer: data, parity, error (chapter 03, SSI). -/
def State.ssiTotal (s : State) (p : Nat) : Nat :=
  s.cf (FB_SSI_BITS p) + (if s.cf (FB_SSI_PARITY p) = 0 then 0 else 1) + (if s.cf (FB_SSI_ERROR_BIT p) = 0 then 0 else 1)

/-- The filtered level of a land at `num / den` units of 125 ps (R123): `acc` is the level accepted so far, `lvl` the level
before the toggles listed. A change is accepted once it has held for `filt` units (R113). -/
def filteredAt (filt num den : Int) (acc lvl : Bool) : List Int → Bool
  | [] => acc
  | u :: us =>
    if decide ((u + filt) * den ≤ num) && (match us with | [] => true | v :: _ => decide (u + filt ≤ v))
    then filteredAt filt num den (!lvl) (!lvl) us
    else filteredAt filt num den acc (!lvl) us

/-- The filtered and inverted level of the data land at `num / SSI_CLOCK` units of 125 ps from the sample instant. -/
def State.ssiLevel (s : State) (p : Nat) (w : SsiWave) (num : Int) : Bool :=
  filteredAt (8 * (s.cf (FB_FILTER p) : Int)) num (s.cf (FB_SSI_CLOCK p) : Int) w.level w.level w.toggles !=
    (s.cf (FB_INVERT p)).testBit (if s.portMode p = 2 then 0 else 2)

/-- The first falling clock edge of a word in 125 ps from the sample instant: SSI_LATCH_LEAD before it (R124); on a twin bench
unit the one that the playing unit drives, `clock` (R112). -/
def State.ssiFirst (s : State) (p : Nat) (clock : Int) : Int :=
  if s.isBench then clock else -(8 * (s.cf (FB_SSI_LATCH_LEAD p) : Int))

/-- The data land is high at step 1 of Table FB-2. -/
def State.ssiHigh (s : State) (p : Nat) (w : SsiWave) (clock : Int) : Bool :=
  s.ssiLevel p w (s.ssiFirst p clock * (s.cf (FB_SSI_CLOCK p) : Int))

/-- The N bits of a word, MSB first: bit i is sampled i·T + D after the first falling edge (Table FB-2). -/
def State.ssiBits (s : State) (p : Nat) (w : SsiWave) (clock : Int) : Nat :=
  let f : Int := (s.cf (FB_SSI_CLOCK p) : Int)
  let at0 := (s.ssiFirst p clock + 8 * (s.cf (FB_SSI_DATA_DELAY p) : Int)) * f
  (upto (s.ssiTotal p)).foldl (fun a (i : Nat) => 2 * a + (if s.ssiLevel p w (at0 + ((i : Int) + 1) * tickHz) then 1 else 0)) 0

/-- The clock land P3 is driven: an active port in SSI or hybrid mode, in twin operation of the playing unit only (R107, R112, R542). -/
def State.ssiDriven (s : State) (p : Nat) : Bool :=
  s.portActive p && (s.portMode p == 2 || s.portMode p == 3) && s.drivesNets

/-- The level of P3 `num / SSI_CLOCK` units of 125 ps after the first falling edge of a word of N bits: idle high, falling at
0, T, … N·T and rising half a period after each; after N·T it returns to idle half a period later, or with bit N sampled where D is
longer (Table FB-2). Inverted by INVERT[3] (log entry 76). -/
def State.ssiClock (s : State) (p : Nat) (num : Int) : Bool :=
  let half := (2 * num).fdiv tickHz
  let n2 : Int := 2 * (s.ssiTotal p : Int)
  let last := maxI tickHz (16 * (s.cf (FB_SSI_DATA_DELAY p) : Int) * (s.cf (FB_SSI_CLOCK p) : Int))
  (decide (num < 0) || (half % 2 == 1 && decide (half < n2)) || decide (n2 * tickHz + last ≤ 2 * num)) != (s.cf (FB_INVERT p)).testBit 3

/-- The data word of a transfer of N bits, MSB first, or none for a frame error (R126, R127). -/
def State.ssiDecode (s : State) (p : Nat) (high : Bool) (bits : Nat) : Option Nat :=
  let b := s.cf (FB_SSI_BITS p)
  let par := s.cf (FB_SSI_PARITY p)
  let er := s.cf (FB_SSI_ERROR_BIT p)
  let e := if er = 0 then 0 else 1
  let pb := if par = 0 then 0 else 1
  let data := (bits >>> (e + pb)) % 2 ^ b
  let parBit := if (bits >>> e) % 2 = 1 then 1 else 0
  let total := ones b data + parBit
  let parOk := par == 0 || total % 2 == (if par = 1 then 0 else 1)
  let errActive := (er == 1 && bits % 2 == 1) || (er == 2 && bits % 2 == 0)
  if !high || !parOk || errActive then none
  else some (if s.cf (FB_SSI_CODE p) = 1 then grayToBin b data else data)

/-- A frame error of a word (R126). -/
def State.ssiError (s : State) (p : Nat) : State := (s.setBit (FB_PORT_STATUS p) 4).bump (FB_SSI_ERRORS p)

/-- One SSI word at an L1 sample instant (R124 to R127). A frame error keeps the speed of the sample before: R126 states the position
only (log entry 85). -/
def State.ssiSample (s : State) (p : Nat) (high : Bool) (bits : Nat) (ts : Int) : State :=
  let q := s.pt p
  let b := s.cf (FB_SSI_BITS p)
  let w := match s.boundAxis p with | some n => s.speedWindow n | none => 0
  match s.ssiDecode p high bits with
  | none =>
    let x := match q.hist with | y :: _ => y.at_ ts | [] => q.out * oneQ + q.sub
    let s := (s.ssiError p).modPt p (fun q => { q with errRun := q.errRun + 1 })
    let s := if 3 ≤ (s.pt p).errRun then s.clrBit (FB_PORT_STATUS p) 1 else s
    s.takeSample p ts x (lastSpeed q.hist)
  | some v =>
    let raw := match (if q.wantWord then none else q.ssiWord) with
      | none => (v % 2 ^ 32 : Nat)
      | some v0 => q.raw + toS b (ofS b ((v : Int) - (v0 : Int)))
    let h := if q.wantWord then [] else q.hist
    let s := s.modPt p (fun q => { q with
      raw := raw, out := raw, ssiWord := some v, wantWord := false, errRun := 0, hist := h,
      sub := if q.wantWord then 0 else q.sub })
    let x := raw * oneQ + (s.pt p).sub
    ((s.setBit (FB_PORT_STATUS p) 1).setReferenced p).takeSample p ts x (histSpeed h ts x w)

/-! ### Hybrid (R129, R130) -/

/-- The absolute word read after commit (R129, R645). -/
def State.hybridRef (s : State) (p : Nat) (high : Bool) (bits : Nat) : State :=
  let t := s.nowT
  match s.ssiDecode p high bits with
  | none => s.ssiError p
  | some v =>
    let want := ((v * s.cf (FB_HYBRID_SCALE p) : Nat) : Int) * oneQ
    let s := s.modPt p (fun q => { q.settle with wantWord := false, ssiWord := some v })
    (((s.shiftPort p t (posDiff want (s.portPos p t))).setBit (FB_PORT_STATUS p) 1)).setReferenced p

def execHybridReference (p : Fin 16) (w : SsiWave) (clock : Int) (s : State) : Host.Outcome State Fault Refusal :=
  .next (if s.portMode p.val = 3 && s.portActive p.val && (s.pt p.val).wantWord
    then s.hybridRef p.val (s.ssiHigh p.val w clock) (s.ssiBits p.val w clock) else s)

/-- The periodic check of the incremental position against a word (R130): the position as counted, not wrapped to 64 bits, which matters
past the wrap of R7 where the modulus does not divide it (log entry 85). -/
def State.hybridCheck (s : State) (p : Nat) (high : Bool) (bits : Nat) : State :=
  match s.ssiDecode p high bits with
  | none => s.ssiError p
  | some v =>
    let sc := s.cf (FB_HYBRID_SCALE p)
    let m : Int := ((2 ^ s.cf (FB_SSI_BITS p) * sc : Nat) : Int) * 65536
    let d := (s.portPos p s.nowT / 65536 - ((v * sc : Nat) : Int) * 65536) % m
    let dev := if m ≤ 2 * d then d - m else d
    match s.boundAxis p with
    | some n => s.deviate p n false s.nowT dev (s.cf (FB_HYBRID_TOLERANCE p))
    | none => s

def execHybridCheck (p : Fin 16) (w : SsiWave) (clock : Int) (s : State) : Host.Outcome State Fault Refusal :=
  .next (if s.portMode p.val = 3 && s.portActive p.val && s.cf (FB_HYBRID_CHECK p.val) != 0 && !(s.pt p.val).wantWord
    then s.hybridCheck p.val (s.ssiHigh p.val w clock) (s.ssiBits p.val w clock) else s)

/-! ### Sin/cos (R131 to R137) -/

/-- 2^20 as binary32 over 2π. -/
def stepsPerRad : Nat := F.div 0x49800000 F.twoPi

/-- The estimates of R135 in force: offset of the sine and of the cosine, gain ratio, phase error. -/
def State.scNow (s : State) (p : Nat) : Vector Nat 4 :=
  #v[s.rd (FB_SC_OFFSET_SIN p), s.rd (FB_SC_OFFSET_COS p), s.rd (FB_SC_GAIN_RATIO p), s.rd (FB_SC_PHASE p)]

/-- The spans of the last 64 signal periods, and the one in which they began. -/
def lastPeriods (q : Nat) : List ScSpan → List ScSpan
  | [] => []
  | x :: xs => if x.quads + 256 ≤ q then [x] else x :: lastPeriods q xs

/-- Estimates `e` noted after `q` quadrants. -/
def noteSpan (q : Nat) (e : Vector Nat 4) : List ScSpan → List ScSpan
  | [] => [⟨q, e, e⟩]
  | x :: xs =>
    if x.quads = q then
      ⟨q, Vector.ofFn (fun i => if F.lt (at' e i) (at' x.lo i) then at' e i else at' x.lo i),
        Vector.ofFn (fun i => if F.lt (at' x.hi i) (at' e i) then at' e i else at' x.hi i)⟩ :: xs
    else ⟨q, e, e⟩ :: x :: xs

/-- No estimate has changed by more than 2^-16 over the last 64 signal periods (R137). -/
def settled (q : Nat) (l : List ScSpan) : Bool :=
  l.any (fun x => decide (x.quads + 256 ≤ q)) &&
  (upto 4).all (fun i => l.all (fun x => l.all (fun y => F.le (F.sub (at' x.hi i) (at' y.lo i)) 0x37800000)))

/-- The estimator of R135 takes a conversion of the channels `a` and `b`. Its frequency is a quarter of the port's speed, and the
equations of the estimator are open (Config.scEst, log entry 78). -/
def State.scEstimate (s : State) (p : Nat) (dq : Int) (a b : Nat) : State :=
  if !s.on (FB_SC_CORR_ENABLE p) then (s.wr (FB_SC_CORR_STATE p) 0).modPt p (fun q => { q with scHist := [] })
  else
    let v := absI (lastSpeed (s.pt p).hist)
    let live := decide (4 * oneQ ≤ v) && decide (v < 200000 * oneQ)
    let s := if live then
        let obs := Config.scEst (s.pt p).scObs (.ofNat 32 a) (.ofNat 32 b)
        let e (i : Nat) : Nat := (obs.toNat >>> (32 * i)) % 2 ^ 32
        let s := s.modPt p (fun q => { q with scObs := obs })
        (((s.wr (FB_SC_OFFSET_SIN p) (e 0)).wr (FB_SC_OFFSET_COS p) (e 1)).wr (FB_SC_GAIN_RATIO p) (e 2)).wr (FB_SC_PHASE p) (e 3)
      else s
    let e := s.scNow p
    let s := s.modPt p (fun q =>
      let n := q.scQuads + dq.natAbs
      { q with scQuads := n, scHist := lastPeriods n (noteSpan n e q.scHist) })
    s.wr (FB_SC_CORR_STATE p) (if !live then 3 else if settled (s.pt p).scQuads (s.pt p).scHist then 2 else 1)

/-- The voltages of the two channels after calibration (R602). -/
def State.scVolts (s : State) (p sinV cosV : Nat) : Nat × Nat :=
  let c (i : Nat) : Nat := s.calv (CALV_SC_CAL (4 * p + i))
  (F.add (F.mul (c 0) sinV) (c 1), F.add (F.mul (c 2) cosV) (c 3))

/-- The sine and cosine with the estimates of R135 applied. -/
def State.scCorrect (s : State) (p a b : Nat) : Nat × Nat :=
  if !s.on (FB_SC_CORR_ENABLE p) then (a, b)
  else
    let a := F.sub a (s.rd (FB_SC_OFFSET_SIN p))
    let b := F.div (F.sub b (s.rd (FB_SC_OFFSET_COS p))) (s.rd (FB_SC_GAIN_RATIO p))
    let ph := s.rd (FB_SC_PHASE p)
    (a, F.div (F.add b (F.mul a (F.sin ph))) (F.cos ph))

/-- Conversion `k` after the L1 sample instant starts k·500 ns after it, and 500 ns or more before the next one (R131). -/
def State.scTaken (s : State) (p k : Nat) : Bool :=
  match s.boundAxis p with
  | some n => k == 0 || decide (((k + 1 : Nat) : Int) * 500 * 2 ^ 32 ≤ s.t1 n)
  | none => false

/-- One conversion of the sin/cos channels; number 0 makes the sample (R131 to R137). -/
def State.scConvert (s : State) (p : Nat) (c : ScConv) : State :=
  let (u, v) := s.scVolts p (Config.scVolts c.sin).toNat (Config.scVolts c.cos).toNat
  let (a, b) := s.scCorrect p u v
  let len := F.sqrt (F.add (F.mul a a) (F.mul b b))
  let ampOk := F.le 0x3e4ccccd len && F.le len 0x3f266666
  let st : Int := f32.toIntNearest (F.mul (F.atan2 a b) stepsPerRad) 0 % 1048576
  let quad := st / 262144
  let q := s.pt p
  let raw := if q.scInit then quad + q.scOff else q.raw + c.dq
  let d := (quad - (raw - q.scOff)) % 4
  let bad := d == 2
  let raw := if d = 1 then raw + 1 else if d = 3 then raw - 1 else raw
  let dir := if q.scInit ∨ raw = q.raw then q.idxDir else signI (raw - q.raw)
  let s := s.modPt p (fun q => { q with raw := raw, out := raw, scInit := false, idxDir := dir })
  let s := if bad then (s.setBit (FB_PORT_STATUS p) 6).clrBit (FB_PORT_STATUS p) 1 else s
  let s := if ampOk then s else (s.setBit (FB_PORT_STATUS p) 5).clrBit (FB_PORT_STATUS p) 1
  let s := if !bad && ampOk then s.setBit (FB_PORT_STATUS p) 1 else s
  let s := s.scEstimate p c.dq u v
  if c.k = 0 then
    let x := raw * oneQ + st % 262144 * 16384 + (s.pt p).sub
    let w := match s.boundAxis p with | some n => s.speedWindow n | none => 0
    s.takeSample p s.nowT x (histSpeed (s.pt p).hist s.nowT x w)
  else s

/-! ### Index (R140 to R144) -/

/-- An index event of a port at `t`: reference or check, by the INDEX_MODE of the bound axis. -/
def State.indexEvent (s : State) (p : Nat) (t : Int) : State :=
  let s := s.wr (FB_INDEX_STAMP p) (s.stampT t)
  match s.boundAxis p with
  | none => s
  | some n =>
    let s := s.bump (AI_INDEX_COUNT n)
    let mode := s.cf (AI_INDEX_MODE n)
    if mode = 1 then
      if (s.pt p).idxArmed then
        let s := s.modPt p (fun q => { (q.release t).settle with idxArmed := false })
        let want := s.cq (AI_REFERENCE_POSITION n)
        let s := s.shiftPort p t (posDiff want (s.portPos p t))
        (s.setReferenced p).recordAt (s.stampT t) 6 1 0 p (pay 16 (ofPos want))
      else s
    else if mode = 2 then
      let x := s.portPos p t / 65536
      match (s.pt p).idxBase with
      | none => s.modPt p (fun q => { q with idxBase := some x })
      | some b =>
        let cpr : Int := ((s.cf (AF_COUNTS_PER_REV n) : Nat) : Int) * 65536
        let d := toS 48 (ofS 48 (x - b))
        let k := (2 * d + cpr).fdiv (2 * cpr)
        s.deviate p n true t (d - k * cpr) (s.cf (AI_INDEX_TOLERANCE n))
    else s

/-- A write of 1 to INDEX_ARM (R141). -/
def State.indexArm (s : State) (n : Nat) : State :=
  match s.motorPort n with
  | some p => s.modPt p (fun q => { q with idxArmed := true })
  | none => s

/-! ### Standby tracking (R145 to R149) -/

/-- TRACKING_LOST of a tracked port. -/
def State.trackLost (s : State) (p : Nat) : State := s.setBit TRK_TRACK_LOST p

/-- One 1 MHz sample of a tracked port in standby (R146). -/
def State.trackOne (s : State) (a b : Bool) (p : Nat) : State :=
  let k := at' s.track p
  let da := a != k.a
  let db := b != k.b
  let since := k.since.map (· + 1)
  let one := da != db
  let lost := (da && db) || (one && (match since with | some n => decide (n < 4) | none => false))
  let dir : Int :=
    if da then quadDir false (a != k.invA) (b != k.invB) else quadDir true (b != k.invB) (a != k.invA)
  let s := if one then s.wr (TRK_TRACK_COUNT p) (ofS 32 (toS 32 (s.rd (TRK_TRACK_COUNT p)) + dir)) else s
  let s := { s with track := s.track.setIfInBounds p { k with a := a, b := b, since := if one then some 0 else since } }
  if lost then s.trackLost p else s

/-- What has passed for the always-on domain, 2^-32 ns: the clock that starts anew at a reset, and the samples of the tracker while a
rail is down. -/
def State.aonClock (s : State) : Int := s.pw.aonPast + s.clock + ((1000 * 2 ^ 32 * s.pw.aonUs : Nat) : Int)

/-- The length of a crystal cycle, 2^-32 ns. -/
def crystalU : Nat := 1000000000 * 2 ^ 17

/-- AON_TIME in units of 2^-32 ns: the value it was set to and the whole crystal cycles since (R586). -/
def State.aonUnits (s : State) : Nat :=
  lt96Units (s.rd CLKS_AON_TIME) + ((s.aonClock - s.pw.aonAt) / (crystalU : Int)).toNat * crystalU

/-- AON_TIME. -/
def State.aonTime (s : State) : Nat := (Clock.ofUnits s.aonUnits).lt96

/-- A microsecond with a rail down. -/
def State.aonTick (s : State) : State :=
  { s with pw := { s.pw with aonUs := s.pw.aonUs + 1, standbyUs := if s.dev = .standby then s.pw.standbyUs + 1 else s.pw.standbyUs } }

/-- A 1 MHz sample. While the control rails are up the tracked counts follow the raw counts (R145); while they are down the
tracker counts (R146), and the holdover clock counts with it (log entry 16). -/
def execTrackerSample (a b : BitVec 4) (s : State) : Host.Outcome State Fault Refusal :=
  .next (if s.pw.railsUp then (if s.portsSet then each (upto 4) s (fun s p => s.trackCopy p) else s)
    else
      let s := s.aonTick
      each (upto 4) s (fun s p => if (at' s.track p).on then s.trackOne (a.toNat.testBit p) (b.toNat.testBit p) p else s))

/-- The rails fall, or a reset comes: the tracker starts from the levels, with the settings, the counts and REFERENCED as they
are; before boot step 4 it goes on with those it has (R146, R147). -/
def State.trackStart (s : State) : State :=
  let set := s.portsSet
  let s := if set then each (upto 4) s (fun s p => s.trackCopy p) else s
  { s with track := s.track.mapIdx (fun p k =>
    let q := s.pt p
    let k := { k with a := at' q.lvl 0, b := at' q.lvl 1, since := none }
    if set then
      { k with on := s.tracked p, invA := (s.cf (FB_INVERT p)).testBit 0, invB := (s.cf (FB_INVERT p)).testBit 1,
               referenced := s.bitOf (FB_PORT_STATUS p) 2 }
    else k) }

/-- Boot step 4: tracked ports take their counts (R147, R148). -/
def State.trackRestore (s : State) : State :=
  each (upto 4) s (fun s p =>
    if s.tracked p then
      let c := toS 32 (s.rd (TRK_TRACK_COUNT p))
      let s := s.modPt p (fun q => { q with
        raw := c, out := c, outBefore := c, trs := [], held := false, lastDir := 0, idxDir := 0, recent := [], shifts := [], sub := 0 })
      if s.bitOf TRK_TRACK_LOST p then
        ((s.setBit (FB_PORT_STATUS p) 9).clrBit (FB_PORT_STATUS p) 2).record 6 4 0 p 0
      else if (at' s.track p).referenced then s.setBit (FB_PORT_STATUS p) 2
      else s.clrBit (FB_PORT_STATUS p) 2
    else s)

/-! ### Commit (R109, R129, R141, R645) -/

/-- A port is bound to an axis, or an enabled latch unit takes its index (Table AR-6). -/
def State.portBound (s : State) (p : Nat) : Bool :=
  (s.boundAxis p).isSome || (upto 16).any (fun u => s.cf (LU_MODE u) != 0 && s.cf (LU_SOURCE u) == 0x10 + p)

/-- SSI: the fresh sample is ready before the sinc window closes; likewise for sin/cos (R128). -/
def State.extrapolates (s : State) (p : Nat) : Bool :=
  match s.boundAxis p with
  | none => false
  | some n =>
    let g := s.cf (SD_SDCLK_DIV (n / 4))
    -- half window in units of 1 ps: OSR / 2 · SDCLK_DIV ns
    let half : Int := ((s.cf (CC_OSR n) * g * 500 : Nat) : Int)
    if s.portMode p = 2 then
      -- both sides times SSI_CLOCK
      let clk : Int := (s.cf (FB_SSI_CLOCK p) : Int)
      let ps : Int := (s.cf (FB_SSI_DATA_DELAY p) : Int) * 1000 - (s.cf (FB_SSI_LATCH_LEAD p) : Int) * 1000 + 200000
      decide (half * clk < (s.ssiTotal p : Int) * 1000000000000 + ps * clk)
    else if s.portMode p = 4 then decide (half < 600000)
    else false

/-- A port at the instant a configuration takes effect; `was` is its mode before. Log entry 85: a change of MODE forgets direction,
transitions, word and samples and clears REFERENCED, and keeps the count; in a mode that stays, POS_VALID of an SSI or sin/cos port
stays too. -/
def State.portCommit (s : State) (p was : Nat) : State :=
  let m := s.portMode p
  let act := m != 0 && s.portBound p
  let s := s.modPt p (fun q => { q with
    idxDir := 0, idxArmed := true, idxBase := none, wantWord := true,
    scInit := q.scInit || (was != 4 && m == 4),
    lastDir := if was = m then q.lastDir else 0, recent := if was = m then q.recent else [],
    ssiWord := if was = m then q.ssiWord else none, hist := if was = m then q.hist else [] })
  let s := (s.putBit (FB_PORT_STATUS p) 0 act).putBit (FB_PORT_STATUS p) 10 (s.extrapolates p)
  let valid := act && (m == 1 || ((m == 2 || m == 4) && was == m && s.bitOf (FB_PORT_STATUS p) 1))
  let s := s.putBit (FB_PORT_STATUS p) 1 valid
  (if m ≠ was ∨ m = 0 then s.clrBit (FB_PORT_STATUS p) 2 else s).trackCopy p

end Sys2Proof.Machine
end

