-- ==== Sys2Proof/Machine/Homing.lean ====
section
/-! DEFINITION. Homing (R301 to R306): the phases of Table MO-7, the edges they latch, the reference event, and its ends. -/
namespace Sys2Proof.Machine
open Obj

def State.homePhase (s : State) (n : Nat) : HPhase := HPhase.ofCode (s.rd (HOM_HOMING_PHASE n))
def State.homeMethod (s : State) (n : Nat) : Nat := s.cf (HOM_HOMING_METHOD n)

/-- Homing runs. -/
def State.homing (s : State) (n : Nat) : Bool := s.rd (HOM_HOMING_RESULT n) == hrProgress

/-- The reference switch of the method: 2 for home, else the limit in HOMING_DIR (methods 4 and 5). -/
def State.homeSwitch (s : State) (n : Nat) : Option Nat :=
  match s.homeMethod n with
  | 2 | 3 | 10 | 12 => some 2
  | 4 | 5 => some (if s.cf (HOM_HOMING_DIR n) = 0 then 0 else 1)
  | _ => none

/-- The input code of a switch: 0 positive limit, 1 negative limit, 2 home. -/
def State.switchCode (s : State) (n w : Nat) : Nat :=
  s.cf (if w = 0 then LIM_LIMIT_SW_POS n else if w = 1 then LIM_LIMIT_SW_NEG n else LIM_HOME_SW n)

/-- The phase after `p` in a method, none where `p` holds the reference event (Table MO-7). -/
def nextPhase (method : Nat) (p : HPhase) : Option HPhase :=
  match p, method with
  | .search, 12 => some .index
  | .search, _ => some .ret
  | .ret, 3 => some .index
  | .ret, 5 => some .index
  | .ret, 10 => some .cross
  | .hardStop, 7 => some .index
  | _, _ => none

/-- Direction of a phase against HOMING_DIR: 1 the same, −1 opposite (Table MO-7). -/
def phaseSign (method : Nat) (p : HPhase) : Int :=
  match p with
  | .ret => -1
  | .index => if method = 12 then 1 else -1
  | _ => 1

/-- HOMING_DIR as a sign. -/
def State.homeSign (s : State) (n : Nat) : Int := if s.cf (HOM_HOMING_DIR n) = 0 then 1 else -1

/-- A phase begins: velocity HOMING_FAST in SEARCH, else HOMING_SLOW, capped under R285. -/
def State.startPhase (s : State) (n : Nat) (p : HPhase) : State :=
  let l := s.moveLims n
  let v := minI (s.cq (match p with | .search => HOM_HOMING_FAST n | _ => HOM_HOMING_SLOW n)) l.v
  let w := s.homeSign n * phaseSign (s.homeMethod n) p * v
  let xs := planVel l (s.pSet n) (s.vSet n) (s.aSet n) w
  ((s.wr (HOM_HOMING_PHASE n) p.code).setMode n mmHoming).modAx n (fun a => { a with plan := xs, tPlan := 0, home := { since := a.home.since } })

/-- An edge of a phase latched at its stamp, the first of its kind (R302). -/
def State.latchEdge (s : State) (n : Nat) (t x : Int) : State :=
  s.modAx n (fun a => if a.home.edge.isSome || a.home.turning then a else { a with home := { a.home with edge := some (t, x) } })

/-- The active-going edge of CROSS. -/
def State.latchFirst (s : State) (n : Nat) (x : Int) : State :=
  s.modAx n (fun a => if a.home.first.isSome then a else { a with home := { a.home with first := some x } })

/-- Switch `w` of a homing axis has changed at `t`, its level already updated: the phase that looks for it latches it. -/
def State.homeEdge (s : State) (n w : Nat) (t : Int) : State :=
  let act := s.switchActive n w
  let x := s.axisPos n t
  match s.homePhase n with
  | .search => if act then s.latchEdge n t x else s
  | .ret => if act then s else s.latchEdge n t x
  | .cross =>
    if act then s.latchFirst n x
    else if (s.ax n).home.first.isSome then s.latchEdge n t x else s
  | _ => s

/-- A transition of the input with code `c` at `t`, its level already updated. -/
def State.homeInput (s : State) (c : Nat) (t : Int) : State :=
  each allAxes s (fun s n =>
    match s.homeSwitch n with
    | some w => if s.homing n && s.switchCode n w == c then s.homeEdge n w t else s
    | none => s)

/-- A wire break has come or gone, and with it limit switches that were not active, or no longer are (R385): `was` is the state before. -/
def State.homeBreak (s was : State) (c : Nat) : State :=
  each allAxes s (fun s n =>
    match s.homeSwitch n with
    | some w =>
      if s.homing n && s.switchCode n w == c && was.switchActive n w != s.switchActive n w then s.homeEdge n w s.nowT else s
    | none => s)

/-- An index event of port `p` at `t` (methods 1, 3, 5, 7 and 12). -/
def State.homeIndex (s : State) (p : Nat) (t : Int) : State :=
  match s.boundAxis p with
  | some n =>
    if s.homing n then
      match s.homePhase n with
      | .index => s.latchEdge n t (s.axisPos n t)
      | .approach => if s.homeMethod n = 1 then s.latchEdge n t (s.axisPos n t) else s
      | _ => s
    else s
  | none => s

/-- An accepted capture of latch unit `u` (method 11). -/
def State.homeProbe (s : State) (u : Nat) (c : Cap) : State :=
  each allAxes s (fun s n =>
    if s.homing n && s.homeMethod n == 11 && s.cf (HOM_HOMING_LATCH_UNIT n) == u &&
       (match s.homePhase n with | .approach => true | _ => false)
    then s.latchEdge n c.t (at' c.pos 0) else s)

/-- The reference event at `t` and axis position `x` (R303): from `t` on the axis moves so that `x` becomes HOME_OFFSET, in the
manner of R144, and p_set with it in the same sample. -/
def State.homeReference (s : State) (n : Nat) (t x : Int) : State :=
  let d := posDiff (s.cq (HOM_HOME_OFFSET n)) x
  let s := (s.shiftAxis n t d).wrPos (PRF_P_SET n) (s.pSet n + d)
  let s := match s.motorPort n with | some p => s.setReferenced p | none => s
  let s := (s.wrPos (HOM_HOMING_REF_POS n) x).endHoming n hrSuccess
  let l := s.moveLims n
  if s.standstill n then
    let s := s.rest n
    if s.inSetup n then s else s.setAx n axEnabled
  else s.startStop n l.d .enabled

/-- Homing fails: it ends with a result and the axis stops at `dec` (R305, R306). -/
def State.homeFail (s : State) (n res : Nat) (dec : Int) (kind : StopKind := .d) : State :=
  (s.endHoming n res).startStop n dec .enabled kind

/-- The method's phase has latched its edge at `t`: the reference event, or the next phase, with a stop at D between opposite
directions (R301). -/
def State.phaseEdge (s : State) (n : Nat) (t x : Int) : State :=
  let m := s.homeMethod n
  let p := s.homePhase n
  match nextPhase m p with
  | none =>
    let ref := if m = 10 then (match (s.ax n).home.first with | some y => y + posDiff x y / 2 | none => x) else x
    s.homeReference n t ref
  | some q =>
    if phaseSign m p = phaseSign m q then s.startPhase n q
    else
      let l := s.moveLims n
      let s := s.startStop n l.d .enabled
      let s := (s.setMode n mmHoming).modAx n (fun a => { a with home := { a.home with turning := true, next := q } })
      if s.inSetup n then s else s.setAx n axRunning

/-- A limit switch that is not the reference of the method is active and v_set points toward it (R305). -/
def State.homeBlocked (s : State) (n : Nat) : Bool :=
  (upto 2).any (fun w => s.homeSwitch n != some w && s.switchActive n w &&
    (if w = 0 then decide (0 < s.vSet n) else decide (s.vSet n < 0)))

/-- Homing at an L3 sample instant. Method 9 takes the position at the first one after HOME; a method whose phases are all skipped
has no reference event, and waits for HOMING_TIMEOUT (R301; log entry 13). -/
def State.homeStep (s : State) (n : Nat) : State :=
  if !s.homing n || s.axMode n != mmHoming then s
  else if s.homeBlocked n then s.homeFail n hrLimit (s.cq (PRF_QUICK_STOP_DEC n)) .quick
  else if (match s.homePhase n with | .none => true | _ => false) then
    (if s.homeMethod n = 9 ∧ (s.ax n).home.since < s.clock then s.homeReference n s.nowT (s.posOf n) else s)
  else
    let h := (s.ax n).home
    if h.turning then (if s.standstill n then s.startPhase n h.next else s)
    else match h.edge with
      | some e => s.phaseEdge n e.1 e.2
      | none => s

/-- The first phase of a method, for an axis whose reference switch reads `act`: SEARCH and RETURN are skipped on an active switch
(R301). -/
def firstPhase (method : Nat) (act : Bool) : Option HPhase :=
  match method with
  | 1 | 11 => some .approach
  | 2 | 4 => if act then none else some .search
  | 10 => some (if act then .cross else .search)
  | 3 | 5 => some (if act then .index else .search)
  | 12 => some (if act then .index else .search)
  | 6 | 7 => some .hardStop
  | _ => none

/-- The method's sources and conditions are configured (R301, Table MO-7). -/
def State.homeConfigured (s : State) (n : Nat) : Bool :=
  let m := s.homeMethod n
  let pm := match s.motorPort n with | some p => s.portMode p | none => 0
  let index := pm == 1 || pm == 4
  let cell := s.ccMode n == 1 || s.ccMode n == 4
  let sw := match s.homeSwitch n with | some w => s.switchCode n w != 0xff | none => true
  sw && (match m with
    | 1 | 3 | 5 | 12 => index
    | 6 => cell
    | 7 => cell && index
    | 8 => s.portBit n 2
    | 11 => s.cf (LU_AXIS (s.cf (HOM_HOMING_LATCH_UNIT n)) 0) == n
    | _ => true)

/-- The reference switch of the method is active now. -/
def State.homeActive (s : State) (n : Nat) : Bool := match s.homeSwitch n with | some w => s.switchActive n w | none => false

/-- The direction of the motion that HOME begins, 0 where the method moves nothing. -/
def State.homeWay (s : State) (n : Nat) : Int :=
  match firstPhase (s.homeMethod n) (s.homeActive n) with
  | some p => s.homeSign n * phaseSign (s.homeMethod n) p
  | none => 0

/-- HOME takes effect (R301). -/
def State.startHoming (s : State) (n : Nat) : State :=
  let m := s.homeMethod n
  let act := s.homeActive n
  let s := (s.dropMotion n).takeType n
  let s := (s.wr (HOM_HOMING_RESULT n) hrProgress).wr (HOM_HOMING_PHASE n) 0
  let s := s.modAx n (fun a => { a with home := { since := s.clock } })
  let clear (s : State) : State := match s.motorPort n with | some p => s.clrBit (FB_PORT_STATUS p) 2 | none => s
  if m = 8 then
    let x := s.posOf n
    let o := s.cq (HOM_HOME_OFFSET n)
    let s := (s.shiftAxis n s.nowT o).wrPos (PRF_P_SET n) (s.pSet n + o)
    let s := (match s.motorPort n with | some p => s.setReferenced p | none => s)
    (((s.wrPos (HOM_HOMING_REF_POS n) x).endHoming n hrSuccess).rest n)
  else
    let s := clear s
    let s := if s.inSetup n then s else s.setAx n axRunning
    match firstPhase m act with
    | some p => s.startPhase n p
    | none => (s.setMode n mmHoming).modAx n (fun a => { a with plan := [⟨0, s.pSet n, 0, 0, 0⟩], tPlan := 0 })

/-- HOMING_TIMEOUT after HOME took effect (R306); before that it does nothing. -/
def execHomingTimeout (n : Fin 32) (s : State) : Host.Outcome State Fault Refusal :=
  .next (if s.homing n.val &&
      decide ((s.ax n.val).home.since + ((s.cf (HOM_HOMING_TIMEOUT n.val) * 1000000 * 2 ^ 32 : Nat) : Int) ≤ s.clock) then s.homeFail n.val hrTimeout (s.lims n.val).d else s)

end Sys2Proof.Machine
end

