-- ==== Sys2Proof/Machine/Latch.lean ====
section
/-! DEFINITION. Latch units (R150 to R160), index events as they reach ports, homing and latch units, and the emulation
outputs (R161 to R170). -/
namespace Sys2Proof.Machine
open Obj

/-! ### Captures -/

/-- The capture of a unit at `t` (R152). -/
def State.capture (s : State) (u : Nat) (t : Int) (stamp : Nat) : Cap :=
  let ax (i : Nat) : Nat := s.cf (LU_AXIS u i)
  let ok (i : Nat) : Bool := decide (ax i < 32) && (!physical (ax i) || s.posValid (ax i))
  ⟨stamp, t, Vector.ofFn (fun i => if ax i.val < 32 then trunc16 (s.axisPos (ax i.val) t) else 0),
    (upto 4).foldl (fun m i => if ok i then m else orBit m i) 0⟩

/-- A position lies in the window of a unit (R155). -/
def inWindow (m a b x : Int) : Bool :=
  if m ≤ 0 then decide (a ≤ x) && decide (x < b)
  else
    let y := x - m * x.fdiv m
    if a ≤ b then decide (a ≤ y) && decide (y < b)
    else (decide (a ≤ y) && decide (y < m)) || (decide (0 ≤ y) && decide (y < b))

def State.unitWindow (s : State) (u : Nat) (x : Int) : Bool :=
  inWindow (s.cq (LU_WIN_MODULUS u)) (s.cq (LU_WIN_START u)) (s.cq (LU_WIN_END u)) x

/-- CAP objects and PENDING show the oldest capture of the object queue (R159). -/
def State.showCaps (s : State) (u : Nat) : State :=
  let q := (s.lu u).queue
  let c : Cap := q.headD ⟨0, 0, Vector.replicate 4 0, 15⟩
  let s := ((s.wr (LU_PENDING u) q.length).wr (LU_CAP_STAMP u) c.stamp).wr (LU_CAP_FLAGS u) c.flags
  each (upto 4) s (fun s i => s.wrPos (LU_CAP_POS u i) (at' c.pos i))

/-- The first sample instant of AXIS_0 of a unit after `t`, among those taken, at which its position lies outside the window (R156). -/
def State.passOver (s : State) (u : Nat) (t : Int) : Option Int :=
  (((s.axisSamples (s.cf (LU_AXIS u 0))).reverse.filter (fun x => decide (t < x.t))).find? (fun x => !s.unitWindow u x.x)).map (·.t)

/-- An accepted capture goes to the loop processors, a record, and the object queue (R158). -/
def State.deliver (s : State) (u : Nat) (c : Cap) : State :=
  let gone := s.passOver u c.t
  let now := s.nowT
  let s := s.modLu u (fun l => { l with
    recent := (c :: l.recent).take 16, locked := s.cf (LU_WINDOW u) == 2 && gone.isNone, passEnd := gone.or l.passEnd,
    valids := if c.flags.testBit 0 then l.valids else keepBack (·.1) 4 now ((now, l.validCount + 1, c) :: l.valids),
    validCount := if c.flags.testBit 0 then l.validCount else l.validCount + 1 })
  let s := (s.homeProbe u c).acqEvent 4 u 0 c.t
  let s := if s.on (LU_RECORD u) then
      s.recordAt c.stamp 7 1 c.flags u (pay 16 (ofPos (at' c.pos 0)) + pay 24 (ofPos (at' c.pos 1)))
    else s
  let s := if (s.lu u).queue.length < 4 then s.modLu u (fun l => { l with queue := l.queue ++ [c] })
    else s.bump (LU_DROPPED u)
  let s := if s.cf (LU_MODE u) = 1 then s.wr (LU_ARMED u) 0 else s
  s.showCaps u

/-- A capture at `t` belongs to a pass of which one has been accepted (R156). -/
def LatchSt.taken (l : LatchSt) (t : Int) : Bool := l.locked || l.passEnd.any (fun u => decide (t < u))

/-- The event is one of the unit: its source, and for lands the selected edge (R151). -/
def State.unitEvent (s : State) (u code : Nat) (rising : Bool) : Bool :=
  let land := decide (code < 8) || (decide (0x20 ≤ code) && decide (code < 0x30))
  let e := s.cf (LU_EDGE u)
  s.cf (LU_SOURCE u) == code && (!land || e == 3 || (e == 1 && rising) || (e == 2 && !rising))

/-- Free-running time now in 125 ps. -/
def State.freeT (s : State) : Int := (s.time.free.units : Int) / (tickU : Int)

/-- An event at `t` offered to one unit (R153 to R156). The 40 ns are free-running time, which a step of line time leaves alone
(R153). -/
def State.unitTake (s : State) (u code : Nat) (rising : Bool) (t : Int) : State :=
  if s.cf (LU_MODE u) = 0 ∨ s.rd (LU_ARMED u) = 0 ∨ !s.unitEvent u code rising then s
  else
    let f := s.freeT + (t - s.nowT)
    let near := match (s.lu u).last with | some t0 => decide (absI (f - t0) < 320) | none => false
    if near then s.bump (LU_DROPPED u)
    else
      let s := s.modLu u (fun l => { l with last := some f })
      let c := s.capture u t (s.stampT t)
      let w := s.cf (LU_WINDOW u)
      if w ≠ 0 ∧ (!s.unitWindow u (at' c.pos 0) ∨ (w = 2 ∧ (s.lu u).taken t)) then s.bump (LU_DISCARDED u)
      else s.deliver u c

/-- An event offered to every unit, in ascending order. -/
def State.latchEvent (s : State) (code : Nat) (rising : Bool) (t : Int) : State :=
  each (upto 16) s (fun s u => s.unitTake u code rising t)

/-- An accepted transition of LATi, its land level given: LAT_LEVEL after LAT_INVERT, homing (R302), latch units (R150). -/
def State.latEdge (s : State) (i : Nat) (level : Bool) (t : Int) : State :=
  if s.field.lats.testBit i = level then s
  else
    let s := { s with field := { s.field with lats := Sys2Proof.putBit s.field.lats i level } }
    let v := level != (s.cf LATI_LAT_INVERT).testBit i
    ((s.putBit LATI_LAT_LEVEL i v).homeInput i t).latchEvent i v t

/-- LATCH_EVENT: a change of a LAT land, accepted and stamped as R113 and R114 say (R150). The other sources of Table FB-5 are
events of the model's own and reach the units where they happen (R151). -/
def execLatchEvent (i : Fin 8) (l : Land) (off : Int) (s : State) : Host.Outcome State Fault Refusal :=
  .next (match s.accepted (s.cf (LATI_LAT_FILTER i.val)) (64 + i.val) off l.stable with
    | some t => s.latEdge i.val l.level t
    | none => s)

/-- A sample instant of axis `n`: units that wait for it to leave their window accept again (R156). -/
def State.latchPasses (s : State) (n : Nat) : State :=
  each (upto 16) s (fun s u =>
    if (s.lu u).locked && s.cf (LU_AXIS u 0) == n && !s.unitWindow u (s.posOf n)
    then s.modLu u (fun l => { l with locked := false, passEnd := some s.nowT }) else s)

/-- An axis samples its port at an L1 sample instant, and the units see the sample. -/
def State.sampleSeen (s : State) (n : Nat) : State :=
  match s.motorPort n with
  | some p => if s.portMode p = 1 ∨ s.portMode p = 3 then (s.sampleAxis n s.nowT).latchPasses n else s.sampleAxis n s.nowT
  | none => s.sampleAxis n s.nowT

/-- The units see the sample of a port. -/
def State.portSeen (s : State) (p : Nat) : State :=
  match s.boundAxis p with
  | some n => s.latchPasses n
  | none => s

/-- An SSI word at an L1 sample instant (R124), where the port works in that mode. -/
def execSsiTransfer (p : Fin 16) (w : SsiWave) (clock : Int) (s : State) : Host.Outcome State Fault Refusal :=
  .next (if s.portMode p.val = 2 && s.portActive p.val
    then (s.ssiSample p.val (s.ssiHigh p.val w clock) (s.ssiBits p.val w clock) s.nowT).portSeen p.val else s)

/-- A conversion of a sin/cos port that R131 does not skip. -/
def execSincosConversion (p : Fin 4) (c : ScConv) (s : State) : Host.Outcome State Fault Refusal :=
  .next (if s.portMode p.val = 4 && s.portActive p.val && s.scTaken p.val c.k
    then (if c.k = 0 then (s.scConvert p.val c).portSeen p.val else s.scConvert p.val c) else s)

/-- A write of 1 to ARM (R154). -/
def State.armUnit (s : State) (u : Nat) : State := if s.cf (LU_MODE u) = 0 then s else s.wr (LU_ARMED u) 1

/-- A write of 1 to NEXT (R159). -/
def State.nextCapture (s : State) (u : Nat) : State :=
  (s.modLu u (fun l => { l with queue := l.queue.drop 1 })).showCaps u

/-- Latch units at the instant a configuration takes effect: enabled units are armed, and no capture has been accepted yet
(R245). LAT_LEVEL takes the new inversion without an event. -/
def State.latchCommit (s : State) : State :=
  each (upto 16) s (fun s u =>
    (s.wr (LU_ARMED u) (if s.cf (LU_MODE u) = 0 then 0 else 1)).modLu u (fun l => { l with locked := false, passEnd := none, recent := [] }))
    |>.wr LATI_LAT_LEVEL (s.field.lats ^^^ s.cf LATI_LAT_INVERT)

/-! ### Index events -/

/-- An accepted transition of Z: it is the index event if it goes in the sense of the last count (R140). It reaches homing, the
port's reference or check, and the latch units. -/
def State.zEdge (s : State) (q : Nat) (level : Bool) (t : Int) : State :=
  if at' (s.pt q).lvl 2 = level then s
  else
    let s := s.modPt q (fun r => { r with lvl := r.lvl.setIfInBounds 2 level })
    let z := s.landOf q 2
    let m := s.portMode q
    if (m ≠ 1 ∧ m ≠ 4) ∨ s.portActive q = false ∨ z = decide ((s.pt q).idxDir < 0) then s
    else ((s.homeIndex q t).indexEvent q t).latchEvent (0x10 + q) true t

def execIndexEvent (p : Fin 16) (l : Land) (off : Int) (s : State) : Host.Outcome State Fault Refusal :=
  .next (match s.accepted (s.cf (FB_FILTER p.val)) (4 * p.val + 2) off l.stable with
    | some t => s.zEdge p.val l.level t
    | none => s)

/-! ### Emulation -/

/-- The emulation lands of output `e` are driven (R170). -/
def State.emuDriven (s : State) (e : Nat) : Bool :=
  s.cf (EMU_MODE e) != 0 && s.drivesNets &&
  (match s.dev with | .preop | .op | .safe | .locked => true | _ => false)

/-- One revolution of the source of output `e`, raw Q32 (R161). -/
def State.emuRev (s : State) (e : Nat) : Int :=
  let r := s.cq (EMU_SOURCE_REV e)
  if r = 0 then ((s.cf (AF_COUNTS_PER_REV (s.cf (EMU_SOURCE_AXIS e))) : Nat) : Int) * oneQ else r

/-- The emulated count of a position (R161). -/
def State.emuCount (s : State) (e : Nat) (p : Int) : Int := fdiv (p * ((s.cf (EMU_CPR e) : Nat) : Int)) (s.emuRev e) % 2 ^ 32

/-- The levels of A, B and Z for a count (R163). -/
def State.emuAbz (s : State) (e : Nat) : Bool × Bool × Bool :=
  let c := s.rd (EMU_COUNT e)
  let inv := s.cf (EMU_INVERT e)
  let g := if inv.testBit 0 then (4 - c % 4) % 4 else c % 4
  (g == 1 || g == 2, g == 2 || g == 3, (c % s.cf (EMU_CPR e) == s.cf (EMU_Z_POSITION e)) != inv.testBit 1)

/-- The data land of an SSI target: high until the first bit, the bit driven last, low after the last bit until SSI_MONOFLOP
has passed, and then high (R167, R169). -/
def EmuSt.data (x : EmuSt) : Bool :=
  if x.sent.isEmpty then true
  else if x.dataLow && x.sent.length % max 1 x.word.length == 0 then false
  else x.sent.getLast?.getD true

/-- The lands EMUn_A, EMUn_B and EMUn_Z: their levels where they are driven, none at high impedance. In SSI target mode B is the
clock input and Z is low (R163, R167, R170). -/
def State.emuLands (s : State) (e : Nat) : Option Bool × Option Bool × Option Bool :=
  if !s.emuDriven e then (none, none, none)
  else if s.cf (EMU_MODE e) = 2 then (some (s.em e).data, none, some false)
  else
    let x := s.emuAbz e
    (some x.1, some x.2.1, some x.2.2)

/-- A source sample of output `e` (R164 to R166): the counts due are emitted as far as MAX_EDGE_RATE allows; what one interval
leaves of the time of a count goes on to the next. -/
def State.emuSample (s : State) (e : Nat) : State :=
  let n := s.cf (EMU_SOURCE_AXIS e)
  if s.cf (EMU_MODE e) = 0 then s
  else if physical n && !s.posValid n then s.setBit (EMU_STATUS e) 1
  else
    let s := s.clrBit (EMU_STATUS e) 1
    let c := s.emuCount e (s.posOf n)
    let was := s.em e
    let first := was.target.isNone
    let s := s.modEm e (fun x => { x with target := some c })
    if first ∨ s.cf (EMU_MODE e) = 2 then
      ((s.modEm e (fun x => { x with due := 0 })).wr (EMU_COUNT e) c.toNat).wr (EMU_LAG e) 0
    else
      let due := was.due + toS 32 (ofS 32 (c - was.target.getD 0))
      let p := if physical n then s.t1 n else s.tVirtual
      let room := (s.em e).credit + p * ((s.cf (EMU_MAX_EDGE_RATE e) : Nat) : Int)
      let most := room / secI
      let k := clampI (-most) most due
      let s := s.wr (EMU_COUNT e) (ofS 32 ((s.rd (EMU_COUNT e) : Int) + k))
      let s := s.modEm e (fun x => { x with credit := minI (secI - 1) (room - absI k * secI), due := due - k })
      let s := s.wr (EMU_LAG e) (min (due - k).natAbs (2 ^ 32 - 1))
      if due = k then s else s.setBit (EMU_STATUS e) 0

def execEmuSourceSample (e : Fin 4) (s : State) : Host.Outcome State Fault Refusal := .next (s.emuSample e.val)

/-- The SSI word of a count (R167), MSB first, with parity and error bit. -/
def State.emuWord (s : State) (e : Nat) (c : Nat) : List Bool :=
  let b := s.cf (EMU_SSI_BITS e)
  let v := c % 2 ^ b
  let w := if s.cf (EMU_SSI_CODE e) = 1 then binToGray v else v
  let data := (upto b).map (fun i => w.testBit (b - 1 - i))
  let odd := ones b w % 2 == 1
  let par := match s.cf (EMU_SSI_PARITY e) with | 0 => [] | 1 => [odd] | _ => [!odd]
  let inv := s.bitOf (EMU_STATUS e) 1
  let er := match s.cf (EMU_SSI_ERROR_BIT e) with | 0 => [] | 1 => [inv] | _ => [!inv]
  data ++ par ++ er

/-- A transfer clocked by an external master: `edges` rising edges after the first falling edge (R168, R169). -/
def State.ssiTarget (s : State) (e edges : Nat) (t : Int) : State :=
  if s.cf (EMU_MODE e) ≠ 2 then s
  else
    let s := if (s.em e).dataLow then s
      else s.modEm e (fun x => { x with
        word := s.emuWord e (s.emuCount e (s.latestAt (s.cf (EMU_SOURCE_AXIS e)) t)).toNat, sent := [] })
    s.modEm e (fun x =>
      let n := x.word.length
      let more := (upto edges).map (fun i => x.word.getD ((x.sent.length + i) % max 1 n) false)
      { x with sent := x.sent ++ more, dataLow := x.dataLow || decide (0 < edges) })

def execSsiTargetTransfer (e : Fin 4) (edges : Nat) (off : Int) (s : State) : Host.Outcome State Fault Refusal :=
  .next (s.ssiTarget e.val edges (s.nowT + off))

/-- SSI_MONOFLOP has passed since the last rising edge: EMUn_A returns high (R169). -/
def execSsiMonoflop (g : MonoGap) (s : State) : Host.Outcome State Fault Refusal :=
  .next (if s.cf (EMU_SSI_MONOFLOP g.output.val) ≤ g.passed then s.modEm g.output.val (fun x => { x with dataLow := false, sent := [] }) else s)

end Sys2Proof.Machine
end

