-- ==== Sys2Proof/Machine/FieldIO.lean ====
section
/-! DEFINITION. Field inputs, outputs and analogue inputs (chapter 09): V24, input transitions, wire breaks, the commanded
and the actual outputs, shorts and overloads, conversions; and the leg clamp of R569, which also turns outputs off. -/
namespace Sys2Proof.Machine
open Obj

/-- V24_OK is 1 and FIELD_ENABLE is 1 (R379). -/
def State.fieldOn (s : State) : Bool := s.bitOf FIELD_STATUS 0 && s.on FIELD_ENABLE

/-! ### Outputs (R386 to R392) -/

/-- The commanded outputs (R387). -/
def State.doCommand (s : State) : Nat :=
  if s.pw.coreLow then 0
  else match s.dev with
    | .op => if s.isBench then s.cf DO_FALLBACK else s.rd DO_SET
    | .preop | .safe | .locked => s.cf DO_FALLBACK
    | _ => 0

/-- DO_STATE brought up to what R387 asks for. -/
def State.doRefresh (s : State) : State :=
  let on := if s.fieldOn && !s.bitOf FIELD_STATUS 2 then clrMask s.doCommand (s.rd DO_SHORT) else 0
  s.wr DO_STATE (on % 256)

/-- The field section beyond its objects changed. -/
def State.modField (s : State) (f : FieldSt → FieldSt) : State := { s with field := f s.field }

/-- DO_SET written (R387). -/
def State.writeDoSet (s : State) (v : Nat) : State :=
  let now := s.clock
  let on := if s.field.setAt = now then s.field.onBefore else s.rd DO_STATE
  ((s.modField (fun f => { f with setAt := now, onBefore := on })).wr DO_SET v).doRefresh

/-- DO_SHORT bits cleared by writing 1, always (R389), but for shorts detected in this core clock (R391). -/
def State.clearShort (s : State) (m : Nat) : State :=
  let m := clrMask m ((upto 8).foldl (fun a i => if at' s.field.shortAt i = s.clock then orBit a i else a) 0)
  (s.wr DO_SHORT (clrMask (s.rd DO_SHORT) m)).doRefresh

/-- FIELD_STATUS bits cleared by writing 1 (R390, Table FI-7), but for an overload detected in this core clock (R391). -/
def State.clearField (s : State) (m : Nat) : State :=
  let m := if s.field.overAt = s.clock then m &&& 2 else m &&& 6
  (s.wr FIELD_STATUS (clrMask (s.rd FIELD_STATUS) m)).doRefresh

/-- A short of an output that is on, or was before a write of DO_SET in this core clock (R388, R391). -/
def execDoShort (i : Fin 8) (current : BitVec 32) (s : State) : Host.Outcome State Fault Refusal :=
  let now := s.clock
  let s := s.wr (DO_CURRENT i.val) current.toNat
  .next (if s.bitOf DO_STATE i.val || (s.field.setAt == now && s.field.onBefore.testBit i.val) then
    ((((s.modField (fun f => { f with shortAt := f.shortAt.setIfInBounds i.val now })).setBit DO_SHORT i.val).bump
      DO_SHORT_COUNT).record 10 3 0 i.val 0).doRefresh else s)

def execTotalOverload (s : State) : Host.Outcome State Fault Refusal :=
  let now := s.clock
  .next (((((s.modField (fun f => { f with overAt := now })).setBit FIELD_STATUS 2).record 10 4 0 0 0)).doRefresh)

/-- An output has carried a current for a time: open where it is enabled, on and below 5 mA for 20 ms (R392). -/
def execOpenLoad (i : Fin 8) (x : Held) (s : State) : Host.Outcome State Fault Refusal :=
  let s := s.wr (DO_CURRENT i.val) x.value.toNat
  .next (if (s.cf DO_OL_ENABLE).testBit i.val && s.bitOf DO_STATE i.val && F.lt x.value.toNat 0x3ba3d70a && decide (20 ≤ x.held)
    then (s.setBit DO_OPEN_LOAD i.val).record 10 5 0 i.val 0 else s)

/-- VDD_CORE or VDDIO_33 below its threshold (R569): every leg at high impedance and clamped there; with VDD_CORE the field
outputs are off too (R387) and the keepers are released (R545). -/
def execVddCoreLow (core : Bool) (s : State) : Host.Outcome State Fault Refusal :=
  let s := if core then { s with twin := { s.twin with keepers := 0 } } else s
  .next { s.fenceAll with pw := { s.pw with coreLow := s.pw.coreLow || core, ioLow := s.pw.ioLow || !core } }.doRefresh

/-! ### V24 and inputs (R378 to R385) -/

/-- The V24 monitor runs: PORST_N released, and not in STANDBY (R378). -/
def State.v24Runs (s : State) : Bool := s.dev != .standby && !s.pw.porstLow

/-- Whether field input `i`, on or off before, reads on at a voltage of its land: by the thresholds that DI_TYPE selects for its group
(R381, Table FI-1). -/
def State.diReads (s : State) (i : Nat) (was : Bool) (v : Nat) : Bool :=
  let three := (s.cf DI_TYPE).testBit (i / 8)
  let (lo, hi) := match three, was with
    | false, false => (0x41380000, 0x41580000)
    | false, true => (0x41080000, 0x41280000)
    | true, false => (0x40f00000, 0x41180000)
    | true, true => (0x40b00000, 0x40f00000)
  F.le hi v || (F.le lo v && F.le (Config.diThreshold i three (!was)).toNat v)

/-- A field input takes its first level after V24_OK, which makes no edge (R380). -/
def State.diFirst (s : State) (i : Nat) (on : Bool) : State :=
  let s := s.modField (fun f => { f with first := Sys2Proof.clrBit f.first i })
  if s.fieldOn then s.putBit DI_LEVEL i (on != (s.cf DI_INVERT).testBit i) else s

/-- Every input whose filter time has passed since V24_OK without a change takes its first level. -/
def State.diFirsts (s : State) : State :=
  if s.field.first = 0 then s
  else each (upto 16) s (fun s i =>
    if s.field.first.testBit i && decide (s.field.okAt + ((8000 * s.cf (DI_FILTER i) : Nat) : Int) ≤ s.nowT) then
      s.diFirst i (s.field.lands.testBit i)
    else s)

/-- The field section starts: outputs take their commanded state, a wire break of an input that reads on is gone (R384), and every input
has its first level still to take (R380). -/
def State.fieldStart (s : State) (lands : Nat) : State :=
  let now := s.nowT
  let s := s.modField (fun f => { f with lands := lands, okAt := now, first := 65535 })
  ((s.setBit FIELD_STATUS 0).wr DI_WIRE_BREAK (clrMask (s.rd DI_WIRE_BREAK) lands)).doRefresh

/-- V24 has not been below a voltage for a time: V24_OK where that is 18.0 V for 10 ms, in which the monitor has run; the voltages of the
input lands are given. -/
def execV24Ok (x : Held) (volts : Vector (BitVec 32) 16) (s : State) : Host.Outcome State Fault Refusal :=
  .next (if !s.v24Runs then s
    else
      let s := s.wr FIELD_V24_VOLTAGE x.value.toNat
      let lands := (upto 16).foldl (fun m i => if s.diReads i false (at' volts i).toNat then orBit m i else m) 0
      if F.le 0x41900000 x.value.toNat && decide (10 ≤ x.held) && decide (s.field.since + ((10000000 * 2 ^ 32 : Nat) : Int) ≤ s.clock) &&
          !s.bitOf FIELD_STATUS 0 then s.fieldStart lands else s)

/-- V24_OK is cleared as soon as V24 is below 17.0 V. -/
def execV24Lost (volts : BitVec 32) (s : State) : Host.Outcome State Fault Refusal :=
  .next (if !s.v24Runs then s
    else
      let s := s.wr FIELD_V24_VOLTAGE volts.toNat
      if F.lt volts.toNat 0x41880000 && s.bitOf FIELD_STATUS 0 then
        let s := ((s.modField (fun f => { f with first := 0 })).clrBit FIELD_STATUS 0).wr DI_LEVEL 0
        (if s.on FIELD_ENABLE then (s.setBit FIELD_STATUS 1).record 10 1 0 0 0 else s).doRefresh
      else s)

/-- The level of an input after inversion changes at `t`: DI_LEVEL, DI_STAMP, and the edge reaches homing, trigger units and latch
units (R382, R383, R302). -/
def State.diEdge (s : State) (i : Nat) (v : Bool) (t : Int) : State :=
  if s.bitOf DI_LEVEL i = v then s
  else ((s.putBit DI_LEVEL i v).wr (DI_STAMP i) (s.stampT t)).homeInput (0x20 + i) t
    |>.acqEvent 6 i (b2n !v) t
    |>.latchEvent (0x20 + i) v t

/-- A wire break of an input clears (R384, R385). -/
def State.breakEnds (s : State) (i : Nat) : State :=
  if s.bitOf DI_WIRE_BREAK i then (s.clrBit DI_WIRE_BREAK i).homeBreak s (0x20 + i) else s

/-- The voltage of a field input's land changes so that its reading does, and it keeps the new level: accepted after DI_FILTER µs, stamped
with the filter delay and the isolator delay removed (R381 to R384). A level accepted first after V24_OK makes no edge (R380). -/
def execDiTransition (i : Fin 16) (l : DiLand) (off : Int) (s : State) : Host.Outcome State Fault Refusal :=
  let v := s.diReads i.val (s.field.lands.testBit i.val) l.volts.toNat
  let s := if v then s.breakEnds i.val else s
  .next (match s.accepted (1000 * s.cf (DI_FILTER i.val)) (72 + i.val) off l.stable with
    | some t =>
      let early := s.field.first.testBit i.val || decide (t < s.field.okAt + ((8000 * s.cf (DI_FILTER i.val) : Nat) : Int))
      let s := s.modField (fun f => { f with lands := Sys2Proof.putBit f.lands i.val v })
      if early then s.diFirst i.val v
      else if s.fieldOn then s.diEdge i.val (v != (s.cf DI_INVERT).testBit i.val) t else s
    | none => s)

/-- An input has carried at most a current for a time: broken where it reads off below 0.30 mA for WB_TIME (R384); it then
counts as active where it is a limit switch (R385). -/
def execWireBreak (x : InputHeld) (s : State) : Host.Outcome State Fault Refusal :=
  let i := x.input.val
  .next (if (s.cf DI_WB_ENABLE).testBit i && s.fieldOn && !s.field.lands.testBit i && !s.bitOf DI_WIRE_BREAK i &&
      F.lt x.current.toNat 0x399d4952 && decide (s.cf DI_WB_TIME ≤ x.held)
    then (((s.setBit DI_WIRE_BREAK i).setBit DI_WB_LATCHED i).record 10 2 0 i 0).homeBreak s (0x20 + i)
    else s)

def execWireBreakClear (i : Fin 16) (s : State) : Host.Outcome State Fault Refusal := .next (s.breakEnds i.val)

/-! ### Analogue inputs (R394 to R398) -/

/-- AIN_DELAY in ns: 1/AIN_RATE + 5 µs (R395). -/
def ainDelay (rate : Nat) : Nat := 1000000000 / max 1 rate + 5000

/-- The latest conversion instant that is complete now, in line time: the control-schedule instants that are whole multiples
of 1/AIN_RATE, at or before AIN_DELAY ago (R395, R397). -/
def State.ainInstant (s : State) (rate : Nat) : Int :=
  gridBefore (s.sched - ((ainDelay rate * 2 ^ 32 : Nat) : Int)) 0 ((1000000000 / max 1 rate * 2 ^ 32 : Nat) : Int) - s.time.schedDiff

/-- Twice the square of the length of one side of the filter's triangle, 125 ps, times its weight up to the instant `x` (R395). -/
def filterArea (len : Nat) (x : Int) : Int :=
  let t : Int := (len : Int)
  let y := clampI (-t) t x
  if y ≤ 0 then (y + t) * (y + t) else 2 * t * t - (t - y) * (t - y)

/-- The triangular mean of an input over [t_c − 1/AIN_RATE, t_c + 1/AIN_RATE): the steps of the input, each with its start relative to t_c
in 125 ps and its binary32 value; the first one holds from the start of the span (R395). -/
def ainFilter (rate : Nat) (l : List (Int × BitVec 32)) : Nat :=
  let len := 8000000000 / max 1 rate
  let ends := (l.drop 1).map (·.1) ++ [((len : Nat) : Int)]
  let starts := (-((len : Nat) : Int)) :: (l.drop 1).map (·.1)
  let parts := (l.zip (starts.zip ends)).map (fun e =>
    D.mul (D.ofF e.1.2.toNat) (D.ofInt (filterArea len e.2.2 - filterArea len e.2.1)))
  D.toF (D.div (parts.foldl D.add 0) (D.ofInt ((2 * len * len : Nat) : Int)))

/-- One conversion: `u` is the filtered input quantity before calibration, `aref` the reference voltage, both binary32. -/
def State.ainConvert (s : State) (a u aref : Nat) : State :=
  let m := s.cf (AIN_MODE a)
  if m = 0 then s
  else
    let g := if m = 1 then 0 else 2
    let x := F.add (F.mul (s.calv (CALV_AIN_CAL (4 * a + g))) u) (s.calv (CALV_AIN_CAL (4 * a + g + 1)))
    let low := m == 2 && F.lt aref 0x40000000
    let tooBig :=
      if m = 1 then F.lt 0x4123d70a (F.abs x)
      else F.lt 0x41f5c28f (F.abs (F.mul x aref))
    let s := s.setBit (AIN_STATUS a) 0
    if low || tooBig then
      let was := s.bitOf (AIN_STATUS a) 1
      let s := s.setBit (AIN_STATUS a) 1
      let s := if tooBig then s.setBit (AIN_STATUS a) 2 else s
      let s := if low then s.setBit (AIN_STATUS a) 3 else s
      if was then s else s.record 10 6 (if low then 3 else 2) a 0
    else
      let t := s.ainInstant (s.cf (AIN_RATE a))
      let v := F.add (F.mul (s.cf (AIN_SCALE a)) x) (s.cf (AIN_OFFSET a))
      (((s.clrBit (AIN_STATUS a) 1).wr (AIN_RAW a) x).wr (AIN_VALUE a) v).wr (AIN_STAMP a) (s.stampOf t)

/-- AIN_CONVERSION: the input quantity around t_c is given as its steps, the reference as its voltage. -/
def execAinConversion (a : Fin 4) (u : List (Int × BitVec 32)) (aref : BitVec 32) (s : State) : Host.Outcome State Fault Refusal :=
  .next (s.ainConvert a.val (ainFilter (s.cf (AIN_RATE a.val)) u) aref.toNat)

/-- The field section at the instant a configuration takes effect; what was in force before is given. -/
def State.fieldCommit (s : State) (wasOn : Bool) : State :=
  let want := clrMask (s.field.lands ^^^ s.cf DI_INVERT) s.field.first
  let s :=
    if !s.fieldOn then s.wr DI_LEVEL 0
    else if !wasOn then s.wr DI_LEVEL want
    else each (upto 16) s (fun s i => s.diEdge i (want.testBit i) s.nowT)
  let s := each (upto 4) s (fun s a =>
    let s := s.wr (AIN_DELAY a) (ainDelay (s.cf (AIN_RATE a)))
    if s.cf (AIN_MODE a) = 0 then
      (((s.clrBit (AIN_STATUS a) 0).wr (AIN_VALUE a) 0).wr (AIN_RAW a) 0).wr (AIN_STAMP a) 0
    else s.setBit (AIN_STATUS a) 0)
  s.doRefresh

end Sys2Proof.Machine
end

