-- ==== Sys2Proof/Machine/Device.lean ====
section
/-! DEFINITION. Device states (Table AR-8, Table AR-9): transitions with their record and what axes and outputs do at them, the
SAFE causes (Table PS-5), tamper reports (R435), the loss and return of TIME_PLL (R38), and the device requests (R451). -/
namespace Sys2Proof.Machine
open Obj

/-- The device state changes, with the priority row of Table AR-9; a record carries old, new and row (Table HE-9). -/
def State.setDev (s : State) (d : Dev) (row : Nat) : State :=
  let old := s.rd DEV_DEVICE_STATE
  let s := s.wr DEV_DEVICE_STATE d.code
  -- R213: leaving OPERATIONAL, every DIRECT_ENABLE reads 0
  let s := if old = 2 then each (upto 48) s (fun s l => s.wr (LEG_DIRECT_ENABLE l) 0) else s
  (s.record 1 1 0 0 (pay 16 old + pay 17 d.code + pay 18 row)).doRefresh

/-- A SAFE cause arises (Table PS-5): from PRE-OPERATIONAL or OPERATIONAL the device enters SAFE, and powered axes fault
(R41, R275). -/
def State.enterSafe (s : State) (cause : Nat) : State :=
  let s := s.setBit DEV_SAFE_CAUSES cause
  match s.dev with
  | .preop | .op => (s.setDev .safe 3).axesSafe
  | _ => s

/-- Entry to LOCKED from any state but STANDBY (R41, R44). -/
def State.enterLocked (s : State) : State :=
  match s.dev with
  | .standby | .locked => s
  | _ => (s.setDev .locked 2).axesLocked

/-- FAULT_N is asserted (R593); it is released in STANDBY and while VAON is unpowered. -/
def State.faultN (s : State) : Bool :=
  s.pw.aonUp &&
  (match s.dev with
   | .safe | .locked => true
   | .standby => false
   | _ => s.pw.bootFailed || s.pw.holdTimeout || (s.on DEV_FAULT_N_AXES && allAxes.any (fun n => s.axState n == axFault)))

def tamperBit : Tamper → Nat
  | .voltage => 0 | .clock => 1 | .temperature => 2 | .identity => 3 | .integrity => 4

/-- A tamper sensor reports (R435). -/
def State.tamper (s : State) (t : Tamper) : State :=
  let s := (s.setBit TAMP_TAMPER_CAUSES (tamperBit t)).bump TAMP_TAMPER_COUNT
  (s.audit 0x10 0 0 0).enterLocked

def execTamperReport (t : Tamper) (s : State) : Host.Outcome State Fault Refusal := .next (s.tamper t)

/-- TIME_PLL loses lock (Table AR-7): every leg fenced, SAFE, and stamps with VALID 0 until it relocks. -/
def execTimePllLoss (s : State) : Host.Outcome State Fault Refusal :=
  let s := s.fenceAll.clrBit CLKS_CLOCK_STATUS 2
  .next ({ s with pw := { s.pw with timePllLost := true } }.enterSafe 0)

/-- TIME_PLL relocks: the cause clears. -/
def execTimePllRelock (s : State) : Host.Outcome State Fault Refusal :=
  let s := (s.clrBit DEV_SAFE_CAUSES 0).setBit CLKS_CLOCK_STATUS 2
  .next { s with pw := { s.pw with timePllLost := false, xtAt := if s.pw.timePllLost then s.aonClock else s.pw.xtAt } }

/-- Boot step 6 (R41, R44, R430, R588, R589): PRE-OPERATIONAL from BOOT, SAFE where a cause of it has arisen meanwhile, LOCKED where the
lock stands or a sensor reports (a device that a tamper has locked since stays LOCKED); the records that wait for a boot; seconds of
line time from the holdover clock. -/
def State.bootFinish (s : State) : State :=
  if !s.pw.bootWait then s
  else
    let p := s.pw
    let cause := s.rd DEV_RESET_CAUSE
    let s := { s with pw := { p with
      bootWait := false, bootFailed := false, slotFails := 0, aonLost := false, crystalRec := false, seqRows := [] } }
    let s := { s with sec := { s.sec with booted := true } }
    let s := s.wr FW_BOOT_FAILS 0
    let s := if s.dev = .boot then s.setDev .preop 8 else s
    let s := s.record 1 2 0 0 (pay 16 cause)
    let s := if cause = 1 then
        s.record 15 4 (s.rd STBY_LAST_WAKE) (if s.rd STBY_LAST_WAKE = 2 then p.wakePort else 0) (pay 16 (s.rd STBY_LAST_STANDBY_TIME))
      else s
    let s := if p.aonLost then (s.setBit RAIL_STATUS 4).record 15 6 0 0 0 else s
    let s := if p.crystalRec then s.record 15 7 0 0 0 else s
    let s := each p.seqRows s (fun s r =>
      let s := s.setBit RAIL_STATUS 2
      (if r = 4 then s.setBit RAIL_STATUS 3 else s).record 15 9 r 0 0)
    let s := if s.ltSt = .unset ∧ s.bitOf CLKS_CLOCK_STATUS 6 then
        { s with time := { s.time with line := s.time.line.withSec (s.aonTime / 2 ^ 48) } }
      else s
    if p.lockKept then s.enterLocked
    else if s.dev = .preop ∧ s.rd DEV_SAFE_CAUSES ≠ 0 then (s.setDev .safe 3).axesSafe
    else s

/-- START (R41, R42, R434, R603). -/
def State.start (s : State) : Res :=
  if s.dev = .preop ∧ s.claimed ∧ s.dict.committed ∧ s.rd DBG_DEBUG_STATE < 2 ∧ s.rd CAL_STATE = 0 then
    okRes (s.setDev .op 5)
  else refuse s cState

/-- STOP (R274): powered axes go to READY. -/
def State.stopRequest (s : State) : Res :=
  if s.dev = .op then okRes ((s.setDev .preop 4).axesReleased) else refuse s cState

/-- RESET_SAFE (R43); the brownout cause clears while every rail is stable (R572). -/
def State.resetSafe (s : State) : Res :=
  if s.dev = .safe then
    let s1 := if s.pw.allStable then s.clrBit DEV_SAFE_CAUSES 2 else s
    if s1.rd DEV_SAFE_CAUSES = 0 then okRes (s1.setDev .preop 6) else refuse s1 cState
  else refuse s cState

/-- A write of DEVICE_REQUEST (Table OD-7). -/
def State.deviceRequest (s : State) (v : Nat) : Res :=
  match v with
  | 1 => s.start
  | 2 => s.stopRequest
  | 3 => s.resetSafe
  | _ => refuse s cRange

end Sys2Proof.Machine
end

