-- ==== Sys2Proof/Machine/Frames.lean ====
section
/-! DEFINITION. Frames of the switch: checksums and fields, the classes of Table LT-1, learning and the ports a frame goes to
(R53 to R60), and the frames that the module forms and sends itself through P0: Ethernet, IPv4 and UDP (R3, R99, R100). -/
namespace Sys2Proof.Machine
open Obj

/-! ### CRC-32 -/

/-- One bit of the reflected CRC-32 with the given polynomial. -/
def crcBit (poly c : Nat) : Nat := if c % 2 = 1 then (c / 2) ^^^ poly else c / 2

/-- `n` bits. -/
def crcBits (poly : Nat) : Nat → Nat → Nat
  | 0, c => c
  | n + 1, c => crcBits poly n (crcBit poly c)

/-- The CRC-32 of IEEE 802.3 over a byte string. -/
def crc32 (bs : Bytes) : Nat :=
  (bs.foldl (fun c b => crcBits 0xEDB88320 8 (c ^^^ b.toNat)) 0xFFFFFFFF) ^^^ 0xFFFFFFFF

/-! ### Fields of a frame -/

/-- A number of `n` bytes at offset `o`, most significant byte first (R3). -/
def beAt (bs : Bytes) (o n : Nat) : Nat := ((bs.drop o).take n).foldl (fun a b => a * 256 + b.toNat) 0

/-- The `n` bytes of `x`, most significant first. -/
def beBytes (n x : Nat) : Bytes := (leBytes n x).reverse

/-- Bytes replaced from offset `o` on. -/
def putBytes (bs : Bytes) (o : Nat) (x : Bytes) : Bytes := bs.take o ++ x ++ bs.drop (o + x.length)

/-- A group (multicast or broadcast) address: the low bit of its first octet. -/
def isGroup (mac : Nat) : Bool := (mac >>> 40).testBit 0

/-- An address as it stands in a 64-bit object: first octet in [7:0]. -/
def macOfObj (x : Nat) : Nat := (leBytes 6 x).foldl (fun a b => a * 256 + b.toNat) 0

/-- The frame carries an IEEE 802.1Q tag. -/
def tagged (bs : Bytes) : Bool := beAt bs 12 2 == 0x8100

/-- Offset of what follows the EtherType, and the EtherType itself. -/
def frameOff (bs : Bytes) : Nat := if tagged bs then 18 else 14
def etherType (bs : Bytes) : Nat := beAt bs (frameOff bs - 2) 2

/-- Offset of the UDP header of an IPv4 UDP frame. -/
def udpOff (bs : Bytes) : Option Nat :=
  let o := frameOff bs
  if etherType bs = 0x800 ∧ beAt bs (o + 9) 1 = 17 then some (o + 4 * (beAt bs o 1 % 16)) else none

/-- Offset of the PTP header of a PTP frame (Table LT-1, rule 1). -/
def ptpOff (bs : Bytes) : Option Nat :=
  if etherType bs = 0x88F7 then some (frameOff bs)
  else match udpOff bs with
    | some u => if beAt bs (u + 2) 2 = 319 ∨ beAt bs (u + 2) 2 = 320 then some (u + 8) else none
    | none => none

/-- The class of a frame (Table LT-1). -/
def State.classOf (s : State) (bs : Bytes) : Nat :=
  if (ptpOff bs).isSome then 3
  else if etherType bs = s.cf NET_PASS_ETHERTYPE then 3
  else if tagged bs then fld (s.cf NET_PCP_MAP) (2 * (beAt bs 14 1 / 32)) 2
  else if etherType bs = s.cf PD_ETHERTYPE then 2
  else match udpOff bs with
    | some u => if beAt bs u 2 = s.cf NET_QUINUP_PORT ∨ beAt bs (u + 2) 2 = s.cf NET_QUINUP_PORT then 1 else 0
    | none => 0

/-! ### Learning and forwarding (R53 to R55, R59) -/

/-- The ageing time of a learned address, 300 s in 2^-16 ns (R54). -/
def ageing : Int := 300 * 65536000000000

/-- The address has aged out at a free-running time. -/
def Learned.aged (e : Learned) (t : Int) : Bool := decide (e.at_ + ageing ≤ t)

/-- A source address learned on a port at a free-running time; a full table learns no new one. -/
def Switch.learn (n : Switch) (mac : Nat) (p : Fin 3) (t : Int) : Switch :=
  let rest := n.learned.filter (fun e => e.mac != mac && !e.aged t)
  if isGroup mac ∨ 1024 ≤ rest.length then n else { n with learned := rest ++ [⟨mac, p, t⟩] }

/-- Free-running time in 2^-16 ns. -/
def State.free16 (s : State) : Int := (s.time.free.units / 65536 : Nat)

/-- The port of an address: learned, or P0 for the module's own. -/
def State.portOf (s : State) (mac : Nat) : Option (Fin 3) :=
  if mac = macOfObj (s.rd NET_MAC_ADDRESS) then some 0
  else (s.net.learned.find? (fun e => e.mac == mac && !e.aged s.free16)).map (·.port)

/-- The domain, A or B, that uses a domain number. -/
def State.domainOf (s : State) (n : Nat) : Option Nat :=
  (upto 2).find? (fun d => s.on (DOM_ENABLE d) && s.cf (DOM_DOMAIN_NUMBER d) == n)

/-- A PTP frame of a domain in which the module is a boundary clock ends here: only the service processors take it. -/
def State.endsHere (s : State) (bs : Bytes) : Bool :=
  match ptpOff bs with
  | some o => s.dev != .boot && (match s.domainOf (beAt bs (o + 4) 1) with | some d => s.cf (DOM_INSTANCE d) == 3 | none => false)
  | none => false

/-- The ports a frame goes to (R54, R40). -/
def State.targets (s : State) (p : Fin 3) (bs : Bytes) : List (Fin 3) :=
  let dst := beAt bs 0 6
  let all : List (Fin 3) := [0, 1, 2]
  let l := match (if isGroup dst then none else s.portOf dst) with
    | some q => [q]
    | none => all
  let l := l.filter (fun q => q != p)
  if s.dev = .boot then l.filter (fun q => p != 0 && q != 0)
  else if p ≠ 0 ∧ s.endsHere bs then l.filter (fun q => q == 0)
  else l

/-- Bytes of a class queued at an egress port. -/
def classBytes (l : List QFrame) (c : Nat) : Nat := (l.filter (fun f => f.cls == c)).foldl (fun n f => n + f.bytes.length) 0

/-- A frame queued at an egress port, or dropped as the newest of its class (Table AR-11). -/
def State.enqueue (s : State) (q : Fin 3) (f : QFrame) : State :=
  let l := at' s.net.egress q.val
  if f.cls < 3 ∧ Config.txShare q.val f.cls < classBytes l f.cls + f.bytes.length then s.bump (NETC_TX_DROPS (3 * q.val + f.cls))
  else { s with net := { s.net with egress := s.net.egress.setIfInBounds q.val (l ++ [f]) } }

/-- A frame received at a free-running time goes cut-through at a port (R59): the port sends no frame then and has none queued. The rule
does not name the instant at which that is judged: the model takes the frame's SFD (log entry 69). -/
def State.cutAt (s : State) (q : Fin 3) (cls : Nat) (t : Int) : Bool :=
  cls == 3 || ((s.cf NET_CUT_THROUGH).testBit cls && (at' s.net.egress q.val).isEmpty && decide (at' s.net.busyUntil q.val ≤ t))

/-- Bytes held that a port received in a class. -/
def State.rxHeld (s : State) (p : Fin 3) (c : Nat) : Nat :=
  (upto 3).foldl (fun n q => n + classBytes ((at' s.net.egress q).filter (fun f => f.ingress == p)) c) 0

/-- The port takes frames: P0 always, P1 and P2 while enabled with their link up and ETH_PLL running. -/
def State.portLive (s : State) (p : Fin 3) : Bool := p == 0 || s.bitOf NET_LINK_UP p.val

/-- A frame that the switch has accepted on a port: dropped where its share of the buffer is full, else queued at each port of a
list whose link is up (a frame with a bad FCS only where it goes cut-through). -/
def State.forward (s : State) (p : Fin 3) (bs : Bytes) (fcsOk : Bool) (icv : Icv) (stamp : Int) (dest : List (Fin 3)) : State :=
  let cls := s.classOf bs
  if Config.rxShare p.val cls < s.rxHeld p cls + bs.length then s.bump (NETC_RX_DROPS (4 * p.val + cls))
  else each (dest.filter (fun q => s.portLive q)) s (fun s q =>
    let c := s.cutAt q cls stamp
    if !fcsOk ∧ !c then s else s.enqueue q ⟨bs, cls, c, !fcsOk, p, stamp, icv⟩)

/-! ### IPv4 and UDP -/

/-- The ones' complement sum of 16-bit words. -/
def sum16 : Bytes → Nat
  | a :: b :: t => a.toNat * 256 + b.toNat + sum16 t
  | [a] => a.toNat * 256
  | [] => 0

/-- A 16-bit ones' complement checksum. -/
def fold16 (x : Nat) : Nat :=
  let y := x / 65536 + x % 65536
  let y := y / 65536 + y % 65536
  if y = 65535 then 65535 else 65535 - y

/-- The UDP checksum of a frame written anew (R100). -/
def fixUdp (bs : Bytes) (u : Nat) : Bytes :=
  let o := frameOff bs
  let len := beAt bs (u + 4) 2
  let z := putBytes bs (u + 6) [0, 0]
  putBytes z (u + 6) (beBytes 2 (fold16 (sum16 ((z.drop (o + 12)).take 8) + 17 + len + sum16 ((z.drop u).take len))))

/-- The IPv4 address of the module (R99): IPV4_ADDRESS, or where it is 0 the link-local address of RFC 3927, 169.254.1.0 to
169.254.254.255, that its MAC address gives after the conflicts so far. -/
def State.ownIp (s : State) : Nat :=
  let a := s.cf NET_IPV4_ADDRESS
  if a = 0 then 0xA9FE0100 + Config.linkLocal (s.rd NET_MAC_ADDRESS + 2 ^ 48 * s.net.conflicts) % 0xFE00 else a

/-- The module's MAC address, first octet most significant. -/
def State.ownMac (s : State) : Nat := macOfObj (s.rd NET_MAC_ADDRESS)

/-- A frame up to its FCS: addresses, tag (0 for none), EtherType, and the data padded to the least frame of 64 bytes. -/
def ethFrame (dst src tag typ : Nat) (data : Bytes) : Bytes :=
  let b := beBytes 6 dst ++ beBytes 6 src ++ (if tag = 0 then [] else beBytes 2 0x8100 ++ beBytes 2 tag) ++ beBytes 2 typ ++ data
  b ++ List.replicate (60 - b.length) 0

/-- A frame with its FCS. -/
def withFcs (b : Bytes) : Bytes := b ++ leBytes 4 (crc32 b)

/-- An IPv4 packet (log entry 68): header of 20 bytes with its checksum, not fragmented. -/
def ipPacket (proto ttl src dst : Nat) (data : Bytes) : Bytes :=
  let h (sum : Nat) : Bytes := [0x45, 0] ++ beBytes 2 (20 + data.length) ++ beBytes 2 0 ++ beBytes 2 0x4000 ++
    beBytes 1 ttl ++ beBytes 1 proto ++ beBytes 2 sum ++ beBytes 4 src ++ beBytes 4 dst
  h (fold16 (sum16 (h 0))) ++ data

/-- A UDP datagram in its frame, up to the FCS, with its checksum (R100). -/
def udpFrame (dstMac srcMac ttl srcIp dstIp srcPort dstPort : Nat) (data : Bytes) : Bytes :=
  let u := beBytes 2 srcPort ++ beBytes 2 dstPort ++ beBytes 2 (8 + data.length) ++ beBytes 2 0 ++ data
  fixUdp (ethFrame dstMac srcMac 0 0x800 (ipPacket 17 ttl srcIp dstIp u)) 34

/-! ### The module's own frames -/

/-- A frame of the module, up to its FCS, leaves through P0 into the switch: to the port of its address, or to both. -/
def State.sendFrame (s : State) (b : Bytes) : State :=
  let b := withFcs b
  s.forward 0 b true .absent s.free16 (s.targets 0 b)

/-- A frame of the module that one port sends. -/
def State.sendOn (s : State) (p : Fin 3) (b : Bytes) (icv : Icv) (stamp : Int) : State :=
  s.forward 0 (withFcs b) true icv stamp [p]

/-- A UDP datagram to where a request came from (R100). -/
def State.sendUdp (s : State) (p : Peer) (b : Bytes) : State :=
  s.sendFrame (udpFrame p.mac s.ownMac 64 s.ownIp p.ip (s.cf NET_QUINUP_PORT) p.port b)

/-! ### ARP and ICMP echo (R99) -/

/-- The answer to an ARP request for the module's address, or to an ICMP echo request to it; none to any other frame. -/
def State.serviceAnswer (s : State) (bs : Bytes) : Option Bytes :=
  let src := beAt bs 6 6
  let o := frameOff bs
  let mine := beAt bs 0 6 == s.ownMac || beAt bs 0 6 == 2 ^ 48 - 1
  if !mine then none
  else if etherType bs = 0x806 ∧ beAt bs o 2 = 1 ∧ beAt bs (o + 2) 2 = 0x800 ∧ beAt bs (o + 6) 2 = 1 ∧ beAt bs (o + 24) 4 = s.ownIp then
    some (ethFrame src s.ownMac 0 0x806 (beBytes 2 1 ++ beBytes 2 0x800 ++ [6, 4] ++ beBytes 2 2 ++ beBytes 6 s.ownMac ++
      beBytes 4 s.ownIp ++ (bs.drop (o + 8)).take 10))
  else
    let h := 4 * (beAt bs o 1 % 16)
    let len := beAt bs (o + 2) 2
    let m := (bs.drop (o + h)).take (len - h)
    if etherType bs = 0x800 ∧ beAt bs (o + 9) 1 = 1 ∧ beAt bs (o + 16) 4 = s.ownIp ∧ beAt m 0 1 = 8 then
      let e := [0, 0, 0, 0] ++ m.drop 4
      some (ethFrame src s.ownMac 0 0x800 (ipPacket 1 64 s.ownIp (beAt bs (o + 12) 4) (putBytes e 2 (beBytes 2 (fold16 (sum16 e))))))
    else none

/-- An ARP packet in which another host gives the module's own link-local address as its own (RFC 3927). -/
def State.arpConflict (s : State) (bs : Bytes) : Bool :=
  let o := frameOff bs
  s.cf NET_IPV4_ADDRESS == 0 && etherType bs == 0x806 && beAt bs (o + 14) 4 == s.ownIp && beAt bs (o + 8) 6 != s.ownMac

/-- After such a conflict the module takes another link-local address and announces it (R99, log entry 68). -/
def State.newAddress (s : State) : State :=
  let s := { s with net := { s.net with conflicts := s.net.conflicts + 1 } }
  s.sendFrame (ethFrame (2 ^ 48 - 1) s.ownMac 0 0x806 (beBytes 2 1 ++ beBytes 2 0x800 ++ [6, 4] ++ beBytes 2 1 ++ beBytes 6 s.ownMac ++
    beBytes 4 s.ownIp ++ beBytes 6 0 ++ beBytes 4 s.ownIp))

/-- An ARP or echo request at the service processors: its frame without the FCS (R99). -/
def execEchoOrArpRequest (p : Fin 3) (bytes : Bytes) (s : State) : Host.Outcome State Fault Refusal :=
  .next (if !s.served || p == 0 then s
    else if s.arpConflict bytes then s.newAddress
    else match s.serviceAnswer bytes with
      | some b => s.sendFrame b
      | none => s)

end Sys2Proof.Machine
end

