-- ==== Sys2Proof/Machine/PtpWire.lean ====
section
/-! DEFINITION. The PTP messages that the module sends, as bytes of IEEE 1588-2019 (R3, R61, R70; log entry 70): header, bodies,
the authentication TLV of Annex P (R427), and the transports of Table LT-2. -/
namespace Sys2Proof.Machine
open Obj

/-- The module's clock identity: its MAC address as an EUI-64 with FF-FE in the middle. -/
def State.ownIdentity (s : State) : Nat :=
  let m := s.rd NET_MAC_ADDRESS
  let o (i : Nat) : Nat := m >>> (8 * i) % 256
  [o 0, o 1, o 2, 0xff, 0xfe, o 3, o 4, o 5].foldl (fun a b => a * 256 + b) 0

/-- The identity of a port in a domain: an ordinary clock has the one port 1. -/
def State.portIdentity (s : State) (d p : Nat) : Nat := s.ownIdentity * 65536 + (if s.cf (DOM_INSTANCE d) ≤ 2 then 1 else p)

/-- SPP and KEY_ID of the key that a domain transmits with: the most recently loaded one of its TX_SPP (R427). -/
def State.ptpKey (s : State) (d : Nat) : Option (Nat × Nat) :=
  (s.sec.keys.reverse.find? (fun k => k.cls == 1 && k.place == d &&
    k.spp == s.cf (if d = 0 then FW_TX_SPP_A else FW_TX_SPP_B))).map (fun k => (k.spp, k.keyId))

/-- The header of a message: messageType, domainNumber, flagField, correctionField, port identity, sequenceId, controlField and
logMessageInterval, and the length of what follows it. -/
structure PtpHead where
  typ : Nat
  num : Nat
  flags : Nat := 0
  corr : Int := 0
  src : Nat
  seq : Nat
  ctl : Nat := 5
  log : Nat := 0x7f

def PtpHead.bytes (h : PtpHead) (n : Nat) : Bytes :=
  beBytes 1 h.typ ++ [0x12] ++ beBytes 2 (34 + n) ++ beBytes 1 h.num ++ [0] ++ beBytes 2 h.flags ++ beBytes 8 (ofS 64 h.corr) ++
  beBytes 4 0 ++ beBytes 10 h.src ++ beBytes 2 h.seq ++ beBytes 1 h.ctl ++ beBytes 1 h.log

/-- Seconds and nanoseconds of a time in 2^-16 ns as a Timestamp. -/
def ptpStamp (t : Int) : Bytes :=
  let ns := t.toNat / 65536
  beBytes 6 (ns / nsPerSec) ++ beBytes 4 (ns % nsPerSec)

/-- A message with the authentication TLV of a key, its ICV last. -/
def ptpMsg (h : PtpHead) (body : Bytes) : Option (Nat × Nat) → Bytes
  | none => h.bytes body.length ++ body
  | some (spp, key) =>
    let b := h.bytes (body.length + 26) ++ body ++ beBytes 2 0x8009 ++ beBytes 2 22 ++ beBytes 1 spp ++ [0] ++ beBytes 4 key
    b ++ beBytes 16 (Config.icv key b).toNat

/-- Peer delay messages, and event messages. -/
def ptpPeer (typ : Nat) : Bool := typ == 2 || typ == 3 || typ == 10
def ptpEvent (typ : Nat) : Bool := decide (typ < 4)

/-- The frame of a message on the transport of its domain (Table LT-2). -/
def State.ptpFrame (s : State) (d typ : Nat) (m : Bytes) : Bytes :=
  if s.cf (DOM_TRANSPORT d) = 2 then
    let port := if ptpEvent typ then 319 else 320
    udpFrame (if ptpPeer typ then 0x01005E00006B else 0x01005E000181) s.ownMac 1 s.ownIp
      (if ptpPeer typ then 0xE000006B else 0xE0000181) port port m
  else ethFrame (if ptpPeer typ then 0x0180C200000E else 0x011B19000000) s.ownMac 0 0x88F7 m

/-- A message of domain `d` sent on a port; `stamp` is the ingress stamp of the request that it answers. -/
def State.ptpSend (s : State) (d : Nat) (p : Fin 3) (h : PtpHead) (body : Bytes) (stamp : Int) : State :=
  let key := s.ptpKey d
  let icv : Icv := match key with
    | some (spp, k) => .tlv spp k true
    | none => .absent
  s.sendOn p (s.ptpFrame d h.typ (ptpMsg h body key)) icv stamp

/-- The body of an Announce, of a management message, and of the error that answers a SET or COMMAND. -/
def announceBody (a : Announce) (steps : Nat) : Bytes :=
  List.replicate 10 0 ++ beBytes 2 a.utcOffset ++ [0] ++ beBytes 1 a.priority1 ++ beBytes 1 a.clockClass ++ beBytes 1 a.accuracy ++
  beBytes 2 a.variance ++ beBytes 1 a.priority2 ++ beBytes 8 a.identity ++ beBytes 2 steps ++ beBytes 1 a.timeSource

def mgmtBody (target id : Nat) (refused : Bool) : Bytes :=
  let data := Config.mgmtData id
  beBytes 10 target ++ [0, 0, 2, 0] ++
  (if refused then beBytes 2 2 ++ beBytes 2 8 ++ beBytes 2 4 ++ beBytes 2 id ++ beBytes 4 0
   else beBytes 2 1 ++ beBytes 2 (2 + data.length) ++ beBytes 2 id ++ data)

end Sys2Proof.Machine
end

