-- ==== Sys2Proof/Machine/LineTime.lean ====
section
/-! DEFINITION. Line time (chapter 02): the tick, increments and offset adds, line-time alarms, the two domains, the choice
of the followed domain, the servo, syntonisation, PPS and grandmaster duty. Offsets and domain times are in 2^-16 ns. -/
namespace Sys2Proof.Machine
open Obj

/-- One second in 2^-16 ns. -/
def sec16 : Int := 65536000000000

/-- A signed count as the 64 bits of an I64 object. -/
def i64 (x : Int) : Nat := ofS 64 x

/-! ### Alarms (R98) -/

/-- Alarm `a` fires: its bit, its disable, a record, the trigger of the acquisition engine and the latch units (R151). -/
def State.fireAlarm (s : State) (a : Nat) : State :=
  let s := (s.setBit ALM_ALARM_FIRED a).clrBit ALM_ALARM_ENABLE a
  let s := (s.record 2 5 0 a 0).acqEvent 7 a 0 s.nowT
  { s with time := { s.time with alarms := s.time.alarms ++ [(a, s.nowT)] } }

/-- The latch units take the alarms fired since the last tick: samples of their instant stand by then (R160, Table FB-6). -/
def State.alarmLatches (s : State) : State :=
  let l := s.time.alarms
  each l { s with time := { s.time with alarms := [] } } (fun s e => s.latchEvent (0x30 + e.1) true e.2)

/-- An enabled alarm whose time is not after line time fires. -/
def State.checkAlarm (s : State) (a : Nat) : State :=
  if s.bitOf ALM_ALARM_ENABLE a && decide (lt96Units (s.rd (ALM_ALARM_TIME a)) ≤ s.time.line.units) then s.fireAlarm a else s

def State.checkAlarms (s : State) : State := each (upto 4) s (fun s a => s.checkAlarm a)

def execLineTimeAlarm (a : Fin 4) (s : State) : Host.Outcome State Fault Refusal := .next (s.checkAlarm a.val)

/-- ALARM_ENABLE written: an alarm whose time is past fires at once. -/
def State.alarmEnable (s : State) (v : Nat) : State := (s.wr ALM_ALARM_ENABLE (v % 16)).checkAlarms

/-! ### Ticks and offset adds (R80 to R86, R25) -/

/-- 10 ppm of one tick, in 2^-32 ns (R25). -/
def slewPerTick : Int := 42949

/-- The control schedule at a step of line time by `x` (2^-32 ns): it goes along while nothing is in motion, else it stays
where it is and slews (R25). -/
def State.scheduleStep (s : State) (x : Int) : State :=
  if absI x ≤ 2 ^ 32 ∨ !s.inMotion then s
  else
    let started := !s.time.schedSlew
    let s := { s with time := { s.time with schedDiff := s.time.schedDiff - x, schedSlew := true } }
    if started then s.record 2 6 0 0 0 else s

/-- The pending offset with the tick's increment, in one addition across seconds, nanoseconds and fraction (R83), or the
increment alone and a record (R85). -/
def State.applyOffset (s : State) (inc : Nat) : State :=
  match s.time.offsetAdd with
  | none => { s with time := { s.time with line := s.time.line.tick inc } }
  | some o =>
    let x := o * 65536
    let want := s.now + x + inc
    let s := { s with time := { s.time with offsetAdd := none } }
    if want < 0 then ({ s with time := { s.time with line := s.time.line.tick inc } }).record 2 9 0 0 0
    else
      let s := { s with time := { s.time with line := Clock.ofUnits want.toNat } }
      (s.bump CLK_OFFSET_ADDS).scheduleStep x

/-- The control schedule comes 10 ppm of `ns` nanoseconds closer to line time. -/
def State.scheduleSlew (s : State) (ns : Int) : State :=
  let d := s.time.schedDiff
  let m := slewPerTick * ns
  { s with time := { s.time with schedDiff := d - clampI (-m) m d } }

/-- The instant of PPS_OUT's rise at or before a line time (R97): a line-time second plus PPS_OUT_OFFSET. -/
def State.ppsInstant (s : State) (t : Int) : Int :=
  let o := toS 32 (s.cf PPS_OUT_OFFSET) * 2 ^ 32
  (t - o).fdiv (secU : Int) * (secU : Int) + o

/-- Nanoseconds of one advance of the clocks: a TIME_PLL tick, or without its lock one period of REF25_IN (Table AR-7). -/
def State.tickNs (s : State) : Nat := if s.pw.timePllLost then 40 else 1

/-- PPS_OUT rises (R97) at the tick in which line time has reached its instant from `before`, the line time of the tick before, on; it
falls PPS_OUT_WIDTH after it rose, in line time. A second that a step of line time jumps over (R86) has no pulse (log entry 72). -/
def State.ppsRise (s : State) (before : Int) : State :=
  let i := s.ppsInstant s.now
  let inc : Int := s.tickInc
  let from_ := if absI (s.now - before - inc) ≤ 2 ^ 32 then before else s.now - inc
  if s.ltSt.good && s.on PPS_OUT_ENABLE && s.time.ppsOut.isNone && decide (from_ < i) then
    ({ s with time := { s.time with ppsOut := some i } }).emit (.pps true (i / (tickU : Int)))
  else s
def State.ppsFall (s : State) : State :=
  match s.time.ppsOut with
  | some r =>
    let f := r + ((s.cf PPS_OUT_WIDTH * 2 ^ 32 : Nat) : Int)
    if f ≤ s.now then ({ s with time := { s.time with ppsOut := none } }).emit (.pps false (f / (tickU : Int))) else s
  | none => s

/-- One advance of the clocks, with what it brings: the captures of the alarms of the last tick, the offset pending, the schedule's slew,
alarms, PPS_OUT. -/
def State.tick (s : State) : State :=
  let s := s.alarmLatches
  let ns := s.tickNs
  let inc := s.tickInc
  let before := s.now
  let s := { s with time := { s.time with free := s.time.free.tick (ns * 2 ^ 32) } }
  (((((s.applyOffset inc).scheduleSlew ns).checkAlarms).ppsFall).ppsRise before)

/-- The increment written (Table LT-4): its reserved bits are ignored; RATE_ADJ shows it as a fraction. -/
def State.increment (s : State) (v : Nat) : State :=
  let i := v % 2 ^ 36
  (s.wr CLK_INCREMENT i).wr LT_RATE_ADJ (f32.ofDy ((i : Int) - 2 ^ 32) (-32))

def execTuIncrement (v : BitVec 64) (s : State) : Host.Outcome State Fault Refusal := .next (s.increment v.toNat)

/-- An offset add written: summed with one not yet applied (R84). -/
def State.offsetAdd (s : State) (o : Int) : State :=
  { s with time := { s.time with offsetAdd := some (o + s.time.offsetAdd.getD 0) } }

def execTuOffsetAdd (v : BitVec 64) (s : State) : Host.Outcome State Fault Refusal := .next (s.offsetAdd v.toInt)

/-- The control schedule has reached line time, and the slew ends with a record (R25). -/
def execScheduleSlewEnd (s : State) : Host.Outcome State Fault Refusal :=
  .next (if s.time.schedSlew ∧ s.time.schedDiff = 0 then
    ({ s with time := { s.time with schedSlew := false } }).record 2 7 0 0 0 else s)

/-! ### Domains (R63, R87 to R94) -/

/-- 2^e seconds in 2^-16 ns, `e` an I8 object of logarithmic intervals. -/
def logInterval (e : Nat) : Int :=
  let x := toS 8 e
  if x < 0 then sec16 / ((2 ^ (-x).toNat : Nat) : Int) else sec16 * ((2 ^ x.toNat : Nat) : Int)

/-- The Sync interval and the announce interval of a domain's setting, in 2^-16 ns. -/
def State.syncInterval (s : State) (d : Nat) : Int := logInterval (s.cf (DOM_LOG_SYNC d))
def State.announceInterval (s : State) (d : Nat) : Int := logInterval (s.cf (DOM_LOG_ANNOUNCE d))

def State.dm (s : State) (d : Nat) : DomInt := at' s.time.dom d
def State.modDm (s : State) (d : Nat) (f : DomInt → DomInt) : State :=
  { s with time := { s.time with dom := s.time.dom.setIfInBounds d (f (s.dm d)) } }

/-- A domain in COARSE or FINE can be followed, unless the network is down with ETH_PLL. -/
def DomSt.trusted : DomSt → Bool
  | .coarse | .fine => true
  | _ => false

def State.domGood (s : State) (d : Nat) : Bool := decide (d < 2) && (s.domSt d).trusted && !s.pw.ethPllLost

/-- A domain changes state, with a record. On entry to COARSE a rejected syntonisation may be tried again (R79); from the first
COARSE on the bounds of R88 hold; the instant of ACQUIRING is kept (R90). -/
def State.setDom (s : State) (d : Nat) (x : DomSt) : State :=
  let old := s.domSt d
  if old = x then s
  else
    let s := s.wr (DOM_STATE d) x.code
    let since := if old == .coarse || old == .fine then (s.dm d).goodAt else s.clock
    let s := s.modDm d (fun k => match x with
      | .coarse => { k with rejected := false, reached := true, goodAt := since }
      | .fine => { k with reached := true, goodAt := since }
      | .acquiring => { k with acqAt := s.free16 }
      | _ => { k with reached := false })
    s.record 2 1 0 d (pay 16 old.code + pay 17 x.code)

/-- TIME_PLL is syntonised, so that a domain's rate against the tick is 0 (R72). -/
def State.syntonised (s : State) : Bool := s.rd SYNT_STATE == 2

/-- A binary32 fraction of a length, rounded to the nearest. -/
def rateTimes (rate : Nat) (dt : Int) : Int := rdiv (f32.toIntNearest rate 60 * dt) (2 ^ 60)

/-- The rate of a domain against the tick: its estimate against REF25_IN; where TIME_PLL is syntonised 0 for the domain that it
follows, and for the other one less by the recovered clock's own offset (R72, R76). -/
def State.tickRate (s : State) (d : Nat) : Nat :=
  let r := s.rd (DOM_DOMAIN_RATE d)
  if !s.syntonised then r else if s.rd LT_FOLLOWED_DOMAIN = d then 0 else F.sub r (s.rd SYNT_FREQ_OFFSET)

/-- Domain minus free-running counter as the estimates predict it at a free-running time. -/
def State.predicted (s : State) (d : Nat) (f : Int) : Int :=
  let o := toS 64 (s.rd (DOM_DOMAIN_OFFSET d))
  match (s.dm d).lastFree with
  | some f0 => o + rateTimes (s.tickRate d) (f - f0)
  | none => o

/-- The domain's time now, by its estimates. -/
def State.domainNow (s : State) (d : Nat) : Int := s.free16 + s.predicted d s.free16

/-- Domain minus line time now. -/
def State.domainDiff (s : State) (d : Nat) : Int := s.domainNow d - s.now / 65536

/-- The module is grandmaster of a domain: capable, enabled, no better master (R96). -/
def State.isGm (s : State) (d : Nat) : Bool :=
  s.on (DOM_ENABLE d) && s.on (DOM_GM_CAPABLE d) && (s.dm d).best.isNone

/-! ### Following a domain (R90 to R93) -/

def State.followed (s : State) : Nat := s.rd LT_FOLLOWED_DOMAIN

/-- LT_STATE of a followed domain (Table LT-7). -/
def ltOfDom : DomSt → LtSt
  | .coarse => .coarse
  | .fine => .fine
  | _ => .acquiring

/-- LT_STATE shows the followed domain; it keeps its value while a slew is in progress (R91). -/
def State.showLt (s : State) (d : Nat) : State :=
  let x := ltOfDom (s.domSt d)
  let s := if x = .acquiring then s else { s with time := { s.time with everCoarse := true } }
  if s.rd LT_SLEWING = 1 then s else s.wr LT_STATE x.code

/-- Line time takes a domain as the one it follows; from now on R92 counts for the other one. SWITCH_COUNT counts every domain taken,
the first after boot too: the spec does not say what it counts (log entry 72). -/
def State.takeDomain (s : State) (d : Nat) : State :=
  let s := (s.wr LT_FOLLOWED_DOMAIN d).bump SEL_SWITCH_COUNT
  let s := s.modDm (1 - d) (fun k => { k with goodAt := s.clock })
  { s with time := { s.time with lastDom := d } }

/-- Line time moves to a domain. From COARSE, FINE or HOLDOVER: a slew or one step under R91, with a record; before that a
step of any size (R87). -/
def State.ltMove (s : State) (d : Nat) : State :=
  let diff := s.domainDiff d
  let frm := s.followed
  if s.ltSt.good then
    let step := decide (((s.cf SEL_SEAMLESS_THRESHOLD : Nat) : Int) * 65536 ≤ absI diff) && s.on SEL_STEP_ON_SWITCH
    let s := s.takeDomain d
    let s := s.record 2 3 0 d (pay 16 frm + pay 17 d + pay 18 (b2n step) + pay 24 (i64 diff))
    if step then ((s.offsetAdd diff).wr LT_SLEWING 0).showLt d
    else s.wr LT_SLEWING 1
  else
    let s := s.takeDomain d
    (if absI diff ≤ 65536 then s else s.offsetAdd diff).showLt d

/-- No trusted domain: HOLDOVER once COARSE has been reached since boot, else UNSET (R90). -/
def State.ltDrop (s : State) : State :=
  let x : LtSt := if s.time.everCoarse then .holdover else .unset
  ((s.wr LT_FOLLOWED_DOMAIN 255).wr LT_SLEWING 0).wr LT_STATE x.code

/-- With no domain followed: a domain in COARSE or FINE, the preferred one first, else before COARSE one in ACQUIRING (R90). -/
def State.ltPick (s : State) : State :=
  let p := s.cf SEL_PREFERRED
  let acq (d : Nat) : Bool := decide (s.domSt d = .acquiring) && !s.ltSt.good && !s.pw.ethPllLost
  if s.domGood p then s.ltMove p
  else if s.domGood (1 - p) then s.ltMove (1 - p)
  else if acq p then s.ltMove p
  else if acq (1 - p) then s.ltMove (1 - p)
  else s

/-- PPS_OUT is low in every line-time state but COARSE, FINE and HOLDOVER (R97). -/
def State.ppsHold (s : State) : State :=
  if s.time.ppsOut.isSome && !(s.ltSt.good && s.on PPS_OUT_ENABLE) then
    { s with time := { s.time with ppsOut := none } }.emit (.pps false s.nowT)
  else s

/-! ### Syntonisation (R76 to R79) -/

/-- Syncs of the grandmaster still arrive on a port: one came within three announce intervals. -/
def State.syncOn (s : State) (d p : Nat) : Bool :=
  match at' (s.dm d).syncAt p with
  | some f => decide (s.free16 - f ≤ 3 * s.announceInterval d)
  | none => false

/-- The state of a port of a domain's instance. -/
def State.portSt (s : State) (d p : Nat) : Nat := s.rd (if p = 1 then DOM_PORT_STATE_P1 d else DOM_PORT_STATE_P2 d)

/-- The port whose receive clock syntonises TIME_PLL for a domain: 1 or 2, or 0 for none (R76). -/
def State.syntPort (s : State) (d : Nat) : Nat :=
  match s.cf (DOM_INSTANCE d) with
  | 1 => if s.portSt d 1 = 7 then 0 else 1
  | 2 => if s.portSt d 2 = 7 then 0 else 2
  | 3 => if s.portSt d 1 = 9 then 1 else if s.portSt d 2 = 9 then 2 else 0
  | _ => if s.syncOn d 1 then 1 else if s.syncOn d 2 then 2 else 0

/-- The reference that TIME_PLL should lock to (R76): 0 for REF25_IN. -/
def State.syntWant (s : State) : Nat :=
  let d := s.followed
  if s.on SYNT_ENABLE && s.domGood d && !s.isGm d && !(s.dm d).rejected then s.syntPort d else 0

/-- The followed domain's clock is rejected (R79). -/
def State.syntRejected (s : State) : Bool := decide (s.followed < 2) && (s.dm s.followed).rejected

/-- TIME_PLL takes its reference; a change starts in LOCKING (R78). -/
def State.syntEval (s : State) : State :=
  let w := s.syntWant
  if w = s.rd SYNT_SOURCE then
    if w = 0 then s.wr SYNT_STATE (if s.syntRejected then 3 else 0) else s
  else (s.wr SYNT_SOURCE w).wr SYNT_STATE (if w = 0 then (if s.syntRejected then 3 else 0) else 1)

/-- A Sync of the followed domain: the recovered clock measured, a clock beyond the rate bound rejected (R79), else the lock
reached. -/
def State.syntSync (s : State) (d rec : Nat) : State :=
  let s := s.wr SYNT_FREQ_OFFSET rec
  if s.rd SYNT_SOURCE = 0 then s
  else if F.lt (s.cf (DOM_RATE_BOUND d)) (F.abs rec) then
    let s := s.modDm d (fun k => { k with rejected := true })
    (s.syntEval).record 2 8 0 d 0
  else s.wr SYNT_STATE 2

/-- The preferred domain has entered ACQUIRING within one Sync interval of the followed one, the longer of the two domains' intervals,
and the followed one has not reached COARSE (R90; log entry 71). -/
def State.preferAcquiring (s : State) (d : Nat) : Bool :=
  let o := 1 - d
  s.cf SEL_PREFERRED == o && s.domSt o == .acquiring &&
    decide (absI ((s.dm o).acqAt - (s.dm d).acqAt) < maxI (s.syncInterval d) (s.syncInterval o))

/-- Line time judged again after a change of a domain (R90), with what depends on it. -/
def State.evalLt (s : State) : State :=
  let d := s.followed
  let s :=
    if 2 ≤ d then s.ltPick
    else if s.domGood d then s.showLt d
    else if s.domSt d == .acquiring && !s.ltSt.good && !s.pw.ethPllLost then
      if s.preferAcquiring d then s.ltMove (1 - d) else s.showLt d
    else if s.domGood (1 - d) then s.ltMove (1 - d)
    else s.ltDrop.ltPick
  s.syntEval.ppsHold

/-! ### Estimates (Table LT-6, R88, R89) -/

/-- 10^-7 as binary32. -/
def tenthPpm : Nat := F.rat 1 10000000

/-- The calibrated latency and half the asymmetry of a port in 2^-16 ns, as they shift an ingress stamp and an egress stamp
(R66). -/
def ps16 (ps : Int) : Int := rdiv (ps * 65536) 1000
def State.ingressShift (s : State) (p : Nat) : Int :=
  if p = 1 then ps16 (toS 32 (s.cf NETA_P1_ASYMMETRY)) / 2 - ps16 (toS 32 (s.calv CALV_P1_INGRESS))
  else if p = 2 then ps16 (toS 32 (s.cf NETA_P2_ASYMMETRY)) / 2 - ps16 (toS 32 (s.calv CALV_P2_INGRESS))
  else 0
def State.egressShift (s : State) (p : Nat) : Int :=
  if p = 1 then ps16 (toS 32 (s.calv CALV_P1_EGRESS)) - ps16 (toS 32 (s.cf NETA_P1_ASYMMETRY)) / 2
  else if p = 2 then ps16 (toS 32 (s.calv CALV_P2_EGRESS)) - ps16 (toS 32 (s.cf NETA_P2_ASYMMETRY)) / 2
  else 0

/-- A breach (R88): UNTRUSTED, counted, with its record. -/
def State.breach (s : State) (d detail : Nat) (resid : Int) (rate : Nat) : State :=
  let s := (s.bump (DOM_UNTRUSTED_COUNT d)).record 2 2 detail d (pay 16 (i64 resid) + pay 24 rate)
  (s.modDm d (fun x => { x with requalAt := s.clock, requalOk := false, requalFirst := true, coarseRun := 0, fineRun := 0 })).setDom d .untrusted

/-- The domain's state after a Sync within its bounds. Table LT-6 does not say how its figures are measured: the offset estimate
is taken as the residual against the prediction, and the rate as stable where it changed by at most 0.1 ppm since the Sync before
(log entry 72). -/
def State.domRuns (s : State) (d : Nat) (resid : Int) (rate old : Nat) : State :=
  let c := decide (absI resid ≤ 1000 * 65536) && F.le (F.abs (F.sub rate old)) tenthPpm
  let f := c && decide (absI resid ≤ 20 * 65536)
  let s := s.modDm d (fun x => { x with
    coarseRun := if c then x.coarseRun + 1 else 0, fineRun := if f then x.fineRun + 1 else 0 })
  let k := s.dm d
  let lockOk := !s.on SYNT_ENABLE || s.followed != d || s.syntonised
  s.setDom d (if k.coarseRun < 16 then .acquiring else if 32 ≤ k.fineRun && lockOk then .fine else .coarse)

/-- A Sync's estimates taken and the domain's state moved on: the free-running stamp, domain minus free-running, the rate. The
bounds of R88 hold from the first COARSE on; where one Sync breaches both, DETAIL says the rate (log entry 72). In UNTRUSTED the
first Sync after a breach, or after one out of bounds, begins the fresh estimate of R89: its offset is not judged (log entry
72). -/
def State.domSync (s : State) (d : Nat) (f o : Int) (rate : Nat) : State :=
  let resid := o - s.predicted d f
  let first := (s.dm d).lastFree.isNone
  let old := s.rd (DOM_DOMAIN_RATE d)
  let rateBad := F.lt (s.cf (DOM_RATE_BOUND d)) (F.abs rate)
  let offBad := decide (((s.cf (DOM_OFFSET_BOUND d) : Nat) : Int) * 65536 < absI resid)
  let st := s.domSt d
  let fresh := (s.dm d).requalFirst
  let reached := (s.dm d).reached
  let s := ((s.wr (DOM_DOMAIN_OFFSET d) (i64 o)).wr (DOM_DOMAIN_RATE d) rate).modDm d (fun x => { x with lastFree := some f })
  match st with
  | .disabled => s
  | .absent => (s.modDm d (fun x => { x with coarseRun := 0, fineRun := 0 })).setDom d .acquiring
  | .acquiring | .coarse | .fine =>
    if reached && rateBad then s.breach d 1 resid rate
    else if reached && offBad then s.breach d 2 resid rate
    else if first then s
    else s.domRuns d resid rate old
  | .untrusted =>
    let bad := rateBad || (offBad && !fresh)
    s.modDm d (fun x => { x with requalOk := !bad, requalFirst := bad, requalAt := if bad then s.clock else x.requalAt })

/-! ### The servo -/

/-- ±10 ppm as binary64 (R91). -/
def tenPpm : Nat := f64.ofRat 1 100000

/-- The servo at a Sync of the followed domain: `off` is line time minus domain time, `dt` the time since the last Sync, both in
2^-16 ns. The law is the one of the chapter, in binary64. -/
def State.servo (s : State) (d : Nat) (off dt : Int) : State :=
  let s := s.wr LT_OFFSET_EST (i64 off)
  if !s.ltSt.good && decide (65536 < absI off) then s.offsetAdd (-off)
  else
    let x := f64.ofRat off dt.toNat
    let ri := D.sub s.time.rateI (D.mul (D.ofF (s.cf SEL_KI)) x)
    let s := { s with time := { s.time with rateI := ri } }
    let a := D.add (D.neg (D.mul (D.ofF (s.cf SEL_KP)) x)) ri
    let a := if s.rd LT_SLEWING = 1 then D.clamp (D.neg tenPpm) tenPpm a else a
    let dr := if s.syntonised then 0 else D.ofF (s.rd (DOM_DOMAIN_RATE d))
    let tot := D.add dr a
    let b := D.ofF (s.cf (DOM_RATE_BOUND d))
    let tot := if s.ltSt.good then D.clamp (D.neg b) b tot else tot
    s.increment (2 ^ 32 + f64.toIntNearest tot 32).toNat

/-! ### PTP messages -/

/-- The port takes part in the PTP instance of a domain (Table LT-2). -/
def State.ptpPort (s : State) (d p : Nat) : Bool :=
  s.on (DOM_ENABLE d) &&
  (match s.cf (DOM_INSTANCE d) with
   | 1 => p == 1
   | 2 => p == 2
   | _ => p == 1 || p == 2)

/-- The message came over the transport of the domain (Table LT-2). -/
def State.transportIs (s : State) (d : Nat) (udp : Bool) : Bool := (s.cf (DOM_TRANSPORT d) == 2) == udp

/-- A message of a domain passes R63 and R26; else it is dropped and counted, and a failed check writes a record. -/
def State.ptpAuth (s : State) (d p : Nat) (icv : Icv) : Bool × State :=
  match icv with
  | .absent => if s.on (DOM_SECURITY_REQUIRED d) then (false, s.bump (DOM_AUTH_DROPS d)) else (true, s)
  | .tlv spp key ok =>
    if ok && s.sec.keys.any (fun k => k.cls == 1 && k.place == d && k.spp == spp && k.keyId == key) then (true, s)
    else (false, (s.bump (DOM_AUTH_DROPS d)).record 3 1 1 p 0)

/-- A port of an ordinary or boundary clock that is master or passive takes no Sync (IEEE 1588-2019); a transparent clock has no port
state. -/
def State.syncPort (s : State) (d p : Nat) : Bool :=
  decide (4 ≤ s.cf (DOM_INSTANCE d)) || (s.portSt d p != 6 && s.portSt d p != 7)

/-- PTP_SYNC_RECEIVE (R69, R63, R87 to R91). -/
def State.syncReceive (s : State) (d : Nat) (m : SyncMsg) : State :=
  if m.stampLost then s.bump NETC_STAMP_LOSS
  else if !s.ptpPort d m.port.val || !s.transportIs d m.udp || !s.syncPort d m.port.val then s
  else
    let (ok, s) := s.ptpAuth d m.port.val m.icv
    if !ok then s
    else
      let sh := s.ingressShift m.port.val
      let f := s.free16 + m.off * 8192 + sh
      let t2 := s.now / 65536 + m.off * 8192 + sh
      let dom := ((m.originSec : Int) * nsPerSec + m.originNs) * 65536 + m.corr + at' (s.dm d).linkDelay m.port.val
      let dt := match (s.dm d).lastFree with
        | some f0 => if f0 < f then f - f0 else s.syncInterval d
        | none => s.syncInterval d
      let was := s.followed
      let s := s.modDm d (fun x => { x with syncAt := x.syncAt.setIfInBounds m.port.val (some f) })
      let s := (s.domSync d f (dom - f) m.rate.toNat).evalLt
      if s.followed ≠ d then s
      -- at the Sync at which line time moves to the domain, R87 and R91 have met the difference already
      else if was = d then (s.syntSync d m.recovered.toNat).servo d (t2 - dom) dt
      else (s.syntSync d m.recovered.toNat).wr LT_OFFSET_EST (i64 (t2 - dom))

def execPtpSyncReceive (d : Fin 2) (m : SyncMsg) (s : State) : Host.Outcome State Fault Refusal :=
  .next (s.syncReceive d.val m)

/-- clockClass that a grandmaster-capable module announces (R65). -/
def State.ownClass (s : State) : Nat :=
  match s.time.ppsLast with
  | none => 248
  | some t => if !s.pw.refAbsent && decide ((s.time.free.units : Int) - t ≤ 2 * secI) then 6 else 7

/-- What the default best master clock algorithm orders by, the better first. -/
def announceRank (a : Announce) : List Nat :=
  [a.priority1, a.clockClass, a.accuracy, a.variance, a.priority2, a.identity, a.steps, a.sender]

/-- Lexicographic order. -/
def lexLt : List Nat → List Nat → Bool
  | a :: as, b :: bs => if a < b then true else if b < a then false else lexLt as bs
  | _, _ => false

/-- The data set that the module itself announces; accuracy, variance and the time properties are the model's (log entry 70). -/
def State.ownSet (s : State) (d : Nat) : Announce :=
  ⟨s.cf (DOM_PRIORITY1 d), s.ownClass, 0xfe, 0xffff, s.cf (DOM_PRIORITY2 d), s.ownIdentity, 0, 0, 0, 8, 37, 0xa0⟩

/-- The better of two announced data sets. -/
def betterOf (a b : Option Announce) : Option Announce :=
  match a, b with
  | some x, some y => if lexLt (announceRank y) (announceRank x) then b else a
  | none, _ => b
  | _, none => a

/-- The module would announce a clockClass of 1 to 127, and never becomes a slave (IEEE 1588-2019). -/
def State.neverSlave (s : State) (d : Nat) : Bool := s.on (DOM_GM_CAPABLE d) && decide (s.ownClass < 128)

/-- The portState of port `p` (IEEE 1588-2019): master where no better master is seen and the module may be one, or on a port other
than the slave's with a worse or no path; slave on the port of the best master; passive on a second path to it, and where a module of
clockClass 6 or 7 sees a better one; else listening. -/
def State.portStateOf (s : State) (d p : Nat) : Nat :=
  let k := s.dm d
  match k.best with
  | none => if s.on (DOM_GM_CAPABLE d) then 6 else 4
  | some b =>
    if s.neverSlave d then
      match at' k.portBest p with
      | some a => if lexLt (announceRank (s.ownSet d)) (announceRank a) then 6 else 7
      | none => 6
    else if b.port.val = p then 9
    else match at' k.portBest p with
      | some a =>
        if a.identity = b.identity ∧ (a.steps = b.steps ∨ a.steps = b.steps + 1 ∧ a.sender < s.portIdentity d p) then 7 else 6
      | none => 6

/-- The announce receipt timeout of a port has passed: three announce intervals without an Announce of its master (IEEE 1588-2019). -/
def State.silent (s : State) (d p : Nat) : Bool :=
  (at' (s.dm d).portBest p).isSome && decide (at' (s.dm d).heard p + 3 * s.announceInterval d ≤ s.free16)

/-- The best master decided again from what the ports have seen (R61, R94): best, port states, STEPS_REMOVED, and a record where
the grandmaster changes. A module that sees no master and may not be one keeps GM_IDENTITY. -/
def State.bmca (s : State) (d : Nat) : State :=
  let k := s.dm d
  let i := s.cf (DOM_INSTANCE d)
  let seen (p : Nat) : Option Announce := if s.ptpPort d p then at' k.portBest p else none
  let e := betterOf (seen 1) (seen 2)
  let best := match e with
    | some a => if s.on (DOM_GM_CAPABLE d) && lexLt (announceRank (s.ownSet d)) (announceRank a) then none else e
    | none => none
  let s := s.modDm d (fun x => { x with best := best, gmPort := match best with | some b => b.port | none => x.gmPort })
  let s := if i = 1 ∨ i = 3 then s.wr (DOM_PORT_STATE_P1 d) (s.portStateOf d 1) else s
  let s := if i = 2 ∨ i = 3 then s.wr (DOM_PORT_STATE_P2 d) (s.portStateOf d 2) else s
  let s := match best with
    | some b => s.wr (DOM_STEPS_REMOVED d) ((b.steps + 1) % 2 ^ 16)
    | none => if s.on (DOM_GM_CAPABLE d) then s.wr (DOM_STEPS_REMOVED d) 0 else s
  let id := match best with
    | some b => b.identity
    | none => if s.on (DOM_GM_CAPABLE d) then s.ownIdentity else s.rd (DOM_GM_IDENTITY d)
  if id = s.rd (DOM_GM_IDENTITY d) then s
  else ((s.wr (DOM_GM_IDENTITY d) id).modDm d (fun x => { x with syncAt := Vector.replicate 3 none })).record 2 4 0 d (pay 16 id)

/-- The masters of silent ports are forgotten, and the best one is decided again. -/
def State.announceTimeout (s : State) (d : Nat) : State :=
  if s.silent d 1 || s.silent d 2 then
    let best := Vector.ofFn (n := 3) (fun p => if s.silent d p.val then none else at' (s.dm d).portBest p.val)
    ((s.modDm d (fun x => { x with portBest := best })).bmca d).syntEval
  else s

/-- A tick of TIME_PLL, and the announce receipt timeouts that it completes. -/
def State.timeTick (s : State) : State := each (upto 2) s.tick State.announceTimeout

/-- DOMAIN_ABSENT: no Sync for three announce intervals (Table LT-8). A domain that is UNTRUSTED stays so (R89). -/
def State.domainAbsent (s : State) (d : Nat) : State :=
  match s.domSt d with
  | .disabled | .absent => s
  | .untrusted => s.modDm d (fun x => { x with requalOk := false, requalFirst := true })
  | _ =>
    let s := s.modDm d (fun x => { x with
      lastFree := none, coarseRun := 0, fineRun := 0, syncAt := Vector.replicate 3 none })
    (s.setDom d .absent).evalLt

def execDomainAbsent (d : Fin 2) (s : State) : Host.Outcome State Fault Refusal := .next (s.domainAbsent d.val)

/-- REQUALIFY_TIME of a domain has passed since an instant of the core clock. -/
def State.requalified (s : State) (d : Nat) (since : Int) : Bool :=
  decide (since + ((s.cf (DOM_REQUALIFY_TIME d) * secU : Nat) : Int) ≤ s.clock)

/-- REQUALIFY_TIME has passed in UNTRUSTED with every Sync in both bounds (R89). -/
def execRequalifyTimeExpiry (d : Fin 2) (s : State) : Host.Outcome State Fault Refusal :=
  .next (if s.domSt d.val = .untrusted && (s.dm d.val).requalOk && s.requalified d.val (s.dm d.val).requalAt then (s.setDom d.val .acquiring).evalLt else s)

/-- The preferred domain has been good for its REQUALIFY_TIME (R92). -/
def execDomainRevert (d : Fin 2) (s : State) : Host.Outcome State Fault Refusal :=
  .next (if s.on SEL_REVERT && s.cf SEL_PREFERRED == d.val && s.domGood d.val && s.followed == 1 - d.val &&
      s.requalified d.val (s.dm d.val).goodAt
    then (s.ltMove d.val).syntEval else s)

/-- A slew toward a new domain ends once the difference is gone (R91): it has come down to what one offset add may take up without a
step, 1 ns (R87; log entry 72). -/
def execLineTimeSlewEnd (s : State) : Host.Outcome State Fault Refusal :=
  .next (if s.rd LT_SLEWING = 1 && decide (absI (s.domainDiff s.followed) ≤ 65536) then (s.wr LT_SLEWING 0).evalLt else s)

/-- SELECT_REQUEST written (R93). A request that names the domain followed already succeeds and moves nothing: R93 does not say
(log entry 72). -/
def State.selectRequest (s : State) (v : Nat) : Res :=
  if 1 < v then refuse s cRange
  else if !s.domGood v then refuse s cState
  else if s.followed = v then okRes s
  else okRes (s.ltMove v).syntEval

/-! ### Announce, delay and management messages (R61, R65, R94) -/

/-- An Announce taken: the best master of its port, then the decision. One that has come through 255 or more clocks is not used
(IEEE 1588-2019, log entry 70). -/
def State.announce (s : State) (d : Nat) (a : Announce) : State :=
  if 255 ≤ a.steps then s
  else
    let take := match at' (s.dm d).portBest a.port.val with
      | some b => b.sender == a.sender || lexLt (announceRank a) (announceRank b)
      | none => true
    (if take then s.modDm d (fun x => { x with
        portBest := x.portBest.setIfInBounds a.port.val (some a), heard := x.heard.setIfInBounds a.port.val s.free16 }) else s).bmca d

/-- The port a PTP message came on and its security. -/
def ptpMsgPort : PtpMsg → Nat
  | .announce a _ => a.port.val
  | .delayResult p _ _ => p.val
  | .delayReq p _ _ _ _ _ _ => p.val
  | .management p _ _ _ _ _ => p.val
def ptpMsgIcv : PtpMsg → Icv
  | .announce _ i => i
  | .delayResult _ _ i => i
  | .delayReq _ _ _ _ _ _ i => i
  | .management _ _ _ _ _ i => i

/-- The delay mechanism of the instance is peer-to-peer (Table LT-2). -/
def State.peerDelay (s : State) (d : Nat) : Bool :=
  match s.cf (DOM_INSTANCE d) with
  | 4 => false
  | 5 => true
  | _ => s.cf (DOM_DELAY_MECH d) == 2

/-- The answer to a delay request of a neighbour: a Pdelay_Req by an instance with that mechanism, a Delay_Req by a master port of an
ordinary or boundary clock with the other one. -/
def State.delayAnswer (s : State) (d : Nat) (p : Fin 3) (peer : Bool) (sender seq : Nat) (corr off : Int) : State :=
  let sh := s.ingressShift p.val
  let num := s.cf (DOM_DOMAIN_NUMBER d)
  if peer ≠ s.peerDelay d then s
  else if peer then
    s.ptpSend d p { typ := 3, num := num, corr := corr, src := s.portIdentity d p.val, seq := seq }
      (List.replicate 10 0 ++ beBytes 10 sender) (s.free16 + off * 8192 + sh)
  else if s.cf (DOM_INSTANCE d) ≤ 3 ∧ s.portSt d p.val = 6 then
    let t4 := s.now / 65536 + off * 8192 + sh
    let h : PtpHead := {
      typ := 9, num := num, corr := corr - t4 % 65536, src := s.portIdentity d p.val, seq := seq, ctl := 3
      log := s.cf (DOM_LOG_MIN_DELAY_REQ d) }
    s.ptpSend d p h (ptpStamp t4 ++ beBytes 10 sender) 0
  else s

/-- A PTP message other than a Sync, once it is accepted. -/
def State.ptpMessage (s : State) (d : Nat) (m : PtpMsg) : State :=
  match m with
  | .announce a _ => (s.announce d a).syntEval
  | .delayResult p x _ =>
    let s := s.modDm d (fun k => { k with linkDelay := k.linkDelay.setIfInBounds p.val x })
    if s.syntPort d = p.val then s.wr (DOM_MEAN_LINK_DELAY d) (i64 x) else s
  | .delayReq p peer sender seq corr off _ => s.delayAnswer d p peer sender seq corr off
  | .management p action sender seq id _ =>
    -- GET is answered, SET and COMMAND are refused (Table LT-2)
    if action = 0 ∨ action = 1 ∨ action = 3 then
      s.ptpSend d p { typ := 13, num := s.cf (DOM_DOMAIN_NUMBER d), src := s.portIdentity d p.val, seq := seq, ctl := 4 }
        (mgmtBody sender id (action != 0)) 0
    else s

/-- PTP_MESSAGE_RECEIVE: a message over a transport. -/
def execPtpMessageReceive (d : Fin 2) (x : PtpIn) (s : State) : Host.Outcome State Fault Refusal :=
  .next (
    if !s.ptpPort d.val (ptpMsgPort x.msg) || !s.transportIs d.val x.udp then s
    else
      let (ok, s) := s.ptpAuth d.val (ptpMsgPort x.msg) (ptpMsgIcv x.msg)
      if ok then s.ptpMessage d.val x.msg else s)

/-- The port sends the message of an interval: Sync and Announce as master, a delay request as its mechanism has it. -/
def State.ptpSends (s : State) (d p : Nat) (t : PtpTimer) : Bool :=
  let inst := s.cf (DOM_INSTANCE d)
  s.ptpPort d p && s.bitOf NET_LINK_UP p &&
  (match t with
   | .sync | .announce => decide (inst ≤ 3) && s.portSt d p == 6
   | .delayReq => s.peerDelay d || (decide (inst ≤ 3) && s.portSt d p == 9))

/-- The place of a port's sequenceId of a kind of message. -/
def seqPlace (p : Nat) : PtpTimer → Nat
  | .sync => 3 * p
  | .announce => 3 * p + 1
  | .delayReq => 3 * p + 2

/-- The message of an interval that has run out (R61, R65, R70), with the next sequenceId of its kind. The originTimestamp of a Sync
is written as it leaves. -/
def State.ptpInterval (s : State) (d : Nat) (t : PtpTimer) (p : Fin 3) : State :=
  let i := seqPlace p.val t
  let h : PtpHead := { typ := 0, num := s.cf (DOM_DOMAIN_NUMBER d), src := s.portIdentity d p.val, seq := at' (s.dm d).seqs i }
  let s := s.modDm d (fun k => { k with seqs := k.seqs.setIfInBounds i ((at' k.seqs i + 1) % 2 ^ 16) })
  match t with
  | .sync => s.ptpSend d p { h with ctl := 0, log := s.cf (DOM_LOG_SYNC d) } (List.replicate 10 0) 0
  | .announce =>
    let (a, steps) := match (if s.neverSlave d then none else (s.dm d).best) with
      | some b => (b, (b.steps + 1) % 2 ^ 16)
      | none => (s.ownSet d, 0)
    s.ptpSend d p { h with typ := 11, flags := a.flags, log := s.cf (DOM_LOG_ANNOUNCE d) } (announceBody a steps) 0
  | .delayReq =>
    if s.peerDelay d then s.ptpSend d p { h with typ := 2 } (List.replicate 20 0) 0
    else s.ptpSend d p { h with typ := 1, ctl := 1 } (List.replicate 10 0) 0

def execPtpMessageInterval (d : Fin 2) (t : PtpTimer) (p : Fin 3) (s : State) : Host.Outcome State Fault Refusal :=
  .next (if s.ptpSends d.val p.val t then s.ptpInterval d.val t p else s)

/-! ### PPS (R95 to R97) -/

/-- The whole second that a PPS_IN edge marks: R96 does not say which, and the model takes the nearest one (log entry 72). -/
def nearestSec (t : Int) : Int := rdiv t secI

/-- A rising PPS_IN edge (R95, R96). Line time is aligned to it while no domain is followed: what holds while line time follows the
other domain is not said (log entry 72). -/
def State.ppsEdge (s : State) (off : Int) : State :=
  if !s.on PPS_IN_ENABLE then s
  else
    let t := s.now + off * (tickU : Int) - toS 32 (s.cf PPS_IN_DELAY) * 2 ^ 32
    let s := (s.wr PPS_IN_STAMP (s.stampOf t)).latchEvent 0x38 true (t / (tickU : Int))
    let s := { s with time := { s.time with ppsLast := some (s.time.free.units : Int) } }
    let whole := nearestSec t
    let err := (t - whole * secI) / 65536
    let s := match s.time.todPending with
      | some v => ({ s with time := { s.time with todPending := none } }).offsetAdd (((v : Int) - whole) * sec16)
      | none => s
    if (s.isGm 0 || s.isGm 1) && 2 ≤ s.followed then
      s.servo (if s.isGm 0 then 0 else 1) err sec16
    else s

def execPpsInEdge (off : Int) (s : State) : Host.Outcome State Fault Refusal := .next (s.ppsEdge off)

/-- TOD_SECONDS written (R96). -/
def State.todWrite (s : State) (v : Nat) : State := { s with time := { s.time with todPending := some v } }

/-- PPS_OUT_PULSE: PPS_OUT rises at the tick in which line time has reached its instant, and falls after its width (R97). -/
def execPpsOutPulse (rise : Bool) (s : State) : Host.Outcome State Fault Refusal :=
  .next (if rise then s.ppsRise (s.now - s.tickInc) else s.ppsFall)

/-! ### ETH_PLL and links -/

/-- CLOCK_STATUS bit 3: ETH_PLL runs while P1 or P2 is enabled (R34). -/
def State.ethPllShow (s : State) : State := s.putBit CLKS_CLOCK_STATUS 3 (s.cf NET_PORT_ENABLE &&& 6 != 0)

/-- ETH_PLL loses lock (Table AR-7): both links go down and line time enters holdover. -/
def execEthPllLoss (s : State) : Host.Outcome State Fault Refusal :=
  let s := (s.clrBit CLKS_CLOCK_STATUS 3).wr NET_LINK_UP 0
  let s := { s with pw := { s.pw with ethPllLost := true } }
  .next (s.ltDrop.syntEval.ppsHold)

/-- ETH_PLL relocks; it runs while a port is enabled (R34). -/
def execEthPllRelock (s : State) : Host.Outcome State Fault Refusal :=
  let s := s.ethPllShow
  .next { s with pw := { s.pw with ethPllLost := false } }.evalLt

/-- A link of P1 or P2 comes up or goes down (R52); an enabled port only, and only while ETH_PLL runs. A port whose link goes down
receives no Sync and no Announce. -/
def State.linkChange (s : State) (p : Nat) (up : Bool) : State :=
  let on := up && (s.cf NET_PORT_ENABLE).testBit p && !s.pw.ethPllLost
  let s := s.putBit NET_LINK_UP p on
  if on then s
  else (each (upto 2) s (fun s d => (s.modDm d (fun k => { k with
    syncAt := k.syncAt.setIfInBounds p none, portBest := k.portBest.setIfInBounds p none })).bmca d)).syntEval

def execEthLinkChange (p : Fin 3) (up : Bool) (s : State) : Host.Outcome State Fault Refusal :=
  .next (if p = 0 then s else s.linkChange p.val up)

/-! ### Commit -/

/-- Domains at the instant a configuration takes effect; the old DOMAIN_NUMBERs are given. -/
def State.timeCommit (s : State) (was : Nat → Nat) : State :=
  let s := each (upto 2) s (fun s d =>
    let fresh := was d != s.cf (DOM_DOMAIN_NUMBER d)
    if !s.on (DOM_ENABLE d) then (s.modDm d (fun k => { ({} : DomInt) with seqs := k.seqs })).setDom d .disabled
    else if s.domSt d = .disabled || fresh then
      ((s.modDm d (fun k => { ({} : DomInt) with linkDelay := k.linkDelay, seqs := k.seqs })).bmca d).setDom d .absent
    else s.bmca d)
  let s := each (upto 2) s (fun s i => if (s.cf NET_PORT_ENABLE).testBit (i + 1) then s else s.clrBit NET_LINK_UP (i + 1))
  let s := if s.pw.ethPllLost then s else s.ethPllShow
  s.evalLt

end Sys2Proof.Machine
end

