-- ==== Sys2Proof/Machine/Network.lean ====
section
/-! DEFINITION. The switch at work (R52 to R60, R70 to R75): frames received and sent, the Sync and Pdelay_Resp that the module
completes as they leave, and the correction of PTP messages by a transparent clock. -/
namespace Sys2Proof.Machine
open Obj

/-! ### Receiving -/

/-- FRAME_RECEIVE: a frame with its FCS and whether that is good; the verdict of its authentication TLV; whether its stamp
was lost; and its SFD (R53 to R60, R69). Log entry 69: the length is checked before the source address, so that a frame of illegal
length counts in its own class whoever sent it; only a frame with a good FCS teaches its source address; one with a bad FCS that ends
with its 64th byte has ended before forwarding starts. -/
def State.frameReceive (s : State) (p : Fin 3) (bs : Bytes) (fcsOk : Bool) (icv : Icv) (stampLost : Bool) (off : Int) : State :=
  let cls := s.classOf bs
  let n := bs.length
  let drop (c : Nat) : State := s.bump (NETC_RX_DROPS (4 * p.val + c))
  if s.pw.held ∨ s.dev = .standby ∨ !s.portLive p then s
  else if n < 64 ∨ 1522 < n then drop cls
  else if p ≠ 0 ∧ beAt bs 6 6 = macOfObj (s.rd NET_MAC_ADDRESS) then drop 0
  else if stampLost then s.bump NETC_STAMP_LOSS
  else
    let dest := s.targets p bs
    let stamp := s.free16 + off * 8192 + s.ingressShift p.val
    let cut := dest.any (fun q => s.portLive q && s.cutAt q cls stamp)
    if !fcsOk ∧ (n ≤ 64 ∨ !cut) then drop cls
    else (if fcsOk then { s with net := s.net.learn (beAt bs 6 6) p (s.free16 + off * 8192) } else s).forward p bs fcsOk icv stamp dest

def execFrameReceive (p : Fin 3) (bytes : Bytes) (fcsOk : Bool) (icv : Icv) (stampLost : Bool) (off : Int) (s : State) :
    Host.Outcome State Fault Refusal := .next (s.frameReceive p bytes fcsOk icv stampLost off)

/-! ### Transparent clock (R70 to R75) -/

/-- Message types that carry a residence time: Sync, Delay_Req, Pdelay_Resp, Follow_Up (R71). -/
def residenceType (t : Nat) : Bool := t == 0 || t == 1 || t == 3 || t == 8

/-- The module corrects a PTP message of this domain number as a transparent clock: one that neither A nor B uses, or one of
a transparent-clock instance. -/
def State.corrects (s : State) (num : Nat) : Bool :=
  match s.domainOf num with
  | none => true
  | some d => decide (4 ≤ s.cf (DOM_INSTANCE d))

/-- Residence time scaled by the rate ratio, with the link delay of the ingress port in peer-to-peer mode (R71, R72, R64). -/
def State.correction (s : State) (num typ : Nat) (p : Fin 3) (res : Int) : Int :=
  match s.domainOf num with
  | none => res
  | some d =>
    let r := if s.syntonised && s.followed == d then res else res + rateTimes (s.rd (DOM_DOMAIN_RATE d)) res
    if s.cf (DOM_INSTANCE d) = 5 ∧ (typ = 0 ∨ typ = 8) then r + at' (s.dm d).linkDelay p.val else r

/-- The module holds the key that the SPP and keyID of a frame name, among the keys of the frame's domain (R75, R427). -/
def State.sppKey (s : State) (num spp key : Nat) : Bool :=
  match s.domainOf num with
  | some d => s.sec.keys.any (fun k => k.cls == 1 && k.place == d && k.spp == spp && k.keyId == key)
  | none => false

/-- A changed PTP message ready to leave: its ICV over the message, valid or inverted (R73, R74), its UDP checksum, its FCS. -/
def ptpSeal (icv : Icv) (bs : Bytes) (o : Nat) : Bytes × IcvOut :=
  let sum (b : Bytes) : Bytes := match udpOff b with | some u => fixUdp b u | none => b
  match icv with
  | .absent => (withFcs (sum bs), .kept)
  | .tlv _ key ok =>
    let at_ := o + beAt bs (o + 2) 2 - 16
    let v := Config.icv key ((bs.drop o).take (at_ - o))
    (withFcs (sum (putBytes bs at_ (beBytes 16 (if ok then v.toNat else (~~~v).toNat)))), if ok then .valid else .inverted)

/-- The correctionField of a message with an amount of 2^-16 ns added. -/
def addCorrection (bs : Bytes) (o : Nat) (x : Int) : Bytes := putBytes bs (o + 8) (beBytes 8 (ofS 64 (toS 64 (beAt bs (o + 8) 8) + x)))

/-- A PTP frame forwarded, as it leaves: unchanged and counted where its key is not held (R75), corrected where the module is a
transparent clock for it (R71, R74). -/
def State.tcFrame (s : State) (f : QFrame) (o : Nat) (eg : Int) : State × Bytes × IcvOut :=
  let bs := f.bytes.take (f.bytes.length - 4)
  let typ := beAt bs o 1 % 16
  let num := beAt bs (o + 4) 1
  let held := match f.icv with
    | .absent => true
    | .tlv spp key _ => s.sppKey num spp key
  if s.dev = .boot ∨ f.ingress = 0 then (s, f.bytes, .kept)
  else if !held then (s.bump NETC_SPP_UNKNOWN, f.bytes, .kept)
  else if !residenceType typ ∨ !s.corrects num then (s, f.bytes, .kept)
  else
    let (out, icv) := ptpSeal f.icv (addCorrection bs o (s.correction num typ f.ingress (eg - f.stamp))) o
    ((if icv = .inverted then s.bump NETC_ICV_INVERTED else s), out, icv)

/-- A PTP message of the module as it leaves, `eg` and `line` its egress stamp on the two clocks in 2^-16 ns: a Sync gets its
originTimestamp and the sub-nanosecond rest as correction (R70), a Pdelay_Resp its turnaround time (log entry 70). -/
def ownFrame (f : QFrame) (o : Nat) (eg line : Int) : Bytes × IcvOut :=
  let bs := f.bytes.take (f.bytes.length - 4)
  match beAt bs o 1 % 16 with
  | 0 => ptpSeal f.icv (putBytes (addCorrection bs o (line % 65536)) (o + 34) (ptpStamp line)) o
  | 3 => ptpSeal f.icv (addCorrection bs o (eg - f.stamp)) o
  | _ => (f.bytes, .kept)

/-- The next frame of an egress port: the highest class, the oldest of it (R58). -/
def nextFrame (l : List QFrame) : Option QFrame :=
  [3, 2, 1, 0].findSome? (fun c => l.find? (fun f => f.cls == c))

/-- The queue without the frame that was taken. -/
def dropFrame (c : Nat) : List QFrame → List QFrame
  | [] => []
  | f :: t => if f.cls = c then t else f :: dropFrame c t

/-- FRAME_TRANSMIT: the egress starts its next frame, once the one in transmission has left (R58); one whose FCS was bad ends inverted
(R60). A frame takes 80 ns a byte, with preamble and gap of 20 bytes (Table LT-3). -/
def State.frameTransmit (s : State) (q : Fin 3) (off : Int) : State :=
  let start := s.free16 + off * 8192
  if !s.portLive q || decide (start < at' s.net.busyUntil q.val) then s
  else match nextFrame (at' s.net.egress q.val) with
    | none => s
    | some f =>
      let s := { s with net := { s.net with
        egress := s.net.egress.setIfInBounds q.val (dropFrame f.cls (at' s.net.egress q.val)) } }
      let s := { s with net := { s.net with
        busyUntil := s.net.busyUntil.setIfInBounds q.val (if q = 0 then 0 else start + (f.bytes.length + 20 : Nat) * (80 * 65536)) } }
      let eg := start + s.egressShift q.val
      let r : State × Bytes × IcvOut := match ptpOff f.bytes with
        | some o => if q = 0 then (s, f.bytes, .kept)
          else if f.ingress = 0 then (s, ownFrame f o eg (s.now / 65536 + off * 8192 + s.egressShift q.val))
          else s.tcFrame f o eg
        | none => (s, f.bytes, .kept)
      let (s, bs, icv) := r
      if f.badFcs then
        let n := bs.length - 4
        let body := bs.take n
        (s.bump NETC_STOMPED).emit (.frame q (body ++ leBytes 4 (crc32 body ^^^ 0xFFFFFFFF)) icv)
      else s.emit (.frame q bs icv)

def execFrameTransmit (p : Fin 3) (off : Int) (s : State) : Host.Outcome State Fault Refusal :=
  .next (s.frameTransmit p off)

/-- A learned address whose ageing time has passed leaves the table (R54). -/
def execAddressAgeing (mac : BitVec 48) (s : State) : Host.Outcome State Fault Refusal :=
  .next { s with net := { s.net with learned := s.net.learned.filter (fun e => e.mac != mac.toNat || !e.aged s.free16) } }

end Sys2Proof.Machine
end

