-- ==== Sys2Proof/Machine/Tables.lean ====
section
/-! DEFINITION. Table RAM, cam tables and compensation tables (R336 to R342). Tables 0 to 63 are cams, 64 to 79 the
compensation tables; a compensation header keeps SPAN, ORIGIN and INDEX_AXIS where a cam header keeps MASTER_SPAN, SLAVE_STEP
and SLOPE_EXP. -/
namespace Sys2Proof.Machine
open Obj

/-- Entries of table RAM. -/
def ramEntries : Nat := 262144

/-! ### States (R337) -/

/-- Axes that use a table: a cam is used by the axes that cam with it, a compensation table by those that name it. -/
def State.tableUsers (s : State) (t : Nat) : Nat :=
  (allAxes.filter (fun n =>
    if t < 64 then (s.ax n).fol.engaged && s.cf (FOL_FOLLOW_MODE n) == 3 && s.rd (CAMA_CAM_ACTIVE n) == t
    else s.cf (COMPA_COMP_TABLE n) == t - 64)).length

/-- A table is the target of a pending CAM_NEXT. -/
def State.tableAwaited (s : State) (t : Nat) : Bool :=
  allAxes.any (fun n => s.bitOf (LSS_LS_STATUS n) 4 && s.rd (CAMA_CAM_NEXT n) == t)

/-- TABLE_STATE: 0 EMPTY, 1 LOADING, 2 READY, 3 IN_USE. A READY table in use reads IN_USE. -/
def State.tableState (s : State) (t : Nat) : Nat :=
  let x := s.rd (CAM_TABLE_STATE t)
  if x = 2 ∧ (0 < s.tableUsers t ∨ s.tableAwaited t) then 3 else x

/-- READY or IN_USE. -/
def State.tableReady (s : State) (t : Nat) : Bool := s.rd (CAM_TABLE_STATE t) == 2

/-- Entries in no READY or IN_USE table. -/
def State.freeEntries (s : State) : Nat :=
  ramEntries - (upto 80).foldl (fun m t => if s.tableReady t then m + s.rd (CAM_LENGTH t) else m) 0

/-- The entries [a, a + n) meet those of another READY or IN_USE table. -/
def State.tableOverlap (s : State) (t a n : Nat) : Bool :=
  (upto 80).any (fun o => o != t && s.tableReady o &&
    decide (a < s.rd (CAM_START o) + s.rd (CAM_LENGTH o)) && decide (s.rd (CAM_START o) < a + n))

/-- A table goes to LOADING; what had been written before it got there no longer counts. -/
def State.tableLoading (s : State) (t : Nat) : State :=
  if s.rd (CAM_TABLE_STATE t) = 1 then s
  else { s.wr (CAM_TABLE_STATE t) 1 with tableLen := s.tableLen.setIfInBounds t none }

/-- A header object written. -/
def State.tableHeader (s : State) (t key v : Nat) : Res :=
  if s.tableState t = 3 then refuse s cState else okRes ((s.tableLoading t).wr key v)

/-- Table data written whole from byte 0. -/
def State.tableData (s : State) (t : Nat) (bs : Bytes) : Res :=
  let a := s.rd (CAM_START t)
  if s.tableState t = 3 ∨ s.tableOverlap t a ((bs.length + 7) / 8) then refuse s cState
  else if s.rd (CAM_LENGTH t) * 8 < bs.length then refuse s cRange
  else
    let s := s.tableLoading t
    let s := { s with tableLen := s.tableLen.setIfInBounds t (some bs.length) }
    okRes { s with tableRam := s.tableRam.writeAll (8 * a) (bs.take (8 * (ramEntries - a))) }

/-- The data of a table as it reads. -/
def State.tableRead (s : State) (t : Nat) : Bytes :=
  s.tableRam.readAll (8 * s.rd (CAM_START t))
    (if s.tableReady t then 8 * s.rd (CAM_LENGTH t) else (at' s.tableLen t).getD 0)

/-- FINISH written. -/
def State.tableFinish (s : State) (t : Nat) : Res :=
  let a := s.rd (CAM_START t)
  let n := s.rd (CAM_LENGTH t)
  if s.tableState t ≠ 1 then refuse s cState
  else if n < (if t < 64 then 4 else 2) ∨ 65536 < n ∨ ramEntries < a + n ∨ s.tableOverlap t a n ∨
      s.q (CAM_MASTER_SPAN t) ≤ 0 ∨ at' s.tableLen t ≠ some (8 * n) then refuse s cRange
  else okRes ((s.wr (CAM_TABLE_STATE t) 2).wr (CAM_TABLE_CRC t) (crc32 (s.tableRam.readAll (8 * a) (8 * n))))

/-! ### Entries -/

/-- The 64-bit word of entry `e` of a table. -/
def State.tableWord (s : State) (t e : Nat) : Nat := s.tableRam.readLE (8 * (s.rd (CAM_START t) + e)) 8

def State.tableN (s : State) (t : Nat) : Nat := s.rd (CAM_LENGTH t)
def State.tableSpan (s : State) (t : Nat) : Int := s.q (CAM_MASTER_SPAN t)
def State.slaveStep (s : State) (t : Nat) : Int := s.q (CAM_SLAVE_STEP t)

/-- S_e as a raw Q32 value, the index taken cyclically (R338). -/
def State.camS (s : State) (t : Nat) (e : Int) : Int :=
  let n : Int := (s.tableN t : Nat)
  let k := fdiv e n
  toS 48 (s.tableWord t (e - k * n).toNat >>> 16) * 65536 + k * s.slaveStep t

/-- M_e in counts per entry interval, binary64. -/
def State.camM (s : State) (t : Nat) (e : Int) : Nat :=
  let n : Int := (s.tableN t : Nat)
  let w := s.tableWord t (e - fdiv e n * n).toNat % 2 ^ 16
  if w = 0x8000 then D.div (D.ofQ (s.camS t (e + 1) - s.camS t (e - 1))) (D.ofInt 2)
  else f64.ofDy (toS 16 w) (toS 8 (s.rd (CAM_SLOPE_EXP t)))

/-- A polynomial in binary64 by its coefficients, highest first. -/
def polyD (u : Nat) (l : List Int) : Nat := l.foldl (fun a c => D.add (D.mul a u) (D.ofInt c)) (D.ofInt 0)

/-- Where a phase lies in a table: entry, fraction in binary64, and k = N / MASTER_SPAN in binary64. -/
structure TabPos where
  e : Int
  u : Nat
  k : Nat
  deriving DecidableEq, Repr

def State.tabPos (s : State) (t : Nat) (phase : Int) : TabPos :=
  let n := s.tableN t
  let span := D.ofQ (s.tableSpan t)
  let x := D.div (D.mul (D.ofQ phase) (D.ofInt n)) span
  let e := clampI 0 ((n : Int) - 1) (f64.toIntFloor x 0)
  ⟨e, D.sub x (D.ofInt e), D.div (D.ofInt n) span⟩

/-- A Hermite sum of a cam (Table LS-9) with the four basis polynomials. -/
def State.camSum (s : State) (t : Nat) (p : TabPos) (h00 h10 h01 h11 : List Int) : Nat :=
  D.add (D.add (D.add (D.mul (polyD p.u h00) (D.ofQ (s.camS t p.e))) (D.mul (polyD p.u h10) (s.camM t p.e)))
    (D.mul (polyD p.u h01) (D.ofQ (s.camS t (p.e + 1))))) (D.mul (polyD p.u h11) (s.camM t (p.e + 1)))

/-- S, v_f and a_f of a cam at a phase for a master velocity and acceleration (R340): raw Q32. -/
def State.camEval (s : State) (t : Nat) (phase vm am : Int) : Int × Int × Int :=
  let p := s.tabPos t phase
  let s0 := s.camSum t p [2, -3, 0, 1] [1, -2, 1, 0] [-2, 3, 0, 0] [1, -1, 0, 0]
  let s1 := s.camSum t p [6, -6, 0] [3, -4, 1] [-6, 6, 0] [3, -2, 0]
  let s2 := s.camSum t p [12, -6] [6, -4] [-12, 6] [6, -2]
  let v := D.ofQ vm
  let vf := D.mul (D.mul s1 p.k) v
  let af := D.add (D.mul (D.mul (D.mul (D.mul s2 p.k) p.k) v) v) (D.mul (D.mul s1 p.k) (D.ofQ am))
  (D.toQ s0, D.toQ vf, D.toQ af)

/-! ### Compensation (R342) -/

/-- C_e of a compensation table in counts, binary64, from the positive or the negative column. -/
def State.compC (s : State) (t : Nat) (neg : Bool) (e : Int) : Nat :=
  let w := s.tableWord t (e % ((s.tableN t : Nat) : Int)).toNat
  f64.ofDy (toS 32 (if neg then w % 2 ^ 32 else w >>> 32)) (-16)

/-- The correction of axis `n` and the speed it adds, raw Q32: 0 without a READY table. -/
def State.compensation (s : State) (n : Nat) : Int × Int × Bool :=
  let k := s.cf (COMPA_COMP_TABLE n)
  let t := 64 + k
  if k = 255 ∨ !s.tableReady t then (0, 0, false)
  else
    let ix := s.rd (CMP_INDEX_AXIS k)
    let a := if ix = 255 then n else ix
    let span := s.tableSpan t
    let neg := decide ((s.ax a).vSign < 0)
    let d := posDiff (s.pSet a) (s.q (CMP_ORIGIN k))
    let p := s.tabPos t (d - span * fdiv d span)
    let c0 := s.compC t neg p.e
    let c1 := s.compC t neg (p.e + 1)
    let c := D.add (D.mul (D.sub (D.ofInt 1) p.u) c0) (D.mul p.u c1)
    (D.toQ c, D.toQ (D.mul (D.mul (D.sub c1 c0) p.k) (D.ofQ (s.vSet a))), neg)

end Sys2Proof.Machine
end

