-- ==== Sys2Proof/Machine/Passes.lean ====
section
/-! DEFINITION. Passes as received (R320 to R326, R331, R335): their format and checks, the states of Table LS-5, and the
master state of a subscription. Line times here are in 2^-16 ns. -/
namespace Sys2Proof.Machine
open Obj

def State.sb (s : State) (i : Nat) : SubSt := at' s.sub i
def State.modSb (s : State) (i : Nat) (f : SubSt → SubSt) : State := { s with sub := s.sub.setIfInBounds i (f (s.sb i)) }

/-- Line time in 2^-16 ns. -/
def State.now16 (s : State) : Int := s.now / 65536

/-- States of Table LS-5. -/
def sOff : Nat := 0
def sWaiting : Nat := 1
def sActive : Nat := 2
def sGrace : Nat := 3
def sStop : Nat := 4
def sHeld : Nat := 5
def sLost : Nat := 6

/-- T_end of a pass. -/
def Pass.tEnd (p : Pass) : Int := p.t0 + ((p.validity * 65536 : Nat) : Int)

/-- A line time in 2^-16 ns truncated to 125 ps (R18). -/
def trunc125 (t : Int) : Int := t / 8192

/-- The window [T0, T0 + VALIDITY) of a pass has ended at a line time (R17, R18). -/
def Pass.ended (p : Pass) (t : Int) : Bool := decide (trunc125 p.tEnd ≤ trunc125 t)

/-- Nanoseconds of 2^-16 ns as binary64 seconds, in the order of R323. -/
def dtSec (x : Int) : Nat := D.mul (f64.ofDy x (-16)) (f64.ofRat 1 1000000000)

/-- A pass evaluated at a line time (R323), in binary64 and in the order written. -/
def Pass.eval (p : Pass) (t : Int) : PVA :=
  let dt := dtSec (t - p.t0)
  let v0 := D.ofQ p.v0
  let a0 := D.ofQ p.a0
  let j := D.ofQ p.j
  let two := D.ofInt 2
  let dp := D.add (D.add (D.mul v0 dt) (D.div (D.mul (D.mul a0 dt) dt) two))
    (D.div (D.mul (D.mul (D.mul j dt) dt) dt) (D.ofInt 6))
  let v := D.add (D.add v0 (D.mul a0 dt)) (D.div (D.mul (D.mul j dt) dt) two)
  let a := D.add a0 (D.mul j dt)
  ⟨wrapPos (p.p0 + f64.llround dp 32), D.toQ v, D.toQ a, p.j⟩

/-- The duration of the common stop, binary64 seconds (R325). -/
def State.stopT (s : State) (i vs : Nat) : Nat :=
  let x := D.div (D.mul (f64.ofRat 3 2) (D.abs vs)) (D.ofQ (s.cq (SUB_STOP_DEC i)))
  let m := f64.ofRat (s.cf (SUB_STOP_MIN_TIME i)) 1000000000
  if D.lt x m then m else x

/-- The end of the common stop, and its position and velocity before that (R325). -/
def State.stopEval (s : State) (i : Nat) (x : SubView) (t : Int) (ended : Bool) : PVA :=
  let tau := dtSec (t - x.ts)
  let T := s.stopT i x.vs
  let n (k : Int) : Nat := D.ofInt k
  if !ended && D.lt tau T then
    let c2 := D.div (D.neg (D.add (D.mul (n 3) x.vs) (D.mul (D.mul (n 2) x.as_) T))) (D.mul T T)
    let c3 := D.div (D.add (D.mul (n 2) x.vs) (D.mul x.as_ T)) (D.mul (D.mul T T) T)
    let t2 (c : Nat) : Nat := D.mul (D.mul c tau) tau
    let dp := D.add (D.add (D.add (D.mul x.vs tau) (D.div (t2 x.as_) (n 2))) (D.div (D.mul (t2 c2) tau) (n 3)))
      (D.div (D.mul (D.mul (t2 c3) tau) tau) (n 4))
    let v := D.add (D.add (D.add x.vs (D.mul x.as_ tau)) (t2 c2)) (D.mul (t2 c3) tau)
    let a := D.add (D.add x.as_ (D.mul (D.mul (n 2) c2) tau)) (t2 (D.mul (n 3) c3))
    ⟨wrapPos (x.ps + f64.llround dp 32), D.toQ v, D.toQ a, 0⟩
  else
    let dp := D.add (D.div (D.mul x.vs T) (n 2)) (D.div (D.mul (D.mul x.as_ T) T) (n 12))
    ⟨wrapPos (x.ps + f64.llround dp 32), 0, 0, 0⟩

/-- The master state of a subscription in a state of Table LS-5 at a line time. -/
def State.viewMaster (s : State) (i : Nat) (x : SubView) (t : Int) : Option PVA :=
  match x.st, x.cur with
  | 2, some p => some (p.eval t)
  | 3, some p => some (p.eval t)
  | 4, _ => some (s.stopEval i x t false)
  | 5, some p => some ⟨(p.eval p.tEnd).p, 0, 0, 0⟩
  | 6, _ => some (s.stopEval i x t true)
  | _, _ => none

/-- A subscription as it stands. -/
def State.subView (s : State) (i : Nat) : SubView :=
  let x := s.sb i
  ⟨s.rd (SUB_STATE i), x.cur, x.held, x.ts, x.ps, x.vs, x.as_⟩

/-- The master state of a subscription as it stands, at a line time. -/
def State.subMaster (s : State) (i : Nat) (t : Int) : Option PVA := s.viewMaster i (s.subView i) t

/-- The change of Table LS-5 that line time `t` has reached, if any: a held pass before the end of the current one. -/
def State.subNext (s : State) (i : Nat) (x : SubView) (t : Int) : Option SubView :=
  let end_ := x.cur.map (·.tEnd)
  let grace : Int := ((s.cf (SUB_GRACE_TIME i) * 65536 : Nat) : Int)
  -- the instant at which the current pass or its grace time ends
  let stop := if x.st = sActive then end_ else if x.st = sGrace then end_.map (· + grace) else none
  let due (u : Int) : Bool := decide (trunc125 u ≤ trunc125 t)
  match x.held.filter (fun h => due h.t0 && x.st != sOff && x.st != sStop && stop.all (fun u => decide (h.t0 ≤ u))) with
  | some h => some { x with st := sActive, cur := some h, held := none }
  | none =>
    match x.cur with
    | some p =>
      if x.st = sActive ∧ due p.tEnd then some { x with st := if p.flags.testBit 2 then sHeld else sGrace }
      else if x.st = sGrace ∧ due (p.tEnd + grace) then
        let y := p.eval (p.tEnd + grace)
        some { x with st := sStop, held := none, ts := p.tEnd + grace, ps := y.p, vs := D.ofQ y.v, as_ := D.ofQ y.a }
      else if x.st = sStop ∧ !D.lt (dtSec (t - x.ts)) (s.stopT i x.vs) then some { x with st := sLost }
      else none
    | none => none

/-- The subscription at line time `t`, from what it is given: the changes of Table LS-5 up to `t`. -/
def State.subRun (s : State) (i : Nat) (t : Int) : Nat → SubView → SubView
  | 0, x => x
  | k + 1, x =>
    match s.subNext i x t with
    | some y => State.subRun s i t k y
    | none => x

/-- The subscription now, formed from the passes held at the instant `js`, 125 ps (R326). -/
def State.subSeen (s : State) (i : Nat) (js : Int) : SubView :=
  let x := match (((s.sb i).before.filter (fun e => decide (js < e.1))).getLast?) with
    | some e => e.2
    | none => s.subView i
  s.subRun i s.now16 6 x

/-- The subscription changes state, with a record. -/
def State.setSub (s : State) (i st : Nat) : State :=
  let old := s.rd (SUB_STATE i)
  if old = st then s else (s.wr (SUB_STATE i) st).record 8 1 0 i (pay 16 old + pay 17 st)

/-- The axes in follow mode whose master is subscription `i`. -/
def State.subFollowers (s : State) (i : Nat) : List Nat :=
  allAxes.filter (fun n => s.axMode n == mmFollow && s.cf (FOL_MASTER n) == 0x80 + i)

/-- A failure of checks 3 to 6: counter, record, PASS_REJECTED of the axes that follow. -/
def State.passReject (s : State) (i counter order seq : Nat) : State :=
  let s := (s.bump counter).record 8 2 order i (pay 16 seq)
  each (s.subFollowers i) s (fun s n => s.setBit (LSS_LS_STATUS n) 6)

/-- The held pass comes into force (R322). -/
def State.passForce (s : State) (i : Nat) : State :=
  match (s.sb i).held with
  | none => s
  | some p =>
    if s.rd (SUB_STATE i) = sOff ∨ s.rd (SUB_STATE i) = sStop then s
    else
      let s := s.modSb i (fun x => { x with cur := some p, held := none })
      ((s.wr (SUB_CUR_SEQUENCE i) p.seq).wr (SUB_CUR_T0 i) (Clock.ofUnits (p.t0 * 65536).toNat).lt96).setSub i sActive

/-- PASS_COMES_INTO_FORCE: line time has reached T0 of the held pass (R322). -/
def execPassComesIntoForce (i : Fin 8) (s : State) : Host.Outcome State Fault Refusal :=
  .next (match (s.sb i.val).held with
    | some p => if trunc125 p.t0 ≤ trunc125 s.now16 then s.passForce i.val else s
    | none => s)

/-- T_end of the current pass (R324). -/
def execPassValidityEnd (i : Fin 8) (s : State) : Host.Outcome State Fault Refusal :=
  .next (
    match (s.sb i.val).cur with
    | some p =>
      if s.rd (SUB_STATE i.val) ≠ sActive ∨ !p.ended s.now16 then s
      else if p.flags.testBit 2 then s.setSub i.val sHeld
      else ((s.bump (SUB_LOSSES i.val)).wr (SUB_LAST_LOSS i.val) (s.stampOf (p.tEnd * 65536))).setSub i.val sGrace
    | none => s)

/-- T_end + GRACE_TIME: the common stop begins, and a pass still held is discarded (R325). -/
def State.graceExpiry (s : State) (i : Nat) : State :=
  match (s.sb i).cur with
  | some p =>
    let ts := p.tEnd + ((s.cf (SUB_GRACE_TIME i) * 65536 : Nat) : Int)
    if s.rd (SUB_STATE i) ≠ sGrace ∨ trunc125 s.now16 < trunc125 ts then s
    else
      let x := p.eval ts
      let s := match (s.sb i).held with
        | some h => s.passReject i (SUB_REJECTED_TIME i) 4 h.seq
        | none => s
      (s.modSb i (fun y => { y with held := none, ts := ts, ps := x.p, vs := D.ofQ x.v, as_ := D.ofQ x.a })).setSub i sStop
  | none => s

def execGraceTimeExpiry (i : Fin 8) (s : State) : Host.Outcome State Fault Refusal := .next (s.graceExpiry i.val)

/-- The common stop ends (R325). -/
def execCommonStopEnd (i : Fin 8) (s : State) : Host.Outcome State Fault Refusal :=
  .next (if s.rd (SUB_STATE i.val) = sStop ∧ !D.lt (dtSec (s.now16 - (s.sb i.val).ts)) (s.stopT i.val (s.sb i.val).vs) then s.setSub i.val sLost else s)

/-! ### Receiving (R104, R321, R322, R335) -/

/-- R104: SUBTYPE, VERSION, no reserved flag. -/
def pduFormatOk (p : PassPdu) : Bool := p.subtype == 1 && p.version == 1 && decide (p.flags < 8)

/-- The pass of a PDU. -/
def pduPass (p : PassPdu) : Pass :=
  ⟨p.sequence, ((p.t0Sec : Int) * nsPerSec + p.t0Ns) * 65536 + p.t0Frac, wrapPos p.p0, p.v0, p.a0, p.j, p.validity, p.flags⟩

/-- Some line key has this KEY_ID (R419). -/
def State.lineKey (s : State) (k : Nat) : Bool := s.sec.keys.any (fun x => x.cls == 2 && x.keyId == k)

/-- A pass offered to a subscription after R26 and R104: checks 2 to 6 of Table LS-4, then acceptance. `rcv` is the receipt
line time. -/
def State.passOffer (s : State) (i : Nat) (p : Pass) (rcv : Int) : State :=
  let st := s.rd (SUB_STATE i)
  let x := s.sb i
  let after (o : Option Pass) : Bool := match o with | some q => decide (q.t0 ≤ p.t0) | none => true
  let d := (p.seq + 2 ^ 32 - x.lastSeq) % 2 ^ 32
  if !s.ltSt.good || st == sStop then s.bump LSC_NOT_FOLLOWED
  else if st ≠ sWaiting ∧ st ≠ sLost ∧ (d = 0 ∨ 2 ^ 31 ≤ d) then s.passReject i (SUB_REJECTED_STALE i) 3 p.seq
  else if p.validity < 1000 ∨ p.ended rcv ∨ rcv + ((s.cf (SUB_MAX_LEAD i) * 65536 : Nat) : Int) < p.t0 ∨
      !after x.cur ∨ !after x.held then s.passReject i (SUB_REJECTED_TIME i) 4 p.seq
  else if s.cq (SUB_V_BOUND i) < absI p.v0 ∨ s.cq (SUB_A_BOUND i) < absI p.a0 ∨ s.cq (SUB_J_BOUND i) < absI p.j ∨
      s.cq (SUB_V_BOUND i) < absI (p.eval p.tEnd).v then s.passReject i (SUB_REJECTED_BOUNDS i) 5 p.seq
  else
    let te := maxI p.t0 rcv
    let jump := (st == sActive || st == sGrace || st == sHeld) &&
      (match s.subMaster i te with
       | some m =>
         let n := p.eval te
         decide (s.cq (SUB_JUMP_P i) < absI (posDiff n.p m.p)) || decide (s.cq (SUB_JUMP_V i) < absI (n.v - m.v))
       | none => false)
    if jump then s.passReject i (SUB_REJECTED_JUMP i) 6 p.seq
    else
      let s := s.bump (SUB_ACCEPTED i)
      let late := decide (trunc125 p.t0 < trunc125 rcv)
      let s := if late then s.bump (SUB_LATE i) else s
      let s := if x.held.isSome then s.bump (SUB_REPLACED i) else s
      let loss := p.flags.testBit 1
      let s := if loss && !x.lossSeen then s.record 8 3 0 i 0 else s
      let s := if loss then each (s.subFollowers i) s (fun s n => s.setBit (LSS_LS_STATUS n) 5) else s
      let w := s.subView i
      let now := s.nowT
      let s := s.modSb i (fun y => { y with
        held := some p, lastSeq := p.seq, lossSeen := loss, before := keepBack (·.1) 4 now ((now, w) :: y.before) })
      if late then s.passForce i else s

/-- The enabled subscriptions of a master id on Ethernet, or on CAN by the number `c` of the subscription's own frame. -/
def State.subsOf (s : State) (master transport : Nat) : List Nat :=
  (upto 8).filter (fun i => s.on (SUB_ENABLE i) && s.cf (SUB_MASTER_ID i) == master && s.cf (SUB_TRANSPORT i) == transport)

/-- A whole pass PDU for the subscriptions of a list: format, authentication, Table LS-4. -/
def State.passTake (s : State) (l : List Nat) (port : Nat) (p : PassPdu) (macOk : Bool) (rcv : Int) : State :=
  if !pduFormatOk p then s.bump NETC_FORMAT_DROPS
  else if !macOk || !s.lineKey p.keyId then
    -- R26: counted; no object shows the count (log entry 73)
    { s with dict := { s.dict with passDrops := (s.dict.passDrops + 1) % 2 ^ 32 } }.record 3 1 2 port 0
  else if l.isEmpty then s.bump LSC_UNSUBSCRIBED
  else each l s (fun s i => s.passOffer i (pduPass p) rcv)

/-- PASS_FRAME_RECEIVE: a pass frame at the service processors, its length and MAC verdict given (R104). -/
def execPassFrameReceive (port : Fin 3) (p : PassPdu) (len : Nat) (macOk stampLost : Bool) (off : Int) (s : State) :
    Host.Outcome State Fault Refusal :=
  .next (
    if !s.served then s
    else if stampLost then s.bump NETC_STAMP_LOSS
    else if len ≠ 76 then s.bump NETC_FORMAT_DROPS
    else s.passTake (s.subsOf p.master 1) port.val p macOk (s.now16 + off * 8192 + s.ingressShift port.val))

/-- A pass PDU read from its bytes (Table LT-11). -/
def parsePass (b : Bytes) : PassPdu :=
  let q (o : Nat) : Int := toS 64 (leAt b o 8)
  ⟨leAt b 0 1, leAt b 1 1, leAt b 2 1, leAt b 3 1, leAt b 4 4, leAt b 14 6, leAt b 10 4, leAt b 8 2,
    q 20, q 28, q 36, q 44, leAt b 52 4, leAt b 56 2⟩

/-- The bytes of a pass PDU before its MAC. -/
def passBytes (p : PassPdu) : Bytes :=
  leBytes 1 p.subtype ++ leBytes 1 p.version ++ leBytes 1 p.master ++ leBytes 1 p.flags ++ leBytes 4 p.sequence ++
  leBytes 2 p.t0Frac ++ leBytes 4 p.t0Ns ++ leBytes 6 p.t0Sec ++
  leBytes 8 (ofS 64 p.p0) ++ leBytes 8 (ofS 64 p.v0) ++ leBytes 8 (ofS 64 p.a0) ++ leBytes 8 (ofS 64 p.j) ++
  leBytes 4 p.validity ++ leBytes 2 p.keyId ++ leBytes 2 0

/-- Two halves as a PDU of 76 bytes (Table LS-6). -/
def joinHalves (a b : Bytes) : Bytes := a.take 48 ++ (b.drop 2).take 28

/-- The window of 1 ms of a half has ended at a line time (R331, R17, R18). -/
def Half.ended (h : Half) (t : Int) : Bool := decide (trunc125 (h.at_ + 1000000 * 65536) ≤ trunc125 t)

/-- One CAN pass frame offered to subscription `i`: joined with its partner, or kept waiting for it (R331). -/
def State.canHalf (s : State) (i c : Nat) (isA : Bool) (bs : Bytes) (macOk : Bool) (rcv : Int) : State :=
  let me : Half := ⟨isA, leAt bs (if isA then 2 else 0) 1, leAt bs (if isA then 4 else 1) 1, bs, rcv⟩
  match (s.sb i).half with
  | some h =>
    if h.isA != isA ∧ h.master = me.master ∧ h.seq8 = me.seq8 ∧ !h.ended rcv then
      let p := parsePass (if isA then joinHalves bs h.bytes else joinHalves h.bytes bs)
      let s := s.modSb i (fun x => { x with half := none })
      s.passTake (if s.cf (SUB_MASTER_ID i) = p.master then [i] else []) c p macOk rcv
    else (s.bump (SUB_REJECTED_TIME i)).modSb i (fun x => { x with half := some me })
  | none => s.modSb i (fun x => { x with half := some me })

/-- The line time of receipt of a CAN frame whose SOF lies `off` units of 125 ps from now, RX_DELAY taken off (R514), 2^-16 ns. -/
def State.canReceipt (s : State) (c : Nat) (off : Int) : Int := s.now16 + off * 8192 - ((s.cf (CAN_RX_DELAY c) * 65536 : Nat) : Int)

/-- CAN_PASS_FRAME: a frame of 48 or 32 bytes on a channel with an identifier, bit 31 for an extended one; the MAC verdict is
that of the assembled PDU. -/
def execCanPassFrame (c : Fin 4) (id : BitVec 32) (bytes : Bytes) (macOk : Bool) (off : Int) (s : State) :
    Host.Outcome State Fault Refusal :=
  .next (
    if !s.served then s
    else each ((upto 8).filter (fun i => s.on (SUB_ENABLE i) && s.cf (SUB_TRANSPORT i) == 2 && s.cf (SUB_CAN_CHANNEL i) == c.val)) s
      (fun s i =>
        if passIdent id.toNat = passIdent (s.cf (SUB_CAN_ID i)) ∧ bytes.length = 48 then
          s.canHalf i c.val true bytes macOk (s.canReceipt c.val off)
        else if passIdent id.toNat = passIdent (s.cf (SUB_CAN_ID i) + 1) ∧ bytes.length = 32 then
          s.canHalf i c.val false bytes macOk (s.canReceipt c.val off)
        else s))

/-- 1 ms without the partner (R331). -/
def execPassPartnerTimeout (i : Fin 8) (s : State) : Host.Outcome State Fault Refusal :=
  .next (if (s.sb i.val).half.any (fun h => h.ended s.now16) then
    (s.bump (SUB_REJECTED_TIME i.val)).modSb i.val (fun x => { x with half := none }) else s)

/-- Subscriptions at the instant a configuration takes effect: those whose objects changed start again (R324). -/
def State.subCommit (s : State) (changed : Nat → Bool) : State :=
  each (upto 8) s (fun s i =>
    if !s.on (SUB_ENABLE i) then (s.modSb i (fun _ => {})).setSub i sOff
    else if s.rd (SUB_STATE i) = sOff ∨ changed i then (s.modSb i (fun _ => {})).setSub i sWaiting
    else s)

/-- MASTER_P and MASTER_V at a virtual tick. -/
def State.subShow (s : State) : State :=
  each (upto 8) s (fun s i =>
    let m := (s.viewMaster i (s.subRun i s.now16 6 (s.subView i)) s.now16).getD ⟨0, 0, 0, 0⟩
    (s.wrPos (SUB_MASTER_P i) m.p).wrSat (SUB_MASTER_V i) m.v)

end Sys2Proof.Machine
end

