-- ==== Sys2Proof/Machine/Answer.lean ====
section
/-! DEFINITION. Answers to requests (R447, R102): the response of Table LT-10 on Quinup and the mailbox, SDO responses and
aborts on CAN, and the cached response of a session. -/
namespace Sys2Proof.Machine
open Obj

/-- An open session changed. -/
def State.modSession (s : State) (id : Nat) (f : Session → Session) : State :=
  { s with sec := { s.sec with sessions := s.sec.sessions.map (fun x => if x.id = id then f x else x) } }

/-- The response key of an open session. -/
def State.respKey (s : State) (id : Nat) : BitVec 256 := ((s.session id).map (·.respKey)).getD 0

/-- The request data that an answer to a write repeats. -/
def State.ctxOf (s : State) (w : Wr) (index sub : Nat) : Ctx :=
  ⟨w.chan, w.peer, w.session, w.reqId, w.fresh, 2, index, sub, 0, 0, s.respKey w.session⟩

/-- The trailer of a response (R423): the GCM tag over every byte before it. -/
def respTrailer (c : Ctx) (body : Bytes) : Bytes :=
  let nonce := leBytes 2 c.session ++ leBytes 1 1 ++ leBytes 1 0 ++ leBytes 4 c.fresh ++ leBytes 2 c.reqId ++ leBytes 2 0
  leBytes 16 (Config.gcmTag c.key nonce body).toNat

/-- The response datagram: OP + 0x80, STATUS and data, with the trailer of a session (Table LT-10, R423). -/
def respBytes (c : Ctx) (status : Nat) (data : Bytes) : Bytes :=
  let body := leBytes 2 0x5171 ++ leBytes 1 1 ++ leBytes 1 (c.op + 0x80) ++ leBytes 2 c.reqId ++ leBytes 2 c.session ++
    leBytes 4 c.fresh ++ leBytes 2 c.index ++ leBytes 1 c.sub ++ leBytes 1 c.flags ++ leBytes 4 c.seg ++
    leBytes 2 data.length ++ leBytes 2 0 ++ leBytes 4 status ++ data
  if c.session = 0 then body else body ++ respTrailer c body

/-- The payload of an SDO frame under an identifier, with the trailer of R425 in a session: under its response key. -/
def sdoTrailer (c : Ctx) (id : Nat) (data : Bytes) : Bytes :=
  if c.session = 0 then data else data ++ leBytes 4 c.fresh ++ leBytes 8 (Config.aesCmac c.key (macInput id c.fresh data)).toNat

/-- The SDO frame of an answer (CiA 301): abort, response to a download or to the segment that ends one (`flags` is its toggle
bit), or upload response, expedited up to 4 bytes. -/
def sdoBytes (c : Ctx) (status : Nat) (data : Bytes) : Bytes :=
  let mux := leBytes 2 c.index ++ leBytes 1 c.sub
  if status ≠ 0 then [0x80] ++ mux ++ leBytes 4 status
  else if c.op = 2 then [0x60] ++ mux ++ leBytes 4 0
  else if c.op = 4 then leBytes 1 (0x20 + 16 * (c.flags % 2)) ++ leBytes 7 0
  else if 1 ≤ data.length ∧ data.length ≤ 4 then
    leBytes 1 (0x43 + 4 * (4 - data.length)) ++ mux ++ data ++ List.replicate (4 - data.length) 0
  else [0x41] ++ mux ++ leBytes 4 data.length

/-- The response of a session kept for a repeat (R102): that of the last request which the session executed, so a late answer to an
earlier one replaces nothing. -/
def State.cache (s : State) (c : Ctx) (b : Bytes) : State :=
  s.modSession c.session (fun x =>
    if x.accepted = some (c.reqId, c.fresh) then { x with cached := some (c.reqId, c.fresh, b) } else x)

/-- An answer leaves: on Quinup to where the request came from (R100); there and on the mailbox it is also the cached response of its
session. -/
def State.answer (s : State) (c : Ctx) (status : Nat) (data : Bytes) : State :=
  match c.chan with
  | .can k => 
    let id := s.cf (SDO_COB_TX k.val)
    s.canSend k.val id (sdoTrailer c id (sdoBytes c status data))
  | .quinup =>
    let b := respBytes c status data
    (s.cache c b).sendUdp c.peer b
  | .mailbox =>
    let b := respBytes c status data
    let s := s.cache c b
    { s with host := { s.host with mbxReply := some b } }

/-- The answer of a taken request, if a requester waits. -/
def State.answerTo (s : State) (c : Option Ctx) (status : Nat) : State :=
  match c with
  | some c => s.answer c status []
  | none => s

/-- A request answered busy because the queue of its channel is full (Table AR-11). It is not executed, but it is the last accepted
request of its session, and the busy answer is what a repeat of it gets: the spec does not join the two rules (log entry 84). -/
def State.busy (s : State) (c : Ctx) : State :=
  ({ s with dict := { s.dict with busyReplies := (s.dict.busyReplies + 1) % 2 ^ 32 } }).answer c cBusy []

/-- A result answered: the state it gives and its code. -/
def Res.reply (r : Res) (c : Ctx) : State := r.st.answer c r.code []

/-! ### The session of a request (R102, R424) -/

/-- A session authentication failure (R424, R26): counted, recorded (log entry 73; `port` is that of a Quinup request), and audited at
the first of a run. -/
def State.sessionFail (s : State) (ch : Chan) (port id : Nat) : State :=
  let s := s.bump SES_SESSION_FAILS
  let s := match ch with
    | .can c => s.record 3 1 5 c.val 0
    | .quinup => s.record 3 1 3 port 0
    | .mailbox => s.record 3 1 0 0 0
  match s.session id with
  | some x =>
    if x.failRun then s else (s.modSession id (fun x => { x with failRun := true })).audit 0x08 0 0 id
  | none => s

/-- What becomes of a request of a session: executed, answered again from the cache (R102), left alone because the request that it
repeats still waits for its answer, or dropped (R424). -/
inductive Gate where
  | go
  | again (b : Bytes)
  | wait
  | drop
  deriving DecidableEq, Repr, Inhabited

/-- The check of a request's session, REQUEST_ID, FRESHNESS and trailer (R102, R424); R102 does not apply to CAN. -/
def State.gate (s : State) (ch : Chan) (session reqId fresh : Nat) (macOk : Bool) : Gate :=
  if session = 0 then .go
  else match s.session session with
    | some x =>
      let isCan := match ch with
        | .can _ => true
        | _ => false
      if !macOk then .drop
      else if !isCan ∧ x.accepted = some (reqId, fresh) then
        match x.cached with
        | some (r, f, b) => if r = reqId ∧ f = fresh then .again b else .wait
        | none => .wait
      else if fresh ≤ x.fresh then .drop else .go
    | none => .drop

/-- A request of a session is accepted (R424); SESSION_ID 0 is no session (R404). -/
def State.acceptFresh (s : State) (session reqId fresh : Nat) : State :=
  if session = 0 then s
  else s.modSession session (fun x => { x with fresh := fresh, accepted := some (reqId, fresh), failRun := false, usedAt := s.clock })

/-- A request ends without an answer: the mailbox shows DROPPED when it completes (R484). -/
def State.dropRequest (s : State) (ch : Chan) : State :=
  if ch = .mailbox then { s with host := { s.host with mbxDropped := true } } else s

/-- An answer sent again from the cache (R102). -/
def State.resend (s : State) (ch : Chan) (peer : Peer) (b : Bytes) : State :=
  match ch with
  | .mailbox => { s with host := { s.host with mbxReply := some b } }
  | .quinup => s.sendUdp peer b
  | .can _ => s

/-- A request passes its session's check and is executed, is answered again, or is dropped (R102, R424). -/
def State.gated (s : State) (c : Ctx) (macOk : Bool) (f : State → State) : State :=
  match s.gate c.chan c.session c.reqId c.fresh macOk with
  | .go => f (s.acceptFresh c.session c.reqId c.fresh)
  | .again b => s.resend c.chan c.peer b
  | .wait => s.dropRequest c.chan
  | .drop => (s.sessionFail c.chan c.peer.land.val c.session).dropRequest c.chan

end Sys2Proof.Machine
end

