-- ==== Sys2Proof/Machine/Range.lean ====
section
/-! DEFINITION. Ranges (R441): whether a value lies in the type and the range of its object, and whether a mapping entry names
an object that may be mapped (R458). -/
namespace Sys2Proof.Machine
open Obj

/-- The instance number of an index in a row's family. -/
def Row.inst (w : Row) (i : Nat) : Nat := (i - w.idx) / w.stride

/-- The value as the integer its type reads. -/
def OTy.int (t : OTy) (v : Nat) : Int := if t.signed then toS (8 * t.size) v else (v : Int)

/-- A transmit mapping entry is allowed (R458); `rx` for a receive one. -/
def mapOk (rx : Bool) (v : Nat) : Bool :=
  match findRow (v / 65536) (v / 256 % 256) with
  | some w =>
    v % 256 == 8 * w.ty.size && decide (0 < w.ty.size) && w.mappable &&
    (if rx then
      !w.isSealed && decide (w.writeRole ≤ 2) && (match w.acc with | .rw | .w1s | .w1c => true | _ => false)
    else decide (w.readRole ≤ 1))
  | none => false

/-- Receive mappings are 1600h to 160Fh and 1C80h to 1C87h. -/
def rxMapIdx (i : Nat) : Bool := (decide (0x1600 ≤ i) && decide (i < 0x1610)) || (decide (0x1c80 ≤ i) && decide (i < 0x1c88))

/-- Every class of PCP_MAP is 0 to 2. -/
def pcpOk (v : Nat) : Bool := (upto 8).all (fun i => v >>> (2 * i) % 4 != 3)

/-- The bits of a value that the object `k` has; writes to reserved ones are ignored (R4). -/
def keepBits (k v : Nat) : Nat :=
  match findRow (k / 256) (k % 256) with
  | some w => (match w.rng with
    | .bits m => v &&& m
    | _ => v)
  | none => v

/-- MO_CONFIG of a channel, whose DIRECTION and FORMAT have no value 3 (Table CN-6). -/
def moConfigIdx (i : Nat) : Bool := decide (0x2710 ≤ i) && decide (i < 0x2750) && i % 16 == 0

/-- The value lies in its range, where that is checked at the write: `i` is the index, `n` the length in bytes. -/
def State.rangeOk (s : State) (w : Row) (i n v : Nat) : Bool :=
  match w.rng with
  | .any | .w1c _ => true
  | .bits _ => !moConfigIdx i || (v % 4 != 3 && v / 4 % 4 != 3)
  | .iv l => l.any (fun e => decide (e.1 ≤ w.ty.int v) && decide (w.ty.int v ≤ e.2))
  | .f lo hi => F.le lo v && F.le v hi
  | .fLim lim => F.le (F.abs v) (s.cf (lim (w.inst i)))
  | .pos => decide (0 < q32 v)
  | .nonneg => decide (0 ≤ q32 v)
  | .pcp => pcpOk v
  | .fbMode => decide (v ≤ 3) || (v == 4 && decide (w.inst i < 4))
  | .homing => decide (1 ≤ v) && decide (v ≤ 12) && (decide (w.inst i < 16) || [2, 4, 9, 10, 11].contains v)
  | .qMod =>
    let u := s.cf (REG_LATCH_UNIT (w.inst i))
    decide (0 ≤ q32 v) && (decide (16 ≤ u) || decide (q32 v ≤ s.cq (LU_WIN_MODULUS u)))
  | .map => true
  | .len lo hi => decide (lo ≤ n) && decide (n ≤ hi)

/-- The object's value lies in its constant range. -/
def State.keyInRange (s : State) (k : Nat) : Bool :=
  match findRow (k / 256) (k % 256) with
  | some w => s.rangeOk w (k / 256) w.ty.size (s.rd k)
  | none => true

end Sys2Proof.Machine
end

