-- ==== Sys2Proof/Machine/Cascade.lean ====
section
/-! DEFINITION. The control cascade (chapter 05): coefficient banks and their swaps, the laws of L2, L3 and L4, output
instants, and deadline misses; and the snapshot page of an axis (R480). -/
namespace Sys2Proof.Machine
open Obj

def State.cs (s : State) (n : Nat) : CascSt := at' s.casc n
def State.modCs (s : State) (n : Nat) (f : CascSt → CascSt) : State :=
  { s with casc := s.casc.setIfInBounds n (f (s.cs n)) }

/-! ### Snapshot pages (R480, Table HE-5) -/

/-- A current cell of a bench unit runs in shadow. -/
def State.shadow (s : State) (n : Nat) : Bool := s.isBench && (s.ccMode n == 1 || s.ccMode n == 3 || s.ccMode n == 4)

/-- CC_STATUS with its fields SHADOW and DRIVEN (Table PW-14). -/
def State.ccStatus (s : State) (n : Nat) : Nat :=
  Sys2Proof.putBit (Sys2Proof.putBit (s.rd (CCV_CC_STATUS n)) 6 (s.shadow n)) 7
    (s.legSet n != 0 && clrMask (s.legSet n) s.leg.driven == 0)

/-- The objects of a page in the order of Table HE-5, with their offsets and byte counts. -/
def pageObjects (n : Nat) : List (Nat × Nat × Nat) :=
  let q := [AF_POSITION n, AF_SPEED n, PRF_P_SET n, PRF_V_SET n, PRF_A_SET n, CV_FOLLOWING_ERROR n, CV_V_REF n,
    CV_TRIM_OFFSET n, FOL_PHASE_APPLIED n, REG_TOTAL n]
  let f := [CV_IQ_CMD n, CCV_I_D n, CCV_I_Q n, CCV_V_D n, CCV_V_Q n, CCV_VDC n, CCV_LOAD_INDICATOR n, CV_PV n, CV_U4 n,
    STL_LOAD_ANGLE n]
  [(0x004, 1, AX_AXIS_STATE n), (0x005, 1, AX_MOTION_MODE n), (0x006, 1, ST_FAULT_CAUSE n)] ++
  (q.zipIdx.map (fun e => (0x010 + 8 * e.2, 8, e.1))) ++
  [(0x060, 4, ST_AXIS_STATUS n), (0x064, 2, CCV_CC_STATUS n), (0x066, 1, CV_CASCADE_STATUS n),
    (0x068, 2, LSS_LS_STATUS n), (0x06c, 4, AX_COMMAND_RESULT n)] ++
  (f.zipIdx.map (fun e => (0x070 + 4 * e.2, 4, e.1)))

/-- The 32-bit words of a page for axis `n`, by offset; words that read 0 are not listed. SAMPLE_STAMP is `stamp`. -/
def State.pageWords (s : State) (n stamp : Nat) : List (Nat × Nat) :=
  let value (k : Nat) : Nat := if k = CCV_CC_STATUS n ∧ n < 16 then s.ccStatus n else s.rd k
  let parts := (pageObjects n).map (fun e => (e.1, value e.2.2)) ++ [(0x008, stamp)]
  let word (o : Nat) : Nat := parts.foldl (fun a e =>
    if e.1 / 4 * 4 = o then a + e.2 % 2 ^ 32 * 2 ^ (8 * (e.1 % 4)) % 2 ^ 32
    else if e.1 + 4 = o ∧ e.1 % 8 = 0 then a + e.2 / 2 ^ 32 else a) 0
  ((upto 38).map (fun i => (4 * i, word (4 * i)))).filter (fun e => e.2 != 0)

def State.modPage (s : State) (n : Nat) (f : Page → Page) : State :=
  { s with host := { s.host with pages := s.host.pages.setIfInBounds n (f (at' s.host.pages n)) } }

/-- A publication instant: the page of the previous one is published. -/
def State.pageSwap (s : State) (n : Nat) : State :=
  s.modPage n (fun p => { p with active := p.filling, seq := (p.seq + 1) % 2 ^ 32 })

/-- The sample of this publication instant fills the inactive buffer. -/
def State.pageFill (s : State) (n : Nat) : State :=
  s.modPage n (fun p => { p with filling := s.pageWords n (s.stamp 0), at_ := some s.now })

/-- Levels that run for the instant of the sample being filled complete it. -/
def State.pageMore (s : State) (n : Nat) : State :=
  if (at' s.host.pages n).at_ = some s.now then s.pageFill n else s

/-! ### Banks (R248 to R252) -/

/-- The active bank of level `lv` (1 to 4): 0 A, 1 B. -/
def State.bank (s : State) (n lv : Nat) : Nat := if s.bitOf (BNK_BANK_ACTIVE n) (lv - 1) then 1 else 0

/-- A coefficient of the active bank. -/
def State.coef (s : State) (k : Nat → Nat → Nat) (n lv : Nat) : Nat := s.rd (k n (s.bank n lv))

/-- The coefficients of a bank. -/
def bankKeys (n b lv : Nat) : List Nat :=
  match lv with
  | 1 => [L1B_KP_D n b, L1B_KI_D n b, L1B_KP_Q n b, L1B_KI_Q n b, L1B_L_D n b, L1B_L_Q n b, L1B_R_S n b, L1B_PSI_PM n b]
  | 2 => [L2B_KP_V n b, L2B_KI_V n b, L2B_BQ1_B0 n b, L2B_BQ1_B1 n b, L2B_BQ1_B2 n b, L2B_BQ1_A1 n b, L2B_BQ1_A2 n b,
      L2B_BQ2_B0 n b, L2B_BQ2_B1 n b, L2B_BQ2_B2 n b, L2B_BQ2_A1 n b, L2B_BQ2_A2 n b, L2B_OBS_BW n b, L2B_KT_J n b,
      L2B_DIST_COMP n b]
  | 3 => [L3B_KV n b, L3B_KVFF n b, L3B_KAFF n b]
  | _ => [L4B_KP4 n b, L4B_KI4 n b, L4B_KD4 n b, L4B_TF4 n b, L4B_B_W n b, L4B_C_W n b, L4B_SP_RATE n b, L4B_SP_TF n b,
      L4B_U4_LIMIT n b, L4B_U4_RATE n b]

/-- A biquad is refused (Table CL-6). -/
def biquadBad (a1 a2 : Nat) : Bool := F.le F.one (F.abs a2) || F.le (F.add F.one a2) (F.abs a1)

/-- −2π in binary64. -/
def negTwoPiD : Nat := 0xc01921fb54442d18

/-- A bank passes Table CL-6. -/
def State.bankOk (s : State) (n lv b : Nat) : Bool :=
  (bankKeys n b lv).all (fun k => s.keyInRange k) &&
  (lv != 2 ||
    (!biquadBad (s.rd (L2B_BQ1_A1 n b)) (s.rd (L2B_BQ1_A2 n b)) && !biquadBad (s.rd (L2B_BQ2_A1 n b)) (s.rd (L2B_BQ2_A2 n b)) &&
      !(s.on (CAS_OBS_ENABLE n) &&
        D.lt (f64.ofDy 1 0) (D.mul (D.mul (D.neg negTwoPiD) (D.ofF (s.rd (L2B_OBS_BW n b)))) (secondsD (s.t2 n))))))

/-- A write of SWAP_REQUEST, taken at this core clock (R248, R251). -/
def State.swapRequest (s : State) (n m : Nat) : Res :=
  let ask := (bitsOf (m % 16)).filter (fun i => !s.bitOf (BNK_SWAP_PENDING n) i)
  if ask.all (fun i => s.bankOk n (i + 1) (1 - s.bank n (i + 1))) then
    let now := s.clock
    okRes (each ask (s.modCs n (fun c => { c with swapAt := Vector.ofFn (fun i =>
      if i.val ∈ ask then now else at' c.swapAt i.val) })) (fun s i => s.setBit (BNK_SWAP_PENDING n) i))
  else refuse s cRange

/-- A sample instant of level `lv`: a swap requested at an earlier core clock takes effect (R249, R250). -/
def State.bankSwap (s : State) (n lv : Nat) : State :=
  if s.bitOf (BNK_SWAP_PENDING n) (lv - 1) = true ∧ at' (s.cs n).swapAt (lv - 1) < s.clock then
    ((s.putBit (BNK_BANK_ACTIVE n) (lv - 1) (s.bank n lv == 0)).clrBit (BNK_SWAP_PENDING n) (lv - 1)).bump (BNK_SWAP_COUNT n)
  else s

def execBankSwap (n : Fin 16) (lv : Fin 4) (s : State) : Host.Outcome State Fault Refusal :=
  .next (s.bankSwap n.val (lv.val + 1))

/-! ### Which levels run (R233, R234, R236) -/

def State.ctlMode (s : State) (n : Nat) : Nat := s.cf (CAS_CONTROL_MODE n)

/-- L2 and L3 are in the axis's configuration. -/
def State.loops (s : State) (n : Nat) : Bool :=
  (s.ccMode n == 1 || s.ccMode n == 4) && (s.ctlMode n == 2 || s.ctlMode n == 3)

def State.l2On (s : State) (n : Nat) : Bool := s.loops n && s.stageOn n
def State.l4On (s : State) (n : Nat) : Bool := s.cf (L4_MODE n) != 0 && s.onCarrier n && s.stageOn n

/-- A level's state at its initial values, with an output of 0, while it does not compute (R236). In CONTROL_MODE 1 the output of
L2 is TORQUE_SET, which OUTPUT_INSTANT publishes. -/
def State.idle2 (s : State) (n : Nat) : State :=
  let s := s.modCs n (fun c => { c with on2 := false, iqHeld := 0, iqPub := if s.ctlMode n = 1 ∧ s.stageOn n = true then c.iqPub else 0 })
  ((s.wr (CV_IQ_CMD n) 0).wrSat (CV_V_HAT n) (s.speedOf n)).wr (CV_A_HAT n) 0
def State.idle3 (s : State) (n : Nat) : State :=
  let s := s.modCs n (fun c => { c with on3 := false, vHeld := 0, ffHeld := 0, vPub := 0, ffPub := 0 })
  ((s.wrSat (CV_V_REF n) 0).wr (CV_I_FF n) 0).wrSat (CV_TRIM_OFFSET n) 0
def State.idle4 (s : State) (n : Nat) : State :=
  (s.modCs n (fun c => { c with on4 := false, started4 := false, u4Held := 0, u4Pub := 0 })).wr (CV_U4 n) 0

/-- Generation of a physical axis hands its set-point on while the power stage is on, else 0 (R234, R236). -/
def State.handOn (s : State) (n : Nat) (p v : Int) : State :=
  s.modCs n (fun c => if s.stageOn n then { c with pSetHeld := p, vSetHeld := v }
    else { c with pSetHeld := 0, vSetHeld := 0, pSetPub := 0, vSetPub := 0 })

/-- A completed sample of a level ends its run of misses (R267): 0 for L2, 1 for L3, 2 for L4. -/
def State.completed (s : State) (n i : Nat) : State :=
  let s := s.modAx n (fun a => { a with consecMiss := a.consecMiss.setIfInBounds i 0 })
  if physical n then
    s.wr (MISS_CONSEC_MISS n) ((upto 3).foldl (fun m j => max m (at' (s.ax n).consecMiss j)) 0)
  else s

/-! ### L2 (R237 to R240) -/

/-- −1, 0 or 1 for a binary32 value. -/
def signF (x : Nat) : Int := if F.lt x 0 then -1 else if F.lt 0 x then 1 else 0

/-- Two values have the same, non-zero sign. -/
def sameSign (x y : Nat) : Bool := signF x == signF y && signF x != 0

/-- The lower of two binary32 values. -/
def minF (x y : Nat) : Nat := if F.lt y x then y else x

/-- The clamp of the i_q reference: IQ_LIMIT, in SETUP also SETUP_IQ_LIMIT (R297); HARD_STOP_CURRENT in the HARD_STOP phase
(R304). -/
def State.iqClamp (s : State) (n : Nat) : Nat :=
  let hard := s.homing n && (match s.homePhase n with | .hardStop => true | _ => false)
  let l := if hard then s.cf (HOM_HARD_STOP_CURRENT n) else s.cf (CAS_IQ_LIMIT n)
  if s.inSetup n then minF l (s.cf (LIM_SETUP_IQ_LIMIT n)) else l

/-- A value negated where DIRECTION is 1 (R188). -/
def State.dirF (s : State) (n x : Nat) : Nat := if s.on (AF_DIRECTION n) then F.neg x else x

/-- A biquad in transposed direct form II (R238): output and states. -/
def biquad (b0 b1 b2 a1 a2 x s1 s2 : Nat) : Nat × Nat × Nat :=
  let y := F.add (F.mul b0 x) s1
  (y, F.add (F.sub (F.mul b1 x) (F.mul a1 y)) s2, F.sub (F.mul b2 x) (F.mul a2 y))

/-- One step of the observer (R240). -/
def State.observe (s : State) (n : Nat) : State :=
  let c := s.cs n
  let t2 := secondsD (s.t2 n)
  let one := D.ofInt 1
  let lam := (Config.exp64 (BitVec.ofNat 64
    (D.mul (D.mul negTwoPiD (D.ofF (s.coef L2B_OBS_BW n 2))) t2))).toNat
  let om := D.sub one lam
  let g1 := D.sub one (D.mul (D.mul lam lam) lam)
  let g2 := D.mul (D.mul (D.mul (f64.ofRat 3 2) om) om) (D.add one lam)
  let g3 := D.mul (D.mul om om) om
  let am := D.mul (D.ofF (s.coef L2B_KT_J n 2)) (D.ofF (s.dirF n (s.rd (CCV_I_Q n))))
  let acc := D.add am c.aHat
  let ppr := wrapPos (c.pHat + D.toQ (D.add (D.mul (D.ofQ c.vHat) t2) (D.div (D.mul (D.mul acc t2) t2) (D.ofInt 2))))
  let vpr := D.add (D.ofQ c.vHat) (D.mul acc t2)
  let r := D.ofQ (posDiff (s.posOf n) ppr)
  let a := D.add c.aHat (D.div (D.mul g3 r) (D.mul t2 t2))
  let v := D.toQ (D.add vpr (D.div (D.mul g2 r) t2))
  let s := s.modCs n (fun c => { c with pHat := wrapPos (ppr + D.toQ (D.mul g1 r)), vHat := v, aHat := a })
  (s.wrSat (CV_V_HAT n) v).wr (CV_A_HAT n) (D.toF a)

/-- The hard-stop condition at an L2 sample (R304). -/
def State.hardStopStep (s : State) (n : Nat) (limited : Bool) : State :=
  if s.homing n && (match s.homePhase n with | .hardStop => true | _ => false) && !(s.ax n).home.turning then
    if limited && decide (8 * absI (s.speedOf n) < s.cq (HOM_HOMING_SLOW n)) then
      let t := match (s.ax n).home.hardTime with | some t => t + (s.t2 n).toNat | none => 0
      let s := s.modAx n (fun a => { a with home := { a.home with hardTime := some t } })
      if s.cf (HOM_HARD_STOP_TIME n) * 1000 * 2 ^ 32 ≤ t then s.latchEdge n s.nowT (s.posOf n) else s
    else s.modAx n (fun a => { a with home := { a.home with hardTime := none } })
  else s

/-- L2 at its sample instant (Table CL-3). -/
def State.l2Law (s : State) (n : Nat) : State :=
  let obs := s.on (CAS_OBS_ENABLE n)
  let s := if (s.cs n).on2 then s else ((s.modCs n (fun c => { c with
    on2 := true, iV := 0, s11 := 0, s12 := 0, s21 := 0, s22 := 0, aHat := 0, pHat := s.posOf n, vHat := s.speedOf n })).wrSat
    (CV_V_HAT n) (s.speedOf n)).wr (CV_A_HAT n) 0
  let s := if obs then s.observe n else s
  let c := s.cs n
  let k (f : Nat → Nat → Nat) : Nat := s.coef f n 2
  let vfb := if obs then c.vHat else s.speedOf n
  let ev := F.ofQ (satS 64 (c.vPub - vfb))
  let u := F.add (F.mul (k L2B_KP_V) ev) c.iV
  let (y1, s11, s12) := biquad (k L2B_BQ1_B0) (k L2B_BQ1_B1) (k L2B_BQ1_B2) (k L2B_BQ1_A1) (k L2B_BQ1_A2) u c.s11 c.s12
  let (y2, s21, s22) := biquad (k L2B_BQ2_B0) (k L2B_BQ2_B1) (k L2B_BQ2_B2) (k L2B_BQ2_A1) (k L2B_BQ2_A2) y1 c.s21 c.s22
  let i0 := F.add y2 c.ffPub
  let i := if obs then F.sub i0 (F.div (F.mul (k L2B_DIST_COMP) (D.toF c.aHat)) (k L2B_KT_J)) else i0
  let cmd := F.clampAbs (s.iqClamp n) i
  let limited := !F.eq cmd i
  let stop := (limited && sameSign ev i) || (s.bitOf (CCV_CC_STATUS n) 1 && sameSign ev cmd)
  let iV := if stop then c.iV else F.add c.iV (F.mul (F.mul (k L2B_KI_V) (secondsF (s.t2 n))) ev)
  let s := s.modCs n (fun c => { c with iV := iV, s11 := s11, s12 := s12, s21 := s21, s22 := s22, iqHeld := cmd })
  (((s.wr (CV_IQ_CMD n) cmd).putBit (CV_CASCADE_STATUS n) 0 limited).hardStopStep n limited).completed n 0

/-- L2_SAMPLE: a pending swap, then L2 if its axis's power stage is on (R236, R249). -/
def execL2Sample (n : Fin 16) (s : State) : Host.Outcome State Fault Refusal :=
  let s := s.bankSwap n.val 2
  .next ((if s.isBench then s else if s.l2On n.val then s.l2Law n.val else s.idle2 n.val).pageMore n.val)

/-! ### L3 (R242, R243) -/

/-- L3 with the compensated set-point of the axis (Table CL-2, R242, R243). A stepper cell takes p_set and v_set (R234). -/
def State.l3Law (s : State) (n : Nat) : State :=
  let (cv, dv, neg) := s.compensation n
  let s := ((s.wrPos (COMPA_COMP_VALUE n) cv)).putBit (LSS_LS_STATUS n) 8 neg
  if !physical n then s
  else
    let s := s.handOn n (wrapPos (s.pSet n + cv)) (satS 64 (s.vSet n + dv))
    if !s.l2On n then s.idle3 n
    else
      let s := if (s.cs n).on3 then s else (s.wrSat (CV_TRIM_OFFSET n) 0).modCs n (fun c => { c with on3 := true })
      let c := s.cs n
      let u4 := c.u4Pub
      let mode := s.cf (L4_MODE n)
      let lim := s.cq (CAS_TRIM_LIMIT n)
      let sum := s.q (CV_TRIM_OFFSET n) + D.toQ (D.mul (D.ofF u4) (secondsD (s.t3 n)))
      let acted := mode == 2 && decide (lim < absI sum)
      let trim := if mode = 2 then clampI (-lim) lim sum else 0
      let acted := acted || (mode == 2 && lim == 0 && signF u4 != 0)
      let p := c.pSetHeld + (if mode = 1 then F.toQ u4 else trim)
      let v := c.vSetHeld + (if mode = 2 ∧ !acted then F.toQ u4 else 0)
      let s := if mode = 2 then s.wrSat (CV_TRIM_OFFSET n) trim else s
      let e := posDiff p (s.posOf n)
      let kv := if s.ctlMode n = 2 then 0 else D.ofF (s.coef L3B_KV n 3)
      let raw := D.add (D.mul kv (D.ofQ e)) (D.mul (D.ofF (s.coef L3B_KVFF n 3)) (D.ofQ (satS 64 v)))
      let ol := s.cq (CAS_L3_OUT_LIMIT n)
      let vr0 := f64.toIntNearest raw 32
      let vr := clampI (-ol) ol vr0
      let ff := F.mul (s.coef L3B_KAFF n 3) (F.ofQ (s.aSet n))
      let s := s.modCs n (fun c => { c with vHeld := vr, ffHeld := ff })
      let s := ((s.wrSat (CV_V_REF n) vr).wr (CV_I_FF n) ff).wrPos (CV_FOLLOWING_ERROR n) e
      ((s.putBit (CV_CASCADE_STATUS n) 1 (vr != vr0)).putBit (CV_CASCADE_STATUS n) 3 acted)

/-! ### L4 (R244 to R247) -/

/-- The source of the process value (Table CL-4): pv before it is called stale, and whether it is stale (R245). A latch source
counts the captures stamped before now. -/
def State.processValue (s : State) (n : Nat) : Nat × Bool :=
  let src := s.cf (L4_PV_SOURCE n)
  let off := s.cq (L4_PV_OFFSET n)
  let scale (d : Nat) : Nat := F.mul (s.cf (L4_PV_SCALE n)) d
  let plain (x : Nat) : Nat := scale (F.sub x (F.ofQ off))
  let lost (m : Nat) : Bool := physical m && !s.posValid m
  if src < 4 then (plain (s.rd (AIN_VALUE src)), s.bitOf (AIN_STATUS src) 1)
  else if 0x10 ≤ src ∧ src < 0x20 then
    let u := src - 0x10
    match (s.lu u).recent.find? (fun c => decide (c.t < s.nowT)) with
    | none => (0, true)
    | some c =>
      let m := s.cq (LU_WIN_MODULUS u)
      let x := at' c.pos 0
      let x := if 0 < m then x - m * x.fdiv m else x
      let tmo := s.cf (L4_PV_TIMEOUT n)
      (scale (F.ofQ (posDiff x off)), tmo != 0 && decide ((tmo * 8000000 / 1000 : Nat) < s.nowT - c.t))
  else if 0x20 ≤ src ∧ src < 0x40 then
    let m := src - 0x20
    let t0 := if physical m then (s.ax m).sampT else (s.ax m).genT
    (scale (F.ofQ (posDiff (wrapPos (carry (s.posOf m) (s.speedOf m) (s.nowT - t0))) off)), lost m)
  else if 0x40 ≤ src ∧ src < 0x60 then (plain (F.ofQ (s.speedOf (src - 0x40))), lost (src - 0x40))
  else if 0x60 ≤ src ∧ src < 0x70 then (plain (s.rd (CCV_I_Q (src - 0x60))), false)
  else (plain (s.rd (L4_PV_DIRECT n)), false)

/-- Steps 1 and 2 of Table CL-5: the rate-limited and the filtered set-point. -/
def State.shape4 (s : State) (n rl rs : Nat) : Nat × Nat :=
  let t4 := secondsF (s.t4 n)
  let rate := s.coef L4B_SP_RATE n 4
  let sp := s.rd (L4_SETPOINT n)
  let rl := if F.eq rate 0 then sp else F.add rl (F.clampAbs (F.mul rate t4) (F.sub sp rl))
  (rl, F.add rs (F.mul (F.div t4 (F.add (s.coef L4B_SP_TF n 4) t4)) (F.sub rl rs)))

/-- L4 with a fresh process value (Table CL-5). -/
def State.l4Fresh (s : State) (n pv : Nat) : State :=
  let k (f : Nat → Nat → Nat) : Nat := s.coef f n 4
  let s := if (s.cs n).started4 then s else s.modCs n (fun c => { c with
    started4 := true, rRl := pv, rS := pv, i4 := 0, d4 := 0, yPrev := F.sub (F.mul (k L4B_C_W) pv) pv, uPrev := 0, stale := false })
  let c := s.cs n
  let t4 := secondsF (s.t4 n)
  let (rl, rs) := s.shape4 n c.rRl c.rS
  let e := F.sub rs pv
  let p := F.mul (k L4B_KP4) (F.sub (F.mul (k L4B_B_W) rs) pv)
  let y := F.sub (F.mul (k L4B_C_W) rs) pv
  let y0 := if c.stale then y else c.yPrev
  let al := F.div (k L4B_TF4) (F.add (k L4B_TF4) t4)
  let d := F.add (F.mul al c.d4) (F.div (F.mul (F.mul (F.sub F.one al) (k L4B_KD4)) (F.sub y y0)) t4)
  let sum := F.add (F.add (F.add p c.i4) d) (s.rd (L4_FF4 n))
  let u := if s.on (L4_U4_INVERT n) then F.neg sum else sum
  let rt := k L4B_U4_RATE
  let w := F.mul rt t4
  let u1 := if F.eq rt 0 then u else F.clamp (F.sub c.uPrev w) (F.add c.uPrev w) u
  let u2 := F.clampAbs (k L4B_U4_LIMIT) u1
  let acted := !F.eq u1 u || !F.eq u2 u1
  let i4 := if acted || s.bitOf (CV_CASCADE_STATUS n) 3 then c.i4 else F.add c.i4 (F.mul (F.mul (k L4B_KI4) t4) e)
  let s := s.modCs n (fun c => { c with
    rRl := rl, rS := rs, i4 := i4, d4 := d, yPrev := y, uPrev := u2, u4Held := u2, stale := false })
  ((((s.wr (CV_PV n) pv).wr (CV_SP_SHAPED n) rs).wr (CV_U4 n) u2).putBit (CV_CASCADE_STATUS n) 2 acted).clrBit
    (CV_CASCADE_STATUS n) 4

/-- L4 at a stale sample: the previous u4 stays, and step 7 has not acted (R246, R270). -/
def State.l4Stale (s : State) (n : Nat) : State :=
  let first := !(s.cs n).stale
  let s := ((s.modCs n (fun c => { c with stale := true })).setBit (CV_CASCADE_STATUS n) 4).clrBit (CV_CASCADE_STATUS n) 2
  let s := if first then s.record 4 9 0 n 0 else s
  if s.on (L4_PV_STALE_FAULT n) then s.raiseB n fcProcess else s

/-- L4 at its sample instant. -/
def State.l4Law (s : State) (n : Nat) : State :=
  let s := if (s.cs n).on4 then s
    else (s.modCs n (fun c => { c with on4 := true, started4 := false, stale := false, u4Held := 0 })).wr (CV_U4 n) 0
  let (pv, old) := s.processValue n
  (if old then s.l4Stale n else s.l4Fresh n pv).completed n 2

/-- L4_SAMPLE. -/
def execL4Sample (n : Fin 16) (s : State) : Host.Outcome State Fault Refusal :=
  let s := s.bankSwap n.val 4
  .next ((if s.isBench then s else if s.l4On n.val then s.l4Law n.val else s.idle4 n.val).pageMore n.val)

/-! ### Output instants (R30, R31, R232) -/

/-- OUTPUT_INSTANT: the held output of L2, L3 or L4 (`lv` 0 to 2) is published; in CONTROL_MODE 1 TORQUE_SET takes the place
of the L2 output. The output of a level that does not compute is 0 (R236). -/
def State.publishLevel (s : State) (n lv : Nat) : State :=
  match lv with
  | 0 =>
    let v := if s.ctlMode n = 1 then (if s.stageOn n then s.rd (CAS_TORQUE_SET n) else 0)
      else if s.l2On n then (s.cs n).iqHeld else 0
    s.modCs n (fun c => { c with iqPub := v })
  | 1 => s.modCs n (fun c => { c with
      vPub := if s.l2On n then c.vHeld else 0, ffPub := if s.l2On n then c.ffHeld else 0,
      pSetPub := if s.stageOn n then c.pSetHeld else 0, vSetPub := if s.stageOn n then c.vSetHeld else 0, tOut := s.sched / (tickU : Int) })
  | _ => s.modCs n (fun c => { c with u4Pub := if s.l4On n then c.u4Held else 0 })

def execOutputInstant (n : Fin 16) (lv : Fin 3) (s : State) : Host.Outcome State Fault Refusal :=
  .next (if s.isBench then s else s.publishLevel n.val lv.val)

/-! ### Deadlines (R265 to R267) -/

/-- A miss of a level of an axis (`lv` 0 to 2 for L2 to L4): the item is abandoned, its level keeps its state, and a
generation item lets the time of its plan pass. -/
def State.miss (s : State) (n lv late : Nat) : State :=
  let i := if physical n then lv else 1
  let s := s.modAx n (fun a => { a with
    consecMiss := a.consecMiss.setIfInBounds i (at' a.consecMiss i + 1),
    tPlan := if i = 1 then a.tPlan + s.t3 n else a.tPlan,
    fol := { a.fol with lag := if i = 1 then a.fol.lag + s.t3 n else a.fol.lag } })
  let s := (s.setBit (ST_AXIS_STATUS n) 14)
  let lp := (s.ax n).lp
  let s := if lp < 4 then s.bump (LPS_LP_MISSES lp) else s
  let most := (upto 3).foldl (fun m j => max m (at' (s.ax n).consecMiss j)) 0
  let s := if physical n then
      ((s.bump (MISS_L n lv)).wr (MISS_CONSEC_MISS n) (min most 255)).wr (MISS_LAST_OVERRUN n) late
    else s.bump (ST_GEN_MISSES n)
  let s := s.record 4 2 (i + 2) n (pay 16 late)
  if (if physical n then s.cf (CAS_MISS_LIMIT n) else 3) ≤ at' (s.ax n).consecMiss i then s.faultA n fcDeadline else s

def execDeadlineMiss (n : Fin 32) (lv : Fin 3) (late : BitVec 32) (s : State) : Host.Outcome State Fault Refusal :=
  .next (s.miss n.val lv.val late.toNat)

end Sys2Proof.Machine
end

