-- ==== Sys2Proof/Machine/Follow.lean ====
section
/-! DEFINITION. Follow mode (R312 to R319, R338 to R344): the master of an axis, pass-follow, gearing and camming with exact
increments, engagement, the switch of cam tables, phase offset and register correction. -/
namespace Sys2Proof.Machine
open Obj

/-! ### Masters (R312, R313) -/

/-- The subscription that is the master of an axis. -/
def State.masterSub (s : State) (n : Nat) : Option Nat :=
  let m := s.cf (FOL_MASTER n)
  if 0x80 ≤ m ∧ m < 0x88 then some (m - 0x80) else none

/-- The local axis that is the master of an axis. -/
def State.masterAxis (s : State) (n : Nat) : Option Nat := let m := s.cf (FOL_MASTER n); if m < 32 then some m else none

/-- MASTER_SIGNAL 1: the actual position of a physical master. -/
def State.masterActual (s : State) (n : Nat) : Bool := s.cf (FOL_MASTER_SIGNAL n) == 1

/-- The place of an axis's instants: the phase of its grid on the control schedule, 2^-32 ns; their period is T3 (R229, R254). -/
def State.phase3 (s : State) (n : Nat) : Int :=
  ((s.cf (if s.onCarrier n then CG_PHASE (s.cf (CC_CARRIER_GROUP n)) else ADM_VIRTUAL_PHASE) * tickU : Nat) : Int)

/-- The number of the last instant of an axis at or before a value of the control schedule. -/
def State.index3 (s : State) (n : Nat) (t : Int) : Int := fdiv (t - s.phase3 n) (s.t3 n)

/-- The start of an axis's job for this instant, 125 ps of line time, from the schedule: that of a physical axis lies after its
instant, that of a virtual axis before its tick (R256, R257, R261, R313). -/
def State.jobStart (s : State) (n : Nat) : Int :=
  let l := (s.ax n).slots
  s.nowT + l.getD (s.index3 n s.sched % (l.length : Int)).toNat 0

/-- The generator's sample of the local master `m` at its last instant at or before 125 ps instant `t`; one that is still to come is
what the plan in force gives there (log entry 80). -/
def State.genSample (s : State) (m : Nat) (t : Int) : Option SetPt :=
  let a := s.ax m
  let at_ := s.phase3 m + s.index3 m (s.sched + (t - s.nowT) * (tickU : Int)) * s.t3 m
  let ahead := fdiv (at_ - s.sched) (tickU : Int)
  if 0 < ahead ∧ !a.gens.isEmpty ∧ s.stageOn m ∧ s.axMode m ≠ mmFollow then
    let x := evalPlan a.plan (a.tPlan + (s.nowT + ahead - a.genT) * (tickU : Int))
    some ⟨s.nowT + ahead, x.p, x.v, x.a⟩
  else genAt a.gens t

/-- The latest sample of the local master `m` at or before 125 ps instant `t`. -/
def State.sampleBy (s : State) (n m : Nat) (t : Int) : Option SetPt :=
  if s.masterActual n then
    match s.motorPort m with
    | some p => (sampleAt (s.pt p).hist t).map (fun x => ⟨x.t, wrapPos (s.dirOf m x.x), s.dirOf m x.v, 0⟩)
    | none => none
  else s.genSample m t

/-- The sample of the local master `m` that the follower `n` uses: the latest at or before the start of its job (R313); a virtual
axis takes another virtual axis at the instant itself (R257). -/
def State.masterSample (s : State) (n m : Nat) : Option SetPt :=
  s.sampleBy n m (if physical n ∨ physical m then s.jobStart n else s.nowT)

/-- The subscription `i` as axis `n` sees it at this instant (R326). -/
def State.subFor (s : State) (n i : Nat) : SubView := s.subSeen i (s.jobStart n)

/-- The master state of an axis now: a local master carried on with its speed, or the subscription's. -/
def State.masterState (s : State) (n : Nat) : Option PVA :=
  match s.masterAxis n, s.masterSub n with
  | some m, _ => (s.masterSample n m).map (fun x => ⟨wrapPos (x.at_ s.nowT), x.v, x.a, 0⟩)
  | none, some i => s.viewMaster i (s.subFor n i) s.now16
  | none, none => none

/-- A local master that stands in FAULT or OFF, or has lost its position while MASTER_SIGNAL is 1 (R318). -/
def State.masterLost (s : State) (n : Nat) : Bool :=
  match s.masterAxis n with
  | some m => s.axState m == axFault || s.axState m == axOff || (s.masterActual n && !s.posValid m)
  | none => false

/-- The generation functions that following needs, as bits of GEN_SET (R314). -/
def State.followNeeds (s : State) (n : Nat) : Nat :=
  (match s.cf (FOL_FOLLOW_MODE n) with | 1 => 8 | 2 => 2 | 3 => 4 | _ => 0) |||
  (if (s.masterSub n).isSome then 8 else 0) |||
  (if s.cf (REG_LATCH_UNIT n) = 255 then 0 else 32) |||
  (if s.cf (COMPA_COMP_TABLE n) = 255 then 0 else 16)

/-- Every function of a set is in GEN_SET. -/
def State.genHas (s : State) (n need : Nat) : Bool := clrMask need (s.cf (SCH_GEN_SET n)) == 0

/-- The conditions of Table LS-1 and R319. -/
def State.followReady (s : State) (n : Nat) : Bool :=
  s.cf (FOL_FOLLOW_MODE n) != 0 &&
  (match s.masterAxis n, s.masterSub n with
   | some m, _ => (s.sampleBy n m (s.jobStart n)).isSome
   | none, some i =>
     let x := (s.subFor n i).st
     (x == sActive || x == sHeld) && (s.ltSt == .coarse || s.ltSt == .fine)
   | none, none => false) &&
  (s.cf (FOL_FOLLOW_MODE n) != 3 || s.tableReady (s.cf (CAMA_CAM_TABLE n)))

/-! ### Targets (Table LS-2) -/

/-- v·NUM/DEN and a·NUM/DEN, rounded to the nearest raw value. -/
def State.geared (s : State) (n : Nat) (x : Int) : Int :=
  rdiv (x * toS 32 (s.rd (GEAR_NUM n))) ((s.rd (GEAR_DEN n) : Nat) : Int)

/-- The target of an axis with its present base, for the effective master. -/
def State.followTarget (s : State) (n : Nat) (m : PVA) : PVA :=
  match s.cf (FOL_FOLLOW_MODE n) with
  | 2 => ⟨(s.ax n).fol.f, satS 64 (s.geared n m.v), satS 64 (s.geared n m.a), 0⟩
  | 3 =>
    let (p, v, a) := s.camEval (s.rd (CAMA_CAM_ACTIVE n)) (s.q (CAMA_CAM_PHASE n)) m.v m.a
    ⟨wrapPos (s.q (CAMA_CAM_BASE n) + p), v, a, 0⟩
  | _ => ⟨(s.ax n).fol.f, m.v, m.a, 0⟩

/-! ### Cams (R339, R341) -/

/-- The chain of masters of an axis, as subscriptions in use. -/
def State.subsInUse (s : State) : Nat → Nat → List Nat
  | 0, _ => []
  | k + 1, n =>
    if s.cf (FOL_FOLLOW_MODE n) = 0 then []
    else match s.masterAxis n, s.masterSub n with
      | some m, _ => State.subsInUse s k m
      | none, some i => [i]
      | none, none => []

/-- Whole spans of the active cam taken out of the phase, `k` of them forward or backward (R339). -/
def State.camWrap (s : State) (n : Nat) (ph k : Int) : State :=
  let t := s.rd (CAMA_CAM_ACTIVE n)
  let s := (s.wrPos (CAMA_CAM_PHASE n) (ph - k * s.tableSpan t)).wrPos (CAMA_CAM_BASE n)
    (s.q (CAMA_CAM_BASE n) + k * s.slaveStep t)
  s.wr (CAMA_CAM_CYCLES n) (ofS 32 (toS 32 (s.rd (CAMA_CAM_CYCLES n)) + k))

/-- The switch of cam tables at the first forward wrap (R341). -/
def State.camSwitch (s : State) (n : Nat) (ph : Int) (m : PVA) : State :=
  let t := s.rd (CAMA_CAM_ACTIVE n)
  let u := s.rd (CAMA_CAM_NEXT n)
  let vOld := (s.camEval t 0 m.v m.a).2.1
  let vNew := (s.camEval u 0 m.v m.a).2.1
  let s := s.camWrap n ph 1
  let s := s.wrPos (CAMA_CAM_BASE n) (s.q (CAMA_CAM_BASE n) + s.camS t 0 - s.camS u 0)
  let s := (((s.wr (CAMA_CAM_ACTIVE n) u).wr (CAMA_CAM_NEXT n) 255).bump (CAMA_CAM_SWITCHES n)).clrBit (LSS_LS_STATUS n) 4
  if (s.subsInUse 32 n).any (fun i => decide (s.cq (SUB_JUMP_V i) < absI (vNew - vOld))) then
    (s.setBit (LSS_LS_STATUS n) 7).record 8 4 0 n 0
  else s

/-- The phase advanced by a master increment, with its wraps; the first forward one after a CAM_NEXT of an earlier core clock
switches the tables (R341). -/
def State.camAdvance (s : State) (n : Nat) (d : Int) (m : PVA) : State :=
  let span := s.tableSpan (s.rd (CAMA_CAM_ACTIVE n))
  let ph := s.q (CAMA_CAM_PHASE n) + d
  if span ≤ ph ∧ s.bitOf (LSS_LS_STATUS n) 4 = true ∧ (s.ax n).camAt < s.clock then
    let s := s.camSwitch n ph m
    let ph := s.q (CAMA_CAM_PHASE n)
    s.camWrap n ph (fdiv ph (s.tableSpan (s.rd (CAMA_CAM_ACTIVE n))))
  else s.camWrap n ph (fdiv ph span)

/-- A write of CAM_NEXT, taken at this core clock (R341). -/
def State.camNext (s : State) (n v : Nat) : Res :=
  if v = 255 then
    okRes (if s.bitOf (LSS_LS_STATUS n) 4 then (s.wr (CAMA_CAM_NEXT n) 255).clrBit (LSS_LS_STATUS n) 4 else s)
  else if !s.tableReady v ∨ 2 ^ 31 * oneQ < s.tableSpan v then refuse s cState
  else
    let now := s.clock
    okRes (((s.wr (CAMA_CAM_NEXT n) v).setBit (LSS_LS_STATUS n) 4).modAx n (fun a => { a with camAt := now }))

/-- A write of GEAR_NUM or GEAR_DEN (R316). -/
def State.gearWrite (s : State) (n k v : Nat) : Res :=
  okRes ((s.wr k v).modAx n (fun a => { a with fol := { a.fol with rem := 0 } }))

/-! ### Register correction and phase (R343, R344) -/

/-- One capture used for register correction. -/
def State.regUse (s : State) (n u : Nat) (c : Cap) : State :=
  let m := s.cq (LU_WIN_MODULUS u)
  let x := at' c.pos 0
  let ph := if 0 < m then x - m * x.fdiv m else x
  let d := s.q (REG_EXPECTED n) - ph
  let e := if 0 < m then d - m * fdiv (2 * d + m) (2 * m) else d
  let s := s.wrPos (REG_LAST_ERROR n) e
  if absI e < s.cq (REG_DEADBAND n) then s
  else if s.cq (REG_MAX_STEP n) < absI e then
    ((s.bump (REG_DISCARDED n)).setBit (LSS_LS_STATUS n) 9).record 8 5 0 n (pay 16 (ofPos e))
  else (s.wrPos (REG_TOTAL n) (s.q (REG_TOTAL n) + D.toQ (D.mul (D.ofF (s.cf (REG_GAIN n))) (D.ofQ e)))).bump (REG_APPLIED n)

/-- Register correction at an evaluation instant: the captures that reached the loop processors by the start of this job; they are
counted as seen whether or not the axis follows. -/
def State.regStep (s : State) (n : Nat) (follow : Bool) : State :=
  let u := s.cf (REG_LATCH_UNIT n)
  let js := s.jobStart n
  if 16 ≤ u then s
  else
    match (s.lu u).valids.find? (fun e => decide (e.1 ≤ js)) with
    | some (_, k, c) =>
      let new := k - (s.ax n).regSeen
      let s := s.modAx n (fun a => { a with regSeen := k })
      if follow ∧ 0 < new then
        (s.wr (REG_DISCARDED n) ((s.rd (REG_DISCARDED n) + (new - 1)) % 2 ^ 32)).regUse n u c
      else s
    | none => s

/-- The time since the last evaluation instant, those missed since included, 2^-32 ns. -/
def State.evalTime (s : State) (n : Nat) : Int := s.t3 n + (s.ax n).fol.lag

/-- The applied phase moves toward PHASE_OFFSET + REG_TOTAL, over the time `dt` since the last evaluation instant (R343). -/
def State.phaseStep (s : State) (n : Nat) (dt : Int) : State :=
  let want := s.q (FOL_PHASE_OFFSET n) + s.q (REG_TOTAL n)
  let step := s.cq (FOL_PHASE_RATE n) * dt / secI
  let x := s.q (FOL_PHASE_APPLIED n)
  s.wrPos (FOL_PHASE_APPLIED n) (x + clampI (-step) step (posDiff want x))

/-- The effective master: m' = m + φ_a (R315). -/
def State.effective (s : State) (n : Nat) (m : PVA) : PVA := { m with p := wrapPos (m.p + s.q (FOL_PHASE_APPLIED n)) }

/-! ### Engagement (R317) -/

/-- The set-point of the blend at τ: target, and the differences blended out (R317). -/
def blend (f : PVA) (dp dv tau tE : Int) : PVA :=
  let t := D.div (D.ofInt tau) (D.ofInt secI)
  let T := D.div (D.ofInt tE) (D.ofInt secI)
  let n (k : Int) : Nat := D.ofInt k
  let x := D.div t T
  let x2 := D.mul x x
  let w := D.sub (D.mul (n 3) x2) (D.mul (n 2) (D.mul x2 x))
  let w1 := D.div (D.sub (D.mul (n 6) x) (D.mul (n 6) x2)) T
  let w2 := D.div (D.sub (n 6) (D.mul (n 12) x)) (D.mul T T)
  let g := D.add (D.ofQ dp) (D.mul (D.ofQ dv) t)
  let k := D.sub (n 1) w
  ⟨wrapPos (f.p + D.toQ (D.mul g k)),
   satS 64 (f.v + D.toQ (D.sub (D.mul (D.ofQ dv) k) (D.mul g w1))),
   satS 64 (f.a + D.toQ (D.sub (D.neg (D.mul (D.mul (n 2) (D.ofQ dv)) w1)) (D.mul g w2))), 0⟩

/-- ENGAGE_TIME in 2^-32 ns. -/
def State.engageTime (s : State) (n : Nat) : Int := ((s.cf (FOL_ENGAGE_TIME n) * 1000 * 2 ^ 32 : Nat) : Int)

/-- The set-point for a target: the blend while it lasts, then the target; |v_set| and |a_set| above the ceilings raise
LINE_SHAFT (R317, R318). -/
def State.followSet (s : State) (n : Nat) (f : PVA) : State :=
  let x := (s.ax n).fol
  let tE := s.engageTime n
  let on := decide (x.tau < tE)
  let o := if on then blend f x.dp x.dv x.tau tE else f
  let s := (s.setPoint n o).putBit (LSS_LS_STATUS n) 0 on
  if s.cq (LIM_V_CEILING n) < absI o.v ∨ s.cq (LIM_A_CEILING n) < absI o.a then
    (s.wr (LSS_LS_FAULT_REASON n) 1).raiseB n fcLineShaft
  else s

/-- GRACE, COMMON_STOP and HELD of the master subscription, m' and v_m shown. -/
def State.followShow (s : State) (n : Nat) (m : PVA) : State :=
  let st := match s.masterSub n with | some i => (s.subFor n i).st | none => 0
  let s := ((s.putBit (LSS_LS_STATUS n) 1 (st == sGrace)).putBit (LSS_LS_STATUS n) 2 (st == sStop)).putBit
    (LSS_LS_STATUS n) 3 (st == sHeld)
  (s.wrPos (LSS_FOLLOW_MASTER_P n) m.p).wrSat (LSS_FOLLOW_MASTER_V n) m.v

/-- FOLLOW takes effect: the base is set and the blend begins (R317). -/
def State.engage (s : State) (n : Nat) : State :=
  match s.masterState n with
  | none => s
  | some m0 =>
    let m := s.effective n m0
    let s := s.takeType n
    let p := s.pSet n
    let abs := s.cf (FOL_ENGAGE_MODE n) == 1
    let s := s.modAx n (fun a => { a with fol := { engaged := true, f := p, mLast := m.p } })
    let s := match s.cf (FOL_FOLLOW_MODE n) with
      | 1 => if abs then s.modAx n (fun a => { a with fol := { a.fol with f := m.p } }) else s
      | 2 => if abs then s.modAx n (fun a => { a with fol := { a.fol with f := wrapPos (s.geared n m.p) } }) else s
      | _ =>
        let t := s.cf (CAMA_CAM_TABLE n)
        let d := posDiff m.p (s.cq (CAMA_CAM_MASTER_OFFSET n))
        let span := s.tableSpan t
        let s := (s.wr (CAMA_CAM_ACTIVE n) t).wrPos (CAMA_CAM_PHASE n) (d - span * fdiv d span)
        let b := if abs then s.cq (CAMA_CAM_SLAVE_OFFSET n) else p - (s.camEval t (s.q (CAMA_CAM_PHASE n)) m.v m.a).1
        s.wrPos (CAMA_CAM_BASE n) b
    let f := s.followTarget n m
    let s := s.modAx n (fun a => { a with fol := { a.fol with dp := posDiff p f.p, dv := s.vSet n - f.v } })
    let s := ((s.setMode n mmFollow).setAx n axRunning).followShow n m
    let s := if s.masterLost n then (s.wr (LSS_LS_FAULT_REASON n) 2).raiseB n fcLineShaft else s
    s.followSet n f

/-! ### An evaluation instant (R315, R316, R326) -/

/-- The base advanced by the master increment. -/
def State.followAdvance (s : State) (n : Nat) (m : PVA) : State :=
  let x := (s.ax n).fol
  let d := posDiff m.p x.mLast
  let dt := s.evalTime n
  let s := s.modAx n (fun a => { a with fol := { a.fol with mLast := m.p, tau := a.fol.tau + dt, lag := 0 } })
  match s.cf (FOL_FOLLOW_MODE n) with
  | 1 => s.modAx n (fun a => { a with fol := { a.fol with f := wrapPos (x.f + d) } })
  | 2 =>
    let den : Int := ((s.rd (GEAR_DEN n) : Nat) : Int)
    let num := d * toS 32 (s.rd (GEAR_NUM n)) + x.rem
    let q := fdiv num den
    s.modAx n (fun a => { a with fol := { a.fol with f := wrapPos (x.f + q), rem := num - q * den } })
  | _ => s.camAdvance n d m

/-- One evaluation instant of an axis in follow mode. -/
def State.followStep (s : State) (n : Nat) : State :=
  let lost := match s.masterSub n with | some i => (s.subFor n i).st == sLost | none => false
  if lost then ((s.endFollow n).rest n).setAx n axEnabled
  else
    let s := if s.masterLost n then (s.wr (LSS_LS_FAULT_REASON n) 2).raiseB n fcLineShaft else s
    match s.masterState n with
    | none => s
    | some m0 =>
      let m := s.effective n m0
      let s := (s.followAdvance n m).followShow n m
      s.followSet n (s.followTarget n m)

end Sys2Proof.Machine
end

