-- ==== Sys2Proof/Machine/Commands.lean ====
section
/-! DEFINITION. The commands of Table MO-3 as they take effect (R273 to R300): their checks with the results of Table MO-4, of
which the lowest that applies is given (log entry 15), and their effects. -/
namespace Sys2Proof.Machine
open Obj

def rOk : Nat := 0
def rState : Nat := 1
def rTargetLocked : Nat := 2
def rNotAdmitted : Nat := 3
def rLimit : Nat := 4
def rQueueFull : Nat := 5
def rNotReferenced : Nat := 6
def rHomingConfig : Nat := 7
def rTripSet : Nat := 8
def rFaultPersists : Nat := 9
def rBadCommand : Nat := 10

/-- The first refusal whose condition holds, in the order of Table MO-4. -/
def firstOf : List (Bool × Nat) → Nat
  | [] => rOk
  | (b, c) :: t => if b then c else firstOf t

/-! ### What the checks ask -/

/-- MOVE, VELOCITY, REPLACE and HOME are accepted in this device state (R273). -/
def State.moveDev (s : State) (n : Nat) : Bool := s.dev == .op || (s.dev == .preop && !s.claimed && s.inSetup n)

/-- The profile function is in GEN_SET (R262). -/
def State.hasProfile (s : State) (n : Nat) : Bool := s.genHas n 1

/-- The publisher of axis `n` has published a stop pass at or before the core clock `t`: a command taken then that would move the axis
is refused (R334). -/
def State.mainsStopped (s : State) (n : Nat) (t : Int) : Bool :=
  match s.publisherOf n with
  | some q => s.rd (PUB_STATE q) == 3 && decide ((at' s.pub q).since ≤ t)
  | none => false

/-- MOVE, VELOCITY, REPLACE, HOME and FOLLOW: the commands that would move their axis. -/
def movingCode (c : Nat) : Bool := [0x06, 0x07, 0x08, 0x0b, 0x0c].contains c

/-- V_DC of an axis (R190), none where its analogue input has a fault (R399). -/
def State.vdc (s : State) (n : Nat) : Option Nat :=
  match s.cf (CC_VDC_SOURCE n) with
  | 0 => some (s.cf (CC_VDC_NOMINAL n))
  | 1 => some (s.rd MAINS_DC_LINK)
  | k => if s.bitOf (AIN_STATUS (k - 2)) 1 then none else some (s.rd (AIN_VALUE (k - 2)))

/-- V_DC lies below VDC_MIN. -/
def State.vdcLow (s : State) (n : Nat) : Bool :=
  match s.vdc n with
  | some v => F.lt v (s.cf (CC_VDC_MIN n))
  | none => true

/-- A set trip flag covers a leg of the leg set. -/
def State.legTripped (s : State) (n : Nat) : Bool := (s.tripped &&& s.legSet n) != 0

/-- An OC_FLAGS or MOD_FAULT_FLAGS bit of the channels of axis `n` is set (R174). -/
def State.ocSet (s : State) (n : Nat) : Bool := s.bitOf SDF_OC_FLAGS (2 * n) || s.bitOf SDF_OC_FLAGS (2 * n + 1)
def State.modSet (s : State) (n : Nat) : Bool := s.bitOf SDF_MOD_FAULT_FLAGS (2 * n) || s.bitOf SDF_MOD_FAULT_FLAGS (2 * n + 1)

/-- −1 below the window, 1 above it, 0 inside or without one (R290, R293). -/
def State.outside (s : State) (n : Nat) : Int :=
  match s.window n with
  | some (a, b) => if s.pSet n < a then -1 else if b < s.pSet n then 1 else 0
  | none => 0

/-- A motion in direction `d` points toward an active limit switch (R296). -/
def State.towardSwitch (s : State) (n : Nat) (d : Int) : Bool :=
  (decide (0 < d) && s.switchActive n 0) || (decide (d < 0) && s.switchActive n 1)

/-- The axis is outside the window, and what a command asks for lies in direction `d` of p_set, not on the window's side (R293). -/
def State.awayFromWindow (s : State) (n : Nat) (d : Int) : Bool := s.outside n != 0 && signI d != -s.outside n

/-- A motion in direction `d` from p_set violates a limit: it points toward an active switch (R296), or away from the window. -/
def State.badDir (s : State) (n : Nat) (d : Int) : Bool := s.towardSwitch n d || s.awayFromWindow n d

/-- LIMIT_ENABLE 1 on an axis that is not referenced, in service (R290). -/
def State.unreferenced (s : State) (n : Nat) : Bool := !s.inSetup n && s.on (LIM_LIMIT_ENABLE n) && !s.referenced n

/-- The SETUP velocity mode or a homing phase runs. -/
def State.busyMode (s : State) (n : Nat) : Bool := s.axMode n == mmVelocity || s.axMode n == mmHoming

/-- A stop runs that ends in another state than a hold. -/
def State.leaving (s : State) (n : Nat) : Bool :=
  s.stopping n && (match (s.ax n).after with | .enabled => false | _ => true)

/-- The set-point state of the running plan at the next L3 sample instant. -/
def State.planNext (s : State) (n : Nat) : PVA := evalPlan (s.ax n).plan ((s.ax n).tPlan + s.t3 n)

/-! ### Targets -/

/-- The target of a MOVE as commanded (R289): relative ones from p_set, in SETUP from the last queued target. -/
def State.targetOf (s : State) (n : Nat) (t : Int) (rel : Bool) : Int :=
  if rel then
    let base := if s.inSetup n then (match (s.ax n).queue.getLast? with | some e => e.target | none => s.pSet n) else s.pSet n
    wrapPos (base + t)
  else t

/-- TARGET_POSITION and MOVE_FLAGS[0] now. -/
def State.askTarget (s : State) (n : Nat) : Int := s.targetOf n (s.q (AX_TARGET_POSITION n)) (s.bitOf (AX_MOVE_FLAGS n) 0)

/-- A target held in the window (R291): the target, and whether it was replaced. -/
def State.truncate (s : State) (n : Nat) (t : Int) : Int × Bool :=
  match s.window n with
  | some (a, b) => let u := clampI a b t; (u, u != t)
  | none => (t, false)

/-- TRUNCATED, its counter and record. -/
def State.noteTrunc (s : State) (n : Nat) (t : Int) (did : Bool) : State :=
  if did then ((s.setBit (ST_AXIS_STATUS n) 17).bump (ST_TRUNCATIONS n)).record 4 3 0 n (pay 16 (ofPos t)) else s

/-! ### Motion starts -/

/-- A position move starts from the present set-point state (R285, R289). -/
def State.startMove (s : State) (n : Nat) (t : Int) : State :=
  let (u, tr) := s.truncate n t
  let s := s.noteTrunc n t tr
  let l := s.lims n
  let xs := planMove l (s.pSet n) (s.vSet n) (s.aSet n) u
  let s := s.modAx n (fun a => { a with
    plan := xs, tPlan := 0, target := u, dirty := false, judging := false, inPos := 0 })
  (((s.takeType n).setMode n mmPosition).setAx n axRunning).clrBit (ST_AXIS_STATUS n) 4

/-- TARGET_VELOCITY as velocity mode takes it: held within V, and 0 where it points away from the window (R285, R293). -/
def State.aimV (s : State) (n : Nat) : Int :=
  let l := s.lims n
  let v := clampI (-l.v) l.v (s.params n).tv
  if s.outside n ≠ 0 ∧ signI v = s.outside n then 0 else v

/-- Velocity mode planned from the present set-point state with the profile of the motion (R288). -/
def State.planVelocity (s : State) (n : Nat) : State :=
  let l := s.moveLims n
  let xs := planVel l (s.pSet n) (s.vSet n) (s.aSet n) (s.aimV n)
  s.modAx n (fun a => { a with plan := xs, tPlan := 0, dirty := false })

def State.startVelocity (s : State) (n : Nat) : State :=
  let s := ((s.dropMotion n).takeType n).modAx n (fun a => { a with judging := false })
  let s := ((s.planVelocity n).setMode n mmVelocity).clrBit (ST_AXIS_STATUS n) 4
  if s.inSetup n then s else s.setAx n axRunning

/-- A, D, J and profile of the SETUP queue in progress (R288); the V of R285 is that of each entry. -/
def State.queueLims (s : State) (n : Nat) : Lims :=
  let a := s.ax n
  if a.queue.isEmpty then s.lims n else ⟨(s.lims n).v, a.ma, a.md, a.mj, a.mtype == 1⟩

/-- The path through a queue from a set-point state, the stop at D included, lies in the window, or between the window and an
axis outside it (R293, R300). -/
def State.pathFits (s : State) (n : Nat) (l : Lims) (q : List QEntry) (x : PVA) : Bool :=
  match s.window n with
  | none => true
  | some (a, b) =>
    let ps := stopEnd l.d l.j l.s x.p x.v x.a :: planTurns (planQueue l q x.p x.v x.a).1
    ps.all (fun p => decide (minI a x.p ≤ p) && decide (p ≤ maxI b x.p))

/-- The queue with an entry appended, as it will be planned at the next L3 sample instant, passes the check of R300. -/
def State.queueFits (s : State) (n : Nat) (q : List QEntry) : Bool := s.pathFits n (s.queueLims n) q (s.planNext n)

/-- The entry for a target, with V_MAX of now under R285. -/
def State.entryOf (s : State) (n : Nat) (u : Int) : QEntry := ⟨u, (s.lims n).v⟩

/-- An entry appended to the SETUP queue (R298, R299): the plan is rebuilt at the next L3 sample instant. -/
def State.append (s : State) (n : Nat) (t : Int) : State :=
  let (u, tr) := s.truncate n t
  let s := s.noteTrunc n t tr
  let e := s.entryOf n u
  let l := s.queueLims n
  let s := if (s.ax n).queue.isEmpty then s.takeType n else s
  let s := s.modAx n (fun a => { a with
    queue := a.queue ++ [e], ma := l.a, md := l.d, mj := l.j, queueDirty := true, judging := false })
  ((s.wr (AX_QUEUE_DEPTH n) (s.ax n).queue.length).setMode n mmQueue).clrBit (ST_AXIS_STATUS n) 4

/-- COMMAND_RESULT of a command that is refused after it was answered (R287, R300). -/
def State.lateRefusal (s : State) (n code seq r : Nat) : State :=
  (s.wr (AX_COMMAND_RESULT n) (code + seq * 2 ^ 8 + r * 2 ^ 16)).bump (ST_COMMANDS_REFUSED n)

/-- The entry of a REPLACE at a standstill in SETUP passes the check of R300. -/
def State.replaceFits (s : State) (n : Nat) (t : Int) (rel : Bool) : Bool :=
  let s := (s.rest n).flushQueue n
  s.queueFits n [s.entryOf n (s.truncate n (s.targetOf n t rel)).1]

/-- The move of a REPLACE starts at the standstill of its stop; in SETUP it is the only entry of the queue, and refused where it
does not pass the check of R300 (R287). -/
def State.replaceStart (s : State) (n : Nat) (t : Int) (rel : Bool) (seq : Nat) : State :=
  if s.inSetup n then
    if s.replaceFits n t rel then ((s.rest n).flushQueue n).append n (s.targetOf n t rel)
    else ((s.rest n).flushQueue n).lateRefusal n 0x08 seq rLimit
  else s.startMove n (s.targetOf n t rel)

/-- A stop of STOP, QUICK_STOP or DISABLE at `dec`: a stop at a higher deceleration goes on, but QUICK_STOP takes over every stop at
D; a pending REPLACE is cancelled; a stop that leads to FAULT, OFF or READY keeps that end (R278). -/
def State.stopAt (s : State) (n : Nat) (dec : Int) (want : AfterStop) (kind : StopKind) : State :=
  if s.stopping n then
    let a := s.ax n
    let e : AfterStop := match a.after with
      | .fault => .fault
      | .off => .off
      | .ready => .ready
      | _ => want
    if (a.stopDec < dec ∨ (kind = .quick ∧ a.stopKind = .d)) ∧ !s.faultPending n then s.startStop n dec e kind
    else s.afterStop n e
  else (s.dropMotion n).startStop n dec want kind

/-! ### The commands -/

/-- The channel conditions of SWITCH_ON beyond the axis state (R279). -/
def State.mayEnable (s : State) (n : Nat) : List (Bool × Nat) :=
  let cc := s.ccMode n
  [(physical n && (cc == 0 || ((cc == 1 || cc == 4) && !s.posValid n)), rState),
   (physical n && s.legTripped n, rTripSet),
   (physical n && (s.ocSet n || s.modSet n || s.vdcLow n), rFaultPersists)]

/-- Power on in ENABLED or SETUP at the present position (Table MO-3, R223). -/
def State.powerOn (s : State) (n st : Nat) : State :=
  let s := s.setPoint n ⟨s.posOf n, 0, 0, 0⟩
  (((s.unfence (s.legSet n)).rest n).setAx n st).modAx n (fun a => { a with judging := false })

/-- Conditions of a motion command in the states that may run it. -/
def State.motionChecks (s : State) (n : Nat) (locked bad : Bool) : List (Bool × Nat) :=
  [(!s.moveDev n || !s.stageOn n, rState), (locked, rTargetLocked), (!s.hasProfile n, rNotAdmitted),
   (bad, rLimit), (s.unreferenced n, rNotReferenced)]

/-- MOVE: its result. The motion of a queued entry goes from the last queued target. -/
def State.moveResult (s : State) (n : Nat) : Nat :=
  let dir := signI (posDiff (s.askTarget n) (s.pSet n))
  if s.inSetup n then
    let u := (s.truncate n (s.askTarget n)).1
    let last := match (s.ax n).queue.getLast? with | some e => e.target | none => s.pSet n
    let own := signI (posDiff (s.askTarget n) last)
    let dirOk := !s.towardSwitch n own && !s.awayFromWindow n dir && s.queueFits n ((s.ax n).queue ++ [s.entryOf n u])
    firstOf [(!s.moveDev n, rState), (s.busyMode n, rTargetLocked),
      (!s.hasProfile n, rNotAdmitted), (!dirOk, rLimit), (decide (16 ≤ (s.ax n).queue.length), rQueueFull)]
  else
    firstOf (s.motionChecks n (s.axState n == axRunning || s.axState n == axStopping) (s.badDir n dir))

def State.cmdMove (s : State) (n : Nat) : State × Nat :=
  let r := s.moveResult n
  if r ≠ rOk then (s, r)
  else if s.inSetup n then (s.append n (s.askTarget n), r)
  else (s.startMove n (s.askTarget n), r)

def State.cmdVelocity (s : State) (n : Nat) : State × Nat :=
  let setup := s.inSetup n
  let v := (s.params n).tv
  let r := firstOf ((setup && !(s.ax n).queue.isEmpty, rState) ::
    s.motionChecks n (!setup && (s.axState n == axRunning || s.axState n == axStopping)) (s.badDir n v))
  (if r = rOk then s.startVelocity n else s, r)

/-- REPLACE (R287): in ENABLED as MOVE, else the stop at D and then the move. The stop of an earlier REPLACE goes on as it is. -/
def State.cmdReplace (s : State) (n seq : Nat) : State × Nat :=
  if s.axState n = axEnabled then s.cmdMove n
  else
    let t := s.q (AX_TARGET_POSITION n)
    let rel := s.bitOf (AX_MOVE_FLAGS n) 0
    let way (x : Int) : Int := if rel then t else signI (posDiff t x)
    let bad := s.towardSwitch n (way (s.stopPoint n)) || s.awayFromWindow n (way (s.pSet n))
    let still := s.standstill n && !s.stopping n && s.inSetup n
    let r := firstOf (s.motionChecks n false bad ++ [(still && !s.replaceFits n t rel, rLimit)])
    if r ≠ rOk then (s, r)
    else if still then (((s.dropMotion n).rest n).replaceStart n t rel seq, r)
    else if s.faultPending n then (s, r)
    else
      let d := (s.lims n).d
      let e : AfterStop := .move t rel seq
      if s.stopping n then
        let earlier := match (s.ax n).after with | .move _ _ _ => true | _ => false
        (if earlier then s.afterStop n e else s.startStop n d e, r)
      else ((s.dropMotion n).startStop n d e, r)

/-- HOME: in SETUP at standstill with an empty queue, whatever mode rests there. -/
def State.cmdHome (s : State) (n : Nat) : State × Nat :=
  let idle := s.axState n == axEnabled || (s.inSetup n && s.standstill n && (s.ax n).queue.isEmpty)
  let way := s.homeWay n
  let r := firstOf [(!idle || !s.moveDev n || (s.publisherOf n).isSome, rState),
    (!s.hasProfile n, rNotAdmitted), (way != 0 && s.badDir n way, rLimit), (!s.homeConfigured n, rHomingConfig)]
  (if r = rOk then (s.startHoming n).clrBit (ST_AXIS_STATUS n) 4 else s, r)

/-- The direction in which FOLLOW would take the axis: that of its target, and toward a target at rest. -/
def State.followWay (s : State) (n : Nat) : Int :=
  let e := s.engage n
  match e.masterState n with
  | some m =>
    let f := e.followTarget n (e.effective n m)
    if f.v = 0 then signI (posDiff f.p (s.pSet n)) else signI f.v
  | none => 0

def State.cmdFollow (s : State) (n : Nat) : State × Nat :=
  let r := firstOf [(s.axState n != axEnabled || s.dev != .op || (s.publisherOf n).isSome || !s.followReady n, rState),
    (!s.genHas n (s.followNeeds n), rNotAdmitted), (s.outside n != 0 || s.towardSwitch n (s.followWay n), rLimit),
    (s.unreferenced n, rNotReferenced)]
  (if r = rOk then (s.engage n).clrBit (ST_AXIS_STATUS n) 4 else s, r)

def State.cmdStop (s : State) (n : Nat) (dec : Int) (kind : StopKind) : State × Nat :=
  if !s.stageOn n then (s, rState)
  else if s.axState n = axEnabled then (s, rOk)
  else if s.axMode n = mmHold then (s.flushQueue n, rOk)
  else (s.stopAt n dec .enabled kind, rOk)

def State.cmdDisable (s : State) (n : Nat) : State × Nat :=
  if !s.stageOn n then (s, rState)
  else if s.standstill n ∧ !s.leaving n then (s.toReady n, rOk)
  else
    let d := (s.lims n).d
    if s.stopping n then
      let e : AfterStop := match (s.ax n).after with | .fault => .fault | .off => .off | _ => .ready
      (if (s.ax n).stopDec < d ∧ !s.faultPending n then s.startStop n d e else s.afterStop n e, rOk)
    else ((s.dropMotion n).startStop n d .ready, rOk)

def State.cmdSwitchOn (s : State) (n : Nat) : State × Nat :=
  let r := firstOf ((s.axState n != axOff, rState) :: s.mayEnable n)
  (if r = rOk then s.setAx n axReady else s, r)

def State.cmdSwitchOff (s : State) (n : Nat) : State × Nat :=
  if s.axState n = axReady then (s.toOff n, rOk) else (s, rState)

def State.cmdEnable (s : State) (n : Nat) : State × Nat :=
  let r := firstOf [(s.axState n != axReady || s.dev != .op, rState), (physical n && s.legTripped n, rTripSet)]
  (if r = rOk then s.powerOn n axEnabled else s, r)

def State.cmdSetup (s : State) (n : Nat) : State × Nat :=
  let dev := s.dev == .op || (s.dev == .preop && !s.claimed)
  let r := firstOf [(s.axState n != axReady || !dev, rState), (physical n && s.legTripped n, rTripSet)]
  (if r = rOk then s.powerOn n axSetup else s, r)

/-- A cause of FAULT_CAUSES still stands (R294). -/
def State.causeStands (s : State) (n : Nat) : Bool :=
  let c (i : Nat) : Bool := s.bitOf (ST_FAULT_CAUSES n) i
  (c fcTrip && s.legTripped n) || (c fcOvercurrent && s.ocSet n) || (c fcModFault && s.modSet n) ||
  (c fcUndervoltage && s.vdcLow n) || ((c fcAngle || c fcPositionLost) && !s.posValid n)

def State.cmdResetFault (s : State) (n : Nat) : State × Nat :=
  let r := firstOf [(s.axState n != axFault, rState), (s.causeStands n, rFaultPersists)]
  (if r = rOk then ((s.wr (ST_FAULT_CAUSE n) 0).wr (ST_FAULT_CAUSES n) 0).setAx n axReady else s, r)

/-- A command of Table MO-3 takes effect. -/
def State.commandEffect (s : State) (n code seq : Nat) : State × Nat :=
  match code with
  | 0x01 => s.cmdSwitchOn n
  | 0x02 => s.cmdSwitchOff n
  | 0x03 => s.cmdEnable n
  | 0x04 => s.cmdDisable n
  | 0x05 => s.cmdSetup n
  | 0x06 => s.cmdMove n
  | 0x07 => s.cmdVelocity n
  | 0x08 => s.cmdReplace n seq
  | 0x09 => s.cmdStop n (s.lims n).d .d
  | 0x0a => s.cmdStop n (s.cq (PRF_QUICK_STOP_DEC n)) .quick
  | 0x0b => s.cmdHome n
  | 0x0c => s.cmdFollow n
  | 0x0d => s.cmdResetFault n
  | _ => (s, rBadCommand)

/-- The code that answers a result (R278). -/
def resultCode (r : Nat) : Nat :=
  if r = rOk then 0 else if r = rState ∨ r = rTripSet ∨ r = rFaultPersists then cState else cRefused

/-- COMMAND_RESULT written, a refusal counted, the write answered (R278). -/
def State.commandResult (s : State) (n : Nat) (c : AxCmd) (r : Nat) : State :=
  let s := s.wr (AX_COMMAND_RESULT n) (c.code + c.seq * 2 ^ 8 + r * 2 ^ 16)
  let s := if r = rOk then s else s.bump (ST_COMMANDS_REFUSED n)
  s.answerTo c.ctx (resultCode r)

/-- One command takes effect and is answered. -/
def State.runCommand (s : State) (n : Nat) (c : AxCmd) : State :=
  if s.dev = .locked ∨ (movingCode c.code && s.mainsStopped n c.tw) = true then s.commandResult n c rState
  else
    let (s, r) := s.commandEffect n c.code c.seq
    s.commandResult n c r

/-- The commands taken at an earlier core clock take effect in the order in which they were taken (R277). -/
def State.drainCmds (s : State) (n : Nat) : State :=
  let now := s.clock
  let l := (s.ax n).cmds
  each (l.filter (fun c => decide (c.tw < now))) (s.modAx n (fun a => { a with cmds := l.filter (fun c => decide (now ≤ c.tw)) }))
    (fun s c => s.runCommand n c)

/-- A write of COMMAND taken (R276, R277, R329): a repeated SEQ causes nothing; a new command waits for the axis's next L3
sample instant, on a publishing source axis for its T_c. Whether it waits. -/
def State.takeCommand (s : State) (n v : Nat) (ctx : Option Ctx) : State × Bool :=
  let c : AxCmd := ⟨v % 256, v / 256 % 256, ctx, s.clock⟩
  let s := s.wr (AX_COMMAND n) (v % 65536)
  if (s.ax n).lastSeq = some c.seq then (s, false)
  else
    let s := s.modAx n (fun a => { a with lastSeq := some c.seq })
    (if (s.publisherOf n).isSome then s.holdBack n (.cmd c) else s.modAx n (fun a => { a with cmds := a.cmds ++ [c] }), true)

/-! ### Cause events (R281, R282) -/

/-- CLASS_A_FAULT: a class A cause of Table MO-5 arises. -/
def execClassAFault (n : Fin 32) (cause : Fin 8) (s : State) : Host.Outcome State Fault Refusal :=
  .next (if cause.val = 0 then s else s.faultA n.val cause.val)

/-- CLASS_B_FAULT: a class B cause of Table MO-5 arises; it takes effect at the axis's next L3 sample instant. -/
def execClassBFault (n : Fin 32) (cause : Fin 16) (s : State) : Host.Outcome State Fault Refusal :=
  .next (if cause.val < 8 ∨ 13 < cause.val then s else s.raiseB n.val cause.val)

end Sys2Proof.Machine
end

