-- ==== Sys2Proof/Machine/Motion.lean ====
section
/-! DEFINITION. An axis at its L3 sample instant or virtual tick (R272, R241): generation, ends of motions, faults, commands,
replans, limit and switch stops, L3, and the status of Table MO-9. -/
namespace Sys2Proof.Machine
open Obj

/-! ### Generation -/

/-- The generator moves on by `dt`: p_set follows POSITION in READY, a follower evaluates its master, any other motion its
plan at the exact time (R271, R285). -/
def State.genBy (s : State) (n : Nat) (dt : Int) : State :=
  if s.axState n = axReady then s.setPoint n ⟨s.posOf n, 0, 0, 0⟩
  else if !s.stageOn n then s
  else if s.axMode n = mmFollow then s.followStep n
  else
    let s := s.modAx n (fun a => { a with tPlan := a.tPlan + dt })
    s.setPoint n (evalPlan (s.ax n).plan (s.ax n).tPlan)

/-- A motion of its own accord ends: the axis holds its position. -/
def State.settle (s : State) (n : Nat) : State :=
  let s := s.rest n
  if s.inSetup n then s else s.setAx n axEnabled

/-- MOVES_DONE increments by `k`. -/
def State.movesDone (s : State) (n k : Nat) : State := s.wr (ST_MOVES_DONE n) ((s.rd (ST_MOVES_DONE n) + k) % 2 ^ 32)

/-- Judgement of the in-position rule begins. -/
def State.judge (s : State) (n : Nat) : State := s.modAx n (fun a => { a with judging := true, inPos := 0 })

/-- Entries of the SETUP queue that the plan has passed are finished; the last one ends the queue (R298). -/
def State.queueStep (s : State) (n : Nat) : State :=
  let a := s.ax n
  let k := (a.marks.filter (fun t => decide (t ≤ a.tPlan))).length
  let s := if k = 0 then s else
    (s.modAx n (fun a => { a with queue := a.queue.drop k, marks := a.marks.drop k })).movesDone n k
  let s := s.wr (AX_QUEUE_DEPTH n) (s.ax n).queue.length
  if (s.ax n).queue.isEmpty ∧ planDone a.plan a.tPlan then (s.settle n).judge n else s

/-- The standstill of a stop (R272, R287). -/
def State.stopEnded (s : State) (n : Nat) : State :=
  match (s.ax n).after with
  | .enabled => s.settle n
  | .ready => s.toReady n
  | .off => s.toOff n
  | .fault => s.enterFault n
  | .move t rel seq => (s.rest n).replaceStart n t rel seq

/-- A motion that has reached its end at this instant ends. -/
def State.arrive (s : State) (n : Nat) : State :=
  let a := s.ax n
  if !s.stageOn n then s
  else if s.axMode n = mmPosition then
    (if planDone a.plan a.tPlan then ((s.settle n).movesDone n 1).judge n else s)
  else if s.axMode n = mmQueue then s.queueStep n
  else if s.axMode n = mmStop then (if planDone a.plan a.tPlan then s.stopEnded n else s)
  else s

/-- PARAM_KEPT and its record (R288). -/
def State.paramKept (s : State) (n : Nat) : State := (s.setBit (ST_AXIS_STATUS n) 16).record 4 8 0 n 0

/-- The path through the queue planned from the present set-point state and taken (R299). -/
def State.takeQueue (s : State) (n : Nat) (l : Lims) : State :=
  let (xs, ms) := planQueue l (s.ax n).queue (s.pSet n) (s.vSet n) (s.aSet n)
  s.modAx n (fun a => { a with
    plan := xs, marks := ms, tPlan := 0, ma := l.a, md := l.d, mj := l.j, queueDirty := false })

/-- The entries that the plan in force does not know are refused (R300). -/
def State.dropAppended (s : State) (n : Nat) : State :=
  let s := s.modAx n (fun a => { a with queue := a.queue.take a.marks.length, queueDirty := false })
  let s := s.wr (AX_QUEUE_DEPTH n) (s.ax n).queue.length
  let c := s.rd (AX_COMMAND_RESULT n)
  s.lateRefusal n (c % 256) (c / 256 % 256) rLimit

/-- The queue at an L3 sample instant: changed parameters replan it, unless it can no longer keep its targets or the window
(R288); an appended entry replans it, where the path passes the check of R300 (R299). -/
def State.queueRebuild (s : State) (n : Nat) : State :=
  let a := s.ax n
  let x : PVA := ⟨s.pSet n, s.vSet n, s.aSet n, 0⟩
  if s.axMode n ≠ mmQueue ∨ (!a.dirty ∧ !a.queueDirty) then s
  else
    let l := s.moveLims n
    let s := s.modAx n (fun a => { a with dirty := false })
    if a.dirty ∧ s.pathFits n l a.queue x ∧ queueMeets l a.queue x.p x.v x.a then s.takeQueue n l
    else
      let s := if a.dirty then s.paramKept n else s
      if !a.queueDirty then s
      else if s.pathFits n (s.queueLims n) a.queue x then s.takeQueue n (s.queueLims n)
      else s.dropAppended n

/-- A replan to the same target after a change of the profile parameters or of TARGET_VELOCITY (R286, R288). -/
def State.replan (s : State) (n : Nat) : State :=
  let a := s.ax n
  if !a.dirty ∨ s.axMode n = mmQueue then s
  else
    let s := s.modAx n (fun a => { a with dirty := false })
    let l := s.moveLims n
    if s.axMode n = mmVelocity then s.planVelocity n
    else if s.axMode n = mmPosition then
      let e := s.stopPoint n
      let past := decide (0 < signI (posDiff a.target (s.pSet n)) * posDiff e a.target)
      let out := match s.window n with | some (lo, hi) => decide (e < lo) || decide (hi < e) | none => false
      if past || (out && s.outside n == 0) then s.paramKept n
      else
        let xs := planMove l (s.pSet n) (s.vSet n) (s.aSet n) a.target
        s.modAx n (fun a => { a with plan := xs, tPlan := 0 })
    else s

/-! ### Limits and switches -/

/-- The set-point state at the next L3 sample instant: what the plan says, in follow mode what the follow function gives there. -/
def State.nextPoint (s : State) (n : Nat) : PVA :=
  if s.axMode n = mmFollow then
    let d := (s.t3 n).toNat
    let s := { s with time := { s.time with line := .ofUnits (s.time.line.units + d), free := .ofUnits (s.time.free.units + d) } }
    let s := s.followStep n
    ⟨s.pSet n, s.vSet n, s.aSet n, 0⟩
  else s.planNext n

/-- The virtual limits in velocity and follow mode (R292). -/
def State.limitStop (s : State) (n : Nat) : State :=
  match s.window n with
  | none => s
  | some (lo, hi) =>
    if s.axMode n = mmVelocity ∨ s.axMode n = mmFollow then
      let l := s.moveLims n
      let x := s.nextPoint n
      let e := stopEnd l.d l.j l.s x.p x.v x.a
      if (hi < e ∧ s.pSet n < e) ∨ (e < lo ∧ e < s.pSet n) then
        let s := ((s.dropMotion n).startStop n l.d .enabled)
        ((s.setBit (ST_AXIS_STATUS n) 18).bump (ST_LIMIT_STOPS n)).record 4 4 0 n 0
      else s
    else s

/-- The limit switches outside homing (R296). -/
def State.switchStop (s : State) (n : Nat) : State :=
  let d := s.cq (PRF_QUICK_STOP_DEC n)
  if !s.stageOn n ∨ s.homing n ∨ !s.towardSwitch n (s.vSet n) then s
  else if s.stopping n ∧ (d ≤ (s.ax n).stopDec ∨ s.faultPending n) then s
  else (s.stopAt n d .enabled .quick).record 4 5 (if 0 < s.vSet n then 0 else 1) n 0

/-! ### Checks and status (R289, R295, R297, R310) -/

/-- The following-error check (R295). -/
def State.checkFe (s : State) (n : Nat) : State :=
  let lim := s.cq (PRF_FE_LIMIT n)
  let hard := s.homing n && (match s.homePhase n with | .hardStop => true | _ => false)
  if lim = 0 ∨ !s.l2On n ∨ s.ctlMode n ≠ 3 ∨ hard ∨ absI (s.q (CV_FOLLOWING_ERROR n)) ≤ lim then
    s.modAx n (fun a => { a with feRun := 0 })
  else
    let s := s.modAx n (fun a => { a with feRun := a.feRun + 1 })
    if s.cf (PRF_FE_SAMPLES n) ≤ (s.ax n).feRun then s.raiseB n fcFollowing else s

/-- The in-position rule after a move (R289). -/
def State.checkInPos (s : State) (n : Nat) : State :=
  let a := s.ax n
  if !a.judging ∨ !s.stageOn n then s
  else if !inWindow 0 (-s.cq (PRF_IN_POS_WINDOW n)) (s.cq (PRF_IN_POS_WINDOW n)) (posDiff (s.pSet n) (s.posOf n)) then
    s.modAx n (fun a => { a with inPos := 0 })
  else if ((s.cf (PRF_IN_POS_TIME n) * 1000 * 2 ^ 32 : Nat) : Int) ≤ a.inPos then
    (s.setBit (ST_AXIS_STATUS n) 4).modAx n (fun a => { a with judging := false })
  else s.modAx n (fun a => { a with inPos := a.inPos + s.t3 n })

/-- A cap of SETUP is below the value it replaces (R297). -/
def State.setupLimited (s : State) (n : Nat) : Bool :=
  s.inSetup n &&
  (let l := s.limsWith n (s.params n).v false
   let c := s.lims n
   let iq := s.cf (LIM_SETUP_IQ_LIMIT n)
   decide (c.v < l.v) || decide (c.a < l.a) || decide (c.d < l.d) ||
   (physical n && (F.lt iq (s.cf (CAS_IQ_LIMIT n)) || (s.ccMode n == 3 && F.lt iq (s.cf (CC_I_MAX n))))))

/-- The fields of AXIS_STATUS that show the latest L3 sample instant (Table MO-9). -/
def State.showStatus (s : State) (n : Nat) : State :=
  let fe := absI (s.q (CV_FOLLOWING_ERROR n))
  let lim := s.cq (PRF_FE_LIMIT n)
  let bits : List (Nat × Bool) :=
    [(2, s.stageOn n), (3, s.referenced n),
     (5, s.axMode n == mmVelocity && s.vSet n == (s.params n).tv),
     (6, physical n && decide (lim < 2 * fe)),
     (7, s.outside n != 0), (8, s.switchActive n 0), (9, s.switchActive n 1), (10, s.switchActive n 2),
     (11, s.homing n && s.axMode n == mmHoming), (12, s.setupLimited n), (13, s.faultPending n)]
  each bits s (fun s e => s.putBit (ST_AXIS_STATUS n) e.1 e.2)

/-- The port of an axis in CC_MODE 2 or 3 has lost its position while the power stage is on (Table MO-5). -/
def State.checkPosition (s : State) (n : Nat) : State :=
  if (s.ccMode n == 2 || s.ccMode n == 3) && (s.motorPort n).isSome && s.stageOn n && !s.posValid n
  then s.raiseB n fcPositionLost else s

/-! ### Changes of publishing source axes (R329, R334) -/

/-- What follows the standstill of a mains stop: ENABLED (R334), but OFF in LOCKED (R44) and FAULT where FAULT_PENDING is set (R282). -/
def State.afterMains (s : State) (n : Nat) : AfterStop :=
  if s.faultPending n then .fault else if s.dev = .locked then .off else .enabled

/-- One change at its T_c. An axis whose power stage is off has nothing to stop. -/
def State.applyChange (s : State) (n : Nat) (c : Change) : State :=
  match c with
  | .cmd x => s.runCommand n x
  | .params p => (s.modAx n (fun a => { a with use := some p, dirty := true })).queueRebuild n
  | .lock => s.controlledStop n
  | .stop => if !s.stageOn n then s else ((s.dropMotion n).setAx n axStopping).startStop n (s.cq (LIM_CONTROLLED_STOP_DEC n)) .enabled .other
  | .mains p v a j dur =>
    if !s.stageOn n then s
    else
      let x : Seg := ⟨dur, p, v, a, j⟩
      let after := s.afterMains n
      let s := s.dropMotion n
      let s := s.modAx n (fun b => { b with
        plan := [x, ⟨0, x.posAt dur, 0, 0, 0⟩], tPlan := 0, after := after, stopDec := absI a, stopKind := .other })
      (s.setMode n mmStop).setAx n axStopping

/-- The generator runs from control-schedule instant `t0` to `t1`; changes whose T_c lies between act at their own T_c, and the
rest of the interval follows (R329). -/
def State.genSpan (s : State) (n : Nat) (t0 t1 : Int) : State :=
  let l := (s.ax n).due
  let s := s.modAx n (fun a => { a with due := l.filter (fun d => decide (t1 ≤ d.at_)) })
  let r := (l.filter (fun d => decide (d.at_ < t1))).foldl (fun (x : State × Int) d =>
    let t := maxI x.2 d.at_
    ((((x.1.genBy n (t - x.2)).arrive n).applyChange n d.what).replan n, t)) (s, t0)
  r.1.genBy n (t1 - r.2)

/-- The changes of an axis whose T_c is the control-schedule instant `now`. -/
def State.drainDue (s : State) (n : Nat) (now : Int) : State :=
  let l := (s.ax n).due
  let s := s.modAx n (fun a => { a with due := l.filter (fun d => decide (now < d.at_)) })
  each (l.filter (fun d => decide (d.at_ ≤ now))) s (fun s d => s.applyChange n d.what)

/-- A write of TARGET_VELOCITY or of a profile parameter: it replans at the next L3 sample instant (R286, R288); on a
publishing source axis it waits for its T_c (R329). -/
def State.paramWrite (s : State) (n k v : Nat) : Res :=
  if (s.publisherOf n).isSome then
    let old := s.params n
    let s := s.wr k v
    let new := s.written n
    okRes ((s.modAx n (fun a => { a with use := some old })).holdBack n (.params new))
  else okRes ((s.wr k v).modAx n (fun a => { a with dirty := true }))

/-! ### The instant -/

/-- The sign of the last non-zero v_set is kept (R342), and the set-point is the axis's sample at this instant (R313, R152). -/
def State.noteGen (s : State) (n : Nat) : State :=
  let v := s.vSet n
  let x : SetPt := ⟨s.nowT, s.pSet n, v, s.aSet n⟩
  s.modAx n (fun a => { a with genT := s.nowT, gens := keepBack (·.t) 40 s.nowT (x :: a.gens), vSign := if v = 0 then a.vSign else signI v })

/-- The first L3 sample instant after a cold takeover (R561): the generator takes p_set = POSITION and v_set = SPEED, and the axis
stops at CONTROLLED_STOP_DEC, a published one under R329. -/
def State.coldStart (s : State) (n : Nat) : State :=
  let s := s.modAx n (fun a => { a with cold := false })
  if !s.stageOn n then s
  else
    let s := if physical n then s.setPoint n ⟨s.posOf n, s.q (AF_SPEED n), 0, 0⟩ else s
    if (s.publisherOf n).isSome then s.holdBack n .stop else s.applyChange n .stop

/-- Register correction, and the applied phase: they come last of the generation functions of an instant, so the phase moves with what
this instant found, and the follow target takes it at the next one (R241, R343, R344, Table LS-10; log entry 87). -/
def State.correct (s : State) (n : Nat) (dt : Int) : State :=
  let follow := s.axMode n == mmFollow
  let s := s.regStep n follow
  if follow then s.phaseStep n dt else s

/-- What an axis does at its L3 sample instant or virtual tick: a class B cause that generation raises here waits for the next one
(R282). -/
def State.axisInstant (s : State) (n : Nat) : State :=
  if s.isBench then (s.pageSwap n).pageFill n
  else
  let dt := s.evalTime n
  let s := s.pageSwap n
  let before := (s.ax n).classB
  let s := if (s.ax n).cold then s.coldStart n else s.genSpan n (s.sched - s.t3 n) s.sched
  let s := (s.arrive n).queueRebuild n
  let fresh := clrMask (s.ax n).classB before
  let s := (((s.modAx n (fun a => { a with classB := before })).checkPosition n).takeB n).modAx n
    (fun a => { a with classB := a.classB ||| fresh })
  let s := (s.drainCmds n).drainDue n s.sched
  let s := (s.replan n).homeStep n
  let s := ((s.correct n dt).limitStop n).switchStop n
  let s := ((s.noteGen n).l3Law n).checkFe n
  let s := (s.checkInPos n).showStatus n
  (if s.stageOn n then s.completed n 1 else s).pageFill n

/-- L3_SAMPLE of a physical axis on its carrier (R229, R241). -/
def execL3Sample (n : Fin 16) (s : State) : Host.Outcome State Fault Refusal :=
  .next ((s.bankSwap n.val 3).axisInstant n.val)

/-- VIRTUAL_TICK of one axis: a virtual axis, or a physical one off the carrier, which also samples its port (R254, R480).
The master states of the subscriptions show this tick. -/
def execVirtualTick (n : Fin 32) (s : State) : Host.Outcome State Fault Refusal :=
  let s := s.subShow
  let s := if physical n.val then s.sampleSeen n.val else s
  let s := s.axisInstant n.val
  .next (if physical n.val then s else (s.modAx n.val (fun a => { a with sampT := s.nowT })).latchPasses n.val)

end Sys2Proof.Machine
end

