-- ==== Sys2Proof/Machine/Publish.lean ====
section
/-! DEFINITION. Publishers (R327 to R334): publish instants, the plan of the source axis at T0, the instants T_c of changes,
the coordinated stop on mains loss, and the frames a pass leaves in. -/
namespace Sys2Proof.Machine
open Obj

def State.pb (s : State) (q : Nat) : PubSt := at' s.pub q
def State.modPb (s : State) (q : Nat) (f : PubSt → PubSt) : State := { s with pub := s.pub.setIfInBounds q (f (s.pb q)) }

/-- Nanoseconds as 2^-32 ns. -/
def nsU (n : Nat) : Int := ((n * 2 ^ 32 : Nat) : Int)

/-! ### The planned state at T0 -/

/-- One virtual tick of a source axis as planned: generation, ends, changes due, replans, virtual limits. -/
def State.planTick (s : State) (n : Nat) (t0 t1 : Int) : State :=
  (((((s.genSpan n t0 t1).arrive n).drainDue n t1).replan n).limitStop n)

/-- The source axis carried on, tick by tick, to the control-schedule instant `t`: its planned state there (R327). -/
def State.planTo : Nat → State → Nat → Int → Int → State
  | 0, s, _, _, _ => s
  | k + 1, s, n, t0, t =>
    if t0 + s.tVirtual ≤ t then State.planTo k (s.planTick n t0 (t0 + s.tVirtual)) n (t0 + s.tVirtual) t
    else if t0 < t then (s.genSpan n t0 t).drainDue n t
    else s

/-- The motion of axis `n` at a control-schedule instant `t` not after `t0`, that of its last tick: what the plan in force gave there,
and before the plan began the sample at or before `t`, carried on. -/
def State.pastPoint (s : State) (n : Nat) (t0 t : Int) : PVA :=
  let a := s.ax n
  if s.stageOn n ∧ t0 - t ≤ a.tPlan then evalPlan a.plan (a.tPlan - (t0 - t))
  else
    let u := a.genT - (t0 - t) / (tickU : Int)
    match (genAt a.gens u).or a.gens.getLast? with
    | some x => ⟨wrapPos (x.p + x.v * ((u - x.t) * (tickU : Int)) / secI), x.v, x.a, 0⟩
    | none => ⟨s.pSet n, 0, 0, 0⟩

/-- The planned set-point of axis `n` at control-schedule instant `t`, with the jerk of the interval that begins there (R327). -/
def State.planned (s : State) (n : Nat) (t : Int) : PVA :=
  let t0 := (s.ax n).genT * (tickU : Int) + s.time.schedDiff
  if t < t0 then s.pastPoint n t0 t
  else
    let x := State.planTo ((t - t0) / maxI 1 s.tVirtual + 1).toNat s n t0 t
    let j := if x.stageOn n then (evalPlan (x.ax n).plan (x.ax n).tPlan).j else 0
    ⟨x.pSet n, x.vSet n, x.aSet n, j⟩

/-! ### Frames (R331, R332, Table LS-6) -/

/-- The PDU of a pass of publisher `q`, its MAC included (R428). -/
def State.pubPdu (s : State) (q : Nat) (seq flags : Nat) (t0 : Int) (x : PVA) (validity : Nat) : PassPdu :=
  let u := t0.toNat
  let ns := u / 65536
  ⟨1, 1, s.cf (PUB_MASTER_ID q), flags, seq, ns / nsPerSec, ns % nsPerSec, u % 65536, x.p, x.v, x.a, x.j, validity,
    s.cf (PUB_KEY_ID q)⟩

def passWire (p : PassPdu) : Bytes :=
  let b := passBytes p
  b ++ leBytes 16 (Config.cmac p.keyId b).toNat

/-- The Ethernet frame of a pass (R103): to the group address, with a tag of the VID and PCP 7 where PASS_VID is not 0. -/
def State.passFrame (s : State) (w : Bytes) : Bytes :=
  let vid := s.cf NET_PASS_VID
  ethFrame (macOfObj (s.cf NET_PASS_GROUP)) s.ownMac (if vid = 0 then 0 else 7 * 2 ^ 13 + vid) (s.cf NET_PASS_ETHERTYPE) w

/-- A pass leaves: SEQUENCE, PUBLISHED, its frames on each transport, and the module's own subscriptions (R332). -/
def State.sendPass (s : State) (q flags : Nat) (t0 : Int) (x : PVA) (validity : Nat) : State :=
  let seq := (s.rd (PUB_SEQUENCE q) + 1) % 2 ^ 32
  let s := (s.wr (PUB_SEQUENCE q) seq).bump (PUB_PUBLISHED q)
  let p := s.pubPdu q seq flags t0 x validity
  let w := passWire p
  let tr := s.cf (PUB_TRANSPORT q)
  let s := if tr.testBit 0 then
      (s.sendFrame (s.passFrame w)).passTake (s.subsOf p.master 1) 0 p true s.now16
    else s
  if tr.testBit 1 then
    let id := s.cf (PUB_CAN_ID q)
    let c := s.cf (PUB_CAN_CHANNEL q)
    (s.canSend c (passIdent id) (w.take 48)).canSend c (passIdent (id + 1)) (leBytes 1 p.master ++ leBytes 1 seq ++ w.drop 48 ++ leBytes 2 0)
  else s

/-! ### The mains stop (R333, R334) -/

/-- The stop polynomial for velocity `v0` and position `p0` at `t0` (2^-16 ns): with its end and whether it moves. -/
def mainsStop (t0 p0 v0 dec : Int) (validity : Nat) : MStop × Nat :=
  if v0 = 0 then (⟨t0, t0, p0, 0, 0, 0⟩, validity)
  else
    let g : Int := (nsPerSec : Int)
    let t := -fdiv (-(2 * absI v0 * g)) dec
    (⟨t0, t0 + t * 65536, p0, v0, rdiv (-2 * v0 * g) t, rdiv (2 * v0 * g * g) (t * t)⟩, t.toNat)

/-- A stop polynomial as a piece. -/
def MStop.seg (m : MStop) : Seg := ⟨(m.tEnd - m.t0) * 65536, m.p0, m.v0, m.a0, m.j⟩

/-- Its state at a line time in 2^-16 ns. -/
def MStop.at_ (m : MStop) (t : Int) : PVA :=
  let dt := (t - m.t0) * 65536
  ⟨m.seg.posAt dt, m.seg.velAt dt, m.seg.accAt dt, m.j⟩

/-- Commands taken before P_n whose T_c falls at or after T0 of the stop pass are answered with STATE (R334). -/
def State.refuseDue (s : State) (n : Nat) (tc : Int) : State :=
  let late := (s.ax n).due.filter (fun d => decide (tc ≤ d.at_))
  let s := s.modAx n (fun a => { a with due := a.due.filter (fun d => decide (d.at_ < tc)) })
  each late s (fun s d => match d.what with
    | .cmd c => s.commandResult n c rState
    | c => s.modAx n (fun a => { a with due := a.due ++ [⟨d.at_, c⟩] }))

/-- The first stop pass of a mains loss: the plan is evaluated, and the source axis joins the polynomial, at the control-schedule value
equal to T0 (R327, R333, R334). -/
def State.beginMains (s : State) (q : Nat) (t0 tc : Int) : State :=
  let n := s.cf (PUB_SOURCE_AXIS q)
  let x := s.planned n (t0 * 65536)
  let (m, v) := mainsStop t0 x.p x.v (s.cq (PUB_MAINS_STOP_DEC q)) (s.cf (PUB_VALIDITY q))
  let s := s.refuseDue n tc
  let s := s.modAx n (fun a => { a with due := a.due ++ [⟨t0 * 65536, .mains m.p0 m.v0 m.a0 m.j m.seg.dur⟩] })
  let now := s.clock
  let s := (s.modPb q (fun p => { p with stop := some m, mainsDue := false, since := now })).wr (PUB_STATE q) 3
  (s.sendPass q 7 t0 ⟨m.p0, m.v0, m.a0, m.j⟩ v).record 8 6 0 q 0

/-! ### Publish instants -/

/-- A publisher publishes in this state of the device, of line time and of its source axis (R330). -/
def State.mayPublish (s : State) (q : Nat) : Bool :=
  let n := s.cf (PUB_SOURCE_AXIS q)
  (s.dev == .op || (s.dev == .locked && s.stageOn n)) && s.ltSt.good

/-- PUB_STATE as it reads: PUBLISHING or SUSPENDED as the conditions stand (R330). -/
def State.pubState (s : State) (q : Nat) : Nat :=
  let x := s.rd (PUB_STATE q)
  if x = 1 ∨ x = 2 then (if s.mayPublish q then 1 else 2) else x

/-- Changes taken at a core clock before this publish instant get their T_c (R329). -/
def State.giveTc (s : State) (n : Nat) (tc : Int) : State :=
  let now := s.clock
  s.modAx n (fun a => { a with
    taken := a.taken.filter (fun c => decide (now ≤ c.at_)),
    due := a.due ++ (a.taken.filter (fun c => decide (c.at_ < now))).map (fun c => ⟨tc, c.what⟩) })

/-- PUBLISH_INSTANT (R327, R333, R334). -/
def State.publish (s : State) (q : Nat) : State :=
  if !s.on (PUB_ENABLE q) then s
  else
    let n := s.cf (PUB_SOURCE_AXIS q)
    let lead := nsU (s.cf (PUB_LEAD q))
    let tc := s.sched + lead
    let t0 := (s.now + lead) / 65536
    let s := s.giveTc n tc
    let ok := s.mayPublish q
    match (s.pb q).stop with
    | some m =>
      if ok ∧ trunc125 t0 < trunc125 m.tEnd then s.sendPass q 7 t0 (m.at_ t0) ((m.tEnd - t0) / 65536).toNat else s
    | none =>
      if !ok then s.wr (PUB_STATE q) 2
      else if (s.pb q).mainsDue then s.beginMains q t0 tc
      else
        -- a control schedule that slews is offset from the line time of T0 by its difference (R25, R327)
        let x := s.planned n (t0 * 65536)
        (s.wr (PUB_STATE q) 1).sendPass q 0 t0 x (s.cf (PUB_VALIDITY q))

def execPublishInstant (q : Fin 4) (s : State) : Host.Outcome State Fault Refusal :=
  .next (if s.isBench then s else s.publish q.val)

/-- Publishers at the instant a configuration takes effect; the parameters of an axis that no longer publishes are those
written. -/
def State.pubCommit (s : State) : State :=
  let s := each (upto 4) s (fun s q =>
    if !s.on (PUB_ENABLE q) then (s.modPb q (fun _ => {})).wr (PUB_STATE q) 0
    else if s.rd (PUB_STATE q) = 0 then s.wr (PUB_STATE q) (if s.mayPublish q then 1 else 2)
    else s)
  each allAxes s (fun s n =>
    if (s.publisherOf n).isSome then s
    else s.modAx n (fun a => { a with
      use := none,
      cmds := a.cmds ++ ((a.taken ++ a.due).map (·.what)).filterMap (fun c => match c with | .cmd x => some x | _ => none),
      taken := [], due := [], dirty := a.dirty || a.use.isSome }))

end Sys2Proof.Machine
end

