-- ==== Sys2Proof/Machine/CurrentCell.lean ====
section
/-! DEFINITION. The current cell of an axis at its L1 sample instant (chapter 04): the sinc windows, Table PW-3, the modes of
Table PW-2, adaptive current and stall detection (R307 to R309); overcurrent, modulator faults and trips. -/
namespace Sys2Proof.Machine
open Obj

/-! ### Sigma-delta windows (R179 to R181) -/

/-- The weight of bit `k` of a window of `osr` bits, times a factor common to all (R180). -/
def sincWeight (osr k : Nat) : Int :=
  let d : Int := ((2 * osr : Nat) : Int)
  let a : Int := ((3 * (2 * k + 1) : Nat) : Int)
  if a < d then a * a
  else if a < 2 * d then -2 * a * a + 6 * a * d - 3 * d * d
  else (3 * d - a) * (3 * d - a)

/-- The filter value of a window, bit 0 the oldest. -/
def sincValue (osr : Nat) (w : BitVec 256) : Nat :=
  let l := upto osr
  let sum := l.foldl (fun x k => x + sincWeight osr k) 0
  f32.ofRat (l.foldl (fun x k => x + (if w.getLsbD k then sincWeight osr k else -(sincWeight osr k))) 0) sum.toNat

/-- A stream as a list of bits, the newest first. -/
def streamBits (w : BitVec 128) : List Bool := (upto 128).map (fun i => w.getLsbD i)

/-- Moving sums over `n` neighbours of a list, newest first. -/
def movingSum (n : Nat) : List Int → List Int
  | [] => []
  | x :: xs => (x :: xs.take (n - 1)).foldl (· + ·) 0 :: movingSum n xs

/-- The last `count` values of the fast sinc3 filter over a bit stream (R183): three moving sums of `osr` bits, each value a
fraction of osr³. -/
def fastValues (osr count : Nat) (w : BitVec 128) : List Nat :=
  let sums := movingSum osr (movingSum osr (movingSum osr ((streamBits w).map (fun b => if b then 1 else -1))))
  (sums.take count).map (fun x => f32.ofRat x (osr ^ 3))

/-- The phase current of channel `k` for a filter value (R181). -/
def State.channelCurrent (s : State) (k x : Nat) : Nat :=
  F.add (F.mul (F.mul (s.calv (CALV_SD_GAIN k)) (s.cf (SDC_SCALE k))) x) (s.cf (SDC_OFFSET k))

/-- A current cell is gated while its axis is OFF and it does not run in shadow (Table AR-6). -/
def State.cellGated (s : State) (n : Nat) : Bool := s.axState n == axOff && !s.shadow n

/-! ### Angles (R188, R197) -/

/-- The fraction of an electrical turn of a position in raw counts, over COUNTS_PER_REV·2^32. -/
def State.turnNum (s : State) (n : Nat) (p : Int) : Nat :=
  let den : Int := ((s.cf (AF_COUNTS_PER_REV n) : Nat) : Int) * oneQ
  let num := ((s.cf (CC_POLE_PAIRS n) : Nat) : Int) * posDiff p (s.cq (CC_ANGLE_OFFSET n))
  (num - den * fdiv num den).toNat
def State.turnDen (s : State) (n : Nat) : Nat := s.cf (AF_COUNTS_PER_REV n) * 2 ^ 32

/-- The electrical angle of a position in [0, 2π]. -/
def State.elecAngle (s : State) (n : Nat) (p : Int) : Nat :=
  F.mul F.twoPi (f32.ofRat ((s.turnNum n p : Nat) : Int) (s.turnDen n))

/-- The angle of a stepper set-point, rounded down to a microstep (R197). -/
def State.stepAngle (s : State) (n : Nat) (p : Int) : Nat :=
  let m := 4 * s.cf (CC_MICROSTEPS n)
  let k := s.turnNum n p * m / max 1 (s.turnDen n)
  F.mul F.twoPi (f32.ofRat ((k : Nat) : Int) m)

/-- The sample that the current cell takes its angle from at a sample instant now (R128): that of this instant, or, where
EXTRAPOLATED_ANGLE is set, the one before it carried on with its speed. -/
def State.cellSample (s : State) (n : Nat) : Smp :=
  let fresh : Smp := ⟨s.nowT, s.dirOf n (s.posOf n), s.dirOf n (s.speedOf n)⟩
  match s.motorPort n with
  | some p =>
    if s.bitOf (FB_PORT_STATUS p) 10 then
      match sampleAt (s.pt p).hist (s.nowT - 1) with
      | some x => ⟨s.nowT, x.at_ s.nowT, x.v⟩
      | none => fresh
    else fresh
  | none => fresh

/-- Position and speed of the motor port before DIRECTION, as the current cell has them. -/
def State.rawPos (s : State) (n : Nat) : Int := (s.cellSample n).x
def State.rawSpeed (s : State) (n : Nat) : Int := (s.cellSample n).v

/-- The electrical speed in rad/s. -/
def State.elecSpeed (s : State) (n : Nat) : Nat :=
  F.div (F.mul (F.mul F.twoPi (F.ofNat (s.cf (CC_POLE_PAIRS n)))) (F.ofQ (s.rawSpeed n))) (F.ofNat (s.cf (AF_COUNTS_PER_REV n)))

/-- An angle brought into one turn. -/
def wrapTurn (x : Nat) : Nat := F.sub x (F.mul F.twoPi (F.ofInt (f32.toIntFloor (F.div x F.twoPi) 0)))

/-! ### Constants -/

/-- √3, √3/2 and π/2 in binary32. -/
def sqrt3 : Nat := 0x3fddb3d7
def sqrt3h : Nat := 0x3f5db3d7
def halfPi : Nat := 0x3fc90fdb

/-! ### Table PW-3 -/

/-- Two-phase cells are those of CC_MODE 3 and 4. -/
def State.twoPhase (s : State) (n : Nat) : Bool := s.ccMode n == 3 || s.ccMode n == 4

/-- Stationary currents (step 2). -/
def State.clarke (s : State) (n a b : Nat) : Nat × Nat :=
  if s.twoPhase n then (a, b) else (a, F.div (F.add a (F.mul F.two b)) sqrt3)

/-- Rotation by −θ (step 3) and by θ (step 12). -/
def park (c sn a b : Nat) : Nat × Nat := (F.add (F.mul a c) (F.mul b sn), F.add (F.mul (F.neg a) sn) (F.mul b c))
def unpark (c sn d q : Nat) : Nat × Nat := (F.sub (F.mul d c) (F.mul q sn), F.add (F.mul d sn) (F.mul q c))

/-- The voltage limit V_LIM for V_DC (R190). -/
def State.vLim (s : State) (n vdc : Nat) : Nat :=
  let x := F.mul (s.cf (CC_V_LIMIT_FRAC n)) vdc
  if s.twoPhase n then x else F.div x sqrt3

/-- Table PW-4. -/
def limitDq (lim d q : Nat) : Nat × Nat × Bool :=
  if F.le (F.sqrt (F.add (F.mul d d) (F.mul q q))) lim then (d, q, false)
  else
    let d1 := F.clampAbs lim d
    (d1, F.clampAbs (F.sqrt (F.sub (F.mul lim lim) (F.mul d1 d1))) q, true)

/-- One integrator (step 10): it stands in a sample in which its voltage was clamped and the error has its sign (R191), and at
a sample whose window has a gap (R558). -/
def integrate (ki t1 e i v v1 : Nat) (gap : Bool) : Nat :=
  if gap || (!F.eq v v1 && sameSign e v) then i else F.add i (F.mul (F.mul ki t1) e)

/-- The current that L1 takes as the L2 output (R188, R297). -/
def State.l1Iq (s : State) (n : Nat) : Nat :=
  let x := (s.cs n).iqPub
  let x := if s.ctlMode n = 1 ∧ s.inSetup n then F.clampAbs (minF (s.cf (CAS_IQ_LIMIT n)) (s.cf (LIM_SETUP_IQ_LIMIT n))) x else x
  s.dirF n x

/-- A sample's voltages, flags and integrators. -/
structure CellOut where
  vd : Nat
  vq : Nat
  vpi : Nat
  intD : Nat
  intQ : Nat
  vLimited : Bool
  cLimited : Bool
  idRef : Nat
  iqRef : Nat

/-- Steps 4 to 10 for CC_MODE 1 and 4. -/
def State.focStep (s : State) (n id iq w vdc : Nat) (gap : Bool) : CellOut :=
  let k (f : Nat → Nat → Nat) : Nat := s.coef f n 1
  let c := s.cl n
  let im := s.cf (CC_I_MAX n)
  let t1 := secondsF (s.t1 n)
  let idr0 := s.rd (CCV_ID_REF n)
  let idr := F.clampAbs im idr0
  let iqr0 := s.l1Iq n
  let iqr := F.clampAbs (F.sqrt (F.sub (F.mul im im) (F.mul idr idr))) iqr0
  let ed := F.sub idr id
  let eq := F.sub iqr iq
  let pd := F.add (F.mul (k L1B_KP_D) ed) c.intD
  let pq := F.add (F.mul (k L1B_KP_Q) eq) c.intQ
  let ff := s.on (CC_FEEDFORWARD n)
  let dc := s.on (CC_DECOUPLE n)
  let fd := if ff then F.mul (k L1B_R_S) idr else 0
  let fq := if ff then F.mul (k L1B_R_S) iqr else 0
  let cd := if dc then F.mul (F.mul (F.neg w) (k L1B_L_Q)) iq else 0
  let cq := if dc then F.mul w (F.add (F.mul (k L1B_L_D) id) (k L1B_PSI_PM)) else 0
  let vd := F.add (F.add pd fd) cd
  let vq := F.add (F.add pq fq) cq
  let (vd1, vq1, lim) := limitDq (s.vLim n vdc) vd vq
  ⟨vd1, vq1, F.sqrt (F.add (F.mul pd pd) (F.mul pq pq)), integrate (k L1B_KI_D) t1 ed c.intD vd vd1 gap,
    integrate (k L1B_KI_Q) t1 eq c.intQ vq vq1 gap, lim, !F.eq idr idr0 || !F.eq iqr iqr0, idr, iqr⟩

/-- The phases of a stepper cell, mode 3 (R197): the references are those of the amplitude at the microstep angle. -/
def State.stepperStep (s : State) (n ia ib th vdc : Nat) (gap : Bool) : CellOut :=
  let k (f : Nat → Nat → Nat) : Nat := s.coef f n 1
  let c := s.cl n
  let t1 := secondsF (s.t1 n)
  let amp := s.rd (CCV_STEP_CURRENT n)
  let ar := F.mul amp (F.cos th)
  let br := F.mul amp (F.sin th)
  let ea := F.sub ar ia
  let eb := F.sub br ib
  let pa := F.add (F.mul (k L1B_KP_D) ea) c.intD
  let pb := F.add (F.mul (k L1B_KP_D) eb) c.intQ
  let ff (r : Nat) : Nat := if s.on (CC_FEEDFORWARD n) then F.mul (k L1B_R_S) r else 0
  let va := F.add pa (ff ar)
  let vb := F.add pb (ff br)
  let lim := s.vLim n vdc
  let va1 := F.clampAbs lim va
  let vb1 := F.clampAbs lim vb
  ⟨va1, vb1, F.sqrt (F.add (F.mul pa pa) (F.mul pb pb)), integrate (k L1B_KI_D) t1 ea c.intD va va1 gap,
    integrate (k L1B_KI_D) t1 eb c.intQ vb vb1 gap, !F.eq va va1 || !F.eq vb vb1, false, ar, br⟩

/-! ### Modulation (R192, R193, R196) -/

def maxF (x y : Nat) : Nat := if F.lt x y then y else x

/-- Duties of the legs from the stationary voltages: three for a three-phase cell, four for a two-phase one. -/
def State.duties (s : State) (n va vb vdc : Nat) : List Nat :=
  if s.twoPhase n then
    let a := F.div va (F.mul F.two vdc)
    let b := F.div vb (F.mul F.two vdc)
    [F.add F.half a, F.sub F.half a, F.add F.half b, F.sub F.half b]
  else
    let h := F.mul sqrt3h vb
    let m := F.div (F.neg va) F.two
    let v := F.add m h
    let w := F.sub m h
    let v0 := F.div (F.neg (F.add (maxF va (maxF v w)) (minF va (minF v w)))) F.two
    [va, v, w].map (fun x => F.add F.half (F.div (F.add x v0) vdc))

/-- Currents flowing out of the legs. -/
def State.legCurrents (s : State) (n a b : Nat) : List Nat :=
  if s.twoPhase n then [a, F.neg a, b, F.neg b] else [a, b, F.sub (F.neg a) b]

/-- Dead-time compensation of one duty (R193). -/
def State.deadComp (s : State) (n d i : Nat) : Nat :=
  let t := s.cf (CC_DTC_TIME n)
  if F.eq t 0 then d
  else
    let band := s.cf (CC_DTC_I_BAND n)
    let sg := if F.lt (F.abs i) band then F.div i band else if F.lt i 0 then F.neg F.one else F.one
    let per := secondsF (((s.cf (CG_PERIOD (s.cf (CC_CARRIER_GROUP n))) * tickU : Nat) : Int))
    F.add d (F.div (F.mul sg t) per)

/-- The compare value of a duty, clamped under the third case of R205. -/
def State.compareOf (s : State) (n d : Nat) : Nat :=
  let g := s.cf (CC_CARRIER_GROUP n)
  let per := s.cf (CG_PERIOD g)
  max 1 (clampPulse (s.cf (CG_MIN_PULSE g)) per (f32.toIntNearest (F.mul d (F.ofNat per)) 0).toNat)

/-- The duties committed at the last sample are in force from the reload of this one on. -/
def State.dutyStep (s : State) (n : Nat) : State := s.modCl n (fun c => { c with prevDuty := c.nextDuty })

/-- Duties committed for the next reload (R28). A cell in shadow commits none and only keeps them (R200). -/
def State.commitDuties (s : State) (n : Nat) (ds : List Nat) : State :=
  let s := s.modCl n (fun c => { c with nextDuty := Vector.ofFn (fun i => ds.getD i.val 0) })
  if s.isBench then s
  else each ds.zipIdx s (fun s e =>
    let l := s.cf (CCL_LEG n e.2)
    { s.wr (CCP_DUTY n e.2) e.1 with leg := { s.leg with cellCompare := s.leg.cellCompare.setIfInBounds l (some (s.compareOf n e.1)) } })

/-! ### Load indicator, adaptive current, stall (R198, R307 to R309) -/

def State.loadStep (s : State) (n v : Nat) : State :=
  let s := s.modCl n (fun c => { c with load := (v :: c.load).take 16 })
  let l := (s.cl n).load
  s.wr (CCV_LOAD_INDICATOR n) (F.div (l.foldl F.add 0) (F.ofNat (max 1 l.length)))

/-- The cap of STEP_CURRENT. -/
def State.stepCap (s : State) (n : Nat) : Nat :=
  if s.inSetup n then minF (s.cf (CC_I_MAX n)) (s.cf (LIM_SETUP_IQ_LIMIT n)) else s.cf (CC_I_MAX n)

/-- The adaptive current of a stepper cell (R307). -/
def State.adaptCurrent (s : State) (n : Nat) : State :=
  let h := s.cf (STL_HOLD_CURRENT n)
  let lo := s.cf (STL_LI_LOW n)
  let x := F.clamp 0 F.one (F.div (F.sub (s.rd (CCV_LOAD_INDICATOR n)) lo) (F.sub (s.cf (STL_LI_HIGH n)) lo))
  let want := F.add h (F.mul (F.sub (s.cf (STL_RUN_CURRENT n)) h) x)
  let step := F.mul (s.cf (STL_CURRENT_SLEW n)) (secondsF (s.t1 n))
  let cur := s.rd (CCV_STEP_CURRENT n)
  s.wr (CCV_STEP_CURRENT n) (minF (s.stepCap n) (F.add cur (F.clampAbs step (F.sub want cur))))

/-- The stall condition held at this sample or not; a run of STALL_SAMPLES declares a stall (R309). -/
def State.stallStep (s : State) (n : Nat) (cond : Bool) : State :=
  let run := if cond then (s.cl n).stallRun + 1 else 0
  let s := s.modCl n (fun c => { c with stallRun := run })
  if cond ∧ run = s.cf (STL_STALL_SAMPLES n) then
    (((s.setBit (ST_AXIS_STATUS n) 15).bump (ST_STALL_COUNT n)).record 4 7 0 n 0).raiseB n fcStall
  else s

/-- The position set-point of a stepper cell at this sample (R234). -/
def State.stepSet (s : State) (n : Nat) : Int :=
  let c := s.cs n
  wrapPos (carry c.pSetPub c.vSetPub (s.sched / (tickU : Int) - c.tOut))

/-- The load angle of a LARGE axis (R308): the angle of the estimated back-EMF comes from Config.bemf. -/
def State.loadAngle (s : State) (n ia ib vdc : Nat) : State × Nat :=
  let c := s.cl n
  let d (i : Nat) : Nat := F.mul (F.sub (at' c.prevDuty i) F.half) vdc
  let (va, vb) := if s.twoPhase n then (F.sub (d 0) (d 1), F.sub (d 2) (d 3)) else s.clarke n (d 0) (d 1)
  let (ja, jb) := s.clarke n ia ib
  let k (f : Nat → Nat → Nat) : BitVec 32 := BitVec.ofNat 32 (s.coef f n 1)
  let w (x : Nat) : BitVec 32 := BitVec.ofNat 32 x
  let o := Config.bemf [w (s.cf (STL_BEMF_BW n)), w (secondsF (s.t1 n)), k L1B_R_S, k L1B_L_D, k L1B_L_Q, k L1B_PSI_PM,
    w va, w vb, w ja, w jb] c.obs
  let s := s.modCl n (fun c => { c with obs := o })
  let thr := F.sub (F.atan2 (o.toNat / 2 ^ 32 % 2 ^ 32) (o.toNat % 2 ^ 32)) halfPi
  let x := wrapTurn (F.sub (s.elecAngle n (if s.ccMode n = 3 then s.stepSet n else s.pSet n)) thr)
  (s, if F.le 0x40490fdb x then F.sub x F.twoPi else x)

/-- Stall detection of the axis's class, while STALL_ENABLE is 1 and the power stage is on. -/
def State.stallCheck (s : State) (n ia ib vdc : Nat) : State :=
  let hard := s.homing n && (match s.homePhase n with | .hardStop => true | _ => false)
  let active := s.on (STL_STALL_ENABLE n) && s.stageOn n && !hard
  if s.cf (STL_AXIS_CLASS n) = 0 then
    s.stallStep n (active && s.ccMode n == 3 && F.eq (s.rd (CCV_STEP_CURRENT n)) (s.stepCap n) &&
      F.lt (s.cf (STL_STALL_LI n)) (s.rd (CCV_LOAD_INDICATOR n)))
  else if s.ccMode n = 2 then s
  else
    let (s, x) := s.loadAngle n ia ib vdc
    let fast := decide (s.cq (STL_STALL_MIN_SPEED n) ≤ absI (s.vSet n))
    let s := s.wr (STL_LOAD_ANGLE n) (if active && fast then x else 0)
    s.stallStep n (active && fast && F.lt (s.cf (STL_STALL_ANGLE n)) (F.abs x))

/-! ### The sample -/

/-- Angle validity of a cell in mode 1 or 4 (R195): the state, and whether it commits nothing and has fenced. -/
def State.angleCheck (s : State) (n : Nat) : State × Bool :=
  let acts := (s.ccMode n == 1 || s.ccMode n == 4) && s.stageOn n && !s.isBench
  if s.posValid n || !acts then (s.modCl n (fun c => { c with invalidRun := 0 }), false)
  else
    let s := (s.modCl n (fun c => { c with invalidRun := c.invalidRun + 1 })).setBit (CCV_CC_STATUS n) 5
    if (s.cl n).invalidRun < 3 then (s, false)
    else ((s.fenceAtReload (s.legSet n)).faultA n fcAngle, true)

/-- θ and ω of a cell in mode 1 or 4: measured, or the last valid ones carried on (R188, R195). -/
def State.cellAngle (s : State) (n : Nat) : State × Nat × Nat :=
  let c := s.cl n
  if c.invalidRun = 0 then
    let th := s.elecAngle n (s.rawPos n)
    let w := s.elecSpeed n
    (if s.posValid n then s.modCl n (fun c => { c with thetaLast := th, omegaLast := w }) else s, th, w)
  else
    (s, wrapTurn (F.add c.thetaLast (F.mul (F.mul c.omegaLast (secondsF (s.t1 n))) (F.ofNat c.invalidRun))), c.omegaLast)

/-- The voltages of the mode: angle at the output, stationary voltages, the rest. -/
def State.cellVolts (s : State) (n ia ib vdc : Nat) (gap : Bool) : State × CellOut × Nat × Nat :=
  let show_ (s : State) (th d q : Nat) (o : CellOut) : State :=
    ((((((s.wr (CCV_THETA_E n) th).wr (CCV_I_D n) d).wr (CCV_I_Q n) q).wr (CCV_V_D n) o.vd).wr (CCV_V_Q n) o.vq).wr
      (CCV_IQ_REF n) o.iqRef)
  let (al, be) := s.clarke n ia ib
  match s.ccMode n with
  | 2 =>
    let th := s.rd (CCV_THETA_SET n)
    let (d, q) := park (F.cos th) (F.sin th) al be
    let (vd, vq, lim) := limitDq (s.vLim n vdc) (s.rd (CCV_V_D_SET n)) (s.rd (CCV_V_Q_SET n))
    let o : CellOut := ⟨vd, vq, 0, (s.cl n).intD, (s.cl n).intQ, lim, false, 0, 0⟩
    let (va, vb) := unpark (F.cos th) (F.sin th) vd vq
    (show_ s th d q o, o, va, vb)
  | 3 =>
    let s := s.adaptCurrent n
    let th := s.stepAngle n (s.stepSet n)
    let (d, q) := park (F.cos th) (F.sin th) al be
    let o := s.stepperStep n ia ib th vdc gap
    (show_ s th d q o, o, o.vd, o.vq)
  | m =>
    let (s, th, w) := s.cellAngle n
    let (d, q) := park (F.cos th) (F.sin th) al be
    let o := s.focStep n d q w vdc gap
    let ph := F.add th (F.mul (F.mul w (s.cf (CC_ANGLE_ADVANCE n))) (secondsF (s.t1 n)))
    let (va, vb) := unpark (F.cos ph) (F.sin ph) o.vd o.vq
    let lim := F.mul (s.cf (CC_V_LIMIT_FRAC n)) vdc
    if m = 4 then (show_ s th d q o, o, F.clampAbs lim va, F.clampAbs lim vb) else (show_ s th d q o, o, va, vb)

/-- Conditions of the fast paths that the window shows to have ended (R185): a stream with both bit values, a current inside
the thresholds. -/
def State.ocEnded (s : State) (k i : Nat) (moving : Bool) : State :=
  let inside := F.lt i (s.cf (SDC_OC_HIGH k)) && F.lt (s.cf (SDC_OC_LOW k)) i
  { s with leg := { s.leg with
    ocNow := if inside then Sys2Proof.clrBit s.leg.ocNow k else s.leg.ocNow,
    modNow := if moving then Sys2Proof.clrBit s.leg.modNow k else s.leg.modNow } }

/-- A window of `osr` bits holds both values. -/
def bothValues (osr : Nat) (w : BitVec 256) : Bool :=
  let x := w.toNat % 2 ^ osr
  x != 0 && x != 2 ^ osr - 1

/-- The window of this sample does not lie wholly after the claim of a takeover (R561). -/
def State.beforeClaim (s : State) (n : Nat) : Bool :=
  match s.twin.resume with
  | some t0 => decide (s.nowT - (s.cf (CC_OSR n) * s.cf (SD_SDCLK_DIV (n / 4)) * 4 : Nat) < t0)
  | none => false

/-- The cell at an L1 sample instant of an axis that is not gated. -/
def State.cellRun (s : State) (n : Nat) (w0 w1 : BitVec 256) (gap : Bool) : State :=
  let osr := s.cf (CC_OSR n)
  let ia := s.channelCurrent (2 * n) (sincValue osr w0)
  let ib := s.channelCurrent (2 * n + 1) (sincValue osr w1)
  let s := (s.ocEnded (2 * n) ia (bothValues osr w0)).ocEnded (2 * n + 1) ib (bothValues osr w1)
  let s := (s.wr (SDC_CURRENT (2 * n)) ia).wr (SDC_CURRENT (2 * n + 1)) ib
  let s := ((s.wr (CCP_I_PHASE n 0) ia).wr (CCP_I_PHASE n 1) ib).wr (CCP_I_PHASE n 2)
    (if s.twoPhase n then 0 else F.sub (F.neg ia) ib)
  let vdc := (s.vdc n).getD (s.rd (AIN_VALUE (s.cf (CC_VDC_SOURCE n) - 2)))
  let s := s.wr (CCV_VDC n) vdc
  let low := s.vdcLow n && s.stageOn n && !s.isBench
  let (s, fenced) := s.angleCheck n
  let (s, o, va, vb) := s.cellVolts n ia ib vdc gap
  let s := s.modCl n (fun c => { c with intD := o.intD, intQ := o.intQ })
  let s := (s.putBit (CCV_CC_STATUS n) 0 o.vLimited).putBit (CCV_CC_STATUS n) 1 o.cLimited
  let s := if s.ccMode n = 2 then s else s.loadStep n o.vpi
  let s := (s.stallCheck n ia ib vdc).dutyStep n
  let ds := ((s.duties n va vb vdc).zip (s.legCurrents n ia ib)).map (fun e => s.deadComp n e.1 e.2)
  let s := if low || fenced || s.beforeClaim n then s else s.commitDuties n ds
  if low then ((s.setBit (CCV_CC_STATUS n) 4).fenceAtReload (s.legSet n)).faultA n fcUndervoltage else s

/-- CURRENT_CELL_SAMPLE of axis `n`: the windows of its two channels, and whether SDCLK had a gap of more than 1 µs in one
(R558). The feedback port samples first (R27); a pending L1 swap takes effect (R249). -/
def execCurrentCellSample (n : Fin 16) (w0 w1 : BitVec 256) (gap : Bool) (s : State) : Host.Outcome State Fault Refusal :=
  let n := n.val
  if s.ccMode n = 0 then .next s
  else
    let s := (s.sampleSeen n).bankSwap n 1
    let s := if s.cellGated n then (s.wr (SDC_CURRENT (2 * n)) 0).wr (SDC_CURRENT (2 * n + 1)) 0 else s.cellRun n w0 w1 gap
    .next (s.pageMore n)

/-! ### Fast paths (R182, R184) and trips (R219 to R221) -/

/-- The fast path of channel `k` after the last 128 bits of its stream, bit 0 the newest: qualified when the last OC_COUNT values
lie at or above OC_HIGH, or all at or below OC_LOW (R183). -/
def State.ocQualified (s : State) (k : Nat) (w : BitVec 128) : Bool :=
  let v := (fastValues (s.cf (SDC_OC_OSR k)) (s.cf (SDC_OC_COUNT k)) w).map (s.channelCurrent k)
  v.all (fun x => F.le (s.cf (SDC_OC_HIGH k)) x) || v.all (fun x => F.le x (s.cf (SDC_OC_LOW k)))

/-- OVERCURRENT of channel `k` (R184): the record carries the newest value, in amperes. -/
def execOvercurrent (k : Fin 32) (w : BitVec 128) (s : State) : Host.Outcome State Fault Refusal :=
  let n := k.val / 2
  .next (
    if s.isBench || s.cellGated n || !s.ocQualified k.val w then s
    else
      let v := s.channelCurrent k.val ((fastValues (s.cf (SDC_OC_OSR k.val)) 1 w).headD 0)
      let s := { s with leg := { s.leg with ocNow := orBit s.leg.ocNow k.val } }
      let s := ((s.fenceNow (s.legSet n)).setBit SDF_OC_FLAGS k.val).setBit (CCV_CC_STATUS n) 2
      (s.record 5 2 0 k.val (pay 16 v)).faultA n fcOvercurrent)

/-- MOD_FAULT of a channel: the last 128 bits of its stream have one value (R182). -/
def execModFault (b : ModBits) (s : State) : Host.Outcome State Fault Refusal :=
  let k := b.channel.val
  let n := k / 2
  .next (
    if s.isBench || s.cellGated n || (b.bits != 0 && b.bits != BitVec.allOnes 128) then s
    else
      let s := { s with leg := { s.leg with modNow := orBit s.leg.modNow k } }
      let s := ((s.fenceNow (s.legSet n)).setBit SDF_MOD_FAULT_FLAGS k).setBit (CCV_CC_STATUS n) 3
      (s.record 5 3 0 k 0).faultA n fcModFault)

/-- A qualified trip of input `i`, at `t` (R220, R221): it acts whatever the twin state (R543). -/
def State.trip (s : State) (i : Nat) (t : Int) : State :=
  let m := s.cf (TRIP_MASK i) % 2 ^ 48
  let s := ((s.fenceNow m).setBit TRIP_FLAGS i).bump LEGS_TRIP_COUNT
  let s := { s with twin := { s.twin with keepers := clrMask s.twin.keepers m } }
  let s := s.recordAt (s.stampT t) 5 1 0 i (pay 16 m)
  let s := each (upto 48) s (fun s l => if m.testBit l && s.direct l then s.wr (LEG_DIRECT_ENABLE l) 0 else s)
  let s := each (upto 16) s (fun s n => if (s.legSet n &&& m) != 0 then s.faultA n fcTrip else s)
  s.latchEvent (0x40 + i) true t

/-- TRIP: a land has had a level for some samples of 8 ns, the last one now. TRIP_LEVEL shows whether it is the active one by
TRIP_POLARITY, and an enabled input has qualified at its sample TRIP_FILTER + 1 (R219). -/
def execTrip (x : TripIn) (s : State) : Host.Outcome State Fault Refusal :=
  let i := x.input.val
  let active := x.level == (s.cf TRIP_POLARITY).testBit i
  let f := s.cf (TRIP_FILTER i)
  let s := { s with leg := { s.leg with tripLand := Sys2Proof.putBit s.leg.tripLand i x.level } }.tripLevels
  .next (if active && (s.cf TRIP_ENABLE).testBit i && decide (f + 1 ≤ x.samples) then
    s.trip i (s.nowT - 64 * ((x.samples - (f + 1) : Nat) : Int)) else s)

/-- A write of CC_MODE (R187): voltage mode takes effect at once and only in SETUP; the other modes at the next commit. -/
def State.ccModeWrite (s : State) (n v : Nat) : Res :=
  if v = 2 then (if s.inSetup n then okRes ((s.wr (CC_MODE n) 2).wrForce (CC_MODE n) 2) else refuse s cState)
  else okRes (s.wr (CC_MODE n) v)

end Sys2Proof.Machine
end

