-- ==== Sys2Proof/Machine/Security.lean ====
section
/-! DEFINITION. The enclave (chapter 10): random numbers, sessions and their handshake, signed packets, keys, firmware slots,
the debug port, and the objects that show them. Verdicts of signatures and decryptions come with the command. -/
namespace Sys2Proof.Machine
open Obj

/-! ### Random numbers -/

/-- The enclave changed. -/
def State.modSec (s : State) (f : Secure → Secure) : State := { s with sec := f s.sec }

/-- A number drawn from the TRNG (R413). -/
def State.draw (s : State) : State × BitVec 256 :=
  (s.modSec (fun e => { e with drawn := e.drawn + 1 }), Config.trng s.sec.drawn)

/-- PACKET_NONCE takes a new random value (R415); while the health tests fail there is none, and the refusal is written to the
audit log (R413). -/
def State.drawNonce (s : State) : State :=
  if s.sec.trngFailed then (s.modSec (fun e => { e with nonce := none })).audit 0x12 0 0 0
  else
    let (s, x) := s.draw
    s.modSec (fun e => { e with nonce := some x.toNat })

/-- The TRNG health tests fail (R413). -/
def execTrngFailure (s : State) : Host.Outcome State Fault Refusal :=
  .next ((s.modSec (fun e => { e with trngFailed := true, nonce := none })).audit 0x12 0 0 0)

/-! ### Sessions -/

/-- A session closes (R422): its channel is unbound, its segmented transfers end, and the close is audited. -/
def State.closeSession (s : State) (id : Nat) : State :=
  match s.session id with
  | some _ =>
    let s := s.modSec (fun e => { e with sessions := e.sessions.filter (fun x => x.id != id) })
    let s := { s with dict := { s.dict with
      sdoBound := s.dict.sdoBound.map (fun b => if b = id then 0 else b)
      xfers := s.dict.xfers.filter (fun x => x.session != id) } }
    s.audit 0x07 0 0 id
  | none => s

/-- The sessions of a list close. -/
def State.closeThose (s : State) (f : Session → Bool) : State :=
  each ((s.sec.sessions.filter f).map (·.id)) s (fun s id => s.closeSession id)

/-- Every session closes, and every handshake ends (R408, R422). -/
def State.closeAll (s : State) : State := (s.closeThose (fun _ => true)).modSec (fun e => { e with hellos := [] })

/-- SESSION_IDLE has passed for a session with no valid request (R422). -/
def execSessionIdle (id : BitVec 16) (s : State) : Host.Outcome State Fault Refusal :=
  .next (match s.session id.toNat with
    | some x => if x.usedAt + ((s.cf SES_SESSION_IDLE * secU : Nat) : Int) ≤ s.clock then s.closeSession id.toNat else s
    | none => s)

/-- The certificate of a session is checked against NOT_AFTER, the end of a half-open period (R17, R420, R422): where line time can be trusted, an expired one
closes the session, and one that holds is no longer unchecked. -/
def State.checkCert (s : State) (id : Nat) : State :=
  match s.session id with
  | some x =>
    if !s.ltSt.good || x.role == .owner then s
    else if x.notAfter ≤ s.time.line.sec then s.closeSession id
    else s.modSession id (fun x => { x with timeUnchecked := false })
  | none => s

def execCertificateExpiry (id : BitVec 16) (s : State) : Host.Outcome State Fault Refusal := .next (s.checkCert id.toNat)

/-- The bearer of a credential: role, SERIAL and NOT_AFTER, where R420 or the bound owner key admits it. -/
def State.credential (s : State) (role : Nat) : Cred → Option (Role × Nat × Nat)
  | .ownerKey d => if role = 3 ∧ s.sec.ownerKey = some d then some (.owner, 0, 0) else none
  | .cert c =>
    let serial := s.rd ID_SERIAL_64
    let timeOk := !s.ltSt.good || (decide (c.notBefore ≤ s.time.line.sec) && decide (s.time.line.sec < c.notAfter))
    if c.signatureOk && (c.target == serial || c.target == 2 ^ 64 - 1) && !s.sec.revoked.contains c.serial && timeOk &&
        c.role == role then
      if role = 1 then some (.observer, c.serial, c.notAfter)
      else if role = 2 then some (.operator, c.serial, c.notAfter)
      else none
    else none

/-- The first SESSION_ID from the next on that no session or handshake holds. -/
def Secure.freshId (e : Secure) : Nat → Nat → Nat
  | 0, n => n
  | k + 1, n =>
    let n := if n % 65536 = 0 then 1 else n % 65536
    if e.sessions.any (fun x => x.id == n) || e.hellos.any (fun x => x.id == n) then e.freshId k (n + 1) else n

/-- The info string of the session keys: "JN4816 session". -/
def sessionInfo : Bytes := [0x4a, 0x4e, 0x34, 0x38, 0x31, 0x36, 0x20, 0x73, 0x65, 0x73, 0x73, 0x69, 0x6f, 0x6e]

/-- CLIENT_NONCE and the client's ephemeral key of a HELLO message (Table SE-9). -/
def helloNonce (msg : Bytes) : Bytes := (msg.drop 1).take 32
def helloKey (msg : Bytes) : Bytes := (msg.drop 33).take 96

/-- HELLO (Table SE-9, R420 to R422): CHALLENGE with a SESSION_ID, a nonce, an ephemeral key and the device's signature over the hash
of the message and CHALLENGE; the session keys are agreed, and a handshake of the channel that was open ends. `msg` is the message, its
code first (log entry 91). The code is 0 with the answer's data, or the refusal. -/
def State.hello (s : State) (chan : Chan) (role : Nat) (cred : Cred) (msg : Bytes) : State × Nat × Bytes :=
  let bound := match chan with
    | .can c => at' s.dict.sdoBound c.val != 0
    | _ => false
  if !s.claimed || bound then (s, cState, [])
  else if 8 ≤ s.sec.sessions.length then (s, cBusy, [])
  else if s.sec.trngFailed then (s.audit 0x12 0 0 0, cState, [])
  else match s.credential role cred with
    | none => (s.audit 0x08 0 0 0, cDenied, [])
    | some (r, serial, notAfter) =>
      let id := s.sec.freshId 16 s.sec.nextId
      let (s, nonce) := s.draw
      let (s, eph) := s.draw
      let isCan := match chan with
        | .can _ => true
        | _ => false
      let secret := Config.ecdhSecret eph (helloKey msg)
      let key := Config.hkdf384 secret (helloNonce msg ++ leBytes 32 nonce.toNat) sessionInfo
      let h : Hello := ⟨id, chan, r, serial, notAfter, key 0, key 1⟩
      let s := s.modSec (fun e => { e with
        nextId := id + 1
        hellos := (h :: e.hellos.filter (fun x => !(isCan && x.chan == chan))).take 8 })
      let body := leBytes 1 2 ++ leBytes 2 id ++ leBytes 32 nonce.toNat ++ leBytes 96 (Config.ecdhPoint eph).toNat
      (s, 0, body ++ leBytes 96 (Config.deviceSign (msg ++ body)).toNat)

/-- FINISH (Table SE-9): the handshake of the SESSION_ID, or that of the CAN channel, becomes a session if the client's
signature verifies; on CAN the SDO server is bound to it (R450). -/
def State.finish (s : State) (chan : Chan) (id : Nat) (sigOk : Bool) : State × Nat × Bytes :=
  let isIt (x : Hello) : Bool := x.chan == chan && (match chan with
    | .can _ => true
    | _ => x.id == id)
  match s.sec.hellos.find? isIt with
  | none => (s, cState, [])
  | some h =>
    let s := s.modSec (fun e => { e with hellos := e.hellos.filter (fun x => x.id != h.id) })
    if !sigOk then (s.audit 0x08 0 0 h.id, cDenied, [])
    else if 8 ≤ s.sec.sessions.length then (s, cBusy, [])
    else
      let x : Session := ⟨h.id, h.role, chan, h.serial, h.notAfter, !s.ltSt.good, 0, none, false, s.clock, none, h.reqKey, h.respKey⟩
      let s := s.modSec (fun e => { e with sessions := e.sessions ++ [x] })
      let s := match chan with
        | .can c => { s with dict := { s.dict with sdoBound := s.dict.sdoBound.setIfInBounds c.val h.id } }
        | _ => s
      (s.audit 0x06 0 0 h.id, 0, [])

/-- CLOSE (Table SE-9) of the session that the message names, sent within it. The spec gives no occasion on which the device sends
one itself (log entry 91). -/
def State.closeMsg (s : State) (own id : Nat) : State × Nat × Bytes :=
  if own = id ∧ (s.session id).isSome then (s.closeSession id, 0, []) else (s, cState, [])

/-- The certificate of Table SE-8 as parsed. -/
def parseCert (b : Bytes) (sigOk : Bool) : Cert :=
  ⟨leAt b 1 1, leAt b 4 4, leAt b 8 8, leAt b 16 8, leAt b 24 8, sigOk && leAt b 0 1 == 1⟩

/-- A handshake message of Table SE-9 written as bytes: its code, then its content. -/
def State.sessionMessage (s : State) (chan : Chan) (own : Nat) (b : Bytes) (vd : Verdict) : State × Nat × Bytes :=
  match leAt b 0 1 with
  | 1 =>
    let role := leAt b 129 1
    if role = 3 ∧ b.length = 226 then s.hello chan 3 (.ownerKey (Config.sha384 (b.drop 130)).toNat) b
    else if b.length = 354 then s.hello chan role (.cert (parseCert (b.drop 130) vd.sig)) b
    else (s, cRange, [])
  | 3 => if b.length = 97 then s.finish chan own vd.sig else (s, cRange, [])
  | 4 => if b.length = 3 then s.closeMsg own (leAt b 1 2) else (s, cRange, [])
  | _ => (s, cRange, [])

/-! ### Signed packets -/

/-- The body of a packet (Table SE-4): one constructor for each TYPE, and one for a body that does not parse, with the hash of the key
that its first 96 bytes are. -/
inductive PBody where
  | claim (key : Nat)
  | transfer (key : Nat)
  | sealed_ (l : List SealedEntry)
  | keys (l : List KeyEntry)
  | revoke (l : List Nat)
  | pairing (pairId partner : Nat)
  | unlock
  | debug (level duration : Nat)
  | malformed (key : Option Nat)
  deriving DecidableEq, Repr, Inhabited

/-- PACKET_RESULT of Table SE-7. -/
def pAccepted : Nat := 0
def pFormat : Nat := 1
def pState : Nat := 2
def pSigner : Nat := 3
def pSignature : Nat := 4
def pFreshness : Nat := 5
def pDecrypt : Nat := 6
def pContent : Nat := 7

/-- The TYPE has NONCE freshness (Table SE-4). -/
def isNonce (typ : Nat) : Bool := typ == 1 || typ == 7 || typ == 8

/-- Check 2 of Table SE-7: device state, claim state and TARGET. -/
def State.packetState (s : State) (p : Packet) : Bool :=
  let d := s.dev
  let serial := s.rd ID_SERIAL_64
  let target := p.target == serial || ((p.typ == 3 || p.typ == 5) && p.target == 2 ^ 64 - 1)
  target &&
  (match p.typ with
   | 1 => !s.claimed && s.sec.windowOpen && decide (s.clock < s.sec.windowEnd) && d == .preop
   | 2 | 6 => s.claimed && d == .preop
   | 3 | 4 => s.claimed && (d == .preop || d == .op || d == .safe)
   | 5 => s.claimed && d != .boot && d != .standby
   | 7 => s.claimed && d == .locked && p.reporting == 0 && !(s.bitOf TAMP_TAMPER_CAUSES 3)
   | 8 => d == .preop
   | _ => false)

/-- Check 3: the signer that Table SE-4 requires. -/
def State.packetSigner (s : State) (p : Packet) (b : PBody) : Bool :=
  match b with
  | .claim key => p.signer == key
  | .malformed key => if p.typ = 1 then key == some p.signer
    else if s.claimed then s.sec.ownerKey == some p.signer else p.signer == Config.vendorKey.toNat
  | _ => if s.claimed then s.sec.ownerKey == some p.signer else p.signer == Config.vendorKey.toNat

/-- Check 5. -/
def State.packetFresh (s : State) (p : Packet) : Bool :=
  if isNonce p.typ then s.sec.nonce == some p.nonce else decide (s.rd OWN_OWNER_COUNTER < p.counter)

/-- A sealed entry is valid (R417). -/
def State.sealedOk (s : State) (e : SealedEntry) : Bool :=
  match findRow e.index e.sub with
  | some w =>
    w.isSealed && e.len == w.ty.size && e.value.length == e.len &&
    (w.ty != .f32 || f32.isFin (leNat e.value)) && s.rangeOk w e.index e.len (leNat e.value)
  | none => false

/-- One key entry applied (R419), none where it names an absent key for delete. A line key has no place of its own. -/
def keyApply (l : List Key) (e : KeyEntry) : Option (List Key) :=
  let place := if e.cls = 2 then 0 else e.place
  let same (k : Key) : Bool := k.cls == e.cls && k.place == place && k.keyId == e.keyId
  let rest := l.filter (fun k => !same k)
  if e.delete then (if l.any same then some rest else none)
  else some (rest ++ [⟨e.cls, place, e.spp, e.keyId⟩])

def keysApply : List Key → List KeyEntry → Option (List Key)
  | l, [] => some l
  | l, e :: t => (keyApply l e).bind (fun l => keysApply l t)

/-- The entry names a class, a place and a KEY_ID of Table SE-6. -/
def keyEntryOk (e : KeyEntry) : Bool :=
  match e.cls with
  | 1 => decide (e.place < 2)
  | 2 => decide (e.keyId < 65536)
  | 3 => decide (e.place < 4)
  | _ => false

/-- The counts of Table SE-2. -/
def keyCountsOk (l : List Key) : Bool :=
  let n (c p : Nat) : Nat := (l.filter (fun k => k.cls == c && k.place == p)).length
  (upto 2).all (fun p => decide (n 1 p ≤ 4)) && decide (n 2 0 ≤ 8) && (upto 4).all (fun p => decide (n 3 p ≤ 2))

/-- Serials added to the revocation list, each once. -/
def revokeAll (l : List Nat) (m : List Nat) : List Nat := m.foldl (fun l x => if l.contains x then l else l ++ [x]) l

/-- Check 7: every body entry is valid (Table SE-5, Table SE-6, Table SE-4, R565). -/
def State.packetContent (s : State) (b : PBody) : Bool :=
  match b with
  | .claim _ | .transfer _ | .unlock => true
  | .sealed_ l => decide (1 ≤ l.length) && decide (l.length ≤ 512) && l.all s.sealedOk
  | .keys l => l.all keyEntryOk && (match keysApply s.sec.keys l with
    | some k => keyCountsOk k
    | none => false)
  | .revoke l => decide (1 ≤ l.length) && decide (l.length ≤ 64) && decide ((revokeAll s.sec.revoked l).length ≤ 64)
  | .pairing id p => id != 0 || p == 0
  | .debug level dur => decide (1 ≤ level) && decide (level ≤ 3) && decide (60 ≤ dur) && decide (dur ≤ 86400)
  | .malformed _ => false

/-- A body that is decrypted: KEY_LOAD, and TWIN_PAIRING but for PAIR_ID 0 (R565). -/
def PBody.encrypted (b : PBody) (typ : Nat) : Bool :=
  match b with
  | .keys _ => true
  | .pairing id _ => id != 0
  | .malformed _ => typ == 4 || typ == 6
  | _ => false

/-- The result of Table SE-7: the first check that fails. -/
def State.packetCheck (s : State) (p : Packet) (b : PBody) : Nat :=
  if !p.magicOk || !(decide (1 ≤ p.typ) && decide (p.typ ≤ 8)) || !p.lengthOk then pFormat
  else if !s.packetState p then pState
  else if !s.packetSigner p b then pSigner
  else if !p.signatureOk then pSignature
  else if !s.packetFresh p then pFreshness
  else if b.encrypted p.typ && !p.decryptOk then pDecrypt
  else if !s.packetContent b then pContent
  else pAccepted

/-- The value of a sealed entry written, and kept in MRAM (R417); its reserved bits are ignored (R4). -/
def State.seal (s : State) (e : SealedEntry) : State :=
  let k := e.index * 256 + e.sub
  let v := keepBits k (leNat e.value)
  (s.wr k v).modSec (fun x => { x with sealedStore := x.sealedStore.set k v })

/-- The axes of a device that an unlock takes from LOCKED to PRE-OPERATIONAL while some of them still stop: their legs go to high
impedance (Table AR-8), so the stop of R44 ends where it stands, in OFF, or in FAULT where FAULT_PENDING is set (log entry 63). -/
def State.axesUnlocked (s : State) : State :=
  each allAxes s (fun s n => if !s.stageOn n then s else if s.faultPending n then s.enterFault n else s.toOff n)

/-- What an accepted packet does (R407, R408, R417, R419, R420, R433, R436, R565). A claim leaves no axis in SETUP (Table AR-8). A SAFE
cause that stands when UNLOCK succeeds does not lead to SAFE: the device stays in PRE-OPERATIONAL (log entry 63). -/
def State.packetApply (s : State) (p : Packet) (b : PBody) : State :=
  match b with
  | .claim key =>
    let s := (s.modSec (fun e => { e with ownerKey := some key })).wr OWN_CLAIM_STATE 1
    let s := each allAxes s (fun s n => if s.inSetup n then s.toReady n else s)
    ((s.wr OWN_OWNER_COUNTER 0).wear 5 8).audit 0x01 p.typ 0 0
  | .transfer key =>
    let s := (s.closeAll.modSec (fun e => { e with ownerKey := some key })).wr OWN_OWNER_COUNTER 0
    (s.wear 5 8).audit 0x02 p.typ 0 0
  | .sealed_ l => ((each l s State.seal).wear 3 l.length).wr OWN_OWNER_COUNTER p.counter
  | .keys l =>
    let s := s.modSec (fun e => { e with keys := (keysApply e.keys l).getD e.keys })
    ((s.wr OWN_OWNER_COUNTER p.counter).wear 5 (6 * l.length)).audit 0x09 p.typ 0 0
  | .revoke l =>
    let s := (s.modSec (fun e => { e with revoked := revokeAll e.revoked l })).wr OWN_OWNER_COUNTER p.counter
    let s := s.modSec (fun e => { e with hellos := e.hellos.filter (fun x => x.role == .owner || !l.contains x.serial) })
    (s.wear 5 l.length).closeThose (fun x => x.role != .owner && l.contains x.serial)
  | .pairing id partner =>
    let s := s.modSec (fun e => { e with pairNext := some (if id = 0 then none else some (id, partner)) })
    (s.wr OWN_OWNER_COUNTER p.counter).wear 5 6
  | .unlock =>
    let s := ((s.wr TAMP_TAMPER_CAUSES 0).setDev .preop 7).axesUnlocked
    ({ s with pw := { s.pw with lockKept := false } }).audit 0x11 p.typ 0 0
  | .debug level dur =>
    let s := s.modSec (fun e => { e with debugEnd := s.time.free.units + (dur * secU : Nat) })
    (s.wr DBG_DEBUG_STATE level).audit 0x0e p.typ 0 0
  | .malformed _ => s

/-- A packet is checked and applied whole or refused (R414, R415). -/
def State.packet (s : State) (p : Packet) (b : PBody) : State × Nat :=
  let res := s.packetCheck p b
  let s := if res = pAccepted then s.packetApply p b else s
  let s := if isNonce p.typ then s.drawNonce else s
  let s := (s.wr PKT_PACKET_RESULT res).bump (if res = pAccepted then PKT_PACKETS_ACCEPTED else PKT_PACKETS_REFUSED)
  (s.audit (if res = pAccepted then 0x04 else 0x05) p.typ res 0, res)

/-- The abort code of a PACKET_RESULT (R416). -/
def packetCode (res : Nat) : Nat :=
  if res = pAccepted then 0
  else if res = pFormat ∨ res = pContent then cRange
  else if res = pState then cState
  else cDenied

/-- The packet as a write of PACKET_IN. -/
def State.packetWrite (s : State) (p : Packet) (b : PBody) : Res :=
  let (s, res) := s.packet p b
  ⟨s, packetCode res⟩

/-! ### Packets as bytes -/

/-- Entries of Table SE-5, each padded to a multiple of 4 bytes. -/
def parseSealed : Nat → Bytes → Option (List SealedEntry)
  | 0, b => if b.isEmpty then some [] else none
  | n + 1, b =>
    let len := leAt b 3 1
    let tot := (4 + len + 3) / 4 * 4
    if b.length < tot then none
    else (parseSealed n (b.drop tot)).map (fun t => ⟨leAt b 0 2, leAt b 2 1, len, (b.drop 4).take len⟩ :: t)

/-- Entries of Table SE-6, 44 bytes each. -/
def parseKeys : Nat → Bytes → Option (List KeyEntry)
  | 0, b => if b.isEmpty then some [] else none
  | n + 1, b =>
    if b.length < 44 ∨ 1 < leAt b 1 1 then none
    else (parseKeys n (b.drop 44)).map (fun t => ⟨leAt b 0 1, leAt b 1 1 == 1, leAt b 2 1, leAt b 3 1, leAt b 4 4⟩ :: t)

def parseSerials : Nat → Bytes → List Nat
  | 0, _ => []
  | n + 1, b => leAt b 0 4 :: parseSerials n (b.drop 4)

/-- The body of a packet as bytes (Table SE-4); `plain` is the decrypted text of KEY_LOAD. -/
def parseBody (typ : Nat) (b : Bytes) (plain : Option Bytes) : PBody :=
  let bad : PBody := .malformed (if b.length < 96 then none else some (Config.sha384 (b.take 96)).toNat)
  match typ with
  | 1 => if b.length = 128 then .claim (Config.sha384 (b.take 96)).toNat else bad
  | 2 => if b.length = 96 then .transfer (Config.sha384 b).toNat else bad
  | 3 => ((parseSealed (leAt b 0 2) (b.drop 4)).map PBody.sealed_).getD bad
  | 4 =>
    let t := plain.getD []
    ((parseKeys (t.length / 44) t).map PBody.keys).getD bad
  | 5 =>
    let n := leAt b 0 2
    if b.length = 4 + 4 * n then .revoke (parseSerials n (b.drop 4)) else bad
  | 6 =>
    if b.length = 172 ∧ (leAt b 8 4 ≠ 0 ∨ leNat b = 0) then .pairing (leAt b 8 4) (leAt b 0 8) else bad
  | 7 => if b.length = 32 then .unlock else bad
  | 8 => if b.length = 40 then .debug (leAt b 32 1) (leAt b 36 4) else bad
  | _ => bad

/-- The offset of NONCE in the body of a TYPE. -/
def nonceAt (typ : Nat) : Nat := if typ = 1 then 96 else 0

/-- The header of a packet as bytes (Table SE-3). -/
def parsePacket (b : Bytes) (vd : Verdict) : Packet :=
  let typ := leAt b 5 1
  { magicOk := leAt b 0 4 == 0x4b505353 && leAt b 4 1 == 1
    typ := typ
    lengthOk := b.length == 176 + leAt b 24 4 && decide (leAt b 24 4 ≤ 65536)
    target := leAt b 8 8
    counter := leAt b 16 8
    nonce := leAt b (80 + nonceAt typ) 32
    signer := leAt b 32 48
    signatureOk := vd.sig
    decryptOk := vd.plain.isSome || (typ == 6 && leAt b 88 4 == 0)
    reporting := vd.reporting }

/-- PACKET_IN written as bytes. -/
def State.packetIn (s : State) (b : Bytes) (vd : Verdict) : Res :=
  s.packetWrite (parsePacket b vd) (parseBody (leAt b 5 1) ((b.drop 80).take (leAt b 24 4)) vd.plain)

/-- The claim window closes 1,800 s after the power-on reset (R407); before that it does nothing. -/
def execClaimWindowExpiry (s : State) : Host.Outcome State Fault Refusal :=
  .next (if s.sec.windowEnd ≤ s.clock then s.modSec (fun e => { e with windowOpen := false }) else s)

/-! ### Firmware -/

/-- VERSION and STATE objects of a slot. -/
def slotVersion (i : Nat) : Nat := if i = 0 then FW_SLOT_A_VERSION else FW_SLOT_B_VERSION
def slotState (i : Nat) : Nat := if i = 0 then FW_SLOT_A_STATE else FW_SLOT_B_STATE

/-- The slot that FW_IMAGE writes. -/
def State.otherSlot (s : State) : Nat := 1 - s.rd FW_ACTIVE_SLOT

/-- R431: LOCKED, and a trial boot that has not been confirmed, whether it runs or waits for the next reset, refuse FW_IMAGE (log
entry 90). -/
def State.fwImageState (s : State) : Bool :=
  s.dev != .locked && (at' s.sec.slots (s.rd FW_ACTIVE_SLOT)).confirmed && (at' s.sec.slots (s.rd FW_NEXT_SLOT)).confirmed

/-- What R429 asks of a slot beyond its image: LEVEL at or above ROLLBACK_LEVEL, and the owner's countersignature where it is
required. -/
def State.slotAdmits (s : State) (countersign : Bool) (sl : Slot) : Bool :=
  decide (s.rd FW_ROLLBACK_LEVEL ≤ sl.level) && (!countersign || (sl.countersigner.isSome && sl.countersigner == s.sec.ownerKey))

/-- The boot ROM refuses the active slot (R429, R430): no whole image whose digest and vendor signature hold, or one that R429 no
longer admits, with COUNTERSIGN_REQUIRED as MRAM holds it. -/
def State.slotRefused (s : State) : Bool :=
  let i := s.rd FW_ACTIVE_SLOT
  s.rd (slotState i) != 2 || !s.slotAdmits (s.sec.sealedStore.get FW_COUNTERSIGN_REQUIRED == 1) (at' s.sec.slots i)

/-- Bytes of FW_IMAGE at an offset (R431): the first erases the slot; when LENGTH + 512 have arrived, R429 is checked. -/
def State.fwImage (s : State) (offset : Nat) (b : Bytes) (vd : Verdict) : Res :=
  let i := s.otherSlot
  let was : Slot := at' s.sec.slots i
  let old : Slot := if offset = 0 then { confirmed := was.confirmed } else was
  if !s.fwImageState then refuse s cState
  else if offset ≠ old.received then refuse s cProtocol
  else
    let header := (old.header ++ b).take 16
    let whole := header.length == 16 && decide (leAt header 12 4 + 512 ≤ old.received + b.length)
    let sl : Slot := {
      received := old.received + b.length, header := header, level := leAt header 8 1
      countersigner := if whole then vd.owner else none
      confirmed := old.confirmed && !whole }
    let s := s.modSec (fun e => { e with slots := e.slots.setIfInBounds i sl })
    let s := ((if offset = 0 then (s.wr (slotState i) 1).wr (slotVersion i) 0 else s)).wear i ((b.length + 7) / 8)
    let length := leAt header 12 4
    if 2096640 < length ∧ header.length = 16 then okRes (s.wr (slotState i) 3)
    else if whole then
      let good := leAt header 0 4 == 0x57464e4a && vd.sig && decide (sl.level ≤ 63) && s.slotAdmits (s.on FW_COUNTERSIGN_REQUIRED) sl
      let s := (s.wr (slotVersion i) (leAt header 4 4)).wr (slotState i) (if good then 2 else 3)
      okRes (s.audit 0x0a 0 0 0)
    else okRes s

/-- NEXT_SLOT written: only a VALID slot (R431). -/
def State.nextSlot (s : State) (v : Nat) : Res :=
  if s.rd (slotState v) = 2 then okRes (((s.wr FW_NEXT_SLOT v).wear 5 1).audit 0x0b 0 0 0) else refuse s cState

/-- FW_CONFIRM (R432). -/
def State.fwConfirm (s : State) (v : Nat) : Res :=
  if v = 0 then okRes s
  else if !s.sec.booted then refuse s cState
  else
    let i := s.rd FW_ACTIVE_SLOT
    let l := (at' s.sec.slots i).level
    let s := s.modSec (fun e => { e with slots := e.slots.setIfInBounds i { at' e.slots i with confirmed := true } })
    if s.rd FW_ROLLBACK_LEVEL < l then okRes ((s.wr FW_ROLLBACK_LEVEL l).audit 0x0d 0 0 0) else okRes s

/-- DURATION has passed: the debug port closes (R433). -/
def State.debugClose (s : State) : State :=
  if s.rd DBG_DEBUG_STATE = 0 then s else (s.wr DBG_DEBUG_STATE 0).audit 0x0f 0 0 0

def execDebugExpiry (s : State) : Host.Outcome State Fault Refusal :=
  .next (if s.sec.debugEnd ≤ s.clock then s.debugClose else s)

/-! ### What the objects show -/

/-- Seconds until a free-running time, rounded up, 0 when it has passed. -/
def State.secondsTo (s : State) (t : Int) : Nat := ((t - s.time.free.units + secU - 1) / secU).toNat

def State.claimWindow (s : State) : Nat := if s.sec.windowOpen && !s.claimed then min 1800 (s.secondsTo s.sec.windowEnd) else 0

def State.debugRemain (s : State) : Nat := if s.rd DBG_DEBUG_STATE = 0 then 0 else s.secondsTo s.sec.debugEnd

def chanNo : Chan → Nat
  | .can c => c.val
  | .quinup => 4
  | .mailbox => 5

/-- SESSION_LIST, in the order of Table SE-13. -/
def State.sessionList (s : State) : Bytes :=
  s.sec.sessions.flatMap (fun x => leBytes 2 x.id ++ leBytes 1 (Role.level x.role) ++ [Config.chanCode (chanNo x.chan)] ++
    leBytes 4 x.serial ++ leBytes 1 (b2n x.timeUnchecked))

/-- KEY_INVENTORY: class, place, SPP and KEY_ID of every key (R419). -/
def State.keyInventory (s : State) : Bytes :=
  s.sec.keys.flatMap (fun k => leBytes 1 k.cls ++ leBytes 1 k.place ++ leBytes 1 k.spp ++ leBytes 4 k.keyId)

/-- AUDIT_RECORD: the record of the number AUDIT_SELECT, counted from 0 at manufacture; empty where the ring no longer holds
it. -/
def State.auditRecord (s : State) : Bytes :=
  let count := s.rd AUD_AUDIT_COUNT
  let n := s.rd AUD_AUDIT_SELECT
  if n < count then
    match s.sec.audit[count - 1 - n]? with
    | some r => r.bytes 0 false
    | none => []
  else []

/-- AUDIT_EXPORT (R438). -/
def State.auditExport (s : State) : Bytes :=
  let body := s.sec.audit.reverse.flatMap (fun r => r.bytes 0 false) ++ leBytes 32 s.sec.auditTailHead ++
    leBytes 32 s.sec.auditHead ++ leBytes 4 (s.rd AUD_AUDIT_COUNT)
  body ++ leBytes 96 (Config.deviceSign body).toNat

end Sys2Proof.Machine
end

