-- ==== Sys2Proof/Machine/Can.lean ====
section
/-! DEFINITION. CAN FD channels (chapter 13): message objects, the frame that arbitration offers, cancellation, error states and
bus-off, and stamps. Arbitration, the bit stream and acknowledgement lie outside the block: a command tells how a frame ended. -/
namespace Sys2Proof.Machine
open Obj

/-! ### Message objects -/

/-- DIRECTION, FORMAT and the flags of MO_CONFIG (Table CN-6), in force. -/
def State.moDir (s : State) (c n : Nat) : Nat := s.cf (MO_CONFIG c n) % 4
def State.moFormat (s : State) (c n : Nat) : Nat := fld (s.cf (MO_CONFIG c n)) 2 2
def State.moFlag (s : State) (c n i : Nat) : Bool := (s.cf (MO_CONFIG c n)).testBit i
/-- AUTH acts on a claimed device (R515). -/
def State.moAuth (s : State) (c n : Nat) : Bool := s.moFlag c n 6 && s.claimed

/-- TX_PENDING of a transmit object. -/
def State.txPending (s : State) (c n : Nat) : Bool := s.moDir c n == 2 && s.bitOf (MO_STATUS c n) 0

/-- The first MO_DLC bytes of MO_DATA, missing bytes as 0 (R509). -/
def State.moPayload (s : State) (c n : Nat) : Bytes :=
  let l := s.cf (MO_DLC c n)
  let b := (s.blob (MO_DATA c n)).take l
  b ++ List.replicate (l - b.length) 0

/-- The frame of a transmit object: with AUTH the trailer of its request (R515). -/
def State.moFrame (s : State) (c n : Nat) : Bytes :=
  match ((s.cn c).sealed_.find? (fun e => e.1 == n)).map (·.2) with
  | some b => b
  | none => s.moPayload c n

/-- TX_REQUEST (R508). -/
def State.txRequest (s : State) (c n : Nat) : Res :=
  if s.moDir c n ≠ 2 ∨ s.listenOnly c ∨ s.dev = .boot ∨ s.dev = .standby then refuse s cState
  else if s.txPending c n then okRes s
  else
    let id := s.cf (MO_ID c n)
    let s :=
      if s.moAuth c n then
        let p := s.moPayload c n
        let (s, f) := s.canFresh c id s.now
        let b := s.canTrailer c id f (p.take (p.length - 12))
        s.modCn c (fun x => { x with sealed_ := (n, b) :: x.sealed_.filter (fun e => e.1 != n) })
      else s.modCn c (fun x => { x with sealed_ := x.sealed_.filter (fun e => e.1 != n) })
    let now := s.nowT
    let s := s.modCn c (fun x => { x with asked := (n, now) :: x.asked.filter (fun e => e.1 != n) })
    okRes (s.wr (MO_STATUS c n) (orBit (clrMask (s.rd (MO_STATUS c n)) 0xc) 0))

/-- The object's frame leaves the set of pending ones, with a flag of Table CN-8 set. -/
def State.moEnd (s : State) (c n flag : Nat) : State :=
  let s := s.wr (MO_STATUS c n) (orBit (Sys2Proof.clrBit (s.rd (MO_STATUS c n)) 0) flag)
  s.modCn c (fun x => { x with
    tx := if x.tx = some n then none else x.tx
    cancel := x.cancel.filter (· != n)
    asked := x.asked.filter (fun e => e.1 != n)
    sealed_ := x.sealed_.filter (fun e => e.1 != n) })

/-- CANCEL (Table CN-2). -/
def State.canCancel (s : State) (c n : Nat) (phase : CanPhase) : State :=
  if !s.txPending c n then s
  else match phase with
    | .waiting => s.moEnd c n 3
    | .arbitration | .won => s.modCn c (fun x => { x with tx := some n, cancel := n :: x.cancel.filter (· != n) })

/-- A write of MO_REQUEST: TX_REQUEST, then CANCEL. -/
def State.moRequest (s : State) (c n v : Nat) (phase : CanPhase) : Res :=
  let r := if v.testBit 0 then s.txRequest c n else okRes s
  if r.code ≠ 0 then r
  else if v.testBit 1 then okRes (r.st.canCancel c n phase)
  else r

/-- MO_STATUS written: its W1C bits; bit 0 only on an object that is no transmit object. -/
def State.moStatusClear (s : State) (c n m : Nat) : State :=
  s.wr (MO_STATUS c n) (clrMask (s.rd (MO_STATUS c n)) (m &&& (if s.moDir c n = 2 then 0x3e else 0x3f)))

/-! ### Arbitration (R510) -/

/-- The place of an identifier in arbitration, lowest first: base part, then base before extended format, then the rest. -/
def arbKey (id : Nat) : Nat :=
  if id.testBit 29 then (id % 2 ^ 29 / 2 ^ 18) * 2 ^ 19 + 2 ^ 18 + id % 2 ^ 18 else (id % 2 ^ 11) * 2 ^ 19

/-- What a channel offers: a protocol frame or the frame of an object. -/
inductive Offer where
  | proto (f : CanFrame)
  | object (n : Nat)
  deriving DecidableEq, Repr, Inhabited

/-- The first of a list with the least key. -/
def leastBy {α : Type} (key : α → Nat) : List α → Option α
  | [] => none
  | a :: t =>
    match leastBy key t with
    | some b => if key a ≤ key b then some a else some b
    | none => some a

/-- The frame in transmission whose SOF was at `t`, 125 ps: the one that a cancellation found there, else of those pending when
arbitration started the one of the highest priority; between equal identifiers a protocol frame, then the lower object (R510). -/
def State.offered (s : State) (c : Nat) (t : Int) : Option Offer :=
  let x := s.cn c
  match x.tx with
  | some n => some (.object n)
  | none =>
    let objs := (upto 128).filter (fun n => s.txPending c n && !x.asked.any (fun e => e.1 == n && decide (t < e.2)))
    match leastBy (fun f => arbKey f.id) (x.proto.filter (fun f => decide (f.at_ ≤ t))), leastBy (fun n => arbKey (s.cf (MO_ID c n))) objs with
    | some f, some n => some (if arbKey f.id ≤ arbKey (s.cf (MO_ID c n)) then .proto f else .object n)
    | some f, none => some (.proto f)
    | none, some n => some (.object n)
    | none, none => none

/-- The channel may drive its bus: MODE in force, joined, not bus-off, not listen-only, device out of BOOT and STANDBY. -/
def State.canMayDrive (s : State) (c : Nat) : Bool :=
  s.cf (CAN_MODE c) != 0 && s.bitOf (CANS_CHANNEL_STATUS c) 1 && !s.bitOf (CANS_CHANNEL_STATUS c) 3 && !s.listenOnly c &&
  s.dev != .boot && s.dev != .standby

/-! ### Error states (R516) -/

/-- TEC and REC set, with the error states they give and their records. -/
def State.canErrors (s : State) (c tec rec : Nat) : State :=
  let was := s.bitOf (CANS_CHANNEL_STATUS c) 2
  let passive := decide (127 < tec) || decide (127 < rec)
  let s := (s.wr (CANS_TEC c) (min tec 255)).wr (CANS_REC c) (min rec 255)
  let p := pay 16 (min tec 255) + pay 17 (min rec 255)
  let s := if passive && !was then (s.setBit (CANS_CHANNEL_STATUS c) 2).record 11 1 0 c p
    else if !passive && was then (s.clrBit (CANS_CHANNEL_STATUS c) 2).record 11 2 0 c p
    else s
  if 255 < tec ∧ !s.bitOf (CANS_CHANNEL_STATUS c) 3 then
    let s := s.wr (CANS_CHANNEL_STATUS c) (orBit (orBit (s.rd (CANS_CHANNEL_STATUS c)) 3) 5)
    let s := (s.bump (CANS_BUS_OFF_COUNT c)).record 11 3 0 c (pay 16 255)
    if s.on (CAN_BUSOFF_AUTO c) then s.modCn c (fun x => { x with recovering := true }) else s
  else s

/-- RECOVER (R516). -/
def State.canRecover (s : State) (c v : Nat) : State :=
  if v.testBit 0 && s.bitOf (CANS_CHANNEL_STATUS c) 3 then s.modCn c (fun x => { x with recovering := true }) else s

/-- 128 occurrences of 11 recessive bits since recovery started (R516). -/
def execBusOffRecovered (c : Fin 4) (s : State) : Host.Outcome State Fault Refusal :=
  .next (if s.bitOf (CANS_CHANNEL_STATUS c.val) 3 && (s.cn c.val).recovering then
    let s := ((s.wr (CANS_TEC c.val) 0).wr (CANS_REC c.val) 0).wr (CANS_CHANNEL_STATUS c.val)
      (clrMask (s.rd (CANS_CHANNEL_STATUS c.val)) 0xc)
    (s.modCn c.val (fun x => { x with recovering := false })).record 11 4 0 c.val 0
  else s)

/-- 11 recessive bits seen: an enabled channel joins the bus (R500). -/
def execCanBusJoin (c : Fin 4) (s : State) : Host.Outcome State Fault Refusal :=
  .next (if s.cf (CAN_MODE c.val) != 0 && s.dev != .boot && s.dev != .standby then s.setBit (CANS_CHANNEL_STATUS c.val) 1
    else s)

/-- A bus error while receiving: REC grows by 1, or by 8 where the standard says so; in listen-only no counter changes
(R501). -/
def State.canRxError (s : State) (c : Nat) (eight : Bool) : State :=
  if s.cf (CAN_MODE c) = 0 ∨ !s.bitOf (CANS_CHANNEL_STATUS c) 1 ∨ s.bitOf (CANS_CHANNEL_STATUS c) 3 then s
  else
    let s := s.bump (CANS_ERROR_FRAMES c)
    if s.listenOnly c then s else s.canErrors c (s.rd (CANS_TEC c)) (s.rd (CANS_REC c) + (if eight then 8 else 1))

def execCanReceiveError (c : Fin 4) (eight : Bool) (s : State) : Host.Outcome State Fault Refusal :=
  .next (s.canRxError c.val eight)

/-! ### Receiving (R504 to R506, R515) -/

/-- The protocol identifiers of a channel (R504). -/
def State.protoIds (s : State) (c : Nat) : List Nat :=
  [s.cf (SDO_COB_RX c) % 2 ^ 30] ++
  ((upto 16).filter (fun r => s.cf (RPDO_CHANNEL r) == c && !(s.cf (RPDO_COB_ID r)).testBit 31)).map
    (fun r => s.cf (RPDO_COB_ID r) % 2 ^ 30) ++
  ((upto 8).filter (fun i => s.on (SUB_ENABLE i) && s.cf (SUB_TRANSPORT i) == 2 && s.cf (SUB_CAN_CHANNEL i) == c)).flatMap
    (fun i => [passIdent (s.cf (SUB_CAN_ID i)), passIdent (s.cf (SUB_CAN_ID i) + 1)])

/-- Receive object `n` accepts the identifier and format (R505). -/
def State.moAccepts (s : State) (c n id : Nat) (fd : Bool) : Bool :=
  s.moDir c n == 1 && ((id ^^^ s.cf (MO_ID c n)) &&& s.cf (MO_MASK c n)) % 2 ^ 29 == 0 &&
  id.testBit 29 == (s.cf (MO_ID c n)).testBit 29 && s.moFlag c n (if fd then 5 else 4)

/-- A frame enters a receive object (R506). -/
def State.moReceive (s : State) (c n id : Nat) (fd brs : Bool) (b : Bytes) (stamp : Nat) : State :=
  let st := s.rd (MO_STATUS c n)
  let lost := st.testBit 0
  let st' := orBit (st % 64 + b.length * 256 + (if brs then 128 else 0) + (if fd then 64 else 0)) 0
  let st' := if lost then orBit st' 1 else st'
  let s := ((s.wrBlob (MO_DATA c n) b).wr (MO_RX_ID c n) id).wr (MO_STAMP c n) stamp
  let s := (s.wr (MO_STATUS c n) st').wr (MO_UPDATE c n) ((s.rd (MO_UPDATE c n) + 1) % 65536)
  if lost then
    let s := s.bump (CANS_LOST_FRAMES c)
    if st.testBit 1 then s else s.record 11 6 0 c (pay 16 n)
  else s

/-- The SOF instant of a frame, 125 ps, RX_DELAY taken off (R514). -/
def State.sofT (s : State) (c : Nat) (off : Int) : Int := s.nowT + off - (s.cf (CAN_RX_DELAY c) * 8 : Nat)

/-- A valid frame arrives (R504 to R506, R515, R516); one with bit 30 of `id` set is a remote frame, which nothing takes (Table
CN-1). -/
def State.canReceive (s : State) (c id : Nat) (fd brs : Bool) (b : Bytes) (macOk : Bool) (off : Int) : State :=
  if s.cf (CAN_MODE c) = 0 ∨ !s.bitOf (CANS_CHANNEL_STATUS c) 1 ∨ s.bitOf (CANS_CHANNEL_STATUS c) 3 then s
  else if fd && !s.on (CAN_FD_ENABLE c) then s.canRxError c false
  else
    let s := s.bump (CANS_RX_FRAMES c)
    let rc := s.rd (CANS_REC c)
    let s := if s.listenOnly c then s else s.canErrors c (s.rd (CANS_TEC c)) (if 127 < rc then 127 else rc - 1)
    if id.testBit 30 then s.bump (CANS_UNMATCHED c)
    else if (s.protoIds c).contains id then s
    else match (upto 128).find? (fun n => s.moAccepts c n id fd) with
      | none => s.bump (CANS_UNMATCHED c)
      | some n =>
        let stamp := s.stampT (s.sofT c off)
        if s.moAuth c n then
          let l := s.cf (MO_DLC c n)
          let fresh := leAt b (l - 12) 4
          if l ≤ b.length ∧ 12 ≤ l ∧ macOk ∧ s.freshOk (pairOf (s.cn c).rxFresh n) fresh then
            (s.modCn c (fun x => { x with rxFresh := pairSet x.rxFresh n fresh })).moReceive c n id fd brs b stamp
          else (s.bump (CANS_AUTH_DROPS c)).record 3 1 5 c 0
        else s.moReceive c n id fd brs b stamp

def execCanFrameReceive (c : Fin 4) (id : BitVec 31) (fd brs : Bool) (bytes : Bytes) (macOk : Bool) (off : Int) (s : State) :
    Host.Outcome State Fault Refusal := .next (s.canReceive c.val id.toNat fd brs (bytes.take 64) macOk off)

/-! ### Transmitting (R510 to R514) -/

/-- The data bit rate exceeds the nominal one: protocol frames go with BRS (R504). -/
def State.protoBrs (s : State) (c : Nat) : Bool :=
  s.on (CAN_FD_ENABLE c) &&
  decide (s.cf (CAN_DATA_PRESCALER c) * (1 + s.cf (CAN_DATA_TSEG1 c) + s.cf (CAN_DATA_TSEG2 c)) <
    s.cf (CAN_NOM_PRESCALER c) * (1 + s.cf (CAN_NOM_TSEG1 c) + s.cf (CAN_NOM_TSEG2 c)))

/-- The frame of an offer as it stands on the bus. -/
def State.offerOut (s : State) (c : Nat) : Offer → Output
  | .proto f => .canFrame c f.id (s.on (CAN_FD_ENABLE c)) (s.protoBrs c) f.data
  | .object n => .canFrame c (s.cf (MO_ID c n)) (decide (0 < s.moFormat c n)) (s.moFormat c n == 2) (s.moFrame c n)

def Output.isFd : Output → Bool
  | .canFrame _ _ fd _ _ => fd
  | _ => false

/-- A frame has been sent: TEC falls, counters and clash counts follow, an object shows TRANSMITTED and its stamp. -/
def State.canComplete (s : State) (c : Nat) (off : Int) (tdc : Nat) : State :=
  if !s.canMayDrive c then s
  else match s.offered c (s.nowT + off) with
    | none => s
    | some o =>
      let f := s.offerOut c o
      let s := (s.emit f).bump (CANS_TX_FRAMES c)
      let s := if f.isFd && s.on (CAN_TDC_ENABLE c) then s.wr (CANS_TDC_MEASURED c) tdc else s
      let s := s.canErrors c (s.rd (CANS_TEC c) - 1) (s.rd (CANS_REC c))
      match o with
      | .proto p => s.modCn c (fun x => { x with
          proto := x.proto.erase p
          protoClash := x.protoClash.filter (fun e => e.1 != p.id) })
      | .object n =>
        let s := (s.moEnd c n 2).wr (MO_STAMP c n) (s.stampT (s.sofT c off))
        s.modCn c (fun x => { x with clash := x.clash.filter (fun e => e.1 != n) })

/-- A bit error after the arbitration field: the clash count of the object or identifier (R513). -/
def State.canClash (s : State) (c : Nat) (o : Offer) : State :=
  let n := match o with
    | .proto p => ((pairOf (s.cn c).protoClash p.id).getD 0) + 1
    | .object n => ((pairOf (s.cn c).clash n).getD 0) + 1
  let s := match o with
    | .proto p => s.modCn c (fun x => { x with protoClash := pairSet x.protoClash p.id n })
    | .object k => s.modCn c (fun x => { x with clash := pairSet x.clash k n })
  if n = s.cf (CAN_ID_CLASH_LIMIT c) then
    let s := s.setBit (CANS_CHANNEL_STATUS c) 6
    match o with
    | .proto p => s.record 11 5 0 c (pay 16 p.id + pay 20 0xff)
    | .object k => (s.setBit (MO_STATUS c k) 5).record 11 5 0 c (pay 16 (s.cf (MO_ID c k)) + pay 20 k)
  else s

/-- A transmission ends without success (R512, R513, Table CN-2). -/
def State.canFailure (s : State) (c : Nat) (why : CanFail) : State :=
  if !s.canMayDrive c then s
  else match s.offered c (s.nowT + why.sof) with
    | none => s
    | some o =>
      let s := match why.tdc with
        | some d => if (s.offerOut c o).isFd && s.on (CAN_TDC_ENABLE c) then s.wr (CANS_TDC_MEASURED c) d.toNat else s
        | none => s
      let s := match why.how with
        | .lost => s
        | .bitError => ((s.bump (CANS_ERROR_FRAMES c)).canErrors c (s.rd (CANS_TEC c) + 8) (s.rd (CANS_REC c))).canClash c o
        | .error counts =>
          (s.bump (CANS_ERROR_FRAMES c)).canErrors c (s.rd (CANS_TEC c) + (if counts then 8 else 0)) (s.rd (CANS_REC c))
      match o with
      | .proto _ => s
      | .object n =>
        if (s.cn c).cancel.contains n then s.moEnd c n 3
        else if s.moFlag c n 7 then s.moEnd c n 4
        else s.modCn c (fun x => { x with tx := none })

def execCanTxFailure (c : Fin 4) (why : CanFail) (s : State) : Host.Outcome State Fault Refusal := .next (s.canFailure c.val why)

/-- The delay compensation of an FD frame measures more than 350 ns (R499). -/
def State.tdcOver (s : State) (c : Nat) (off : Int) (tdc : Nat) : Bool :=
  s.canMayDrive c && s.on (CAN_TDC_ENABLE c) && decide (350 < tdc) &&
  (match s.offered c (s.nowT + off) with
   | some o => (s.offerOut c o).isFd
   | none => false)

/-- A frame has been sent to its end; with a measured delay above 350 ns it ends in a bit error instead (R499). -/
def execCanTransmitComplete (c : Fin 4) (off : Int) (tdc : BitVec 16) (s : State) : Host.Outcome State Fault Refusal :=
  .next (if s.tdcOver c.val off tdc.toNat then s.canFailure c.val ⟨.bitError, off, some tdc⟩
    else s.canComplete c.val off tdc.toNat)

/-! ### Status and commit -/

/-- CHANNEL_STATUS: LISTEN_ONLY and ACTIVE shown with the stored bits (Table CN-7). -/
def State.canStatus (s : State) (c : Nat) : Nat :=
  let on := s.cf (CAN_MODE c) != 0 && s.dev != .boot && s.dev != .standby
  Sys2Proof.putBit (Sys2Proof.putBit (s.rd (CANS_CHANNEL_STATUS c)) 4 (on && s.listenOnly c)) 0 on

/-- A commit that changed the channel's mode or bit timing lets it join anew (R500); its error state stays, as R516 alone ends
bus-off; `changed` tells of an object key. -/
def State.canCommit (s : State) (changed : Nat → Bool) : State :=
  each (upto 4) s (fun s c =>
    if [0, 2, 3, 4, 5, 6, 7, 8, 9, 10].any (fun i => changed (CAN_MODE c + i)) then
      (s.clrBit (CANS_CHANNEL_STATUS c) 1).modCn c (fun x => { x with tx := none })
    else s)

end Sys2Proof.Machine
end

