-- ==== Sys2Proof/Machine/Serial.lean ====
section
/-! DEFINITION. Serial ports as master (R519 to R525) and the twin link as a link (R533 to R537): bursts, training and loss. The
target protocol is in Target. -/
namespace Sys2Proof.Machine
open Obj

def State.spt (s : State) (p : Nat) : SpSt := at' s.sp p
def State.modSp (s : State) (p : Nat) (f : SpSt → SpSt) : State := { s with sp := s.sp.setIfInBounds p (f (s.spt p)) }

/-- SPA is the host port (R469, R520). -/
def State.hostPort (s : State) (p : Nat) : Bool := p == 0 && s.pw.hostSel

/-- PORT_MODE in force (R520). -/
def State.spMode (s : State) (p : Nat) : Nat := if s.hostPort p then 2 else s.cf (SP_PORT_MODE p)

/-- PORT_STATUS with its read-only bits; between transfers the port is not selected. -/
def State.spStatus (s : State) (p : Nat) : Nat :=
  Sys2Proof.putBit (Sys2Proof.putBit (s.rd (SP_PORT_STATUS p)) 1 (s.rd (SP_MST_RESULT p) == 1)) 0 (s.spMode p != 0)

/-- The port drives a land (Table SP-1): 0 SCLK, 1 MOSI, 2 MISO, 3 to 6 SS0_N to SS3_N; `ss0` tells that SS0_N is asserted. -/
def State.spDrives (s : State) (p land : Nat) (ss0 : Bool) : Bool :=
  let target := land == 2 && ss0
  match s.spMode p with
  | 1 => decide (land < 7) && land != 2
  | 2 => target
  | 3 => if s.rd (SP_MST_RESULT p) = 1 then decide (land < 2) || (decide (4 ≤ land) && decide (land < 7)) else target
  | _ => false

/-- Nanoseconds from the assertion of the select to its release (Table SP-2): SS_LEAD, (8·N − 0.5)/SCLK with SCLK = 500 MHz /
SCLK_DIV (R521), SS_LAG. -/
def State.mstTime (s : State) (p n : Nat) : Nat :=
  s.cf (SP_SS_LEAD p) + (16 * n - 1) * s.cf (SP_SCLK_DIV p) + s.cf (SP_SS_LAG p)

/-- MST_TX written (R522): the transfer starts. -/
def State.mstTx (s : State) (p : Nat) (b : Bytes) : Res :=
  let m := s.spMode p
  if (m = 1 ∨ m = 3) ∧ s.rd (SP_MST_RESULT p) ≠ 1 ∧ !s.bitOf (SP_PORT_STATUS p) 3 then
    okRes ((s.modSp p (fun x => { x with tx := b, startAt := s.clock })).wr (SP_MST_RESULT p) 1)
  else refuse s cState

/-- The select is released SS_LAG after the last edge: MST_RX holds as many bytes as were sent. Before that nothing ends. -/
def State.mstDone (s : State) (p : Nat) (rx : Bytes) : State :=
  let x := s.spt p
  if s.rd (SP_MST_RESULT p) ≠ 1 ∨ s.clock < x.startAt + ((s.mstTime p x.tx.length * 2 ^ 32 : Nat) : Int) then s
  else
    let tx := x.tx
    let s := s.emit (.spi p (s.cf (SP_MST_SELECT p)) (s.cf (SP_SPI_MODE p)) (s.cf (SP_SCLK_DIV p)) tx)
    let s := (s.wrBlob (SP_MST_RX p) (rx.take tx.length)).wr (SP_MST_RESULT p) 2
    (s.bump (SP_TRANSFERS p)).modSp p (fun x => { x with tx := [] })

def execMasterTransferDone (p : Fin 2) (rx : Bytes) (s : State) : Host.Outcome State Fault Refusal := .next (s.mstDone p.val rx)

/-- SS0_N asserted while the port masters (R523, R524). -/
def State.modeFault (s : State) (p : Nat) : State :=
  if s.spMode p ≠ 3 ∨ s.rd (SP_MST_RESULT p) ≠ 1 then s
  else
    let s := ((s.wrBlob (SP_MST_RX p) []).wr (SP_MST_RESULT p) 3).setBit (SP_PORT_STATUS p) 3
    let s := (s.bump (SP_MODE_FAULT_COUNT p)).modSp p (fun x => { x with tx := [] })
    s.record 12 1 0 p (pay 16 (s.cf (SP_MST_SELECT p)))

def execModeFault (p : Fin 2) (s : State) : Host.Outcome State Fault Refusal := .next (s.modeFault p.val)

/-! ### The twin link -/

/-- Twin operation is in force (R540). -/
def State.twinOn (s : State) : Bool := s.on TW_TWIN_ENABLE && s.rd TW_PAIR_ID != 0

/-- The unit sends on TWL: twin operation in force, and the ball not lost (R533, R550). -/
def State.twlRuns (s : State) : Bool := s.twinOn && s.rd TW_TWIN_STATE != 6

def State.modTw (s : State) (f : TwinSt → TwinSt) : State := { s with twin := f s.twin }

/-- Training completes: the taps of the receiving lanes, and UP (R536). -/
def State.twlUp (s : State) (taps : Vector (BitVec 7) 4) (ns : Nat) : State :=
  if !s.twlRuns || s.rd TWL_LINK_STATE != 1 then s
  else
    let s := each (upto 4) s (fun s i =>
      s.wr (if s.pw.twinRole then TWL_LANE_DELAY_MD i else TWL_LANE_DELAY_SD i) (min 79 (at' taps i).toNat))
    let now := s.clock
    ((s.wr TWL_LINK_STATE 2).modTw (fun t => { t with hbDue := now, laneFree := now, copyEnd := now })).record 12 4 0 2 (pay 16 (ns % 2 ^ 32))

def execTwlTrainingComplete (taps : Vector (BitVec 7) 4) (ns : BitVec 32) (s : State) : Host.Outcome State Fault Refusal :=
  .next (s.twlUp taps ns.toNat)

/-- The receive clock is back: training restarts (R537). -/
def execTwlReceiveClockReturn (s : State) : Host.Outcome State Fault Refusal :=
  .next (if s.twlRuns && s.rd TWL_LINK_STATE == 0 then s.wr TWL_LINK_STATE 1 else s)

end Sys2Proof.Machine
end

