-- ==== Sys2Proof/Machine/Twin.lean ====
section
/-! DEFINITION. Twin operation (chapter 15): the ball and its lease, the state copy and heartbeats, claims and takeover, the
partition fault. Cryptography of the payload stands as the verdict of its tag. -/
namespace Sys2Proof.Machine
open Obj

/-- TWIN_STATE (Table TW-1). -/
def twSingle : Nat := 0
def twCheck : Nat := 1
def twBench : Nat := 2
def twStale : Nat := 3
def twClaiming : Nat := 4
def twPlaying : Nat := 5
def twFenced : Nat := 6

def State.twState (s : State) : Nat := s.rd TW_TWIN_STATE

/-- A change of state writes a record (R541); the end of the boot check lets boot go on (R564). -/
def State.setTwin (s : State) (v : Nat) : State :=
  let old := s.twState
  if old = v then s
  else
    let s := ((s.wr TW_TWIN_STATE v).record 13 1 0 0 (pay 16 old + pay 17 v)).doRefresh
    if v = twBench ∨ v = twStale ∨ v = twPlaying then s.bootFinish else s

/-- BENCH or BENCH_STALE. -/
def State.onBench (s : State) : Bool := s.twState == twBench || s.twState == twStale

/-- A link fault stands (R555). -/
def State.linkFault (s : State) : Bool := s.rd TWL_LINK_STATE == 0 || s.twin.hbLost

/-- The copied state is not trusted (R555). -/
def State.benchStale (s : State) : Bool :=
  s.twin.held.isNone || s.linkFault || s.twin.copyLate || s.bitOf TW_TWIN_STATUS 4

/-- A bench turns stale as soon as a condition of R555 holds. -/
def State.staleCheck (s : State) : State := if s.twState == twBench && s.benchStale then s.setTwin twStale else s

/-! ### CONFIG_HASH (R556) -/

/-- The objects that CONFIG_HASH leaves out. -/
def hashExcluded (k : Nat) : Bool :=
  let i := k / 256
  i == 0x2108 || decide (0x2900 ≤ i) && decide (i < 0x2b00)

/-- The first 16 bytes of SHA-256 over the configuration in force and the table store. -/
def State.configHash (s : State) : Nat :=
  let cfg := s.force.filter (fun e => !hashExcluded e.1)
  let b := cfg.flatMap (fun e => leBytes 4 e.1 ++ leBytes 8 e.2) ++ s.tableRam.flatMap (fun e => leBytes 4 e.1 ++ [e.2])
  leAt (leBytes 32 (Config.sha256 b).toNat) 0 16

/-- The partner's hash seen (R556). -/
def State.hashSeen (s : State) (h : Nat) : State :=
  if h = s.configHash then s.clrBit TW_TWIN_STATUS 4
  else if s.bitOf TW_TWIN_STATUS 4 then s
  else ((s.setBit TW_TWIN_STATUS 4).record 13 7 0 0 (pay 16 h)).staleCheck

/-! ### The lease (R547, R550) -/

/-- LEASE_CORES: SP0, SP1, and the loop processors with a job in the committed schedule (R547). -/
def State.leaseCores (s : State) : Nat :=
  if !s.twinOn then 0
  else (upto 4).foldl (fun m l => if allAxes.any (fun n => (s.ax n).lp == l) then orBit m l else m) 0x30

/-- The lease timer reloaded. -/
def State.leaseReload (s : State) : State :=
  s.modTw (fun t => { t with renewed := 0, leaseEnd := s.time.free.units + (s.cf TW_LEASE_TIME * 1000 * 2 ^ 32 : Nat) })

/-- The lease timer may run slow or fast by 2 % of LEASE_TIME (R547). -/
def State.leaseSlack (s : State) : Int := ((s.cf TW_LEASE_TIME * 20 * 2 ^ 32 : Nat) : Int)

/-- A lease core renews; the last of them reloads the timer. Once the timer must have run out, no renewal is taken (R550). -/
def State.renew (s : State) (core : Nat) : State :=
  if s.rd TW_HOLDS_BALL = 0 ∨ s.twin.leaseEnd + s.leaseSlack < s.clock then s
  else
    let s := s.modTw (fun t => { t with renewed := orBit t.renewed core })
    if clrMask s.leaseCores s.twin.renewed = 0 then s.leaseReload else s

def execLeaseRenewal (core : Fin 6) (s : State) : Host.Outcome State Fault Refusal := .next (s.renew core.val)

/-- The ball is lost (R550): the dribble and TWL stop, every shared output is fenced with keepers, and the unit is FENCED. -/
def State.loseBall (s : State) : State :=
  let missing := clrMask s.leaseCores s.twin.renewed
  let s := (s.fenceAll.wr TW_HOLDS_BALL 0).modTw (fun t => { t with
    dribble := false, keepers := 2 ^ 80 - 1, fencedAt := s.clock, sending := none, waiting := none, handover := false })
  ((s.wr TWL_LINK_STATE 0).setTwin twFenced).record 13 5 0 0 (pay 16 missing)

/-- The lease timer runs out: it may run fast by its 2 % (R547), and does nothing before. -/
def execLeaseExpiry (s : State) : Host.Outcome State Fault Refusal :=
  .next (if s.rd TW_HOLDS_BALL = 0 ∨ s.clock < s.twin.leaseEnd - s.leaseSlack then s else s.loseBall)

/-- The longest carrier period of the leg sets in force, in 2^-32 ns. -/
def State.longestPeriod (s : State) : Nat :=
  (upto 16).foldl (fun m n => if s.legSet n = 0 then m else max m (s.cf (CG_PERIOD (s.cf (CC_CARRIER_GROUP n))) * tickU)) 0

/-- The hold time of the keepers has passed (R545). -/
def State.keepersDue (s : State) : Bool := decide (s.twin.fencedAt + ((6000 * 2 ^ 32 + s.longestPeriod : Nat) : Int) ≤ s.clock)

/-- Keepers are released: after their hold time or with VDD_CORE gone all of them, at a trip those of its mask (R545). -/
def State.keeperRelease (s : State) (trip : Option Nat) : State :=
  s.modTw (fun t => { t with keepers := match trip with
    | some i => clrMask t.keepers (s.cf (TRIP_MASK i) % 2 ^ 48)
    | none => 0 })

/-- KEEPER_RELEASE: a trip that has qualified, or the hold time; at another time it does nothing. -/
def execKeeperRelease (trip : Option (Fin 8)) (s : State) : Host.Outcome State Fault Refusal :=
  .next (match trip with
    | some i => if s.bitOf TRIP_FLAGS i.val then s.keeperRelease (some i.val) else s
    | none => if s.keepersDue then s.keeperRelease none else s)

/-- HANDOVER (R551). -/
def State.handoverWrite (s : State) (v : Nat) : Res :=
  if v = 0 then okRes s
  else if s.twState = twPlaying ∧ s.rd TWL_LINK_STATE = 2 ∧ s.twin.partnerState = twBench ∧
      !s.bitOf TW_TWIN_STATUS 4 then
    okRes (s.modTw (fun t => { t with handover := true }))
  else refuse s cState

/-- The handover burst has ended: the ball is given up (R551). Before its end nothing happens. -/
def State.handoverEnd (s : State) : State :=
  match s.twin.sending with
  | some c =>
    if c.handover && s.rd TW_HOLDS_BALL == 1 && decide (s.twin.copyEnd ≤ s.clock) then s.loseBall.record 13 8 0 0 (pay 16 c.seq) else s
  | none => s

def execHandoverRelease (s : State) : Host.Outcome State Fault Refusal := .next s.handoverEnd

/-! ### The copy (R552 to R554, R557) -/

/-- Offsets in an axis block of the indexes whose status objects a copy carries. -/
def mirrorOffsets : List Nat := [0x00, 0x39, 0x40, 0x41, 0x44, 0x48, 0x60, 0x61, 0x62, 0x63, 0x64, 0x65, 0x70]

/-- Status objects that a copy carries: of the axis blocks, publishers and subscriptions. -/
def mirrored (k : Nat) : Bool :=
  let i := k / 256
  let place := (decide (0x3000 ≤ i) && decide (i < 0x4000) && mirrorOffsets.contains ((i - 0x3000) % 0x80)) ||
    (decide (0x2500 ≤ i) && decide (i < 0x2530))
  place && (match findRow i (k % 256) with
    | some w => w.acc == .ro
    | none => false)

/-- The twin instant t_k that has come (R552). -/
def State.twinAt (s : State) : Int :=
  gridBefore s.sched ((s.cf TW_TWIN_PHASE * tickU : Nat) : Int) ((s.cf TW_TWIN_PERIOD * tickU : Nat) : Int)

/-- The state captured at a twin instant (R553). -/
def State.capCopy (s : State) (seq : Nat) : TwinCopy :=
  { seq := seq
    stamp := s.stampOf s.twinAt
    at_ := s.twinAt
    hash := s.configHash
    mask := allAxes.foldl (fun m n => if s.axState n = axOff then m else orBit m n) 0
    dev := s.rd DEV_DEVICE_STATE
    regs := s.regs.filter (fun e => mirrored e.1)
    axis := s.axis
    casc := s.casc
    sub := s.sub
    pub := s.pub
    compare := s.leg.cellCompare
    handover := s.twin.handover }

/-- Payload bytes of a copy (Table TW-2, Table TW-3). -/
def TwinCopy.bytes (c : TwinCopy) : Nat := 28 + 64 + 64 + 1280 + 448 * (bitsOf c.mask).length

/-- COUNTER of the next burst (R554). -/
def State.burstCounter (s : State) : Nat := s.rd TW_BOOT_EPOCH * 2 ^ 32 + s.twin.bursts

/-- The time of a burst of `n` payload bytes on the lanes: 10 + n periods of 5 ns (R534). -/
def burstTime (n : Nat) : Int := ((5 * (10 + n) * 2 ^ 32 : Nat) : Int)

/-- A copy goes onto the lanes, from the core clock `t` on. -/
def State.sendCopy (s : State) (c : TwinCopy) (t : Int) : State :=
  let s := ((s.emit (.twlCopy s.burstCounter c)).bump TWL_BURSTS_TX).wr TW_COPY_BYTES c.bytes
  let e := t + burstTime c.bytes
  s.modTw (fun x => { x with bursts := (x.bursts + 1) % 2 ^ 32, sending := some c, waiting := none, copyEnd := e, laneFree := e })

/-- The copy in the second buffer leaves as soon as the lanes are free (R553). -/
def State.sendWaiting (s : State) : State :=
  match s.twin.waiting with
  | some c => if s.twlRuns && s.rd TWL_LINK_STATE == 2 && decide (s.twin.laneFree ≤ s.clock) then s.sendCopy c s.clock else s
  | none => s

/-- A twin instant lies in this core clock, and has not been taken (R552). -/
def State.twinDue (s : State) : Bool :=
  decide (s.sched - ((s.tickInc : Nat) : Int) < s.twinAt) && s.twin.instantAt != some s.twinAt

/-- A twin instant (R553): the state is captured, and its burst starts `lag` ns later, at most 2 µs, or when the lanes are free; while
the previous copy is on the lanes the new one waits in the second buffer, and replaces one that waits there. -/
def State.twinInstant (s : State) (lag : Nat) : State :=
  if s.twState ≠ twPlaying ∨ s.rd TWL_LINK_STATE ≠ 2 ∨ !s.twinDue then s
  else
    let seq := (s.rd TW_COPY_SEQ + 1) % 2 ^ 32
    let c := s.capCopy seq
    let t := s.twinAt
    let s := (s.wr TW_COPY_SEQ seq).modTw (fun x => { x with handover := false, instantAt := some t })
    if s.clock < s.twin.copyEnd then
      let s := if s.twin.waiting.isSome then s.bump TW_COPIES_REPLACED else s
      s.modTw (fun x => { x with waiting := some c })
    else s.sendCopy c (max s.twin.laneFree (s.clock + ((min lag 2000 * 2 ^ 32 : Nat) : Int)))

def execTwinInstant (lag : BitVec 11) (s : State) : Host.Outcome State Fault Refusal := .next (s.twinInstant lag.toNat)

/-- A payload is accepted if its tag verifies and its COUNTER is new (R554). -/
def State.payloadOk (s : State) (typ counter : Nat) (tagOk : Bool) : Bool × State :=
  if tagOk && decide (s.twin.partnerCounter < counter) then
    (true, s.modTw (fun t => { t with partnerCounter := counter, rejectRun := false }))
  else
    let first := !s.twin.rejectRun
    let s := (s.bump TW_COPIES_REJECTED).modTw (fun t => { t with rejectRun := true })
    (false, if first then s.record 13 9 0 0 (pay 16 typ) else s)

/-- The mirrored status objects replaced by those of a copy (R557). -/
def State.mirror (s : State) (c : TwinCopy) : State :=
  let keep := s.regs.filter (fun e => !mirrored e.1)
  let s := { s with regs := (c.regs.filter (fun (e : Nat × Nat) => mirrored e.1)).foldl (fun (m : Store) (e : Nat × Nat) => m.set e.1 e.2) keep }
  let s := { s with axis := c.axis, sub := c.sub, pub := c.pub }
  { s with casc := c.casc }

/-- A bench accepts a copy (R557). -/
def State.copyReceive (s : State) (counter : Nat) (tagOk : Bool) (c : TwinCopy) : State :=
  if !s.twinOn || s.rd TWL_LINK_STATE != 2 then s
  else
    let (ok, s) := s.payloadOk 1 counter tagOk
    let newer := match s.twin.held with
      | some h => decide (h.seq < c.seq)
      | none => true
    if !ok || !s.isBench || !newer then s
    else
      let s := (s.hashSeen c.hash).modTw (fun t => { t with held := some c, copyLate := false, copyAt := s.clock })
      let s := ((s.mirror c).wr TW_COPY_SEQ c.seq).wr TW_COPY_BYTES c.bytes
      if s.twState == twStale && !s.benchStale then s.setTwin twBench else s

def execCopyReceive (counter : BitVec 64) (tagOk : Bool) (copy : TwinCopy) (s : State) : Host.Outcome State Fault Refusal :=
  .next (s.copyReceive counter.toNat tagOk copy)

/-- COPY_AGE in ns. -/
def State.copyAge (s : State) : Nat :=
  match s.twin.held with
  | some c => if s.isBench then min (2 ^ 32 - 1) ((s.now - c.at_) / 2 ^ 32).toNat else 0
  | none => 0

/-! ### Claims (R559, R560) -/

/-- A claim starts: the contest check drives the dribble (R559). -/
def State.startClaim (s : State) : State :=
  let from_ := s.twState
  (s.modTw (fun t => { t with dribble := true, claimFrom := from_, claimed := true, claimAt := s.clock })).setTwin twClaiming

/-- The conditions of R559, when they first hold together. -/
def State.checkClaim (s : State) : State :=
  if s.onBench && !s.twin.dribbleIn && s.linkFault && !s.twin.claimed then s.startClaim else s

/-- A link fault arises (R555, R560). -/
def State.raiseLink (s : State) (detail : Nat) : State :=
  if !s.twinOn || s.twState == twFenced then s
  else (((s.setBit TW_TWIN_STATUS 5).record 13 2 detail 0 0).staleCheck).checkClaim

/-- TWL declares the link lost (R537); the twin controller is told. -/
def State.twlLost (s : State) (cause : Nat) : State :=
  if !s.twlRuns || s.rd TWL_LINK_STATE == 0 then s
  else
    let s := ((s.wr TWL_LINK_STATE 0).bump TWL_LINK_LOSSES).record 12 5 cause 2 0
    let s := (s.modTw (fun t => { t with crcRun := 0, sending := none, waiting := none, copyEnd := 0, laneFree := 0 })).raiseLink 1
    if cause = 1 then s else s.wr TWL_LINK_STATE 1

/-- The detection of a loss: no receive clock for 40 ns; four bad bursts in a row, which the bursts themselves show; or symbol errors
within 1,024 consecutive idle bytes, of which eight are a loss and fewer are only counted (R535, R537). -/
def execTwlLinkLoss (cause : Fin 3) (symbols : BitVec 32) (s : State) : Host.Outcome State Fault Refusal :=
  let s1 := if s.twlRuns && s.rd TWL_LINK_STATE == 2 then
      s.wr TWL_SYMBOL_ERRORS ((s.rd TWL_SYMBOL_ERRORS + symbols.toNat) % 2 ^ 32) else s
  .next (match cause with
    | 0 => s1.twlLost 1
    | 1 => s1
    | _ => if s.rd TWL_LINK_STATE = 2 ∧ 8 ≤ symbols.toNat then s1.twlLost 3 else s1)

/-- A burst is received: counted by its CRC; four bad ones in a row lose the link (R535, R537). -/
def State.twlBurst (s : State) (crcOk : Bool) (length : Nat) : State :=
  if s.rd TWL_LINK_STATE ≠ 2 then s
  else if crcOk then (s.bump TWL_BURSTS_RX).modTw (fun t => { t with crcRun := 0 })
  else
    let first := s.twin.crcRun == 0
    let s := (s.bump TWL_CRC_ERRORS).modTw (fun t => { t with crcRun := t.crcRun + 1 })
    let s := if first then s.record 12 6 0 2 (pay 16 length) else s
    if 4 ≤ s.twin.crcRun then s.twlLost 2 else s

def execTwlBurstReceive (crcOk : Bool) (length : BitVec 16) (s : State) : Host.Outcome State Fault Refusal :=
  .next (s.twlBurst crcOk length.toNat)

/-- The dribble-path fault (R560). -/
def State.dribbleFault (s : State) : State :=
  if s.bitOf TW_TWIN_STATUS 6 then s else (s.setBit TW_TWIN_STATUS 6).record 13 3 0 0 0

/-- No edge on DRIBBLE_IN for 4 µs (R559, R560). -/
def State.dribbleSilence (s : State) : State :=
  let t : Int := s.time.free.units / (tickU : Int) - 32000
  let s := s.modTw (fun x => { x with dribbleIn := false, lastEdge := if x.dribbleIn then t else x.lastEdge })
  if !s.twinOn || !s.onBench then s
  else if s.linkFault then s.checkClaim
  else s.dribbleFault

def execDribbleSilence (s : State) : Host.Outcome State Fault Refusal := .next s.dribbleSilence

/-- DRIBBLE_IN carries a dribble: a unit in CHECK becomes a bench (R564). -/
def State.dribbleSeen (s : State) : State :=
  if !s.twinOn then s
  else
    let t : Int := s.time.free.units / (tickU : Int)
    let now := s.clock
    let s := s.modTw (fun x => { x with
      dribbleIn := true, lastEdge := t, claimed := false, dribbleFrom := if x.dribbleIn then x.dribbleFrom else now })
    if s.twState == twCheck then s.setTwin twStale else s

def execDribbleSeen (s : State) : Host.Outcome State Fault Refusal := .next s.dribbleSeen

/-! ### Heartbeats (R555) -/

/-- 20 µs. -/
def heartbeatU : Int := ((20000 * 2 ^ 32 : Nat) : Int)

/-- A heartbeat is due, every 20 µs while TWL is UP, and the lanes are free: one that falls due during a burst leaves at its end
(R555). -/
def State.heartbeatSend (s : State) : State :=
  if !s.twlRuns || s.rd TWL_LINK_STATE != 2 || decide (s.clock < s.twin.hbDue) || decide (s.clock < s.twin.laneFree) then s
  else
    let now := s.clock
    let ack := match s.twin.held with
      | some c => c.seq
      | none => 0
    let s := s.emit (.heartbeat s.burstCounter s.twState s.twin.dribbleIn ack (s.stamp 0) s.configHash)
    (s.bump TWL_BURSTS_TX).modTw (fun t => { t with
      bursts := (t.bursts + 1) % 2 ^ 32
      hbDue := t.hbDue + heartbeatU * (1 + (now - t.hbDue) / heartbeatU)
      laneFree := now + burstTime 60 })

def execHeartbeatSend (s : State) : Host.Outcome State Fault Refusal := .next s.heartbeatSend

def State.heartbeatReceive (s : State) (counter : Nat) (tagOk : Bool) (state : Nat) (seen : Bool) (hash : Nat) : State :=
  if !s.twinOn || s.rd TWL_LINK_STATE != 2 then s
  else
    let (ok, s) := s.payloadOk 2 counter tagOk
    if !ok then s
    else
      let s := s.modTw (fun t => { t with hbLost := false, hbAt := s.clock, partnerState := state, claimed := t.claimed && s.rd TWL_LINK_STATE == 0 })
      let s := s.hashSeen hash
      if s.rd TW_HOLDS_BALL == 1 && !seen then s.dribbleFault else s

def execHeartbeatReceive (counter : BitVec 64) (tagOk : Bool) (state : BitVec 8) (seen : Bool) (hash : BitVec 128) (s : State) :
    Host.Outcome State Fault Refusal := .next (s.heartbeatReceive counter.toNat tagOk state.toNat seen hash.toNat)

/-- No valid heartbeat for 100 µs. -/
def State.heartbeatTimeout (s : State) : State :=
  if !s.twinOn || s.twin.hbLost || decide (s.clock < s.twin.hbAt + ((100000 * 2 ^ 32 : Nat) : Int)) then s
  else ((s.modTw (fun t => { t with hbLost := true })).bump TW_HB_TIMEOUTS).raiseLink 2

def execHeartbeatTimeout (s : State) : Host.Outcome State Fault Refusal := .next s.heartbeatTimeout

/-- No copy accepted for 4 TWIN_PERIODs. -/
def execCopyStaleTimeout (s : State) : Host.Outcome State Fault Refusal :=
  .next (if s.isBench && decide (s.twin.copyAt + ((4 * s.cf TW_TWIN_PERIOD * tickU : Nat) : Int) ≤ s.clock) then
    (s.modTw (fun t => { t with copyLate := true })).staleCheck else s)

/-! ### Takeover (R561) -/

/-- The controlled stop of a cold takeover: the levels of an axis whose power stage is on start from their initial values (R236), and
its generator waits for the first L3 sample instant. -/
def State.coldAxis (s : State) (n : Nat) : State :=
  if !s.stageOn n then s
  else
    let s := if physical n then { s with casc := s.casc.setIfInBounds n {} } else s
    s.modAx n (fun a => { a with cold := true })

/-- The shadow cell's latest duties are committed. -/
def State.shadowCompare (s : State) (n : Nat) : State :=
  if !s.onCarrier n then s
  else each ((upto 4).filter (fun i => decide (s.cf (CCL_LEG n i) < 48))) s (fun s i =>
    let d := at' (s.cl n).nextDuty i
    { s.wr (CCP_DUTY n i) d with leg := { s.leg with
      cellCompare := s.leg.cellCompare.setIfInBounds (s.cf (CCL_LEG n i)) (some (s.compareOf n d)) } })

/-- From now to the first reload point, strictly later, of a leg of a committed leg set (R204, R561), in ns; 0 where there is no leg
set. -/
def State.toReload (s : State) : Nat :=
  let next (g : Nat) (peak : Bool) : Nat :=
    ((s.lastPoint g peak + ((max 1 (s.rd (CG_PERIOD_ACTIVE g)) : Nat) : Int)) * (tickU : Int) - s.sched).toNat
  let l := (upto 16).flatMap (fun n =>
    let g := s.cf (CC_CARRIER_GROUP n)
    if s.legSet n = 0 then [] else next g false :: (if s.cf (CC_RATE n) = 2 then [next g true] else []))
  match l with
  | [] => 0
  | x :: t => t.foldl min x / 2 ^ 32

/-- The new playing unit takes over (R561). -/
def State.takeover (s : State) : State :=
  let stale := s.twin.claimFrom != twBench
  let gap := ((s.time.free.units / (tickU : Int) - s.twin.lastEdge) / 8).toNat + s.toReload
  let seq := match s.twin.held with
    | some c => c.seq
    | none => 0
  let cold := s.on TW_COLD_TAKEOVER
  let now := s.nowT
  let s := (((s.wr TW_HOLDS_BALL 1).setTwin twPlaying).modTw (fun t => { t with dribble := true })).leaseReload
  let s := { s with leg := { s.leg with fenced := 0 } }
  let (s, detail) := match s.twin.held with
    | none => (each allAxes s (fun s n => if s.axState n = axOff then s else s.toOff n), 3)
    | some c =>
      if stale && !cold then
        (each allAxes (each (upto 16) s (fun s n => s.shadowCompare n)) (fun s n => s.coldAxis n), 2)
      else
        (({ s with leg := { s.leg with cellCompare := c.compare } }).modTw (fun t => { t with resume := some now }),
          if stale then 1 else 0)
  let s := each (upto 16) s (fun s n => if (s.legSet n &&& s.tripped) != 0 then s.faultA n fcTrip else s)
  let s := ((s.setBit TW_TWIN_STATUS 8).bump TW_TAKEOVERS).wr TW_LAST_TAKEOVER (s.stamp 0)
  (s.wr TW_LAST_GAP (gap % 2 ^ 32)).record 13 6 detail 0 (pay 16 (gap % 2 ^ 32) + pay 20 seq)

/-- A partition fault (R562): a playing unit enters SAFE and keeps the ball. -/
def State.partition (s : State) (detail : Nat) : State :=
  let s := (s.setBit TW_TWIN_STATUS 7).record 13 4 detail 0 0
  if s.rd TW_HOLDS_BALL = 1 then s.enterSafe 1 else s

/-- PARTITION_FAULT: cases 2 to 4 of R562, which arise on a unit that holds the ball; case 4 after 2 µs of edges on DRIBBLE_IN. -/
def execPartitionFault (why : Fin 3) (s : State) : Host.Outcome State Fault Refusal :=
  let long := s.twin.dribbleIn && decide (s.twin.dribbleFrom + ((2000 * 2 ^ 32 : Nat) : Int) ≤ s.clock)
  .next (if s.twinOn && s.rd TW_HOLDS_BALL == 1 && (why.val != 2 || long) then s.partition (why.val + 2) else s)

/-- From an aborted claim of the boot check to the next attempt, in ns: 1 ms for unit A, 3 ms for unit B (R564). -/
def State.retryNs (s : State) : Nat := if s.pw.twinRole then 3000000 else 1000000

/-- The legs whose lands the contest check samples: of the committed leg sets, and in direct mode (R559). -/
def State.contestLegs (s : State) : Nat :=
  (upto 48).foldl (fun m l => if (s.legOwner l).isSome || s.direct l then orBit m l else m) 0

/-- The contest check ends, 1 µs after it began (R559): the ball is taken, or the unit returns to where it was. Activity is a transition
of one of SDCLK0 to SDCLK3 (`clocks`) or of a land of a leg that the check samples (`legs`), or an edge of DRIBBLE_IN since the claim
started. -/
def State.contestEnd (s : State) (clocks legs : Nat) : State :=
  if s.twState ≠ twClaiming ∨ s.clock < s.twin.claimAt + ((1000 * 2 ^ 32 : Nat) : Int) then s
  else if clocks ≠ 0 ∨ legs &&& s.contestLegs ≠ 0 ∨ s.twin.dribbleIn then
    let s := (s.modTw (fun t => { t with
      dribble := false, decideAt := s.clock + ((s.retryNs * 2 ^ 32 : Nat) : Int) })).setTwin s.twin.claimFrom
    s.partition 1
  else s.takeover

def execContestCheckEnd (clocks : BitVec 4) (legs : BitVec 48) (s : State) : Host.Outcome State Fault Refusal :=
  .next (s.contestEnd clocks.toNat legs.toNat)

/-! ### The boot twin check (R564) -/

/-- The decision or retry time: without a dribble seen the unit claims. -/
def execTwinCheckDecision (s : State) : Host.Outcome State Fault Refusal :=
  .next (if s.twState == twCheck && !s.twin.dribbleIn && decide (s.twin.decideAt ≤ s.clock) then s.startClaim else s)

/-- 400 ms in CHECK. -/
def execTwinCheckTimeout (s : State) : Host.Outcome State Fault Refusal :=
  .next (if s.twState == twCheck && decide (s.twin.checkAt + ((400000000 * 2 ^ 32 : Nat) : Int) ≤ s.clock) then (s.setTwin twStale).dribbleFault else s)

/-- Boot step 5 and a commit: a unit on which twin operation comes into force enters CHECK; one on which it ends is single. -/
def State.twinStart (s : State) : State :=
  if s.twinOn then
    if s.twState = twSingle then
      ((s.setTwin twCheck).wr TWL_LINK_STATE 1).modTw (fun t => { t with
        held := none, hbLost := true, dribbleIn := false, claimed := false, hbAt := s.clock, copyAt := s.clock, checkAt := s.clock
        decideAt := s.clock + (((if s.pw.twinRole then 12000000 else 5000000) * 2 ^ 32 : Nat) : Int) })
    else s
  else
    let s := if s.twState = twSingle then s else s.setTwin twSingle
    ((s.wr TW_HOLDS_BALL 0).wr TWL_LINK_STATE 0).modTw (fun t => { t with dribble := false, keepers := 0 })

/-- TWIN_STATUS with its read-only bits (Table TW-11). -/
def State.twinStatus (s : State) : Nat :=
  let v := s.rd TW_TWIN_STATUS
  let v := Sys2Proof.putBit v 3 (s.twState == twStale)
  let v := Sys2Proof.putBit v 2 (s.twinOn && !s.twin.hbLost)
  let v := Sys2Proof.putBit v 1 (s.twinOn && s.twin.dribbleIn)
  Sys2Proof.putBit v 0 (s.rd TWL_LINK_STATE == 2)

/-- TWIN_STATUS written: clearing PARTITION_FAULT ends its SAFE cause (Table PS-5). -/
def State.twinStatusClear (s : State) (m : Nat) : State :=
  let s := s.wr TW_TWIN_STATUS (clrMask (s.rd TW_TWIN_STATUS) (m &&& 0x1e0))
  if m.testBit 7 then s.clrBit DEV_SAFE_CAUSES 1 else s

end Sys2Proof.Machine
end

