-- ==== Sys2Proof/Machine/Power.lean ====
section
/-! DEFINITION. Supplies, mains section, always-on domain and clocks (chapter 16): the mains samples, envelope, frequency and
DC link, mains loss and return, VSTBY_5V, the crystal and the holdover clock, brownouts, junction temperature, the standby
request and the wake. Resets and the entry to STANDBY stand in Boot. -/
namespace Sys2Proof.Machine
open Obj

/-- The power part changed. -/
def State.modPw (s : State) (f : Power → Power) : State := { s with pw := f s.pw }

/-- Records are written while firmware runs (R485): not in BOOT or STANDBY. -/
def State.awake (s : State) : Bool :=
  match s.dev with
  | .boot | .standby => false
  | _ => true

/-! ### Mains section (R577 to R581) -/

/-- 1.0e5 samples per second. -/
def sampleRate : Nat := F.ofNat 100000

/-- The larger of two binary32 values. -/
def F.max (a b : Nat) : Nat := if F.lt a b then b else a

/-- ω of R578: 2π times MAINS_FREQ clamped to 45 Hz to 65 Hz. -/
def State.mainsOmega (s : State) : Nat := F.mul F.twoPi (F.clamp 0x42340000 0x42820000 (s.rd MAINS_FREQ))

/-- DC supply is configured. -/
def State.dcSupply (s : State) : Bool := s.cf MAINS_SUPPLY_KIND == 1

/-- e of the sample between `v1` (after it) and the one before it (R578): `l` holds it, newest first, and the samples before
it. -/
def State.envelopeOf (s : State) (v1 : Nat) (l : List Nat) : Nat :=
  let vk := l.headD 0
  let vm := (l.drop 1).headD 0
  let vq := if s.dcSupply then 0
    else F.div (F.mul (F.sub v1 vm) sampleRate) (F.mul F.two s.mainsOmega)
  let e := F.sqrt (F.add (F.mul vk vk) (F.mul vq vq))
  let top := (l.take 1201).foldl (fun m v => F.max m (F.abs v)) 0
  if F.lt top e then top else e

/-- The mean of a list of binary32 values over `n`. -/
def meanF (l : List Nat) (n : Nat) : Nat := F.div (l.foldl F.add 0) (F.ofNat n)

/-- V_REF (R578). -/
def State.vRef (s : State) : Nat :=
  if s.dcSupply then s.cf MAINS_NOMINAL else F.mul (F.sqrt F.two) (s.cf MAINS_NOMINAL)

/-- MAINS_FREQ from the zero crossings of the last 8 periods (R579); `crossed` says that v crossed zero at this sample. -/
def State.mainsFreq (s : State) (crossed : Bool) : State :=
  let n := s.pw.sinceCross + 1
  let s :=
    if crossed then s.modPw (fun p => { p with
      sinceCross := 0, halfPeriods := if 10000 ≤ n then [] else (n :: p.halfPeriods).take 16 })
    else if 10000 ≤ n then s.modPw (fun p => { p with sinceCross := 10000, halfPeriods := [] })
    else s.modPw (fun p => { p with sinceCross := n })
  let h := s.pw.halfPeriods
  let f := if s.dcSupply ∨ h.length < 16 then 0 else F.rat (8 * 100000) (h.foldl (· + ·) 0)
  let off := !s.dcSupply && f != 0 && (F.lt f 0x42340000 || F.lt 0x42820000 f)
  (s.wr MAINS_FREQ f).putBit MAINS_HV_STATUS 2 off

/-- v crosses zero between two samples. -/
def crosses (a b : Nat) : Bool := (F.lt a 0 && F.le 0 b) || (F.lt 0 a && F.le b 0)

/-- A run of samples spans `us` microseconds: the first and the last of it lie that far apart. -/
def spans (run us : Nat) : Bool := decide (0 < run) && decide (us ≤ 10 * (run - 1))

/-- The instant, in line time, of the sample whose e is known now: the one before the sample that becomes available now, 20 µs after its
own instant on the grid of 10 µs of the control schedule (R577). -/
def State.mainsInstant (s : State) : Int :=
  gridBefore (s.sched - ((20000 * 2 ^ 32 : Nat) : Int)) 0 ((10000 * 2 ^ 32 : Nat) : Int) - ((10000 * 2 ^ 32 : Nat) : Int) - s.time.schedDiff

/-- A sample of the mains section becomes available, `raw` volts before the divider gain (R602): it completes e of the sample before it. -/
def State.mainsSample (s : State) (raw : Nat) : State :=
  let v := F.add (F.mul (s.calv CALV_MAINS_GAIN) raw) (s.calv CALV_MAINS_OFFSET)
  let l := s.pw.vLast
  let s := s.mainsFreq (match l with | a :: _ => crosses a v | [] => false)
  let s := if l.isEmpty then s
    else
      let t := s.mainsInstant
      let e := s.envelopeOf v l
      let es := (e :: s.pw.eLast).take 100
      let env := meanF es 100
      let below := F.lt env (F.mul (s.cf MAINS_LOSS_LEVEL) s.vRef)
      let above := F.le (F.mul (s.cf MAINS_RETURN_LEVEL) s.vRef) env
      let down := if below then s.pw.belowRun + 1 else 0
      let up := if above then s.pw.aboveRun + 1 else 0
      let n := s.pw.samples + 1
      (s.modPw (fun p => { p with
        eLast := es
        samples := n
        belowRun := down
        aboveRun := up
        lossSpan := if spans down (s.cf MAINS_LOSS_CONFIRM) then p.lossSpan.or (some (t, n, env)) else none
        backSpan := if spans up (1000 * s.cf MAINS_RETURN_TIME) then p.backSpan.or (some n) else none })).wr MAINS_ENVELOPE env
  let s := s.modPw (fun p => { p with vLast := (v :: l).take 1202 })
  s.wr MAINS_DC_LINK (if s.pw.hv then F.mul (s.cf MAINS_DCLINK_SCALE) (meanF ((s.pw.vLast.take 5).map F.abs) 5) else 0)

def execMainsSample (v : BitVec 32) (s : State) : Host.Outcome State Fault Refusal :=
  .next (if s.pw.aonUp then s.mainsSample v.toNat else s)

/-- The report of a mains loss reaches the publishers (R333). -/
def State.mainsReport (s : State) : State :=
  if s.pw.lossDue then
    let s := s.modPw (fun p => { p with lossDue := false })
    each (upto 4) s (fun s q =>
      if s.on (PUB_ENABLE q) && s.on (PUB_MAINS_STOP_ENABLE q) && (s.pb q).stop.isNone
      then s.modPb q (fun p => { p with mainsDue := true }) else s)
  else s

/-- Mains loss is declared, with the stamp of the sample that completed its span (R581). -/
def State.mainsDeclare (s : State) : State :=
  match s.pw.lossSpan with
  | some (t, n, env) =>
    if s.rd MAINS_STATE = 1 then
      let x := s.stampOf t
      let s := ((s.wr MAINS_STATE 2).bump MAINS_LOSSES).wr MAINS_LAST_MAINS_LOSS x
      let s := (s.setBit MAINS_HV_STATUS 5).clrBit MAINS_HV_STATUS 1
      let s := s.modPw (fun p => { p with lostAt := n, lossDue := true })
      if s.awake then s.recordAt x 15 1 (s.cf MAINS_SUPPLY_KIND) 0 (pay 16 env) else s
    else s
  | none => s

/-- MAINS_LOSS: the loss is declared; its report reaches the processors with it, or by a MAINS_LOSS that follows (R581). -/
def State.mainsLoss (s : State) (report : Bool) : State := if report then s.mainsDeclare.mainsReport else s.mainsDeclare

def execMainsLoss (report : Bool) (s : State) : Host.Outcome State Fault Refusal := .next (s.mainsLoss report)

/-- The mains return, or are there for the first time (R581). -/
def State.mainsReturn (s : State) : State :=
  let old := s.rd MAINS_STATE
  match s.pw.backSpan with
  | some n =>
    if old ≠ 1 then
      let s := (s.wr MAINS_STATE 1).setBit MAINS_HV_STATUS 1
      if old = 2 ∧ s.awake then s.record 15 2 0 0 (pay 16 ((n - s.pw.lostAt) / 100 % 2 ^ 32)) else s
    else s
  | none => s

def execMainsReturn (s : State) : Host.Outcome State Fault Refusal := .next s.mainsReturn

/-! ### VAON and VSTBY_5V (R574, R583, R584) -/

/-- VSTBY_5V follows HV and VSTBY_ENABLE; off after an overload until it tries again. -/
def State.vstbyRefresh (s : State) : State :=
  s.putBit MAINS_HV_STATUS 3 (s.pw.hv && s.on STBY_VSTBY_ENABLE && !s.pw.vstbyOff)

/-- HV feeds the always-on domain, or no longer (R574). -/
def State.vaonSource (s : State) (hv : Bool) : State :=
  let s := s.modPw (fun p => { p with hv := hv })
  let s := (s.putBit RAIL_STATUS 6 hv).putBit MAINS_HV_STATUS 0 hv
  (if hv then s else s.wr MAINS_DC_LINK 0).vstbyRefresh

def execVaonSourceChange (hv : Bool) (s : State) : Host.Outcome State Fault Refusal := .next (s.vaonSource hv)

/-- A current lies beyond the limit of VSTBY_5V, which lies between 450 mA and 600 mA (R583). -/
def overVstby (a : Nat) : Bool := F.lt 0x3f19999a a || (F.lt 0x3ee66666 a && F.lt Config.vstbyLimit.toNat a)

/-- VSTBY_5V has drawn `current` amperes for 10 ms: it turns off where that lies beyond its limit (R583). -/
def execVstbyOverload (current : BitVec 32) (s : State) : Host.Outcome State Fault Refusal :=
  let s := s.wr STBY_VSTBY_CURRENT current.toNat
  .next (if s.bitOf MAINS_HV_STATUS 3 && overVstby current.toNat then
      let s := ((s.modPw (fun p => { p with vstbyOff := true, vstbyAt := s.aonClock })).setBit MAINS_HV_STATUS 4).vstbyRefresh
      if s.awake then s.record 15 5 0 0 (pay 16 current.toNat) else s
    else s)

/-- It tries again 1 s after it turned off. -/
def execVstbyRetry (s : State) : Host.Outcome State Fault Refusal :=
  .next (if s.pw.vstbyOff && decide (s.pw.vstbyAt + (secU : Int) ≤ s.aonClock)
    then (s.modPw (fun p => { p with vstbyOff := false })).vstbyRefresh else s)

/-- Tracked ports lose their tracking while the rails are lost (R584). -/
def execVstbyLow (volts : BitVec 32) (s : State) : Host.Outcome State Fault Refusal :=
  let s := s.wr STBY_VSTBY_VOLTAGE volts.toNat
  .next (if s.pw.railsUp || !F.lt volts.toNat 0x40900000 then s
    else each (upto 4) s (fun s p => if (at' s.track p).on then s.trackLost p else s))

/-! ### Crystal and holdover clock (R586, R587) -/

/-- A 60 s window completes with a measured error, and the next one begins. -/
def execXt32Window (rate : BitVec 32) (s : State) : Host.Outcome State Fault Refusal :=
  .next (if s.pw.timePllLost || !s.pw.railsUp || decide (s.aonClock < s.pw.xtAt + ((60 * secU : Nat) : Int)) then s
    else
      let s := (s.modPw (fun p => { p with xtAt := s.aonClock })).wr CLKS_XT32_RATE rate.toNat
      match s.ltSt with
      | .coarse | .fine => s.setBit CLKS_CLOCK_STATUS 5
      | _ => s)

/-- The holdover clock is set to line time, a second after the last time, once boot has given line time its seconds (R588). -/
def execAonTimeSet (s : State) : Host.Outcome State Fault Refusal :=
  .next (if s.pw.railsUp && s.awake && decide (s.pw.aonAt + (secU : Int) ≤ s.aonClock) then
      let s := (s.modPw (fun p => { p with aonAt := s.aonClock })).wr CLKS_AON_TIME s.time.line.lt96
      if s.bitOf CLKS_CLOCK_STATUS 4 then s.setBit CLKS_CLOCK_STATUS 6 else s
    else s)

def execCrystalStop (s : State) : Host.Outcome State Fault Refusal :=
  let s := (s.clrBit CLKS_CLOCK_STATUS 4).clrBit CLKS_CLOCK_STATUS 6
  .next (if s.awake then s.record 15 7 0 0 0 else s.modPw (fun p => { p with crystalRec := true }))

/-! ### Brownout and junction temperature (R572, R598) -/

/-- Tolerance from and to, the least falling threshold, the greatest falling and least rising one, the greatest rising one, in mV
(Table PS-1). -/
def railMv (rail : Nat) : Nat × Nat × Nat × Nat × Nat :=
  match rail with
  | 0 => (776, 824, 735, 755, 770)
  | 1 => (873, 927, 830, 850, 865)
  | 2 => (1710, 1890, 1600, 1640, 1690)
  | 3 => (3135, 3465, 2930, 2990, 3100)
  | _ => (3201, 3399, 2990, 3050, 3150)

/-- Millivolts as binary32 volts. -/
def mv (n : Nat) : Nat := F.rat n 1000

/-- A voltage lies below the falling threshold of a rail. -/
def railBelow (rail v : Nat) : Bool :=
  let (_, _, lo, mid, _) := railMv rail
  F.lt v (mv lo) || (F.lt v (mv mid) && F.lt v (Config.railThreshold rail false).toNat)

/-- A voltage lies above the rising threshold of a rail. -/
def railAbove (rail v : Nat) : Bool :=
  let (_, _, _, mid, hi) := railMv rail
  F.lt (mv hi) v || (F.lt (mv mid) v && F.lt (Config.railThreshold rail true).toNat v)

/-- A voltage lies within the tolerance of a rail. -/
def railWithin (rail v : Nat) : Bool :=
  let (lo, hi, _) := railMv rail
  F.le (mv lo) v && F.le v (mv hi)

/-- A rail dips to `low` volts for less than 10 µs. -/
def State.brownout (s : State) (rail low : Nat) : State :=
  if s.dev = .standby || !(at' s.pw.railUp rail && railBelow rail low) then s
  else if rail = 0 ∧ F.lt low 0x3f333333 then s.tamper .voltage
  else
    let s := (s.setBit RAIL_STATUS 1).bump RAIL_BROWNOUTS
    let s := if s.awake then s.record 15 3 rail 0 (pay 16 low) else s
    s.enterSafe 2

def execBrownout (rail : Fin 5) (low : BitVec 32) (s : State) : Host.Outcome State Fault Refusal :=
  .next (s.brownout rail.val low.toNat)

/-- TJ as measured, and the highest since boot. -/
def State.setTj (s : State) (tj : Nat) : State := (s.wr RAIL_TJ tj).wr RAIL_TJ_MAX (F.max (s.rd RAIL_TJ_MAX) tj)

/-- Above 120 °C (Table PS-8): one record until a fall below 115 °C. -/
def execTjWarning (tj : BitVec 32) (s : State) : Host.Outcome State Fault Refusal :=
  let s := s.setTj tj.toNat
  .next (if s.bitOf RAIL_STATUS 5 || !F.lt 0x42f00000 tj.toNat then s
    else
      let s := s.setBit RAIL_STATUS 5
      if s.awake then s.record 15 8 0 0 (pay 16 tj.toNat) else s)

/-- Below 115 °C the warning clears. -/
def execTjWarnClear (tj : BitVec 32) (s : State) : Host.Outcome State Fault Refusal :=
  let s := s.setTj tj.toNat
  .next (if F.lt tj.toNat 0x42e60000 then s.clrBit RAIL_STATUS 5 else s)

/-! ### Standby request and wake (R595 to R597) -/

/-- The wake settings. -/
def wakeKeys : List Nat := [STBY_WAKE_ENABLE, STBY_WAKE_IN_POLARITY, STBY_WAKE_WINDOW 0, STBY_WAKE_WINDOW 1, STBY_WAKE_WINDOW 2,
  STBY_WAKE_WINDOW 3, STBY_ALARM]

/-- The wake settings copied into the always-on domain (R599): the values in force at a commit. -/
def State.copyWake (s : State) : State :=
  let m := wakeKeys.foldl (fun (m : Store) k => m.set k (s.cf k)) []
  s.modPw (fun p => { p with wakeCfg := m })

/-- A segmented write is open. -/
def State.segWriteOpen (s : State) : Bool := s.dict.xfers.any (fun x => x.write && !x.abandoned)

/-- Device state and running work allow STANDBY_REQUEST (R595). -/
def State.standbyState (s : State) : Bool :=
  (s.dev == .preop || s.dev == .safe) && s.dict.storing.isNone && !s.segWriteOpen

/-- STANDBY_REQUEST. -/
def State.standbyRequest (s : State) (v : Nat) : Res :=
  if !s.standbyState then refuse s cState
  else if v ≠ 0x70656C73 then refuse s cRange
  else okRes (s.copyWake.modPw (fun p => { p with stbyPrep := true, wakeOut := false, stbyAt := s.clock }))

/-- The rails are still there 1 s after WAKE_OUT was deasserted. -/
def execStandbyRequestLapse (s : State) : Host.Outcome State Fault Refusal :=
  .next (if s.pw.stbyPrep && s.pw.railsUp && decide (s.pw.stbyAt + (secU : Int) ≤ s.clock)
    then (s.modPw (fun p => { p with stbyPrep := false, wakeOut := true })).record 15 0xa 0 0 0 else s)

/-- RESET_REQUEST may be taken (R592). -/
def State.resetState (s : State) : Bool :=
  allAxes.all (fun n => s.axState n == axOff || s.axState n == axReady || s.axState n == axFault) && s.dict.storing.isNone

/-- RESET_REQUEST: the reset follows 1 ms later. -/
def State.resetRequest (s : State) (v : Nat) : Res :=
  if !s.resetState then refuse s cState
  else if v ≠ 0x74657372 then refuse s cRange
  else okRes (s.modPw (fun p => { p with swReset := true, swAt := s.clock }))

/-- The condition of a wake source (R597). `rising` and `us` are the edge of WAKE_IN and how long its new level has stayed. -/
def State.wakeMet (s : State) (code port : Nat) (rising : Bool) (us : Nat) : Bool :=
  let w := s.pw.wakeCfg
  (w.get STBY_WAKE_ENABLE).testBit (code - 1) &&
  (match code with
   | 1 => rising == (w.get STBY_WAKE_IN_POLARITY == 0) && decide (10 ≤ us)
   | 2 =>
     let win := w.get (STBY_WAKE_WINDOW port)
     win != 0 && (at' s.track port).on &&
       decide ((win : Int) ≤ absI (toS 32 (s.rd (TRK_TRACK_COUNT port)) - at' s.pw.entryCount port))
   | 3 => decide (lt96Units (w.get STBY_ALARM) / crystalU ≤ s.aonUnits / crystalU)
   | _ => s.rd TRK_TRACK_LOST != 0)

/-- A wake (R597): the first of the enabled sources while WAKE_OUT is deasserted or the rails are off. -/
def State.wake (s : State) (code port : Nat) (rising : Bool) (us : Nat) : State :=
  if s.dev = .standby ∧ s.rd STBY_LAST_WAKE = 0 ∧ s.wakeMet code port rising us then
    (s.wr STBY_LAST_WAKE code).modPw (fun p => { p with wakeOut := true, wakePort := port })
  else s

def execWake (source : Fin 4) (x : WakeIn) (s : State) : Host.Outcome State Fault Refusal :=
  .next (s.wake (source.val + 1) x.port.val x.rising x.us)

end Sys2Proof.Machine
end

