-- ==== Sys2Proof/Machine/Calibration.lean ====
section
/-! DEFINITION. The calibration set (chapter 17): its layout and CRC (Table NV-2), the working copy, CAL_SAVE and CAL_IMPORT
with their checks, export, and the set that boot takes. -/
namespace Sys2Proof.Machine
open Obj

/-! ### The set (Table NV-2) -/

/-- The entries in the order of their bytes 0 to 287. -/
def calKeys : List Nat :=
  (upto 32).map CALV_SD_GAIN ++ (upto 16).map CALV_SC_CAL ++ (upto 16).map CALV_AIN_CAL ++
  [CALV_MAINS_GAIN, CALV_MAINS_OFFSET, CALV_P1_INGRESS, CALV_P1_EGRESS, CALV_P2_INGRESS, CALV_P2_EGRESS, CALV_DL_REF, CALV_DL_TEMPCO]

/-- The range of an entry, binary32 or signed picoseconds. -/
def calRange (k v : Nat) : Bool :=
  let i := k % 256 - 1
  let f (lo hi : Nat) : Bool := f32.isFin v && F.le lo v && F.le v hi
  match k / 256 with
  | 0x2c10 => f 0x3f000000 0x40000000
  | 0x2c11 => if i % 2 = 0 then f 0x3f000000 0x40000000 else f 0xbdcccccd 0x3dcccccd
  | 0x2c12 => if i % 2 = 0 then f 0x3f666666 0x3f8ccccd else if i % 4 = 1 then f 0xbdcccccd 0x3dcccccd else f 0xbf000000 0x3f000000
  | 0x2c13 => if i = 0 then f 0x3f666666 0x3f8ccccd else f 0xc0a00000 0x40a00000
  | 0x2c14 => decide (v ≤ 500000)
  | 0x2c15 => if i = 0 then f 0x2cafebff 0x2e5be6ff else f 0xba83126f 0x3a83126f
  | _ => true

/-- Every entry lies in Table NV-2. -/
def calAllIn (m : Store) : Bool := calKeys.all (fun k => calRange k (m.get k))

/-- The 16,384 bytes of a set. -/
def calBytes (m : Store) (writes : Nat) : Bytes :=
  let body := calKeys.flatMap (fun k => leBytes 4 (m.get k)) ++ leBytes 4 writes ++ List.replicate (16380 - 292) 0
  body ++ leBytes 4 (crc32 body)

/-- The entries that the bytes of a set spell. -/
def calParse (b : Bytes) : Store :=
  ((calKeys.zip (upto calKeys.length)).foldl (fun (m : Store) (e : Nat × Nat) => m.set e.1 (leAt b (4 * e.2) 4)) [])

/-- The working copy. -/
def State.calWork (s : State) : Store := calKeys.foldl (fun (m : Store) k => m.set k (s.rd k)) []

/-- CAL_PENDING: the working copy differs from the set in force. -/
def State.calPending (s : State) : Bool := s.calWork != s.dict.calInForce

/-- The set in force loaded into the working copy. -/
def State.calLoadWork (s : State) : State := calKeys.foldl (fun s k => s.wr k (s.calv k)) s

/-- CAL_CRC of the set in force. -/
def State.calCrc (s : State) : Nat := leAt (calBytes s.dict.calInForce (s.rd CAL_WRITES)) 16380 4

/-! ### Changing it (R604 to R606) -/

/-- R604. -/
def State.calState (s : State) : Bool :=
  s.dev == .preop && allAxes.all (fun n => s.axState n == axOff || s.axState n == axReady || s.axState n == axFault) &&
  s.dict.storing.isNone && s.dict.calSaving.isNone && !s.pw.stbyPrep

/-- A set begins to be written, with the CAL_SOURCE that it takes. -/
def State.calWrite (s : State) (m : Store) (source : Nat) : State :=
  let s := s.wr CAL_RESULT 0
  { s with dict := { s.dict with calSaving := some (m, source) } }

/-- CAL_SAVE. -/
def State.calSave (s : State) (v : Nat) : Res :=
  if !s.calState then refuse (s.wr CAL_RESULT 5) cState
  else if v ≠ 0x6C616373 then refuse s cRange
  else if !calAllIn s.calWork then refuse (s.wr CAL_RESULT 4) cRange
  else okRes (s.calWrite s.calWork 1)

/-- The image of Table NV-3 for the set in force. -/
def State.calExport (s : State) : Bytes :=
  let id := (Config.sha384 (leBytes 96 Config.devicePubkey.toNat)).toNat
  let body := leBytes 4 0x4C41434A ++ leBytes 1 1 ++ leBytes 1 (s.rd CAL_SOURCE) ++ leBytes 2 0 ++
    leBytes 8 (s.rd ID_SERIAL_64) ++ leBytes 4 (s.rd CAL_WRITES) ++ leBytes 4 0 ++ leBytes 48 id ++ List.replicate 56 0 ++
    calBytes s.dict.calInForce (s.rd CAL_WRITES)
  body ++ leBytes 96 (Config.deviceSign body).toNat

/-- CAL_IMPORT: the checks of Table NV-5, in order; `sigOk` says that SIGNATURE verifies under the key that SIGNER_ID names. -/
def State.calImport (s : State) (b : Bytes) (sigOk : Bool) : Res :=
  let signer := leAt b 24 48
  let own := signer == (Config.sha384 (leBytes 96 Config.devicePubkey.toNat)).toNat
  let set := (b.drop 128).take 16384
  if b.length ≠ 16608 ∨ leAt b 0 4 ≠ 0x4C41434A ∨ leAt b 4 1 ≠ 1 then refuse (s.wr CAL_RESULT 1) cRange
  else if !s.calState then refuse (s.wr CAL_RESULT 5) cState
  else if leAt b 8 8 ≠ s.rd ID_SERIAL_64 then refuse (s.wr CAL_RESULT 2) cRange
  else if !(sigOk && (own || signer == Config.vendorCaKey.toNat)) then refuse (s.wr CAL_RESULT 3) cDenied
  else if leAt set 16380 4 ≠ crc32 (set.take 16380) ∨ !calAllIn (calParse set) then refuse (s.wr CAL_RESULT 4) cRange
  else okRes (s.calWrite (calParse set) (if own then 3 else 2))

/-- The new slot is complete: the set is in force and the other slot is overwritten with zeros (R605). -/
def State.calComplete (s : State) : State :=
  match s.dict.calSaving with
  | none => s
  | some (m, source) =>
    let s := { s with dict := { s.dict with calSaving := none, calInForce := m, calSlot := 1 - s.dict.calSlot } }
    (((s.wr CAL_SOURCE source).bump CAL_WRITES).wr CAL_STATE 0).wear 4 4096

def execCalSaveComplete (s : State) : Host.Outcome State Fault Refusal := .next s.calComplete

/-- CAL_DISCARD (R606). -/
def State.calDiscard (s : State) (v : Nat) : Res :=
  if s.dict.calSaving.isSome then refuse s cState
  else if v.testBit 0 then okRes s.calLoadWork else okRes s

/-- Boot step 4 (R603): the slot that verifies, else the defaults with CAL_STATE INVALID. -/
def State.calBoot (s : State) (verifies : Bool) : State :=
  if verifies then (s.wr CAL_STATE 0).calLoadWork
  else
    let s := s.wr CAL_STATE 1
    ({ s with dict := { s.dict with calInForce := [] } }).calLoadWork

end Sys2Proof.Machine
end

