-- ==== Sys2Proof/Machine/View.lean ====
section
/-! DEFINITION. What a read of an object returns (R442): the stored value, or a value formed from the state of the block that
the object shows; and the octet strings that DOMAIN and VSTRING objects read. -/
namespace Sys2Proof.Machine
open Obj

/-! ### Values in force -/

/-- Indexes of axis blocks: the offset A+xx of an index from 3000h to 3FFFh. -/
def axisOffset (i : Nat) : Nat := i % 0x80

/-- A persistent object that takes effect at a configuration commit (R443): neither marked M, nor of a chapter that states
another time for it (coefficient banks R248, PROFILE_TYPE R288, table headers R337, acquisition R358). -/
def committable (k : Nat) : Bool :=
  match findRow (k / 256) (k % 256) with
  | some w =>
    w.persistent && !w.mappable && decide (k / 256 < 0x4000) && k != PRF_PROFILE_TYPE (k / 256 / 0x80 - 0x60) &&
    !(decide (0x3000 ≤ k / 256) && [0x24, 0x25, 0x32, 0x33, 0x34, 0x35, 0x36, 0x37].contains (axisOffset (k / 256)))
  | none => false

/-- The written values that a commit takes. -/
def State.candidate (s : State) : Store := s.regs.filter (fun (e : Nat × Nat) => committable e.1)

/-- CHANGES_PENDING: a written value differs from the value in force. -/
def State.changesPending (s : State) : Bool := s.candidate != s.force

/-! ### Formed values -/

/-- ERROR_REGISTER (R468). -/
def State.errorRegister (s : State) : Nat :=
  let man := s.dev == .safe || s.dev == .locked
  let com := s.domSt 0 == .untrusted || s.domSt 1 == .untrusted || s.rd PD_RX_TIMEOUT != 0
  let temp := s.bitOf TAMP_TAMPER_CAUSES 2
  let volt := allAxes.any (fun n => s.bitOf (ST_FAULT_CAUSES n) 4) || s.bitOf FIELD_STATUS 1
  let cur := s.rd SDF_OC_FLAGS != 0
  let gen := man || com || temp || volt || cur || allAxes.any (fun n => s.axState n == axFault)
  128 * b2n man + 16 * b2n com + 8 * b2n temp + 4 * b2n volt + 2 * b2n cur + b2n gen

/-- GLOBAL_STATUS (Table HE-3). -/
def State.globalStatus (s : State) : Nat :=
  let role := if s.twState = 0 then 0 else if s.twState = twPlaying then 1 else 2
  s.rd DEV_DEVICE_STATE % 8 + 8 * b2n s.claimed + 16 * (s.rd LT_STATE % 8) + 128 * b2n s.changesPending + 256 * role +
  1024 * b2n (allAxes.any (fun n => s.axState n == axFault)) + 2048 * b2n s.faultN

/-- An object of a ring (Table HE-14). -/
def Ring.object (g : Ring) (j : Nat) : Nat :=
  match j with
  | 1 => b2n (g.ctrl.testBit 0)
  | 2 => 2 ^ fld g.ctrl 8 5
  | 3 => g.producer
  | 4 => g.consumer
  | 5 => g.overflows
  | _ => g.sourceFilter

/-- SDCLK_ACTIVE (R177): a clock is driven while a cell that it serves is not gated; SDCLK0 also while the unit holds the ball
(R549). -/
def State.sdclkActive (s : State) : Nat :=
  if !s.served || !s.drivesNets then 0
  else (upto 4).foldl (fun m k =>
    if (k == 0 && s.rd TW_HOLDS_BALL == 1) || (upto 4).any (fun i => !s.cellGated (4 * k + i)) then orBit m k else m) 0

/-- REVISION (Table OD-11): the revision letter and the low bits of the running firmware's VERSION. -/
def State.revision (s : State) : Nat := s.rd ID_REVISION / 2 ^ 16 * 2 ^ 16 + s.rd (slotVersion (s.rd FW_ACTIVE_SLOT)) % 2 ^ 16

/-- Objects of one number that show state of the block. -/
def State.viewOne (s : State) (k : Nat) : Option Nat :=
  match k with
  | 0x100100 => some s.errorRegister
  | 0x101803 => some s.revision
  | 0x1f1104 => some (b2n s.changesPending)
  | 0x200006 => some (b2n s.faultN)
  | 0x200007 => some (s.time.free.units / secU % 2 ^ 32)
  | 0x200107 => some (Sys2Proof.putBit (s.rd k) 0 s.pw.allStable)
  | 0x200203 => some s.aonTime
  | 0x210003 => some s.time.line.lt96
  | 0x210502 => some s.time.free.lt96
  | 0x230205 => some s.sdclkActive
  | 0x230005 => some (clrMask (2 ^ 48 - 1) s.leg.driven)
  | 0x280801 => some (b2n s.twlRuns)
  | 0x290004 => some (b2n s.pw.twinRole)
  | 0x290008 => some s.leaseCores
  | 0x29000d => some s.twinStatus
  | 0x29000f => some s.copyAge
  | 0x2a0003 => some s.claimWindow
  | 0x2a0301 => some s.sec.sessions.length
  | 0x2a0602 => some s.debugRemain
  | 0x2b0001 => some (b2n s.pw.hostSel)
  | 0x2b0003 => some (b2n s.host.busMaster)
  | 0x2b0004 => some s.host.staging.length
  | 0x2c0103 => some s.calCrc
  | 0x2c0105 => some (b2n s.calPending)
  | 0x400001 => some s.freeEntries
  | _ => none

/-- The sin/cos objects of FB4 to FB15, which read 0 and cannot be written (R171). -/
def scAbsent (i j : Nat) : Bool := decide (0x2204 ≤ i) && decide (i < 0x2210) && decide (0x0f ≤ j) && decide (j < 0x15)

/-- Objects of a family that show state of the block. -/
def State.viewFamily (s : State) (i j : Nat) : Option Nat :=
  if 0x2310 ≤ i ∧ i < 0x2340 ∧ (j = 1 ∨ j = 2) then
    match s.legOwner (i - 0x2310) with
    | some n => some (if j = 1 then 1 else s.cf (CC_CARRIER_GROUP n))
    | none => none
  else if scAbsent i j then some 0
  else if 0x2360 ≤ i ∧ i < 0x2380 ∧ j = 8 then
    if s.cellGated ((i - 0x2360) / 2) then some 0 else none
  else if 0x2500 ≤ i ∧ i < 0x2504 ∧ j = 0xd then some (s.pubState (i - 0x2500))
  else if 0x2704 ≤ i ∧ i < 0x2708 ∧ j = 1 then some (s.canStatus (i - 0x2704))
  else if 0x2800 ≤ i ∧ i < 0x2802 ∧ j = 0xa then some (s.spStatus (i - 0x2800))
  else if i = 0x2800 ∧ j = 1 ∧ s.pw.hostSel then some 2
  else if 0x2b10 ≤ i ∧ i < 0x2b20 then some ((at' s.host.rings (i - 0x2b10)).object j)
  else if 0x4010 ≤ i ∧ i < 0x4060 ∧ j = 6 then some (s.tableState (i - 0x4010))
  else if 0x4010 ≤ i ∧ i < 0x4060 ∧ j = 9 then some (s.tableUsers (i - 0x4010))
  else if 0x3000 ≤ i ∧ i < 0x3800 ∧ axisOffset i = 0x22 ∧ j = 0xe then
    let n := (i - 0x3000) / 0x80
    some (s.ccStatus n)
  else none

/-- The value that a read of the object `k` returns. -/
def State.view (s : State) (k : Nat) : Nat :=
  match s.viewOne k with
  | some v => v
  | none => (s.viewFamily (k / 256) (k % 256)).getD (s.rd k)

/-- Mapping objects, whose subindex 00h is an entry count of their own (R440). -/
def mapIdx (i : Nat) : Bool := (0x1600 ≤ i && i < 0x1610) || (0x1a00 ≤ i && i < 0x1a10) || (0x1c80 ≤ i && i < 0x1c88) ||
  (0x1d80 ≤ i && i < 0x1d88)

/-! ### Octet strings -/

/-- The octets of a VSTRING or DOMAIN object as it reads, but for SEG_HEADER and SEG_DATA. -/
def State.octets (s : State) (k : Nat) : Bytes :=
  match k with
  | 0x100800 => [0x4a, 0x4e, 0x34, 0x38, 0x31, 0x36]
  | 0x100900 => Config.hwVersion
  | 0x100a00 => Config.swVersion (s.rd (slotVersion (s.rd FW_ACTIVE_SLOT)))
  | 0x290016 => leBytes 16 s.configHash
  | 0x2a0002 => match s.sec.ownerKey with
    | some d => leBytes 48 d
    | none => []
  | 0x2a0101 => Config.deviceCert
  | 0x2a0102 => leBytes 96 Config.devicePubkey.toNat
  | 0x2a0103 => Config.vendorCaCert
  | 0x2a0203 => match s.sec.nonce with
    | some v => leBytes 32 v
    | none => []
  | 0x2a0302 => s.sessionList
  | 0x2a0305 => s.sec.revoked.flatMap (fun n => leBytes 4 n)
  | 0x2a0401 => s.keyInventory
  | 0x2a0802 => leBytes 32 s.sec.auditHead
  | 0x2a0804 => s.auditRecord
  | 0x2a0805 => s.auditExport
  | 0x2c0107 => s.calExport
  | _ =>
    let i := k / 256
    if 0x4100 ≤ i ∧ i < 0x4140 then s.tableRead (i - 0x4100)
    else if 0x4180 ≤ i ∧ i < 0x4190 then s.tableRead (i - 0x4180 + 64)
    else if 0x1f20 ≤ i ∧ i < 0x1f24 then at' s.dict.handshake (i - 0x1f20)
    else s.blob k

end Sys2Proof.Machine
end

