-- ==== Sys2Proof/Machine/Acquisition.lean ====
section
/-! DEFINITION. The trigger and acquisition engine (chapter 08): START and its checks, slots and their reductions, frames,
trigger units, engine states, segments with their headers, and what SEG_HEADER and SEG_DATA read. Times are in units of 125 ps of
line time. -/
namespace Sys2Proof.Machine
open Obj

/-- The engine changed. -/
def State.modAcq (s : State) (f : AcqSt → AcqSt) : State := { s with acq := f s.acq }

/-- A setting as START took it (R358). -/
def State.aq (s : State) (k : Nat) : Nat := s.acq.cfg.get k

/-- ACQ_STATE values (Table AQ-6). -/
def aqIdle : Nat := 0
def aqPre : Nat := 1
def aqArmed : Nat := 2
def aqPost : Nat := 3
def aqHoldoff : Nat := 4
def aqRearm : Nat := 5
def aqFull : Nat := 6
def aqDone : Nat := 7

def State.aqState (s : State) : Nat := s.rd ACQ_STATE
def State.setAq (s : State) (v : Nat) : State := s.wr ACQ_STATE v

/-- IDLE or DONE: the engine does not run. -/
def State.aqStill (s : State) : Bool := s.aqState == aqIdle || s.aqState == aqDone

/-! ### Values of slots (R352 to R354) -/

/-- Numbers of a slot's type as integers; a binary32 stands for its bits. -/
def OTy.toVal (t : OTy) (x : Nat) : Int := if t.signed then toS (8 * t.size) x else (x : Int)

/-- A level or threshold, an I64 raw value, in the slot's type. -/
def OTy.level (t : OTy) (x : Nat) : Int :=
  match t with
  | .f32 => ((x % 2 ^ 32 : Nat) : Int)
  | .u64 | .st64 => (x : Int)
  | _ => toS 64 x

def OTy.vlt (t : OTy) (a b : Int) : Bool := match t with | .f32 => F.lt a.toNat b.toNat | _ => decide (a < b)
def OTy.vle (t : OTy) (a b : Int) : Bool := match t with | .f32 => F.le a.toNat b.toNat | _ => decide (a ≤ b)
def OTy.vadd (t : OTy) (a b : Int) : Int := match t with | .f32 => (F.add a.toNat b.toNat : Nat) | _ => a + b
def OTy.vsub (t : OTy) (a b : Int) : Int := match t with | .f32 => (F.sub a.toNat b.toNat : Nat) | _ => a - b

/-- 8 bytes for 64-bit types, 4 for the others. -/
def OTy.width (t : OTy) : Nat := if t.size = 8 then 8 else 4

/-- The type may stand in a slot. -/
def OTy.slotTy (t : OTy) : Bool := match t with | .lt96 | .vstr | .domain => false | _ => true

def OTy.isInt (t : OTy) : Bool := match t with | .f32 | .q32 | .st64 | .lt96 | .vstr | .domain => false | _ => true

/-- The object that a slot names. -/
def State.slotKey (s : State) (n : Nat) : Nat := s.aq (SLOT_SIGNAL n) % 2 ^ 24

/-- The type of that object. -/
def State.slotTy (s : State) (n : Nat) : OTy :=
  match findRow (s.slotKey n / 256) (s.slotKey n % 256) with
  | some w => w.ty
  | none => .u32

/-- SIGNAL meets R352. -/
def State.slotOk (s : State) (n : Nat) : Bool :=
  match findRow (s.slotKey n / 256) (s.slotKey n % 256) with
  | some w => w.mappable && w.ty.slotTy
  | none => false

/-- Enabled slots, ascending. -/
def State.slots (s : State) : List Nat := (upto 64).filter (fun n => s.aq (SLOT_ENABLE n) != 0)

/-- The raw value of a slot as its object stands. -/
def State.slotNow (s : State) (n : Nat) : Nat := s.view (s.slotKey n) % 2 ^ (8 * (s.slotTy n).size)

/-- VALID and DOM of a stamp taken now. -/
def State.stampKind (s : State) : Nat := b2n s.stampsValid + 2 * s.time.lastDom

/-- The instant that a value of an object which changes now is attributed to (Table AQ-1): the conversion instant of an analogue input;
every other quantity changes in this model at the instant that it is attributed to. -/
def State.attributed (s : State) (k : Nat) : Int :=
  let i := k / 256
  if 0x2630 ≤ i ∧ i < 0x2634 ∧ 5 ≤ k % 256 ∧ k % 256 ≤ 7 then s.ainInstant (s.cf (AIN_RATE (i - 0x2630))) / (tickU : Int) else s.nowT

/-- What is noted under a number: the value attributed to the latest instant at or before `t`. -/
def AcqSt.valueAt (a : AcqSt) (n : Nat) (t : Int) : Option Nat :=
  (a.past.find? (fun e => e.1 == n && decide (e.2.1 ≤ t))).map (·.2.2)

/-- A value noted, where it differs from the last one under its number. -/
def AcqSt.note (a : AcqSt) (n : Nat) (t : Int) (v : Nat) : AcqSt :=
  if (a.past.find? (fun e => e.1 == n)).any (fun e => e.2.2 == v) then a else { a with past := (n, t, v) :: a.past }

/-- The values of the slots noted as they stand at the end of a core clock, while the engine runs (R350). -/
def State.acqNote (s : State) : State :=
  if s.aqStill ∧ s.acq.readyAt.isNone then s
  else
    let a := s.slots.foldl (fun (a : AcqSt) n => a.note n (s.attributed (s.slotKey n)) (s.slotNow n)) s.acq
    { s with acq := a.note 64 s.nowT s.stampKind }

/-- The notes that raw samples after `t` may still need. -/
def AcqSt.forget (a : AcqSt) (t : Int) : AcqSt :=
  { a with past := a.past.filter (fun e => decide (t < e.2.1) || (a.past.find? (fun x => x.1 == e.1 && decide (x.2.1 ≤ t))) == some e) }

/-- The raw value of a slot at the raw sample `t` (R350). -/
def State.slotRaw (s : State) (n : Nat) (t : Int) : Nat := (s.acq.valueAt n t).getD (s.slotNow n)

/-- The ST64 of the raw sample `t`, with VALID and DOM of that instant (R360, Table SC-3). -/
def State.rawStamp (s : State) (t : Int) : Nat :=
  let k := (s.acq.valueAt 64 t).getD s.stampKind
  st64 (k % 2 == 1) (k / 2) (t * (tickU : Int))

/-- A tick of TIME_PLL, and what it brings to the field inputs and the lanes of TWL. -/
def State.fullTick (s : State) : State := s.acqNote.timeTick.diFirsts.sendWaiting

def execTimePllTick (s : State) : Host.Outcome State Fault Refusal := .next s.fullTick

/-- The tick at which a pending offset is applied (R83). -/
def execOffsetAddApply (s : State) : Host.Outcome State Fault Refusal :=
  .next (if s.time.offsetAdd.isSome then s.fullTick else s)

/-- Division of an integer by `n`, rounded to nearest with halves away from zero. -/
def roundAway (i : Int) (n : Nat) : Int :=
  let q : Int := ((2 * i.natAbs + n) / (2 * n) : Nat)
  if i < 0 then -q else q

/-- The reduction of a block by the choice of the lesser (`min`) or greater value (R354). -/
def pick (t : OTy) (less : Bool) (x0 : Nat) (xs : List Nat) : Int :=
  match t with
  | .q32 =>
    let d := xs.map (fun x => posDiff (q32 x) (q32 x0))
    q32 x0 + d.foldl (fun m v => if less then minI m v else maxI m v) (d.headD 0)
  | _ => (xs.map t.toVal).foldl (fun m v => if less then (if t.vlt v m then v else m) else (if t.vlt m v then v else m)) (t.toVal x0)

/-- The mean of a block (R354). -/
def blockMean (t : OTy) (x0 : Nat) (xs : List Nat) : Int :=
  let n := xs.length
  match t with
  | .f32 => (D.toF (D.div (xs.foldl (fun a x => D.add a (D.ofF x)) 0) (D.ofInt n)) : Nat)
  | .q32 => q32 x0 + roundAway (xs.foldl (fun a x => a + posDiff (q32 x) (q32 x0)) 0) n
  | _ => roundAway (xs.foldl (fun a x => a + t.toVal x) 0) n

/-- The values of the enabled streams of a slot over a block, oldest value first: width and value (Table AQ-2). -/
def State.streamVals (s : State) (n : Nat) (xs : List Nat) : List (Nat × Nat) :=
  let t := s.slotTy n
  let st := s.aq (SLOT_STREAMS n)
  let w := t.width
  let x0 := xs.headD 0
  let enc (i : Int) : Nat × Nat := (w, ofS (8 * w) i)
  (if st.testBit 0 then [enc (t.toVal x0)] else []) ++ (if st.testBit 1 then [enc (pick t true x0 xs)] else []) ++
  (if st.testBit 2 then [enc (pick t false x0 xs)] else []) ++ (if st.testBit 3 then [enc (blockMean t x0 xs)] else []) ++
  (if st.testBit 4 then [(4, (xs.filter (fun x => t.vle (t.level (s.aq (SLOT_THRESHOLD n))) (t.toVal x))).length)] else [])

/-- The next multiple of `w` at or above `o`. -/
def alignUp (o w : Nat) : Nat := (o + w - 1) / w * w

/-- Values packed, each at the next multiple of its own width, and padded to a multiple of 8 bytes (R355). -/
def packFrame (l : List (Nat × Nat)) : Bytes :=
  let b := l.foldl (fun (b : Bytes) (e : Nat × Nat) => b ++ List.replicate (alignUp b.length e.1 - b.length) 0 ++ leBytes e.1 e.2) []
  b ++ List.replicate (alignUp b.length 8 - b.length) 0

/-- FRAME_BYTES of the configuration. -/
def State.frameSize (s : State) : Nat := (packFrame (s.slots.flatMap (fun n => s.streamVals n [0]))).length

/-! ### START (R357, R351) -/

/-- T_raw, 125 ps (R349). -/
def State.tRaw (s : State) : Nat :=
  let a := s.aq ACQ_TB_AXIS
  if a < 16 then s.aq ACQ_TB_DIV * (s.t1 a / tickU).toNat else s.aq ACQ_TB_PERIOD

/-- `t` is a raw sample instant (R349): the L1 sample instants of TB_AXIS whose index is a multiple of TB_DIV, or those of TB_PHASE and
TB_PERIOD; it is a unit of 125 ps of line time in which such a value of the control schedule lies. -/
def State.rawInstant (s : State) (t : Int) : Bool :=
  let a := s.aq ACQ_TB_AXIS
  let ph := if a < 16 then s.cf (CG_PHASE (s.cf (CC_CARRIER_GROUP a))) else s.aq ACQ_TB_PHASE
  let u : Int := (tickU : Int)
  let lo := t * u + s.time.schedDiff
  decide (lo ≤ gridBefore (lo + u - 1) (ph * u) (max 1 s.tRaw * u))

/-- The axis whose block holds an object. -/
def axisOfKey (k : Nat) : Option Nat :=
  let i := k / 256
  if 0x3000 ≤ i ∧ i < 0x4000 then some ((i - 0x3000) / 0x80) else none

/-- The feedback-ready delay of a port in units of 125 ps, the first whole one not before it (R256). -/
def State.fbReady (s : State) (p : Nat) : Nat :=
  if s.portMode p = 2 then
    let clk := max 1 (s.cf (FB_SSI_CLOCK p))
    (s.ssiTotal p * tickHz.toNat + clk - 1) / clk + (s.cf (FB_SSI_DATA_DELAY p) + 200) * 8 - s.cf (FB_SSI_LATCH_LEAD p) * 8
  else 4800

/-- The delay of Table AQ-1 for an object, in units of 125 ps. -/
def State.availability (s : State) (k : Nat) : Nat :=
  let cell (n : Nat) : Nat := s.cf (CC_OSR n) * s.cf (SD_SDCLK_DIV (n / 4)) * 4 + 9600
  let i := k / 256
  let j := k % 256
  match axisOfKey k with
  | some n =>
    let o := axisOffset i
    let d (f : Nat → Nat) : Nat := s.cf (f n) * (s.t1 n / tickU).toNat
    if !physical n then 0
    else if (o = 0x22 ∧ 2 ≤ j ∧ j ≤ 8) ∨ o = 0x23 then cell n
    else if o = 0x10 ∧ 6 ≤ j ∧ j ≤ 8 then
      match s.motorPort n with
      | some p => s.fbReady p
      | none => 0
    else if o = 0x39 then
      if j = 4 ∨ j = 5 ∨ j = 6 then d CAS_D2 else if j = 7 ∨ j = 8 ∨ j = 9 then d CAS_D4 else d CAS_D3
    else if o = 0x40 ∧ 7 ≤ j ∧ j ≤ 9 then d CAS_D3
    else 0
  | none =>
    if 0x2360 ≤ i ∧ i < 0x2380 ∧ j = 8 then cell ((i - 0x2360) / 2)
    else if 0x2200 ≤ i ∧ i < 0x2210 ∧ j = 0x18 then s.fbReady (i - 0x2200)
    else if 0x2630 ≤ i ∧ i < 0x2634 ∧ 5 ≤ j ∧ j ≤ 7 then s.rd (AIN_DELAY (i - 0x2630)) * 8
    else 0

/-- The filter of a latch source of Table FB-5, ns. -/
def State.sourceFilter (s : State) (c : Nat) : Nat :=
  if c < 8 then s.cf (LATI_LAT_FILTER c)
  else if 0x10 ≤ c ∧ c < 0x20 then s.cf (FB_FILTER (c - 0x10))
  else if 0x20 ≤ c ∧ c < 0x30 then s.cf (DI_FILTER (c - 0x20)) * 1000
  else if 0x40 ≤ c ∧ c < 0x48 then s.cf (TRIP_FILTER (c - 0x40)) * 8
  else 0

/-- The delay of Table AQ-1 for the events of a trigger unit. -/
def State.unitDelay (s : State) (u : Nat) : Nat :=
  let src := s.aq (TRU_SOURCE u)
  match s.aq (TRU_TRIG_TYPE u) with
  | 4 =>
    s.sourceFilter (s.cf (LU_SOURCE src)) * 8 + 8080
  | 6 => s.cf (DI_FILTER src) * 8000 + 8000
  | _ => 0

/-- ACQ_LAG in ns, at least 2 µs. -/
def State.acqLag (s : State) : Nat :=
  let l := s.slots.map (fun n => s.availability (s.slotKey n)) ++ (upto 8).map (fun u => s.unitDelay u)
  max 2000 ((l.foldl max 0 + 7) / 8)

/-- The result of the checks of START (Table AQ-3), in its order. -/
def State.startCode (s : State) : Nat :=
  let a := s.aq ACQ_TB_AXIS
  let fb := s.frameSize
  let tooFast (n : Nat) : Bool := match axisOfKey (s.slotKey n) with
    | some x => s.onCarrier x && decide (s.tRaw < (s.t1 x / tickU).toNat)
    | none => false
  if 1048576 < s.aq ACQ_SEG_COUNT * (64 + s.aq ACQ_SEG_FRAMES * fb) then 1
  else if fb = 0 ∨ 4096 < fb then 2
  else if s.slots.any (fun n => !s.slotOk n) then 3
  else if (16 ≤ a ∨ s.onCarrier a) ∧ (s.tRaw < 62500 ∨ s.slots.any tooFast) then 4
  else if a < 16 ∧ !s.onCarrier a then 5
  else if (upto 8).any (fun u => decide (1 ≤ s.aq (TRU_TRIG_TYPE u)) && decide (s.aq (TRU_TRIG_TYPE u) ≤ 3) &&
      !s.slots.contains (s.aq (TRU_TRIG_SLOT u))) then 6
  else if s.aq ACQ_SEG_FRAMES - 1 ≤ s.aq ACQ_PRE_FRAMES then 7
  else 0

/-- The objects that START takes: those of this chapter with the flag P. -/
def acqConfigKey (k : Nat) : Bool :=
  decide (0x500000 ≤ k) && decide (k < 0x505800) &&
  (match findRow (k / 256) (k % 256) with
   | some w => w.persistent
   | none => false)

/-- START (R357, R368). -/
def State.acqStart (s : State) : Res :=
  if !s.aqStill then refuse s cState
  else
    let s1 := s.modAcq (fun a => { a with cfg := s.regs.filter (fun (e : Nat × Nat) => acqConfigKey e.1) })
    let c := s1.startCode
    if c ≠ 0 then refuse (s.wr ACQ_START_RESULT c) cRange
    else
      let fb := s1.frameSize
      let s := ((s1.wr ACQ_FRAME_BYTES fb).wr ACQ_SEG_BYTES (64 + s1.aq ACQ_SEG_FRAMES * fb)).wr ACQ_LAG s1.acqLag
      let s := ((((s.wr ACQ_START_RESULT 0).wr ACQ_SEG_DONE 0).wr ACQ_SEG_RELEASED 0).wr ACQ_FIRST_IGNORED 0)
      okRes (s.modAcq (fun a => { cfg := a.cfg, readyAt := some (s.nowT + 8000) })).acqNote

/-- STOP: at the next raw sample after its clock; nothing runs, nothing to stop (R373). -/
def State.acqStop (s : State) : Res :=
  if s.aqStill ∧ s.acq.readyAt.isNone then okRes s else okRes (s.modAcq (fun a => { a with stopReq := some s.nowT }))

/-- FORCE (R367). -/
def State.acqForce (s : State) : Res :=
  if s.aqState = aqPre ∨ s.aqState = aqArmed then okRes (s.modAcq (fun a => { a with forceReq := some s.nowT }))
  else refuse s cState

/-- ACQ_CONTROL written: each bit set, in ascending order, until one is refused. -/
def State.acqControl (s : State) (v : Nat) : Res :=
  let r := if v.testBit 0 then s.acqStart else okRes s
  let r := if r.code = 0 ∧ v.testBit 1 then r.st.acqStop else r
  if r.code = 0 ∧ v.testBit 2 then r.st.acqForce else r

/-! ### Segments -/

/-- The memory offset of the store of segment `n` (R356). -/
def State.storeOf (s : State) (n : Nat) : Nat := n % max 1 (s.aq ACQ_SEG_COUNT) * s.rd ACQ_SEG_BYTES

/-- SEQ of segment `n` (Table AQ-4). -/
def segSeq (n : Nat) : Nat := n % 0xffffffff + 1

/-- Bytes written to acquisition memory. -/
def State.acqWrite (s : State) (o : Nat) (b : Bytes) : State := { s with acqRam := s.acqRam.writeAll o (b.take (1048576 - o)) }

/-- The first raw sample of a segment: SEQ 0 in its header, PRE, or ARMED where PRE_FRAMES is 0 (R360, R368). -/
def State.segBegin (s : State) : State :=
  let s := s.modAcq (fun a => { a with readyAt := none, rAt := none, k := 0, frames := 0, block := [], starts := [], trig := none,
                                       holdCount := 0, holdOver := false })
  (s.acqWrite (s.storeOf s.acq.seg) (leBytes 4 0)).setAq (if s.aq ACQ_PRE_FRAMES = 0 then aqArmed else aqPre)

/-- The header of the segment in progress, from byte 4 on, and its FRAMES_VALID and FLAGS. -/
def State.segHeader (s : State) (t : TrigAt) (aborted : Bool) : Bytes × Nat × Nat :=
  let a := s.acq
  let decim := max 1 (s.aq ACQ_DECIM)
  let f := t.k / decim
  let pre := min f (s.aq ACQ_PRE_FRAMES)
  let valid := pre + (a.frames - f)
  let flags := b2n (decide (pre < s.aq ACQ_PRE_FRAMES)) + 2 * b2n t.forced + 4 * b2n aborted + 8 * b2n (decide (0 < t.ignored))
  let begun := a.frames + b2n (!a.block.isEmpty)
  let first := a.starts.getD (begun - 1 - (f - pre)) 0
  (leBytes 2 valid ++ leBytes 2 pre ++ leBytes 2 ((f - pre) % max 1 (s.aq ACQ_SEG_FRAMES)) ++ leBytes 1 t.units ++ leBytes 1 flags ++
    leBytes 2 (t.k % decim) ++ leBytes 2 0 ++ leBytes 8 t.stamp ++ leBytes 8 t.firstIgnored ++ leBytes 4 t.ignored ++
    leBytes 4 (s.aq ACQ_DECIM) ++ leBytes 2 (s.rd ACQ_FRAME_BYTES) ++ leBytes 2 (s.aq ACQ_SEG_FRAMES) ++ leBytes 4 0 ++
    leBytes 8 first ++ leBytes 8 0, valid, flags)

/-- The segment is closed: header, SEG_DONE and record (R360, R373). -/
def State.segClose (s : State) (t : TrigAt) (aborted : Bool) : State :=
  let (h, valid, flags) := s.segHeader t aborted
  let n := s.acq.seg
  let o := s.storeOf n
  let s := (s.acqWrite (o + 4) h).acqWrite o (leBytes 4 (segSeq n))
  (s.bump ACQ_SEG_DONE).record 9 1 0 0 (pay 16 n + pay 20 valid + pay 22 flags)

/-- The re-arm instant (R369 to R371): the next segment is set up, or no store is free. -/
def State.rearm (s : State) (t : Int) : State :=
  let n := s.acq.seg + 1
  let s := s.modAcq (fun a => { a with seg := n })
  if s.aq ACQ_SEG_MODE = 1 ∧ s.aq ACQ_SEG_COUNT ≤ (n + 2 ^ 32 - s.rd ACQ_SEG_RELEASED) % 2 ^ 32 then s.setAq aqFull
  else (s.setAq aqRearm).modAcq (fun a => { a with rAt := some t })

/-- The hold-off of the segment's trigger is over at `t` (R369). -/
def State.holdPast (s : State) (t : Int) : Bool :=
  s.acq.holdOver || (s.aq ACQ_HOLDOFF_MODE == 0 &&
    (match s.acq.trig with
     | some g => decide (g.t + 8 * (s.aq ACQ_HOLDOFF_TIME : Nat) ≤ t)
     | none => false))

/-- The last post-trigger frame is complete, now (R360, R369). -/
def State.segComplete (s : State) (t : TrigAt) : State :=
  let now := s.nowT
  let s := (s.segClose t false).modAcq (fun a => { a with doneAt := now })
  if s.aq ACQ_SEG_MODE = 0 ∧ s.aq ACQ_SEG_COUNT ≤ s.acq.seg + 1 then s.setAq aqDone
  else if s.holdPast now then s.rearm now
  else s.setAq aqHoldoff

/-! ### Trigger units (R361, Table AQ-5) -/

/-- The condition of a unit at a raw sample at `t`, and its edge memory after it. -/
def State.unitCond (s : State) (u : Nat) (t : Int) : Bool × TrigSt :=
  let m := at' s.acq.unit u
  let n := s.aq (TRU_TRIG_SLOT u)
  let ty := s.slotTy n
  let raw := s.slotRaw n t
  let x := ty.toVal (if ty.isInt then raw &&& s.aq (TRU_MASK u) else raw)
  let la := ty.level (s.aq (TRU_LEVEL_A u))
  let lb := ty.level (s.aq (TRU_LEVEL_B u))
  let pol := s.aq (TRU_POLARITY u)
  let src := s.aq (TRU_SOURCE u)
  -- the interval [s_{k-1}, s_k) of this raw sample
  let since := s.acq.prevT.getD (t - s.tRaw)
  let event (typ : Nat) (ok : AcqEv → Bool) : Bool :=
    s.acq.events.any (fun e => e.typ == typ && decide (since ≤ e.t) && decide (e.t < t) && ok e)
  match s.aq (TRU_TRIG_TYPE u) with
  | 1 => (if pol = 0 then ty.vle la x else ty.vlt x la, m)
  | 2 =>
    let old : Option Int := m.last.map ty.toVal
    let up := m.rise && (match old with | some o => ty.vlt o la && ty.vle la x | none => false)
    let dn := m.fall && (match old with | some o => ty.vle la o && ty.vlt x la | none => false)
    ((up && pol != 1) || (dn && pol != 0),
      { last := some (if ty.isInt then raw &&& s.aq (TRU_MASK u) else raw),
        rise := (m.rise && !up) || ty.vlt x (ty.vsub la lb),
        fall := (m.fall && !dn) || ty.vle (ty.vadd la lb) x })
  | 3 => ((ty.vle la x && ty.vlt x lb) == (pol == 0), m)
  | 4 => (event 4 (fun e => e.src == src), m)
  | 5 => (event 5 (fun e => src == 255 || e.src == src), m)
  | 6 => (event 6 (fun e => e.src == src && (pol == 2 || e.pol == pol)), m)
  | 7 => (event 7 (fun e => e.src == src), m)
  | _ => (false, m)

/-- Every unit evaluated at a raw sample: TRIG_STATE, its event with the latch sources 0x60 to 0x67 (R362); then the
combination (R363). Gives the conditions and whether a trigger transition occurs. -/
def State.evalUnits (s : State) (t : Int) : State × Nat × Bool :=
  let res := (upto 8).map (fun u => s.unitCond u t)
  let conds := (upto 8).foldl (fun m u => if (res.getD u (false, {})).1 then orBit m u else m) 0
  let mask := s.aq ACQ_TRIG_MASK
  let comb := mask != 0 && (if s.aq ACQ_COMBINE = 0 then conds &&& mask != 0 else conds &&& mask == mask)
  let old := s.acq.prevUnits
  let fires := comb && !s.acq.prevComb
  let s := s.modAcq (fun a => { a with
    unit := Vector.ofFn (fun u => (res.getD u.val (false, {})).2), events := a.events.filter (fun e => decide (t ≤ e.t)),
    prevT := some t, prevUnits := conds, prevComb := comb })
  let s := each (upto 8) s (fun s u => s.wr (TRU_TRIG_STATE u) (b2n (conds.testBit u)))
  let s := each (upto 8) s (fun s u =>
    if conds.testBit u && !old.testBit u then (s.bump (TRU_UNIT_EVENTS u)).latchEvent (0x60 + u) true t else s)
  (s, conds, fires)

/-! ### Raw samples -/

/-- The trigger of the segment (R364, R365, R367). -/
def State.fire (s : State) (t : Int) (conds : Nat) (forced : Bool) : State :=
  let a := s.acq
  let g : TrigAt := ⟨a.k, t, s.rawStamp t, conds, forced, a.ignored, s.rd ACQ_FIRST_IGNORED⟩
  let isOver := if s.aq ACQ_HOLDOFF_MODE = 1 then s.aq ACQ_HOLDOFF_EVENTS == 0 else s.aq ACQ_HOLDOFF_TIME == 0
  ((s.modAcq (fun a => { a with trig := some g, ignored := 0, holdCount := 0, holdOver := isOver, forceReq := none })).wr
    ACQ_FIRST_IGNORED 0).setAq aqPost

/-- A trigger transition that no segment takes (R366, R369). -/
def State.ignoreTrigger (s : State) (t : Int) : State :=
  let s := s.bump ACQ_IGNORED_TOTAL
  let s := if s.acq.ignored = 0 then s.wr ACQ_FIRST_IGNORED (s.rawStamp t) else s
  let s := s.modAcq (fun a => { a with ignored := a.ignored + 1, holdCount := a.holdCount + 1 })
  if s.aq ACQ_HOLDOFF_MODE = 1 ∧ s.acq.holdCount = s.aq ACQ_HOLDOFF_EVENTS then
    let s := s.modAcq (fun a => { a with holdOver := true })
    if s.aqState = aqHoldoff then s.rearm (maxI s.acq.doneAt t) else s
  else s

/-- STOP at this raw sample (R373, R374). -/
def State.stopNow (s : State) : State :=
  let s := match s.aqState, s.acq.trig with
    | 3, some g => s.segClose g true
    | _, _ => s
  (s.modAcq (fun a => { a with stopReq := none, forceReq := none, readyAt := none, rAt := none, block := [], events := [] })).setAq aqIdle

/-- The slots' values taken into the block, and what its completion brings (R353, R359, R368). -/
def State.acqSample (s : State) (t : Int) : State :=
  let xs := s.slots.map (fun n => s.slotRaw n t)
  let x0 := s.rawStamp t
  let s := if s.acq.block.isEmpty then
      s.modAcq (fun a => { a with starts := (x0 :: a.starts).take (s.aq ACQ_SEG_FRAMES + 1) }) else s
  let s := s.modAcq (fun a => { a with block := xs :: a.block, k := a.k + 1 })
  if s.acq.block.length < s.aq ACQ_DECIM then s
  else
    let rows := s.acq.block.reverse
    let vals := (s.slots.zip (upto s.slots.length)).flatMap (fun (e : Nat × Nat) => s.streamVals e.1 (rows.map (fun r => r.getD e.2 0)))
    let o := s.storeOf s.acq.seg + 64 + s.acq.frames % max 1 (s.aq ACQ_SEG_FRAMES) * s.rd ACQ_FRAME_BYTES
    let s := (s.acqWrite o (packFrame vals)).modAcq (fun a => { a with block := [], frames := a.frames + 1 })
    match s.acq.trig with
    | some g =>
      let f := g.k / max 1 (s.aq ACQ_DECIM)
      if f + s.aq ACQ_SEG_FRAMES - s.aq ACQ_PRE_FRAMES ≤ s.acq.frames then s.segComplete g else s
    | none => if s.aqState = aqPre ∧ s.aq ACQ_PRE_FRAMES ≤ s.acq.frames then s.setAq aqArmed else s

/-- A raw sample at `t`: what the engine makes of it. -/
def State.rawSample (s : State) (t : Int) : State :=
  let stop := s.acq.stopReq.any (fun w => decide (w < t))
  let s := match s.acq.readyAt.or (s.acq.rAt.map (· + 8000)) with
    | some r => if r ≤ t ∧ !stop then s.segBegin else s
    | none => s
  if s.aqStill then (if stop then s.stopNow else s)
  else
    let (s, conds, fires) := s.evalUnits t
    if stop then s.stopNow
    else
      let st := s.aqState
      let s :=
        if st = aqPre ∨ st = aqArmed then
          let force := s.acq.forceReq.any (fun w => decide (w < t))
          if force || (fires && (st == aqArmed || s.aq ACQ_WAIT_PRE == 0)) then s.fire t conds force
          else if fires then s.bump ACQ_SUPPRESSED
          else s
        else if fires then s.ignoreTrigger t
        else s
      let s := if s.aqState = aqPre ∨ s.aqState = aqArmed ∨ s.aqState = aqPost then s.acqSample t else s
      s.modAcq (fun a => a.forget t)

/-- The raw sample `t` may be processed: it is one (R349), comes after the last one, and ACQ_LAG has passed since (R351). -/
def State.rawDue (s : State) (t : Int) : Bool :=
  s.rawInstant t && s.acq.prevT.all (fun p => decide (p < t)) && decide (t + ((8 * s.rd ACQ_LAG : Nat) : Int) ≤ s.nowT)

/-- RAW_SAMPLE: the raw sample `off` units of 125 ps from now is processed; at another instant there is none. -/
def execRawSample (off : Int) (s : State) : Host.Outcome State Fault Refusal :=
  .next (if s.rawDue (s.nowT + off) then s.acqNote.rawSample (s.nowT + off) else s)

/-- HOLDOFF_TIME has passed since the trigger sample (R369). -/
def execHoldoffEnd (s : State) : Host.Outcome State Fault Refusal :=
  .next (if s.aq ACQ_HOLDOFF_MODE = 0 ∧ (s.aqState = aqPost ∨ s.aqState = aqHoldoff) ∧ s.holdPast s.nowT = true then
      let s := s.modAcq (fun a => { a with holdOver := true })
      let ended : Int := (s.acq.trig.map (fun g => g.t + ((8 * s.aq ACQ_HOLDOFF_TIME : Nat) : Int))).getD s.nowT
      if s.aqState = aqHoldoff then s.rearm (maxI s.acq.doneAt ended) else s
    else s)

/-- The next store is set up (R370): its first raw sample comes at R + 1 µs or after. -/
def execSegmentReady (s : State) : Host.Outcome State Fault Refusal :=
  .next (match s.acq.rAt with
    | some r => s.modAcq (fun a => { a with rAt := none, readyAt := some (r + 8000) })
    | none => s)

/-- How far segment number `a` is ahead of `b`, modulo 2^32. -/
def segsAhead (a b : Nat) : Nat := (a + 2 ^ 32 - b) % 2 ^ 32

/-- SEG_RELEASED written (R372); a store freed lets a FULL engine go on (R371). -/
def State.segReleased (s : State) (v : Nat) : Res :=
  if segsAhead (s.rd ACQ_SEG_DONE) (s.rd ACQ_SEG_RELEASED) < segsAhead v (s.rd ACQ_SEG_RELEASED) then refuse s cRange
  else
    let s := s.wr ACQ_SEG_RELEASED v
    okRes (if s.aqState = aqFull ∧ segsAhead s.acq.seg v < s.aq ACQ_SEG_COUNT
      then (s.setAq aqRearm).modAcq (fun a => { a with rAt := some s.nowT }) else s)

/-! ### Reading segments (R375) -/

/-- The segment that SEG_SELECT names is complete and its store not reused. -/
def State.segReadable (s : State) : Bool :=
  let n := s.rd ACQ_SEG_SELECT
  decide (n < s.rd ACQ_SEG_DONE) && s.acqRam.readLE (s.storeOf n) 4 == segSeq n

def State.segHeaderBytes (s : State) : Bytes := s.acqRam.readAll (s.storeOf (s.rd ACQ_SEG_SELECT)) 64

/-- The valid frames, oldest first. -/
def State.segDataBytes (s : State) : Bytes :=
  let o := s.storeOf (s.rd ACQ_SEG_SELECT)
  let fb := s.rd ACQ_FRAME_BYTES
  let valid := s.acqRam.readLE (o + 4) 2
  let oldest := s.acqRam.readLE (o + 8) 2
  (upto valid).flatMap (fun i => s.acqRam.readAll (o + 64 + (oldest + i) % max 1 (s.aq ACQ_SEG_FRAMES) * fb) fb)

end Sys2Proof.Machine
end

