-- ==== Sys2Proof/Machine/Admission.lean ====
section
/-! DEFINITION. The checks of a configuration commit in the order of R646: the configuration checks chapter by chapter, and
admission with the time-triggered schedule it builds (R254 to R262). They read the values in force, so the configuration under
examination is put in force for them. Times are in units of 125 ps. -/
namespace Sys2Proof.Machine
open Obj

/-- A value under examination: in force, or as written where a commit does not govern it. -/
def State.cv (s : State) (k : Nat) : Nat := if committable k then s.cf k else s.rd k

/-- The objects that the failing cases of a rule name, of each the lowest that it concerns. -/
def failing (l : List (Bool × Nat)) : List Nat := (l.filter (fun e => e.1)).map (·.2)

/-- A rule for each axis below `n`: the failing axes with their objects. -/
def perAxis (n : Nat) (f : Nat → List Nat) : List (Nat × Nat) := (upto n).flatMap (fun i => (f i).map (fun k => (i, k)))

/-- A rule for each block below `n` that belongs to no axis. -/
def perUnit (n : Nat) (f : Nat → List Nat) : List (Nat × Nat) := (upto n).flatMap (fun i => (f i).map (fun k => (255, k)))

/-- What a failing check shows (R263, R453): the first of its axes, 255 for none, and the lowest of its objects. -/
def worst : List (Nat × Nat) → Option (Nat × Nat)
  | [] => none
  | e :: l => some (l.foldl (fun b e => (min b.1 e.1, min b.2 e.2)) e)

/-- T1 of an axis on its carrier. -/
def State.t1T (s : State) (n : Nat) : Nat := s.cf (CG_PERIOD (s.cf (CC_CARRIER_GROUP n))) / max 1 (s.cf (CC_RATE n))

/-- Half the sinc window of an axis (R29): OSR / (2·f_SDCLK). -/
def State.halfWindow (s : State) (n : Nat) : Nat := s.cf (CC_OSR n) * s.cf (SD_SDCLK_DIV (n / 4)) * 4

/-! ### Chapters 01 to 05 -/

/-- R29 of axis `n`. -/
def State.windowBad (s : State) (n : Nat) : Bool := decide (s.t1T n < s.halfWindow n + 9600)

/-- R110. -/
def State.portBad (s : State) (n : Nat) : List Nat :=
  match s.motorPort n with
  | some p => failing [((upto 16).any (fun m => m != n && s.motorPort m == some p), AF_MOTOR_PORT n), (s.portMode p == 0, FB_MODE p)]
  | none => []

/-- R125: the SSI port of axis `n` whose transfer does not fit its L1 period. -/
def State.ssiBad (s : State) (n : Nat) : List Nat :=
  match s.motorPort n with
  | some p =>
    -- both sides in ps, times 2 · SSI_CLOCK
    let clk2 := 2 * s.cf (FB_SSI_CLOCK p)
    let ps := s.cf (FB_SSI_DATA_DELAY p) * 1000 + s.cf (FB_SSI_LATCH_LEAD p) * 1000 + s.cf (FB_SSI_RECOVERY p) * 1000
    if s.portMode p = 2 ∧ s.ccMode n ≠ 0 ∧ s.t1T n * 125 * clk2 < (2 * s.ssiTotal p + 1) * 1000000000000 + ps * clk2
    then [FB_SSI_BITS p] else []
  | none => []

/-- R157. -/
def State.latchBad (s : State) (u : Nat) : List Nat :=
  let w := s.cf (LU_WINDOW u)
  failing [(w != 0 && s.cf (LU_AXIS u 0) == 255, LU_AXIS u 0),
    (w != 0 && s.cf (LU_WIN_MODULUS u) == 0 && decide (s.cq (LU_WIN_END u) < s.cq (LU_WIN_START u)), LU_WINDOW u)]

/-- R162. -/
def State.emuBad (s : State) (e : Nat) : List (Nat × Nat) :=
  let a := s.cf (EMU_SOURCE_AXIS e)
  (failing [(decide (16 ≤ a) && s.cf (EMU_SOURCE_REV e) == 0, EMU_SOURCE_AXIS e)]).map (fun k => (a, k)) ++
  (failing [(decide (s.cf (EMU_CPR e) ≤ s.cf (EMU_Z_POSITION e)), EMU_CPR e)]).map (fun k => (255, k))

/-- The legs that an axis names, 255 for none. -/
def State.legsOf (s : State) (n : Nat) : List Nat := (upto 4).map (fun i => s.cf (CCL_LEG n i))

/-- R202 of axis `n`. -/
def State.cellBad (s : State) (n : Nat) : List Nat :=
  let m := s.ccMode n
  let l := s.legsOf n
  let g := s.cf (CC_CARRIER_GROUP n)
  let shared (i : Nat) : Bool :=
    let x := l.getD i 255
    decide (x < 48) && (upto 16).any (fun o => o != n && (s.legSet o).testBit x)
  let direct (x : Nat) : Bool := decide (x < 48) && s.cf (LEG_MODE x) == 2
  if m = 0 then []
  else failing ((upto 4).map (fun i => (shared i, CCL_LEG n i)) ++ l.map (fun x => (direct x, LEG_MODE x)) ++ [
    ((m == 1 || m == 2) && (l.getD 0 255 == 255 || l.getD 1 255 == 255 || l.getD 2 255 == 255 || l.getD 3 255 != 255), CC_MODE n),
    ((m == 3 || m == 4) && l.any (· == 255), CC_MODE n),
    ((m == 1 || m == 4) && s.cf (AF_MOTOR_PORT n) == 255, AF_MOTOR_PORT n),
    (s.cf (CG_COUNT_MODE g) == 1, CG_COUNT_MODE g), (s.cf (CG_LOCK g) == 0, CG_LOCK g),
    (decide (s.cf (CG_PERIOD g) < 62500 * max 1 (s.cf (CC_RATE n))), CG_PERIOD g),
    (s.windowBad n, SD_SDCLK_DIV (n / 4))])

/-- R207. -/
def State.groupBad (s : State) (g : Nat) : List Nat :=
  failing [(decide (s.cf (CG_PERIOD g) ≤ s.cf (CG_PHASE g)), CG_PERIOD g),
    (decide (s.cf (CG_PERIOD g) ≤ 2 * s.cf (CG_MIN_PULSE g)), CG_PERIOD g)]

/-! ### Chapters 06 to 10 -/

/-- LIMIT_ENABLE with an empty window (R293). -/
def State.windowEmpty (s : State) (n : Nat) : List Nat :=
  failing [(s.cv (LIM_LIMIT_ENABLE n) == 1 && decide (q32 (s.cv (LIM_LIMIT_POS n)) ≤ q32 (s.cv (LIM_LIMIT_NEG n))), LIM_LIMIT_ENABLE n)]

/-- R307. -/
def State.stallBad (s : State) (n : Nat) : List Nat :=
  failing [(s.cv (STL_AXIS_CLASS n) == 0 && s.cv (STL_STALL_ENABLE n) == 1 && s.ccMode n != 3, CC_MODE n),
    (F.le (s.cv (STL_LI_HIGH n)) (s.cv (STL_LI_LOW n)), STL_LI_LOW n)]

/-- A value lies outside a closed range, or is not a number. -/
def outOf (lo hi v : Nat) : Bool := !(F.le lo v && F.le v hi)

/-- The ranges of Table MO-10 that name another object (R311, R441). -/
def State.motionBad (s : State) (n : Nat) : List Nat :=
  failing [(outOf 0 (s.cv (CAS_IQ_LIMIT n)) (s.cv (HOM_HARD_STOP_CURRENT n)), CAS_IQ_LIMIT n),
    (outOf 0 (s.cv (CC_I_MAX n)) (s.cv (STL_HOLD_CURRENT n)), CC_I_MAX n),
    (outOf (s.cv (STL_HOLD_CURRENT n)) (s.cv (CC_I_MAX n)) (s.cv (STL_RUN_CURRENT n)), CC_I_MAX n)]

/-- Following the masters of `n` leads back to it. -/
def State.masterCycle (s : State) (n : Nat) : Nat → Nat → Bool
  | 0, _ => false
  | fuel + 1, m =>
    match s.masterAxis m with
    | some k => k == n || s.masterCycle n fuel k
    | none => false

/-- R314 without its GEN_SET condition. -/
def State.followBad (s : State) (n : Nat) : List Nat :=
  let m := s.cf (FOL_MASTER n)
  failing [
    (m == n, FOL_MASTER n),
    (s.masterCycle n 32 n, FOL_MASTER n),
    (s.cf (FOL_MASTER_SIGNAL n) == 1 && decide (16 ≤ m) && decide (m < 32), FOL_MASTER n),
    (s.cf (FOL_FOLLOW_MODE n) == 1 && m != 255 && !(decide (0x80 ≤ m) && decide (m ≤ 0x87)), FOL_FOLLOW_MODE n)]

/-- R328 of publisher `q`: its cases that concern its source axis carry that axis. -/
def State.pubBad (s : State) (q : Nat) : List (Nat × Nat) :=
  let v := max 1 (s.cf ADM_VIRTUAL_PERIOD)
  let n := s.cf (PUB_SOURCE_AXIS q)
  let multiple (k : Nat) : Bool := s.cf k * 8 % v == 0
  let other (f : Nat → Nat) : Bool := s.on (PUB_ENABLE q) &&
    (upto 4).any (fun o => o != q && s.on (PUB_ENABLE o) && s.cf (f o) == s.cf (f q))
  (failing [(!multiple (PUB_PERIOD q) || !multiple (PUB_PHASE q) || !multiple (PUB_LEAD q), ADM_VIRTUAL_PERIOD),
    (decide (s.cf (PUB_VALIDITY q) < s.cf (PUB_LEAD q) + s.cf (PUB_PERIOD q)), PUB_PERIOD q),
    (other PUB_MASTER_ID, PUB_MASTER_ID q)]).map (fun k => (255, k)) ++
  (failing [(other PUB_SOURCE_AXIS, PUB_SOURCE_AXIS q),
    (s.on (PUB_MAINS_STOP_ENABLE q) &&
      decide (4294967295 * s.cq (PUB_MAINS_STOP_DEC q) < 2 * q32 (s.cv (LIM_V_CEILING n)) * 1000000000), PUB_SOURCE_AXIS q)]).map
    (fun k => (n, k))

/-- A REG_LATCH_UNIT whose WIN_MODULUS is 0 (R344). -/
def State.regBad (s : State) (n : Nat) : List Nat :=
  let u := s.cf (REG_LATCH_UNIT n)
  failing [(decide (u < 16) && s.cf (LU_WIN_MODULUS u) == 0, LU_WIN_MODULUS u)]

/-- PUB_PHASE below PUB_PERIOD (R345, R441). -/
def State.pubPhaseBad (s : State) (q : Nat) : List Nat :=
  failing [(decide (s.cf (PUB_PERIOD q) ≤ s.cf (PUB_PHASE q)), PUB_PERIOD q)]

/-- R400 of axis `n`. -/
def State.ainBad (s : State) (n : Nat) : List Nat :=
  let v := s.cf (CC_VDC_SOURCE n)
  let p := s.cf (L4_PV_SOURCE n)
  failing [(s.ccMode n != 0 && decide (2 ≤ v) && decide (v ≤ 5) && s.cf (AIN_MODE (v - 2)) == 0, AIN_MODE (v - 2)),
    (s.cf (L4_MODE n) != 0 && decide (p < 4) && s.cf (AIN_MODE p) == 0, AIN_MODE p)]

/-! ### Process data (R459) -/

/-- Receive and transmit objects 0 to 15 are PDOs, 16 to 23 Ethernet frames. -/
def rxCount (r : Nat) : Nat := if r < 16 then RPDO_MAP_COUNT r else ERX_MAP_COUNT (r - 16)
def rxEntry (r i : Nat) : Nat := if r < 16 then RPDO_MAP_ENTRY r i else ERX_MAP_ENTRY (r - 16) i
def txCount (r : Nat) : Nat := if r < 16 then TPDO_MAP_COUNT r else ETX_MAP_COUNT (r - 16)
def txEntry (r i : Nat) : Nat := if r < 16 then TPDO_MAP_ENTRY r i else ETX_MAP_ENTRY (r - 16) i

/-- Enabled receive and transmit objects. -/
def State.rxOn (s : State) (r : Nat) : Bool := if r < 16 then !(s.cf (RPDO_COB_ID r)).testBit 31 else s.on (ERX_RX_ENABLE (r - 16))
def State.txOn (s : State) (r : Nat) : Bool := if r < 16 then !(s.cf (TPDO_COB_ID r)).testBit 31 else s.on (ETX_TX_ENABLE (r - 16))

/-- The mapping entries in use. -/
def State.rxMap (s : State) (r : Nat) : List Nat := (upto (s.cf (rxCount r))).map (fun i => s.cf (rxEntry r i))
def State.txMap (s : State) (r : Nat) : List Nat := (upto (s.cf (txCount r))).map (fun i => s.cf (txEntry r i))

/-- Bytes of a mapping. -/
def mapBytes (l : List Nat) : Nat := l.foldl (fun a e => a + e % 256 / 8) 0

/-- A mapping: its entries that are 0, and its size in bytes (R459). -/
def mapBad (r : Nat) (l : List Nat) (count : Nat) (entry : Nat → Nat) : List Nat :=
  failing (l.zipIdx.map (fun e => (e.1 == 0, entry e.2)) ++ [(decide ((if r < 16 then 52 else 1024) < mapBytes l), count)])

/-- R459. -/
def State.pdBad (s : State) : List (Nat × Nat) :=
  let sameCan (a : Nat) : Bool := (upto 16).any (fun b => a != b && s.rxOn a && s.rxOn b &&
    s.cf (RPDO_CHANNEL a) == s.cf (RPDO_CHANNEL b) && s.cf (RPDO_COB_ID a) == s.cf (RPDO_COB_ID b))
  let sameEth (a : Nat) : Bool := (upto 8).any (fun b => a != b && s.rxOn (16 + a) && s.rxOn (16 + b) &&
    s.cf (ERX_FRAME_ID a) == s.cf (ERX_FRAME_ID b))
  perUnit 24 (fun r => mapBad r (s.rxMap r) (rxCount r) (rxEntry r) ++ mapBad r (s.txMap r) (txCount r) (txEntry r)) ++
  perUnit 16 (fun a => failing [(sameCan a, RPDO_COB_ID a)]) ++ perUnit 8 (fun a => failing [(sameEth a, ERX_FRAME_ID a)]) ++
  perUnit 1 (fun _ => failing [(s.cf PD_ETHERTYPE == s.cf NET_PASS_ETHERTYPE, PD_ETHERTYPE)])

/-- A line key is loaded under an identifier (R428). -/
def State.keyLoaded (s : State) (k : Nat) : Bool := s.lineKey (s.cf k)

/-- The ranges of Table OD-11 that name another object or a loaded key (R441, R467); a frame that is not sent, or goes out without
a trailer on an unclaimed device, needs no key (log entry 86). -/
def State.pdRangeBad (s : State) : List (Nat × Nat) :=
  perUnit 16 (fun r => failing [(decide (s.cf (TPDO_PERIOD r) ≤ s.cf (TPDO_PHASE r)), TPDO_PERIOD r)]) ++
  perUnit 8 (fun f => failing [(decide (s.cf (ETX_PERIOD f) ≤ s.cf (ETX_PHASE f)), ETX_PERIOD f),
    (s.claimed && s.on (ETX_TX_ENABLE f) && !s.keyLoaded (ETX_KEY_ID f), ETX_KEY_ID f)])

/-! ### CAN (R498, R499, R504, R509, R515) and serial ports (R522) -/

/-- Quanta of 25 ns in a nominal and a data bit. -/
def State.nomBit (s : State) (c : Nat) : Nat := s.cf (CAN_NOM_PRESCALER c) * (1 + s.cf (CAN_NOM_TSEG1 c) + s.cf (CAN_NOM_TSEG2 c))
def State.dataBit (s : State) (c : Nat) : Nat := s.cf (CAN_DATA_PRESCALER c) * (1 + s.cf (CAN_DATA_TSEG1 c) + s.cf (CAN_DATA_TSEG2 c))

/-- R498: 10 kbit/s to 1 Mbit/s is 4,000 to 40 quanta; 8 Mbit/s is 5 quanta. -/
def State.bitBad (s : State) (c : Nat) : List Nat :=
  let nb := s.nomBit c
  let db := s.dataBit c
  failing [(decide (nb < 40) || decide (4000 < nb), CAN_NOM_PRESCALER c),
    (s.on (CAN_FD_ENABLE c) && (decide (nb < db) || decide (db < 5)), CAN_FD_ENABLE c),
    (decide (s.cf (CAN_NOM_TSEG2 c) < s.cf (CAN_NOM_SJW c)), CAN_NOM_TSEG2 c),
    (decide (s.cf (CAN_DATA_TSEG2 c) < s.cf (CAN_DATA_SJW c)), CAN_DATA_TSEG2 c)]

/-- R499. -/
def State.tdcBad (s : State) (c : Nat) : List Nat :=
  if s.on (CAN_TDC_ENABLE c) ∧ 4 * s.dataBit c * 25 < 350 + s.cf (CAN_TDC_OFFSET c) * 25 then [CAN_DATA_PRESCALER c] else []

/-- A list holds a number twice. -/
def hasTwice : List Nat → Bool
  | [] => false
  | a :: t => t.contains a || hasTwice t

/-- R504. -/
def State.protoBad (s : State) (c : Nat) : List Nat :=
  let ids := s.protoIds c
  let taken := (upto 128).find? (fun n => ids.any (fun id => s.moAccepts c n id false || s.moAccepts c n id true))
  let pass := (upto 8).any (fun i => s.on (SUB_ENABLE i) && s.cf (SUB_TRANSPORT i) == 2 && s.cf (SUB_CAN_CHANNEL i) == c) ||
    (upto 4).any (fun q => s.on (PUB_ENABLE q) && (s.cf (PUB_TRANSPORT q)).testBit 1 && s.cf (PUB_CAN_CHANNEL q) == c)
  let pdo := (upto 16).any (fun r => (s.rxOn r && s.cf (RPDO_CHANNEL r) == c) || (s.txOn r && s.cf (TPDO_CHANNEL r) == c))
  failing [(hasTwice ids, SDO_COB_RX c), (taken.isSome, SDO_COB_RX c),
    (!s.on (CAN_FD_ENABLE c) && (pdo || pass), CAN_FD_ENABLE c)]

/-- A valid MO_DLC for a format (R509). -/
def dlcOk (format d : Nat) : Bool := decide (d ≤ 8) || (format != 0 && [12, 16, 20, 24, 32, 48, 64].contains d)

/-- R509 and R515 of a transmit object; AUTH also of a receive object. -/
def State.moBad (s : State) (c n : Nat) : List Nat :=
  let f := s.moFormat c n
  let d := s.cf (MO_DLC c n)
  if s.moDir c n = 0 then []
  else failing [(s.moDir c n == 2 && !dlcOk f d, MO_CONFIG c n),
    (s.moDir c n == 2 && f != 0 && !s.on (CAN_FD_ENABLE c), CAN_FD_ENABLE c)]

def State.moAuthBad (s : State) (c n : Nat) : List Nat :=
  if s.moDir c n ≠ 0 ∧ s.moFlag c n 6 ∧ (s.moFormat c n = 0 ∨ s.cf (MO_DLC c n) < 12) then [MO_CONFIG c n] else []

/-! ### Admission (R254 to R262) -/

/-- A job: axis, whether it is the L4 job, its sample instant, its release, and its items, each with cost and deadline. -/
structure Job where
  axis : Nat
  l4 : Bool
  at_ : Int
  rel : Int
  items : List (Nat × Int)
  deriving DecidableEq, Repr, Inhabited

/-- The cost of item `i` of Table CL-7, from 1. -/
def State.cost (s : State) (i : Nat) : Nat := s.rd (COST_TABLE (i - 1)) * 8

/-- The costs of the functions of GEN_SET. -/
def State.genCosts (s : State) (n : Nat) : List Nat :=
  ((upto 6).filter (fun b => (s.cf (SCH_GEN_SET n)).testBit b)).map (fun b => s.cost (4 + b))

/-- L2 with its observer. -/
def State.l2Cost (s : State) (n : Nat) : Nat := s.cost 1 + (if s.on (CAS_OBS_ENABLE n) then s.cost 2 else 0)

/-- The axis has a chain job with L2 and L3, or one with generation alone (R254). -/
def State.chainFull (s : State) (n : Nat) : Bool :=
  physical n && (s.ccMode n == 1 || s.ccMode n == 4) && (s.cf (CAS_CONTROL_MODE n) == 2 || s.cf (CAS_CONTROL_MODE n) == 3)
def State.chainGen (s : State) (n : Nat) : Bool := physical n && s.ccMode n == 3
def State.l4Job (s : State) (n : Nat) : Bool := physical n && s.ccMode n != 0 && s.cf (L4_MODE n) != 0
def State.virtualJob (s : State) (n : Nat) : Bool := !physical n && s.cf (SCH_GEN_SET n) != 0

def State.n2 (s : State) (n : Nat) : Nat := max 1 (s.cf (CAS_N2 n))
def State.n3 (s : State) (n : Nat) : Nat := s.n2 n * max 1 (s.cf (CAS_N3 n))
def State.n4 (s : State) (n : Nat) : Nat := s.n3 n * max 1 (s.cf (CAS_N4 n))

/-- The instants ≡ `ph` modulo `t` of [`a`, `a + len`). -/
def instants (ph t : Nat) (a : Int) (len : Nat) : List Int :=
  let first := a + ((ph : Int) - a) % (t : Int)
  (upto ((len + t - 1) / t)).map (fun k => first + (k * t : Nat)) |>.filter (fun x => decide (x < a + len))

/-- The release of a job for the instant `t` of a physical axis (R256). -/
def State.release (s : State) (n : Nat) (t : Int) : Int :=
  match s.motorPort n with
  | some p => if s.portMode p = 2 then maxI (t + 4800) (t + ((s.fbReady p : Nat) : Int)) else t + 4800
  | none => t + 4800

/-- The jobs of an axis whose instants lie in [a, a + len). -/
def State.jobsOf (s : State) (n : Nat) (a : Int) (len : Nat) : List Job :=
  let t1 := max 1 (s.t1T n)
  let ph := s.cf (CG_PHASE (s.cf (CC_CARRIER_GROUP n)))
  let dl (t : Int) (d : Nat) : Int := t + ((s.cf d * t1 : Nat) : Int)
  let gen (e : Int) : List (Nat × Int) := (s.genCosts n).map (fun c => (c, e))
  let chain : List Job :=
    if s.chainFull n then
      (instants ph (s.n2 n * t1) a len).map (fun t =>
        let l3 := (t - ph) % ((s.n3 n * t1 : Nat) : Int) == 0
        let e3 := dl t (CAS_D3 n)
        ⟨n, false, t, s.release n t, (if l3 then gen e3 ++ [(s.cost 3, e3)] else []) ++ [(s.l2Cost n, dl t (CAS_D2 n))]⟩)
    else if s.chainGen n then
      (instants ph (s.n3 n * t1) a len).map (fun t => ⟨n, false, t, s.release n t, gen (dl t (CAS_D3 n))⟩)
    else []
  let l4 : List Job := if s.l4Job n then
      (instants ph (s.n4 n * t1) a len).map (fun t => ⟨n, true, t, s.release n t, [(s.cost 10, dl t (CAS_D4 n))]⟩) else []
  let virt : List Job := if s.virtualJob n then
      let v := s.cf ADM_VIRTUAL_PERIOD
      (instants (s.cf ADM_VIRTUAL_PHASE) (max 1 v) a len).map (fun t => ⟨n, false, t, t - v + 4800, gen t⟩) else []
  chain ++ l4 ++ virt

/-- The cost of a job: its items and one dispatch. -/
def State.jobCost (s : State) (j : Job) : Nat := j.items.foldl (fun a e => a + e.1) (s.cost 11)

/-- The periods of the jobs of an axis. -/
def State.periodsOf (s : State) (n : Nat) : List Nat :=
  (if s.chainFull n || s.chainGen n then [s.n3 n * s.t1T n] else []) ++ (if s.l4Job n then [s.n4 n * s.t1T n] else []) ++
  (if s.virtualJob n then [s.cf ADM_VIRTUAL_PERIOD] else [])

/-- The hyperperiod (R260); 0 without jobs. -/
def State.hyper (s : State) : Nat :=
  let l := allAxes.flatMap (fun n => s.periodsOf n)
  if l.isEmpty then 0 else l.foldl Nat.lcm 1

/-- Number and cost of the jobs of an axis in a hyperperiod of `h`. -/
def State.axisBusy (s : State) (n h : Nat) : Nat × Nat :=
  let t1 := max 1 (s.t1T n)
  let gen := (s.genCosts n).foldl (· + ·) 0
  let d := s.cost 11
  let per (t c : Nat) : Nat × Nat := (h / max 1 t, h / max 1 t * (c + d))
  let add (a b : Nat × Nat) : Nat × Nat := (a.1 + b.1, a.2 + b.2)
  let chain :=
    if s.chainFull n then
      let k2 := h / max 1 (s.n2 n * t1)
      let k3 := h / max 1 (s.n3 n * t1)
      (k2, k2 * (s.l2Cost n + d) + k3 * (gen + s.cost 3))
    else if s.chainGen n then per (s.n3 n * t1) gen
    else (0, 0)
  let l4 := if s.l4Job n then per (s.n4 n * t1) (s.cost 10) else (0, 0)
  let virt := if s.virtualJob n then per (s.cf ADM_VIRTUAL_PERIOD) gen else (0, 0)
  add (add chain l4) virt

/-- The processor with the lowest load, the lower number between equals. -/
def leastLp (loads : List Nat) : Nat := (upto 4).foldl (fun b k => if loads.getD k 0 < loads.getD b 0 then k else b) 0

/-- Insertion by descending load, ascending axis between equals. -/
def insertLoad (e : Nat × Nat) : List (Nat × Nat) → List (Nat × Nat)
  | [] => [e]
  | f :: t => if f.2 < e.2 then e :: f :: t else f :: insertLoad e t

/-- Placement of the axes that have jobs (R258): axis and processor. `busy` gives each its load. -/
def State.place (s : State) (busy : List (Nat × Nat)) : List (Nat × Nat) :=
  let fixed := busy.filter (fun e => s.cf (SCH_LP_AFFINITY e.1) < 4)
  let auto := (busy.filter (fun e => !(s.cf (SCH_LP_AFFINITY e.1) < 4))).foldl (fun l e => insertLoad e l) []
  let start := fixed.map (fun e => (e.1, s.cf (SCH_LP_AFFINITY e.1)))
  let loadOf (pl : List (Nat × Nat)) (k : Nat) : Nat :=
    pl.foldl (fun a p => if p.2 = k then a + ((busy.find? (fun e => e.1 == p.1)).map (·.2)).getD 0 else a) 0
  auto.foldl (fun pl e => pl ++ [(e.1, leastLp ((upto 4).map (loadOf pl)))]) start

/-- Jobs stand in the order of R261. -/
def Job.before (a b : Job) : Bool :=
  let da := a.items.foldl (fun m e => minI m e.2) ((a.items.headD (0, a.rel)).2)
  let db := b.items.foldl (fun m e => minI m e.2) ((b.items.headD (0, b.rel)).2)
  decide (a.rel < b.rel) || (a.rel == b.rel && (decide (da < db) || (da == db &&
    (decide (a.axis < b.axis) || (a.axis == b.axis && (!a.l4 || b.l4))))))

def insertJob (j : Job) : List Job → List Job
  | [] => [j]
  | k :: t => if k.before j then k :: insertJob j t else j :: k :: t

/-- The jobs in order with their starts: each at the later of its release and the end of the job before it. -/
def State.runJobs (s : State) : Option Int → List Job → List (Job × Int)
  | _, [] => []
  | free, j :: t =>
    let st := match free with
      | some f => maxI f j.rel
      | none => j.rel
    (j, st) :: s.runJobs (some (st + (s.jobCost j : Nat))) t

/-- An item of a started job ends after its deadline. -/
def State.late (s : State) (j : Job) (st : Int) : Bool :=
  (j.items.foldl (fun (a : Int × Bool) e => (a.1 + (e.1 : Int), a.2 || decide (e.2 < a.1 + (e.1 : Int))))
    (st + (s.cost 11 : Int), false)).2

/-- The started jobs of processor `k` around one hyperperiod: two hyperperiods before it, so that what it starts with is what the
table repeats, and one after it, so that a job released late meets the jobs released before it; the jobs of a virtual axis are
released a virtual period before their ticks (R256). -/
def State.slotsOf (s : State) (pl : List (Nat × Nat)) (h k : Nat) : List (Job × Int) :=
  let axes := (pl.filter (fun p => p.2 == k)).map (·.1)
  let v := s.cf ADM_VIRTUAL_PERIOD
  let js := (axes.flatMap (fun n => s.jobsOf n (-((2 * h : Nat) : Int)) (4 * h + (if physical n then 0 else v)))).foldl (fun l j => insertJob j l) []
  s.runJobs none js

/-- The started jobs of one hyperperiod, each once. -/
def Job.inHyper (h : Nat) (j : Job) : Bool := decide (0 ≤ j.at_) && decide (j.at_ < (h : Int))

/-- What an admission found (R263): its code, axis and processor, the object named, and the results by object. -/
structure Admit where
  code : Nat := 0
  axis : Nat := 255
  lp : Nat := 255
  key : Nat := 0
  shows : List (Nat × Nat) := []
  deriving DecidableEq, Repr, Inhabited

/-- R230 and R231 of axis `n`: the object named. The rates of R230 are those of an axis with L1 sample instants (R228). -/
def State.rateBad (s : State) (n : Nat) : List Nat :=
  let g := s.cf (CC_CARRIER_GROUP n)
  let t1 := s.t1T n
  let runs := s.ccMode n != 0
  failing [
    (s.cf (CG_PERIOD g) % 2 == 1 && s.cf (CC_RATE n) == 2, CG_PERIOD g),
    (runs && decide (s.n2 n * t1 < 250000), CG_PERIOD g),
    (runs && decide (s.n3 n * t1 < 500000), CG_PERIOD g),
    (runs && s.cf (L4_MODE n) != 0 && decide (s.n4 n * t1 < 2000000), CG_PERIOD g),
    (decide (s.n2 n < s.cf (CAS_D2 n)) || decide (s.n3 n < s.cf (CAS_D3 n)) || decide (s.n4 n < s.cf (CAS_D4 n)), CAS_N2 n)]

/-- R235 and R262 with the GEN_SET condition of R314. -/
def State.genBad (s : State) (n : Nat) : List Nat :=
  let cm := s.cf (CAS_CONTROL_MODE n)
  let pub := (upto 4).any (fun q => s.on (PUB_ENABLE q) && s.cf (PUB_SOURCE_AXIS q) == n)
  failing [
    (physical n && cm == 1 && (s.cf (SCH_GEN_SET n) != 0 || s.cf (L4_MODE n) != 0), SCH_GEN_SET n),
    (s.ccMode n == 3 && cm != 3, CC_MODE n),
    (!s.genHas n (s.followNeeds n), SCH_GEN_SET n),
    (pub && !(s.cf (SCH_GEN_SET n)).testBit 0, SCH_GEN_SET n)]

/-- R252: the active banks that fail, each by its first coefficient. -/
def State.bankBad (s : State) (n : Nat) : List Nat :=
  failing ((upto 4).map (fun i => (!s.bankOk n (i + 1) (s.bank n (i + 1)), (bankKeys n (s.bank n (i + 1)) (i + 1)).headD 0)))

/-- A load as a binary32 fraction. -/
def loadF (busy h : Nat) : Nat := F.rat (busy : Int) (max 1 h)

/-- Nanoseconds of a time in 125 ps. -/
def nsOf (t : Int) : Nat := (t / 8).toNat

/-- A job that holds the generation of its axis: that of a virtual axis, or the chain job of an L3 sample instant. -/
def State.isL3 (s : State) (n : Nat) (j : Job) : Bool :=
  !j.l4 && (!physical n || (j.at_ - s.cf (CG_PHASE (s.cf (CC_CARRIER_GROUP n)))) % ((s.n3 n * max 1 (s.t1T n) : Nat) : Int) == 0)

/-- CHAIN_START and L4_START of an axis from the started jobs of its processor. -/
def State.starts (s : State) (n h : Nat) (run : List (Job × Int)) : List (Nat × Nat) :=
  let all := run.filter (fun e => e.1.axis == n)
  let mine := all.filter (fun e => e.1.inHyper h)
  let l3 := mine.filter (fun e => s.isL3 n e.1)
  let first (l : List (Job × Int)) : Option (Job × Int) :=
    l.foldl (fun b e => match b with
      | some x => if e.1.at_ < x.1.at_ then some e else some x
      | none => some e) none
  let chain : Nat := match first l3 with
    | none => 0
    | some e =>
      if physical n then nsOf (e.2 - e.1.at_)
      else
        match first (all.filter (fun x => decide (e.1.at_ < x.1.at_))) with
        | some x => nsOf (x.2 - e.1.at_)
        | none => 0
  let l4 : Nat := match first (mine.filter (fun e => e.1.l4)) with
    | some e => nsOf (e.2 - e.1.at_)
    | none => 0
  [(SCH_CHAIN_START n, chain), (SCH_L4_START n, l4)]

/-- The numerically first axis and processor of a list of pairs. -/
def firstPair (l : List (Nat × Nat)) : Nat × Nat :=
  l.foldl (fun (b : Nat × Nat) e => (min b.1 e.1, min b.2 e.2)) (255, 255)

/-- The processor of each axis that has jobs, in the configuration in force (R258). -/
def State.placed (s : State) (h : Nat) : List (Nat × Nat) :=
  s.place (((allAxes.map (fun n => (n, s.axisBusy n h))).filter (fun e => decide (0 < e.2.1))).map (fun e => (e.1, e.2.2)))

/-- The schedule of the configuration that comes into force: the processor of each axis, and for an axis with a follow mode the starts
of its jobs with generation, each relative to its instant (R257, R261, R313). -/
def State.takeSchedule (s : State) : State :=
  let h := s.hyper
  let pl := s.placed h
  each allAxes s (fun t n =>
    let lp := ((pl.find? (fun p => p.1 == n)).map (·.2)).getD 255
    let slots := if s.cf (FOL_FOLLOW_MODE n) = 0 ∨ 3 < lp then []
      else ((s.slotsOf pl h lp).filter (fun e => e.1.axis == n && e.1.inHyper h && s.isL3 n e.1)).map (fun e => e.2 - e.1.at_)
    t.modAx n (fun a => { a with lp := lp, slots := slots }))

/-- Admission of the configuration in force, in the order of R646. -/
def State.admission (s : State) : Admit :=
  match worst (perAxis 16 s.rateBad) with
  | some (n, k) => { code := 1, axis := n, key := k }
  | none =>
  match worst (perAxis 32 s.genBad) with
  | some (n, k) => { code := 5, axis := n, key := k }
  | none =>
  match worst (perAxis 16 s.bankBad) with
  | some (n, k) => { code := 6, axis := n, key := k }
  | none =>
    let h := s.hyper
    let all := allAxes.map (fun n => (n, s.axisBusy n h))
    let busy := (all.filter (fun e => decide (0 < e.2.1))).map (fun e => (e.1, e.2.2))
    let pl := s.place busy
    let lpBusy (k : Nat) : Nat := pl.foldl (fun a p => if p.2 = k then a + ((busy.find? (fun e => e.1 == p.1)).map (·.2)).getD 0 else a) 0
    let lpJobs (k : Nat) : Nat := pl.foldl (fun a p => if p.2 = k then a + ((all.find? (fun e => e.1 == p.1)).map (·.2.1)).getD 0 else a) 0
    let shows := pl.map (fun p => (SCH_LP_ASSIGNED p.1, p.2)) ++ busy.map (fun e => (SCH_AXIS_LOAD e.1, loadF e.2 h)) ++
      (upto 4).map (fun k => (LPS_LP_LOAD k, loadF (lpBusy k) h))
    match (upto 4).find? (fun k => decide (85 * h < 100 * lpBusy k)) with
    | some k =>
      let n := (firstPair (pl.filter (fun p => p.2 == k))).1
      { code := 2, axis := n, lp := k, key := SCH_LP_AFFINITY n, shows := shows }
    | none =>
      let shows := (ADM_HYPERPERIOD, h % 2 ^ 32) :: shows
      if 80000000 < h then { code := 4, key := ADM_VIRTUAL_PERIOD, shows := shows }
      else
        let shows := shows ++ (upto 4).map (fun k => (LPS_LP_JOBS k, lpJobs k))
        match (upto 4).find? (fun k => decide (4096 < lpJobs k)) with
        | some k => { code := 4, lp := k, key := SCH_LP_AFFINITY (firstPair (pl.filter (fun p => p.2 == k))).1, shows := shows }
        | none =>
          let runs := (upto 4).map (fun k => (k, s.slotsOf pl h k))
          let shows := shows ++ runs.flatMap (fun r => ((pl.filter (fun p => p.2 == r.1)).flatMap (fun p => s.starts p.1 h r.2)))
          let bad := runs.flatMap (fun r => (r.2.filter (fun e => e.1.inHyper h && s.late e.1 e.2)).map (fun e => (e.1.axis, r.1)))
          if bad.isEmpty then { shows := shows }
          else
            let f := firstPair bad
            { code := 3, axis := f.1, lp := f.2, key := SCH_LP_AFFINITY f.1, shows := shows }

/-! ### Twin (R548, R552) and supplies (R580, R581, R584) -/

/-- The longest interval between the ends of two consecutive jobs of a processor (R548). -/
def State.jobGap (s : State) (h : Nat) (run : List (Job × Int)) : Nat :=
  let ends : List Int := (run.filter (fun (e : Job × Int) => decide (0 ≤ e.1.rel) && decide (e.1.rel < (h : Int)))).map (fun (e : Job × Int) => (e.2 + (s.jobCost e.1 : Int) : Int))
  match ends with
  | [] => 0
  | a :: _ =>
    let round := ends ++ [a + (h : Int)]
    (round.zip (round.drop 1)).foldl (fun m (p : Int × Int) => max m (p.2 - p.1).toNat) 0

/-- R548: LEASE_TIME against twice the longest interval; 10 µs for a service processor. -/
def State.leaseBad (s : State) : Bool :=
  let h := s.hyper
  let pl := s.placed h
  let gap := if 80000000 < h then 0 else (upto 4).foldl (fun m k => max m (s.jobGap h (s.slotsOf pl h k))) 0
  decide (s.cf TW_LEASE_TIME * 8000 < 2 * max 80000 gap)

/-- R552. -/
def State.twinPeriodBad (s : State) : List (Nat × Nat) :=
  let p := s.cf TW_TWIN_PERIOD
  let f := s.cf TW_TWIN_PHASE
  let onL3 (n : Nat) : Bool :=
    let t3 := max 1 (s.n3 n * s.t1T n)
    p % t3 == 0 && ((f : Int) - (s.cf (CG_PHASE (s.cf (CC_CARRIER_GROUP n))) : Int)) % (t3 : Int) == 0
  perUnit 1 (fun _ => failing [(decide (p < 1000000), TW_TWIN_PERIOD)]) ++
  perAxis 16 (fun n => failing [(s.ccMode n != 0 && !onL3 n, TW_TWIN_PERIOD)])

/-- The configuration checks of currents, feedback and motion, one for each rule: the failing axes with the objects. -/
def configAxes : List (State → List (Nat × Nat)) :=
  [fun s => perAxis 16 (fun n => failing [(s.ccMode n != 0 && s.windowBad n, SD_SDCLK_DIV (n / 4))]),
   fun s => perAxis 16 s.portBad,
   fun s => perAxis 16 s.ssiBad,
   fun s => perUnit 16 s.latchBad,
   fun s => (upto 4).flatMap s.emuBad,
   fun s => perAxis 16 s.cellBad,
   fun s => perUnit 16 s.groupBad,
   fun s => perUnit 1 (fun _ => failing [(decide (s.cf ADM_VIRTUAL_PERIOD ≤ s.cf ADM_VIRTUAL_PHASE), ADM_VIRTUAL_PERIOD)]),
   fun s => perAxis 32 s.windowEmpty,
   fun s => perAxis 16 s.stallBad,
   fun s => perAxis 16 s.motionBad,
   fun s => perAxis 32 s.followBad,
   fun s => (upto 4).flatMap s.pubBad,
   fun s => perAxis 32 s.regBad,
   fun s => perUnit 4 s.pubPhaseBad,
   fun s => perAxis 16 s.ainBad]

/-- The configuration checks of keys, process data, CAN and the serial ports. -/
def configLinks : List (State → List (Nat × Nat)) :=
  [fun s => perUnit 4 (fun q => failing [(s.on (PUB_ENABLE q) && !s.keyLoaded (PUB_KEY_ID q), PUB_KEY_ID q)]),
   State.pdBad,
   State.pdRangeBad,
   fun s => perUnit 4 s.bitBad,
   fun s => perUnit 4 s.tdcBad,
   fun s => perUnit 4 s.protoBad,
   fun s => perUnit 512 (fun i => s.moBad (i / 128) (i % 128)),
   fun s => perUnit 512 (fun i => s.moAuthBad (i / 128) (i % 128)),
   fun s => perUnit 2 (fun p => failing [(s.cf (SP_PORT_MODE p) == 3 && s.cf (SP_MST_SELECT p) == 0, SP_PORT_MODE p)])]

/-- The configuration checks of the twin and the supplies. -/
def configSupply : List (State → List (Nat × Nat)) :=
  [fun s => perUnit 1 (fun _ => failing [(s.on TW_TWIN_ENABLE && s.leaseBad, TW_LEASE_TIME)]),
   fun s => if s.on TW_TWIN_ENABLE then s.twinPeriodBad else [],
   fun s => perUnit 1 (fun _ => failing [(decide (s.cf TW_TWIN_PERIOD ≤ s.cf TW_TWIN_PHASE), TW_TWIN_PERIOD)]),
   fun s => perAxis 16 (fun n => failing [(s.cf (CC_VDC_SOURCE n) == 1 && s.cf MAINS_SUPPLY_KIND == 0, MAINS_SUPPLY_KIND)]),
   fun s => perUnit 1 (fun _ => failing [(F.le (s.cf MAINS_RETURN_LEVEL) (s.cf MAINS_LOSS_LEVEL), MAINS_LOSS_LEVEL)]),
   fun s => perUnit 1 (fun _ => failing [(s.cf TRK_TRACK_ENABLE != 0 && !s.on STBY_VSTBY_ENABLE, STBY_VSTBY_ENABLE)])]

/-- The configuration checks other than admission, in the order of R646: of the first rule that fails the first axis and the lowest
object. -/
def State.configBad (s : State) : Option (Nat × Nat) :=
  (configAxes ++ configLinks ++ configSupply).findSome? (fun f => worst (f s))

/-- SDO COB-IDs that have not been written follow NODE_ID (R503). -/
def State.nodeIds (s : State) : State :=
  each (upto 4) s (fun s c =>
    let id := s.cf (CAN_NODE_ID c)
    let s := if s.dict.cobWritten.testBit (2 * c) then s
      else (s.wr (SDO_COB_RX c) (0x600 + id)).wrForce (SDO_COB_RX c) (0x600 + id)
    if s.dict.cobWritten.testBit (2 * c + 1) then s
    else (s.wr (SDO_COB_TX c) (0x580 + id)).wrForce (SDO_COB_TX c) (0x580 + id))

/-- A candidate put in force for its examination, with the SDO COB-IDs that its NODE_IDs give. -/
def State.asIf (s : State) (m : Store) : State := ({ s with force := m } : State).nodeIds

/-- Objects whose value an examination replaces (R263). -/
def admitKeys : List Nat :=
  [ADM_HYPERPERIOD] ++ (upto 4).map LPS_LP_LOAD ++ (upto 4).map LPS_LP_JOBS ++
  allAxes.flatMap (fun n => [SCH_LP_ASSIGNED n, SCH_AXIS_LOAD n, SCH_CHAIN_START n, SCH_L4_START n])

/-- The results of an examination shown: those not reached read their defaults. -/
def State.showAdmit (s : State) (a : Admit) : State :=
  let s := { s with regs := admitKeys.foldl (fun (m : Store) k => m.erase k) s.regs }
  let s := ((s.wr ADM_ADMISSION_RESULT a.code).wr ADM_REFUSED_AXIS a.axis).wr ADM_REFUSED_LP a.lp
  a.shows.foldl (fun s e => s.wr e.1 e.2) s

/-- Every check of a commit on a candidate (R263, R646): COMMIT_RESULT and the object of the first failing check, after the
results have been shown. -/
def State.examine (s : State) (m : Store) : State × Nat × Nat :=
  let t := s.asIf m
  match t.configBad with
  | some (n, k) => (s.showAdmit { axis := n }, 2, k)
  | none =>
    let a := t.admission
    (s.showAdmit a, if a.code = 0 then 0 else 1, a.key)

end Sys2Proof.Machine
end

