-- ==== Sys2Proof/Machine/Commit.lean ====
section
/-! DEFINITION. Configuration commit (R452, R453, R263), STORE and the return to defaults (R454 to R457), and the restore of the
stored set at boot. -/
namespace Sys2Proof.Machine
open Obj

def State.modDict (s : State) (f : Dict → Dict) : State := { s with dict := f s.dict }

/-! ### Commit -/

/-- Every axis is OFF, READY or FAULT. -/
def State.axesIdle (s : State) : Bool := allAxes.all (fun n => s.axState n == axOff || s.axState n == axReady || s.axState n == axFault)

/-- COMMIT may be taken (R452): its device states and axis states, and no accepted commit that waits for its instant. -/
def State.commitState (s : State) : Bool :=
  (match s.dev with
   | .preop | .op | .safe => true
   | _ => false) && s.axesIdle && s.dict.committing.isNone

/-- COMMIT written with [0] = 1: the checks run; a configuration that passes waits for its instant, and the answer with it
(R447); one that fails is refused. -/
def State.commitWrite (s : State) (ctx : Option Ctx) : State × Option Nat :=
  let m := s.candidate
  let (s, result, key) := s.examine m
  if result = 0 then (s.modDict (fun d => { d with committing := some m, commitCtx := ctx, commitFrom := s.clock + ((1000000 * 2 ^ 32 : Nat) : Int) }), none)
  else
    let s := (s.wr CMT_COMMIT_RESULT result).wr CMT_COMMIT_REFUSED_OBJECT key
    (s.record 1 3 0 0 (pay 16 result + pay 20 key), some cAdmission)

/-- ADMIT_CHECK (R263): every check, nothing committed. -/
def State.admitCheck (s : State) : State := (s.examine s.candidate).1

/-- A key in [lo, hi) whose value two configurations differ in. -/
def keysDiffer (a b : Store) (lo hi : Nat) : Bool :=
  (a ++ b).any (fun (e : Nat × Nat) => decide (lo ≤ e.1) && decide (e.1 < hi) && a.get e.1 != b.get e.1)

/-- A whole millisecond of line time, in 2^-32 ns. -/
def msU : Nat := 1000000 * 2 ^ 32

/-- A whole millisecond of line time lies within the core clock that ends now (R453). -/
def State.wholeMs (s : State) : Bool := decide (s.now - gridBefore s.now 0 (msU : Int) < ((s.tickInc : Nat) : Int))

/-- The instant of a commit that takes effect now: the whole millisecond of this core clock, or at boot the clock itself; in units
of 125 ps of the control schedule. -/
def State.commitInstant (s : State) : Int :=
  ((if s.wholeMs then gridBefore s.now 0 (msU : Int) else s.now) + s.time.schedDiff) / (tickU : Int)

/-- A commit that changes carrier group `g` (R203): with LOCK 0 its first valley is the instant at which the commit takes effect. -/
def State.carrierStart (s : State) (g : Nat) : State :=
  { s.wr (CG_PERIOD_ACTIVE g) (s.cf (CG_PERIOD g)) with
    leg := { s.leg with anchor := s.leg.anchor.setIfInBounds g s.commitInstant } }

/-- A configuration comes into force: each block starts again what the change asks it to. -/
def State.inForce (s : State) (m : Store) : State :=
  let was := s.force
  let fieldWas := s.fieldOn
  let rxWas := s.rxOn
  let s := { s with force := m }
  let s := { s with dict := { s.dict with committed := true } }
  let s := s.nodeIds
  let now := s.force
  let s := s.timeCommit (fun d => was.get (DOM_DOMAIN_NUMBER d))
  let s := each (upto 16) s (fun s p => s.portCommit p (was.get (FB_MODE p)))
  let s := s.latchCommit
  let s := each (upto 4) s (fun s e =>
    if keysDiffer was now (0x223000 + 0x100 * e) (0x223100 + 0x100 * e) then s.modEm e (fun _ => {}) else s)
  let s := each (upto 16) s (fun s g =>
    if keysDiffer was now (0x234000 + 0x100 * g) (0x234100 + 0x100 * g) then s.carrierStart g else s)
  let s := s.tripLevels
  let s := each allAxes s (fun s n => s.modAx n (fun a => { a with gens := [] }))
  let s := s.subCommit (fun i => keysDiffer was now (0x251000 + 0x100 * i) (0x251100 + 0x100 * i))
  let s := s.pubCommit.takeSchedule
  let s := s.fieldCommit fieldWas
  let s := s.canCommit (fun k => was.get k != now.get k)
  let s := if keysDiffer was now 0x290000 0x290100 then s.twinStart else s
  let s := s.modDict (fun d => { d with
    rx := d.rx.mapIdx (fun i x => if s.rxOn i then (if rxWas i then x else { seenAt := s.clock }) else {})
    tx := d.tx.mapIdx (fun i x => if s.txOn i then x else {}) })
  s.copyWake

/-- COMMIT_TAKE_EFFECT (R453): at its whole millisecond, at least 1 ms after the checks ended, the accepted configuration is in
force, counted, recorded and answered. -/
def execCommitTakeEffect (s : State) : Host.Outcome State Fault Refusal :=
  .next (match s.dict.committing with
    | none => s
    | some m =>
      if s.clock < s.dict.commitFrom ∨ !s.wholeMs then s else
      let c := s.dict.commitCtx
      let s := (s.modDict (fun d => { d with committing := none, commitCtx := none })).inForce m
      let s := ((s.wr CMT_COMMIT_RESULT 0).bump CMT_COMMIT_COUNT).record 1 3 0 0 (pay 20 (s.rd CMT_COMMIT_REFUSED_OBJECT))
      s.answerTo c 0)

/-! ### STORE -/

/-- The values of persistent objects that are not sealed. -/
def storable (k : Nat) : Bool :=
  match findRow (k / 256) (k % 256) with
  | some w => w.persistent && !w.isSealed
  | none => false

/-- The snapshot of R454. -/
def State.snapshot (s : State) : Stored where
  params := s.regs.filter (fun (e : Nat × Nat) => storable e.1)
  cobWritten := s.dict.cobWritten
  blobs := s.blobs.filter (fun (e : Nat × Bytes) => storable e.1)
  tables := ((upto 80).filter (fun t => s.tableReady t)).map (fun t => (t, s.tableRead t))

/-- STORE may be taken (R455); new MRAM writes are refused while STANDBY is prepared (R595). -/
def State.storeState (s : State) : Bool := s.dict.storing.isNone && !s.pw.stbyPrep

/-- STORE written with "save": a restore to defaults that waits is cancelled (R456). -/
def State.storeWrite (s : State) (ctx : Option Ctx) (v : Nat) : State × Option Nat :=
  if v ≠ 0x65766173 then (s, some cRange)
  else (s.modDict (fun d => { d with storing := some s.snapshot, storeCtx := ctx, restoreMark := false }), none)

/-- The new set is complete: it replaces the one before it, and the write is answered. -/
def execStoreComplete (s : State) : Host.Outcome State Fault Refusal :=
  .next (match s.dict.storing with
    | none => s
    | some x =>
      let c := s.dict.storeCtx
      let s := s.modDict (fun d => { d with storing := none, storeCtx := none, stored := some x })
      let bytes := x.tables.foldl (fun n (e : Nat × Bytes) => n + e.2.length) 0
      let s := if bytes = 0 then s else s.wear 2 ((bytes + 7) / 8)
      ((s.wear 3 (2 * x.params.length)).record 1 4 0 0 0).answerTo c 0)

/-- RESTORE_DEFAULTS written with "load". -/
def State.restoreWrite (s : State) (v : Nat) : Res :=
  if v ≠ 0x64616F6C then refuse s cRange else okRes ((s.modDict (fun d => { d with restoreMark := true })).wear 3 1)

/-- A stored table placed and READY. -/
def State.loadTable (s : State) (t : Nat) (b : Bytes) : State :=
  let s := { s with tableRam := s.tableRam.writeAll (8 * s.rd (CAM_START t)) b }
  let s := { s with tableLen := s.tableLen.setIfInBounds t (some b.length) }
  (s.wr (CAM_TABLE_STATE t) 2).wr (CAM_TABLE_CRC t) (crc32 b)

/-- Values added to the object store, those listed later over those before. -/
def Store.merge (m l : Store) : Store := l.foldl (fun (m : Store) e => m.set e.1 e.2) m

/-- Boot step 4 (R456, R457): the stored set where it holds and no restore waits, else defaults; the sealed values (R417);
table RAM. -/
def State.restore (s : State) (storedOk : Bool) : State :=
  let mark := s.dict.restoreMark
  let set := if mark || !storedOk then none else s.dict.stored
  let s := if mark then s.modDict (fun d => { d with restoreMark := false, stored := none }) else s
  let s := { s with regs := s.regs.merge s.sec.sealedStore }
  match set with
  | none => if !mark && !storedOk && s.dict.stored.isSome then s.record 1 5 0 0 0 else s
  | some x =>
    let s := { s with regs := s.regs.merge x.params, blobs := x.blobs }
    let s := s.modDict (fun d => { d with cobWritten := x.cobWritten })
    each x.tables s (fun s (e : Nat × Bytes) => s.loadTable e.1 e.2)

/-- Boot: the restored configuration is committed if its checks pass, and refused with a record where they fail; a device
without a stored set has its defaults committed (R457). -/
def State.bootCommit (s : State) : State :=
  let m := s.candidate
  let (s, result, key) := s.examine m
  if result = 0 then s.inForce m
  else ((s.wr CMT_COMMIT_RESULT result).wr CMT_COMMIT_REFUSED_OBJECT key).record 1 6 0 0 0

end Sys2Proof.Machine
end

