-- ==== Sys2Proof/Machine/Requests.lean ====
section
/-! DEFINITION. The object-dictionary server (R440 to R447): the checks of Table OD-5 in their order, what a write of each object
does, and what a read returns. Every channel, process data and the commands that stand for one write go through it. -/
namespace Sys2Proof.Machine
open Obj

/-! ### Checks on the object and its state -/

/-- Requests of a channel whose answer is outstanding (R447). -/
def State.held (s : State) (ch : Chan) : Nat :=
  let mine (c : Option Ctx) : Bool := match c with
    | some c => c.chan == ch
    | none => false
  let cmd (d : Due) : Bool := match d.what with
    | .cmd x => mine x.ctx
    | _ => false
  let ax := s.axis.toList.foldl (fun n a =>
    n + (a.cmds.filter (fun c => mine c.ctx)).length + ((a.taken ++ a.due).filter cmd).length) 0
  ax + b2n (mine s.dict.commitCtx) + b2n (mine s.dict.storeCtx)

/-- Axis, level and bank of a coefficient (R199, R248). -/
def bankOfKey (k : Nat) : Option (Nat × Nat × Nat) :=
  let i := k / 256
  let o := axisOffset i
  if i < 0x3000 ∨ 0x3800 ≤ i then none
  else if o = 0x24 ∨ o = 0x25 then some ((i - 0x3000) / 0x80, 1, o % 2)
  else if 0x32 ≤ o ∧ o ≤ 0x37 then some ((i - 0x3000) / 0x80, o / 2 - 0x17, o % 2)
  else none

/-- A coefficient may be written: its bank is the inactive one, and no swap of its level is pending (R248, R251). -/
def State.bankWritable (s : State) (k : Nat) : Bool :=
  match bankOfKey k with
  | some (n, lv, b) => s.bank n lv != b && !s.bitOf (BNK_SWAP_PENDING n) (lv - 1)
  | none => true

/-- Working-copy entries of the calibration set. -/
def calKey (k : Nat) : Bool := decide (0x2c1000 ≤ k) && decide (k < 0x2c1600)

/-- Transmit object of an MO_DATA key. -/
def moOf (k : Nat) : Option (Nat × Nat × Nat) :=
  let i := k / 256
  if 0x2710 ≤ i ∧ i < 0x2750 then some ((i - 0x2710) / 16, k % 256 - 1, i % 16) else none

/-- Writes of MRAM (R595). -/
def mramKey (k : Nat) : Bool :=
  [PKT_PACKET_IN, FW_IMAGE, FW_NEXT_SLOT, FW_CONFIRM, 0x101101, CAL_SAVE, CAL_IMPORT].contains k

/-- Check 5 of a write (R446): the device state, and the state of the object and of the function that holds it. -/
def State.writeState (s : State) (k : Nat) : Bool :=
  (s.dev != .locked || k == PKT_PACKET_IN) && s.bankWritable k && !(s.pw.stbyPrep && mramKey k) &&
  (match k with
   | 0x101001 => s.storeState
   | 0x1f1101 => s.commitState
   | 0x200004 => s.resetState
   | 0x200404 => s.standbyState
   | 0x280001 => !s.pw.hostSel
   | 0x2a050a => s.fwImageState
   | 0x2a050c => s.sec.booted
   | 0x2c0106 => s.calState
   | 0x2c010a => s.dict.calSaving.isNone
   | _ =>
     let i := k / 256
     let j := k % 256
     if calKey k then s.dict.calSaving.isNone
     else if acqConfigKey k then s.aqStill
     else if 0x2340 ≤ i ∧ i < 0x2350 ∧ j = 7 then !s.on (CG_LOCK (i - 0x2340))
     else if 0x2800 ≤ i ∧ i < 0x2802 ∧ j = 7 then
       let p := i - 0x2800
       (s.spMode p == 1 || s.spMode p == 3) && s.rd (SP_MST_RESULT p) != 1 && !s.bitOf (SP_PORT_STATUS p) 3
     else if 0x4010 ≤ i ∧ i < 0x4060 then (if j = 7 then s.tableState (i - 0x4010) == 1 else s.tableState (i - 0x4010) != 3)
     else if 0x4100 ≤ i ∧ i < 0x4140 then s.tableState (i - 0x4100) != 3
     else if 0x4180 ≤ i ∧ i < 0x4190 then s.tableState (i - 0x4180 + 64) != 3
     else match moOf k with
       | some (c, n, 4) => !s.txPending c n
       | _ => true)

/-- Check 5 of a read: SEG_HEADER and SEG_DATA (R375). -/
def State.readState (s : State) (k : Nat) : Bool := if k = 0x500202 ∨ k = 0x500203 then s.segReadable else true

/-- Check 6: the length of the data (Table OD-1, or the bounds of the object). -/
def lengthOk (w : Row) (n : Nat) : Bool :=
  if 0 < w.ty.size then n == w.ty.size
  else match w.rng with
    | .len lo hi => decide (lo ≤ n) && decide (n ≤ hi)
    | _ => if w.ty = .vstr then decide (n ≤ 255) else true

/-- The value is one of its type (Table OD-1). -/
def typeOk (w : Row) (v : Nat) : Bool :=
  match w.ty with
  | .bool => decide (v ≤ 1)
  | .f32 => f32.isFin v
  | .lt96 => decide (v / 2 ^ 16 % 2 ^ 32 < 1000000000)
  | _ => true

/-- Check 7: the code of a value outside its type or range, 0 where it lies inside. -/
def State.valueCode (s : State) (w : Row) (i j v : Nat) : Nat :=
  if !typeOk w v then cRange
  else match w.rng with
    | .map => if v = 0 || mapOk (rxMapIdx i) v then 0 else cNotMappable
    | _ =>
      if !s.rangeOk w i w.ty.size v then cRange
      else if calKey (i * 256 + j) && !calRange (i * 256 + j) v then cRange
      else 0

/-- Checks 1 to 5 of a write (R403, R405, R444). -/
def State.writeAccess (s : State) (role : Role) (i j : Nat) : Nat :=
  if !idxExists i then cNoObject
  else match findRow i j with
    | none => if j = 0 then cReadOnly else cNoSub
    | some w =>
      if w.acc = .ro ∨ w.acc = .rc ∨ scAbsent i j = true then cReadOnly
      else if w.isSealed ∨ Role.level role < w.writeRole then cDenied
      else if !s.writeState (i * 256 + j) then cState
      else 0

/-- Checks 1 to 5 of a read (R403, R440, R444). A read of a WO object: Table SC-4 has it return 0, Table OD-5 refuses it; the model
refuses it (log entry 74). -/
def State.readAccess (s : State) (role : Role) (i j : Nat) : Nat :=
  if !idxExists i then cNoObject
  else match findRow i j with
    | none => if j = 0 then 0 else cNoSub
    | some w =>
      if w.acc = .wo then cWriteOnly
      else if Role.level role < w.readRole then cDenied
      else if !s.readState (i * 256 + j) then cState
      else 0

/-! ### What a write does -/

/-- A command of COMMAND (R276, R277, R557): refused on a twin bench unit where its SEQ is new. -/
def State.commandWrite (s : State) (n v : Nat) (ctx : Option Ctx) : State × Option Nat :=
  if s.isBench ∧ (s.ax n).lastSeq ≠ some (v / 256 % 256) then (s, some cState)
  else
    let (s, waits) := s.takeCommand n v ctx
    (s, if waits then none else some 0)

/-- REG_RESET (R344). -/
def State.regReset (s : State) (n v : Nat) : State := if v.testBit 0 then s.wr (REG_TOTAL n) 0 else s

/-- Objects of an axis block whose write acts: the effect of a numeric write at offset `o`, subindex `j`. -/
def State.axisWrite (s : State) (vd : Verdict) (n o j k v : Nat) : Option Res :=
  match o, j with
  | 0x00, 6 => some (s.paramWrite n k v)
  | 0x11, 6 => some (okRes (if v.testBit 0 then s.indexArm n else s))
  | 0x20, 1 => some (s.ccModeWrite n v)
  | 0x22, 0xe =>
    let s := { s with leg := { s.leg with ocNow := vd.oc, modNow := vd.md } }
    let keep := (if s.leg.ocNow.testBit (2 * n) || s.leg.ocNow.testBit (2 * n + 1) then 4 else 0) +
      (if s.leg.modNow.testBit (2 * n) || s.leg.modNow.testBit (2 * n + 1) then 8 else 0)
    match findRow (k / 256) j with
    | some w => (match w.rng with
      | .w1c m => some (okRes (s.wr k (clrMask (s.rd k) (clrMask (v &&& m) keep))))
      | _ => none)
    | none => none
  | 0x31, 2 => some (s.swapRequest n v)
  | 0x40, 2 | 0x40, 3 | 0x40, 4 | 0x40, 5 => some (s.paramWrite n k v)
  | 0x61, 1 | 0x61, 2 => some (s.gearWrite n k v)
  | 0x62, 2 => some (s.camNext n v)
  | 0x63, 0xa => some (okRes (s.regReset n v))
  | _, _ => none

/-- Objects of one number whose write acts. -/
def State.oneWrite (s : State) (vd : Verdict) (k v : Nat) : Option Res :=
  match k with
  | 0x101101 => some (s.restoreWrite v)
  | 0x1f1001 => some (s.deviceRequest v)
  | 0x200004 => some (s.resetRequest v)
  | 0x200404 => some (s.standbyRequest v)
  | 0x210305 => some (s.selectRequest v)
  | 0x210603 => some (okRes (s.todWrite v))
  | 0x210705 => some (okRes (s.alarmEnable v))
  | 0x230001 => some (okRes (if v.testBit 0 then s.loadAll else s))
  | 0x230313 => some (okRes (s.clearTrips v))
  | 0x230401 => some (okRes ({ s with leg := { s.leg with ocNow := vd.oc } }.clearOc v))
  | 0x230402 => some (okRes ({ s with leg := { s.leg with modNow := vd.md } }.clearMod v))
  | 0x240007 => some (okRes (if v.testBit 0 then s.admitCheck else s))
  | 0x260003 => some (okRes (s.clearField v))
  | 0x262001 => some (okRes (s.writeDoSet v))
  | 0x262005 => some (okRes (s.clearShort v))
  | 0x29000c => some (s.handoverWrite (v % 2))
  | 0x2a0502 => some (s.nextSlot v)
  | 0x2a050c => some (s.fwConfirm (v % 2))
  | 0x2c0106 => some (s.calSave v)
  | 0x2c010a => some (s.calDiscard v)
  | 0x500001 => some (s.acqControl v)
  | 0x500102 => some (s.segReleased v)
  | _ => none

/-- Objects of a family whose write acts. -/
def State.familyWrite (s : State) (vd : Verdict) (k v : Nat) : Option Res :=
  let i := k / 256
  let j := k % 256
  if 0x3000 ≤ i ∧ i < 0x4000 then s.axisWrite vd ((i - 0x3000) / 0x80) (axisOffset i) j k v
  else if 0x1200 ≤ i ∧ i < 0x1204 then
    some (okRes ((s.wr k v).modDict (fun d => { d with cobWritten := orBit d.cobWritten (2 * (i - 0x1200) + (j - 1)) })))
  else if 0x2220 ≤ i ∧ i < 0x2230 ∧ j = 0xd then some (okRes (if v.testBit 0 then s.armUnit (i - 0x2220) else s))
  else if 0x2220 ≤ i ∧ i < 0x2230 ∧ j = 0x15 then some (okRes (if v.testBit 0 then s.nextCapture (i - 0x2220) else s))
  else if 0x2310 ≤ i ∧ i < 0x2340 ∧ j = 8 then some (s.directEnable (i - 0x2310) v)
  else if 0x2704 ≤ i ∧ i < 0x2708 ∧ j = 4 then some (okRes (s.canRecover (i - 0x2704) v))
  else if 0x4010 ≤ i ∧ i < 0x4060 then
    if j = 7 then some (if v.testBit 0 then s.tableFinish (i - 0x4010) else okRes s) else some (s.tableHeader (i - 0x4010) k v)
  else match moOf k with
    | some (c, n, 6) => some (okRes (s.moStatusClear c n v))
    | some (c, n, 8) => some (s.moRequest c n v vd.phase)
    | _ => none

/-- A numeric object written; writes to its reserved bits are ignored (R4). -/
def State.numberWrite (s : State) (vd : Verdict) (w : Row) (k v : Nat) : Res :=
  let v := keepBits k v
  match s.oneWrite vd k v with
  | some r => r
  | none => match s.familyWrite vd k v with
    | some r => r
    | none => match w.rng with
      | .w1c m => okRes (s.wr k (clrMask (s.rd k) (v &&& m)))
      | _ => okRes (s.wr k v)

/-- A message to HANDSHAKE of a channel (R450): what the client reads next is the answer to it. -/
def State.handshakeWrite (s : State) (c : Fin 4) (session : Nat) (b : Bytes) (vd : Verdict) : Res :=
  let (s, code, out) := s.sessionMessage (.can c) session b vd
  ⟨if code = 0 then s.modDict (fun d => { d with handshake := d.handshake.setIfInBounds c.val out }) else s, code⟩

/-- A VSTRING or DOMAIN written whole. -/
def State.octetWrite (s : State) (session : Nat) (vd : Verdict) (k : Nat) (b : Bytes) : Res :=
  let i := k / 256
  if k = PKT_PACKET_IN then s.packetIn b vd
  else if k = FW_IMAGE then s.fwImage 0 b vd
  else if k = CAL_IMPORT then s.calImport b vd.sig
  else if 0x1f20 ≤ i ∧ i < 0x1f24 then s.handshakeWrite (Fin.ofNat 4 (i - 0x1f20)) session b vd
  else if 0x2800 ≤ i ∧ i < 0x2802 then s.mstTx (i - 0x2800) b
  else if 0x4100 ≤ i ∧ i < 0x4140 then s.tableData (i - 0x4100) b
  else if 0x4180 ≤ i ∧ i < 0x4190 then s.tableData (i - 0x4180 + 64) b
  else okRes (s.wrBlob k b)

/-- Checks 6 to 8 of a write and its effect: the code that answers it, none where its answer waits. -/
def State.writeValue (s : State) (ctx : Option Ctx) (session : Nat) (vd : Verdict) (w : Row) (i j : Nat) (b : Bytes) :
    State × Option Nat :=
  let k := i * 256 + j
  if !lengthOk w b.length then (s, some cLength)
  else if w.ty.size = 0 then
    let r := s.octetWrite session vd k b
    (r.st, some r.code)
  else
    let v := leNat b
    let code := s.valueCode w i j v
    if code ≠ 0 then (s, some code)
    else if k = 0x101001 then s.storeWrite ctx v
    else if k = 0x1f1101 then (if v.testBit 0 then s.commitWrite ctx else (s, some 0))
    else if 0x3000 ≤ i ∧ i < 0x4000 ∧ axisOffset i = 0 ∧ j = 1 then s.commandWrite ((i - 0x3000) / 0x80) v ctx
    else
      let r := s.numberWrite vd w k v
      (r.st, some r.code)

/-- A segmented write of the object is open that is not the requester's own (R448). -/
def State.openElsewhere (s : State) (k : Nat) : Bool := s.dict.xfers.any (fun x => x.write && !x.abandoned && x.key == k)

/-- A write of an object, checked in the order of Table OD-5 and executed. CAL_SAVE refused for its state shows it
(Table NV-5). -/
def State.writeObject (s : State) (ctx : Option Ctx) (role : Role) (session : Nat) (vd : Verdict) (i j : Nat) (b : Bytes) :
    State × Option Nat :=
  let k := i * 256 + j
  let code := s.writeAccess role i j
  if code = cState ∧ k = CAL_SAVE then (s.wr CAL_RESULT 5, some cState)
  else if code ≠ 0 then (s, some code)
  else if s.openElsewhere k then (s, some cState)
  else match findRow i j with
    | some w => s.writeValue ctx session vd w i j b
    | none => (s, some cNoSub)

/-! ### What a read returns -/

/-- The bytes that a read returns (R440, R442); `role` is the role it is taken with (OWN_ROLE). -/
def State.readBytes (s : State) (role : Role) (i j : Nat) : Bytes :=
  let k := i * 256 + j
  match findRow i j with
  | none => leBytes 1 (highestSub i)
  | some w =>
    if k = 0x500202 then s.segHeaderBytes
    else if k = 0x500203 then s.segDataBytes
    else if w.ty.size = 0 then s.octets k
    else if k = 0x2a0006 then leBytes 1 (Role.level role)
    else leBytes w.ty.size (s.view k)

/-- A read of an RC object clears it (R20). -/
def State.readClears (s : State) (i j : Nat) : State :=
  match findRow i j with
  | some w => if w.acc = .rc then s.wr (i * 256 + j) 0 else s
  | none => s

/-- A read of an object: the state after it, the code, and the bytes. -/
def State.readObject (s : State) (role : Role) (i j : Nat) : State × Nat × Bytes :=
  let code := s.readAccess role i j
  if code ≠ 0 then (s, code, []) else (s.readClears i j, 0, s.readBytes role i j)

/-! ### One write request -/

/-- A write request taken from a channel: busy where its queue is full, else executed and answered (R447). -/
def State.writeRequest (s : State) (c : Ctx) (vd : Verdict) (b : Bytes) : State :=
  if 8 ≤ s.held c.chan then s.busy c
  else match s.writeObject (some c) (s.writeRole c.session) c.session vd c.index c.sub b with
    | (s, some code) => s.answer c code []
    | (s, none) => s

/-- A command that stands for one write: the request has reached the server, its trailer verified. -/
def State.rowWrite (s : State) (w : Wr) (k : Nat) (b : Bytes) : State :=
  let c := s.ctxOf w (k / 256) (k % 256)
  if !s.served then s
  else s.gated c true (fun s => s.writeRequest c w.vd b)

/-- A command that stands for one write whose effect it carries itself: checks 0 to 5, then the effect, then the answer. -/
def State.rowEffect (s : State) (w : Wr) (k : Nat) (f : State → Res) : State :=
  if !s.served then s
  else
    let c := s.ctxOf w (k / 256) (k % 256)
    s.gated c true (fun s =>
      if 8 ≤ s.held w.chan then s.busy c
      else
        let code := s.writeAccess (s.writeRole w.session) (k / 256) (k % 256)
        if code ≠ 0 then s.answer c code []
        else if s.openElsewhere k then s.answer c cState []
        else (f s).reply c)

end Sys2Proof.Machine
end

