-- ==== Sys2Proof/Machine/Writes.lean ====
section
/-! DEFINITION. The commands that stand for one object-dictionary write: each names its object and takes the bytes of the request,
or carries what the request says in fields of its own (axis commands, signed packets, session messages). -/
namespace Sys2Proof.Machine
open Obj

/-! ### Device, time, feedback, latches -/

def execDeviceStart (w : Wr) (s : State) : Host.Outcome State Fault Refusal := .next (s.rowWrite w DEV_DEVICE_REQUEST [1])
def execDeviceStop (w : Wr) (s : State) : Host.Outcome State Fault Refusal := .next (s.rowWrite w DEV_DEVICE_REQUEST [2])
def execDeviceResetSafe (w : Wr) (s : State) : Host.Outcome State Fault Refusal := .next (s.rowWrite w DEV_DEVICE_REQUEST [3])
def execSelectRequest (w : Wr) (s : State) : Host.Outcome State Fault Refusal := .next (s.rowWrite w SEL_SELECT_REQUEST w.data)
def execTodSeconds (w : Wr) (s : State) : Host.Outcome State Fault Refusal := .next (s.rowWrite w PPS_TOD_SECONDS w.data)
def execAlarmEnable (w : Wr) (s : State) : Host.Outcome State Fault Refusal := .next (s.rowWrite w ALM_ALARM_ENABLE w.data)
def execIndexArm (w : Wr) (n : Fin 16) (s : State) : Host.Outcome State Fault Refusal := .next (s.rowWrite w (AI_INDEX_ARM n.val) w.data)
def execArm (w : Wr) (u : Fin 16) (s : State) : Host.Outcome State Fault Refusal := .next (s.rowWrite w (LU_ARM u.val) w.data)
def execNext (w : Wr) (u : Fin 16) (s : State) : Host.Outcome State Fault Refusal := .next (s.rowWrite w (LU_NEXT u.val) w.data)

/-! ### Legs and current cells -/

/-- OC_FLAGS, or MOD_FAULT_FLAGS, written (R185). -/
def execOcFlags (w : Wr) (modFault : Bool) (s : State) : Host.Outcome State Fault Refusal :=
  .next (s.rowWrite w (if modFault then SDF_MOD_FAULT_FLAGS else SDF_OC_FLAGS) w.data)

def execTripFlags (w : Wr) (s : State) : Host.Outcome State Fault Refusal := .next (s.rowWrite w TRIP_FLAGS w.data)
def execDirectEnable (w : Wr) (l : Fin 48) (s : State) : Host.Outcome State Fault Refusal :=
  .next (s.rowWrite w (LEG_DIRECT_ENABLE l.val) w.data)
def execLoadAll (w : Wr) (s : State) : Host.Outcome State Fault Refusal := .next (s.rowWrite w LEGS_LOAD_ALL w.data)
def execCcMode (w : Wr) (n : Fin 16) (s : State) : Host.Outcome State Fault Refusal := .next (s.rowWrite w (CC_MODE n.val) w.data)
def execSwapRequest (w : Wr) (n : Fin 16) (s : State) : Host.Outcome State Fault Refusal :=
  .next (s.rowWrite w (BNK_SWAP_REQUEST n.val) w.data)
def execAdmitCheck (w : Wr) (s : State) : Host.Outcome State Fault Refusal := .next (s.rowWrite w ADM_ADMIT_CHECK w.data)

/-! ### Axis commands (Table MO-3): COMMAND is written with a code and a SEQ. It takes effect at the axis's next L3 sample instant
(R277), and its write is answered there (R278) -/

def State.axisCommand (s : State) (w : Wr) (n code seq : Nat) : State :=
  s.rowWrite w (AX_COMMAND n) (leBytes 1 code ++ leBytes 1 seq ++ [0, 0])

def execSwitchOn (w : Wr) (n : Fin 32) (seq : BitVec 8) (s : State) : Host.Outcome State Fault Refusal :=
  .next (s.axisCommand w n.val 0x01 seq.toNat)
def execSwitchOff (w : Wr) (n : Fin 32) (seq : BitVec 8) (s : State) : Host.Outcome State Fault Refusal :=
  .next (s.axisCommand w n.val 0x02 seq.toNat)
def execEnable (w : Wr) (n : Fin 32) (seq : BitVec 8) (s : State) : Host.Outcome State Fault Refusal :=
  .next (s.axisCommand w n.val 0x03 seq.toNat)
def execDisable (w : Wr) (n : Fin 32) (seq : BitVec 8) (s : State) : Host.Outcome State Fault Refusal :=
  .next (s.axisCommand w n.val 0x04 seq.toNat)
def execSetup (w : Wr) (n : Fin 32) (seq : BitVec 8) (s : State) : Host.Outcome State Fault Refusal :=
  .next (s.axisCommand w n.val 0x05 seq.toNat)
def execMove (w : Wr) (n : Fin 32) (seq : BitVec 8) (s : State) : Host.Outcome State Fault Refusal :=
  .next (s.axisCommand w n.val 0x06 seq.toNat)
def execVelocity (w : Wr) (n : Fin 32) (seq : BitVec 8) (s : State) : Host.Outcome State Fault Refusal :=
  .next (s.axisCommand w n.val 0x07 seq.toNat)
def execReplace (w : Wr) (n : Fin 32) (seq : BitVec 8) (s : State) : Host.Outcome State Fault Refusal :=
  .next (s.axisCommand w n.val 0x08 seq.toNat)
def execStop (w : Wr) (n : Fin 32) (seq : BitVec 8) (s : State) : Host.Outcome State Fault Refusal :=
  .next (s.axisCommand w n.val 0x09 seq.toNat)
def execQuickStop (w : Wr) (n : Fin 32) (seq : BitVec 8) (s : State) : Host.Outcome State Fault Refusal :=
  .next (s.axisCommand w n.val 0x0a seq.toNat)
def execHome (w : Wr) (n : Fin 32) (seq : BitVec 8) (s : State) : Host.Outcome State Fault Refusal :=
  .next (s.axisCommand w n.val 0x0b seq.toNat)
def execFollow (w : Wr) (n : Fin 32) (seq : BitVec 8) (s : State) : Host.Outcome State Fault Refusal :=
  .next (s.axisCommand w n.val 0x0c seq.toNat)
def execResetFault (w : Wr) (n : Fin 32) (seq : BitVec 8) (s : State) : Host.Outcome State Fault Refusal :=
  .next (s.axisCommand w n.val 0x0d seq.toNat)
/-- A code outside Table MO-3 is refused with BAD_COMMAND (R278). -/
def execBadCommand (w : Wr) (n : Fin 32) (code seq : BitVec 8) (s : State) : Host.Outcome State Fault Refusal :=
  .next (s.axisCommand w n.val code.toNat seq.toNat)

/-! ### Motion and line shaft -/

def execTargetVelocity (w : Wr) (n : Fin 32) (s : State) : Host.Outcome State Fault Refusal :=
  .next (s.rowWrite w (AX_TARGET_VELOCITY n.val) w.data)
/-- V_MAX, A_MAX, D_MAX and J_MAX, by number (R288). -/
def execProfileParameterWrite (w : Wr) (n : Fin 32) (which : Fin 4) (s : State) : Host.Outcome State Fault Refusal :=
  .next (s.rowWrite w (PRF_V_MAX n.val + which.val) w.data)
def execGearRatioWrite (w : Wr) (n : Fin 32) (den : Bool) (s : State) : Host.Outcome State Fault Refusal :=
  .next (s.rowWrite w (if den then GEAR_DEN n.val else GEAR_NUM n.val) w.data)
def execCamNext (w : Wr) (n : Fin 32) (s : State) : Host.Outcome State Fault Refusal := .next (s.rowWrite w (CAMA_CAM_NEXT n.val) w.data)

/-- The object that a write of a table goes to: its data, or a subindex of its header (R337). -/
def tableKey (t : Nat) (header : Option Nat) : Nat :=
  match header with
  | some j => (0x4010 + t) * 256 + j
  | none => if t < 64 then CAM_DATA t else CMP_COMP_DATA (t - 64)

/-- CAM_DATA or COMP_DATA of a table, or a header object of it. -/
def execTableDataWrite (w : Wr) (t : Fin 80) (header : Option (Fin 7)) (s : State) : Host.Outcome State Fault Refusal :=
  .next (s.rowWrite w (tableKey t.val (header.map (·.val))) w.data)
def execFinish (w : Wr) (t : Fin 80) (s : State) : Host.Outcome State Fault Refusal := .next (s.rowWrite w (CAM_FINISH t.val) w.data)
def execRegReset (w : Wr) (n : Fin 32) (s : State) : Host.Outcome State Fault Refusal := .next (s.rowWrite w (REG_RESET n.val) w.data)

/-! ### Acquisition and field -/

def execAcqStart (w : Wr) (s : State) : Host.Outcome State Fault Refusal := .next (s.rowWrite w ACQ_CONTROL [1])
def execAcqStop (w : Wr) (s : State) : Host.Outcome State Fault Refusal := .next (s.rowWrite w ACQ_CONTROL [2])
def execAcqForce (w : Wr) (s : State) : Host.Outcome State Fault Refusal := .next (s.rowWrite w ACQ_CONTROL [4])
def execSegReleased (w : Wr) (s : State) : Host.Outcome State Fault Refusal := .next (s.rowWrite w ACQ_SEG_RELEASED w.data)
def execDoSet (w : Wr) (s : State) : Host.Outcome State Fault Refusal := .next (s.rowWrite w DO_SET w.data)
def execDoShortClear (w : Wr) (s : State) : Host.Outcome State Fault Refusal := .next (s.rowWrite w DO_SHORT w.data)

/-! ### Packets, sessions, firmware -/

/-- PACKET_IN written with a packet of a given TYPE. -/
def State.packetRow (s : State) (w : Wr) (p : Packet) (typ : Nat) (b : PBody) : State :=
  s.rowEffect w PKT_PACKET_IN (fun s => s.packetWrite { p with typ := typ } b)

def execClaim (w : Wr) (p : Packet) (key : BitVec 384) (s : State) : Host.Outcome State Fault Refusal :=
  .next (s.packetRow w p 1 (.claim key.toNat))
def execTransfer (w : Wr) (p : Packet) (key : BitVec 384) (s : State) : Host.Outcome State Fault Refusal :=
  .next (s.packetRow w p 2 (.transfer key.toNat))
def execSealedParams (w : Wr) (p : Packet) (entries : List SealedEntry) (s : State) : Host.Outcome State Fault Refusal :=
  .next (s.packetRow w p 3 (.sealed_ entries))
def execKeyLoad (w : Wr) (p : Packet) (entries : List KeyEntry) (s : State) : Host.Outcome State Fault Refusal :=
  .next (s.packetRow w p 4 (.keys entries))
def execRevoke (w : Wr) (p : Packet) (serials : List (BitVec 32)) (s : State) : Host.Outcome State Fault Refusal :=
  .next (s.packetRow w p 5 (.revoke (serials.map (·.toNat))))
def execTwinPairing (w : Wr) (p : Packet) (pairId : BitVec 32) (partner : BitVec 64) (s : State) : Host.Outcome State Fault Refusal :=
  .next (s.packetRow w p 6 (.pairing pairId.toNat partner.toNat))
def execUnlock (w : Wr) (p : Packet) (s : State) : Host.Outcome State Fault Refusal := .next (s.packetRow w p 7 .unlock)
def execDebugUnlock (w : Wr) (p : Packet) (level : BitVec 8) (duration : BitVec 32) (s : State) : Host.Outcome State Fault Refusal :=
  .next (s.packetRow w p 8 (.debug level.toNat duration.toNat))
/-- A packet as bytes: a TYPE that Table SE-4 does not list, a malformed packet, or any other (R414). -/
def execPacketIn (w : Wr) (s : State) : Host.Outcome State Fault Refusal := .next (s.rowWrite w PKT_PACKET_IN w.data)

/-- A session message taken from Quinup, the mailbox or a CAN channel, answered with what follows it (R421). -/
def State.sessionRow (s : State) (w : Wr) (session : Nat) (f : State → State × Nat × Bytes) : State :=
  if !s.served then s
  else
    let c : Ctx := { s.ctxOf w 0 0 with op := 0x10, session := session }
    s.gated c true (fun s => if 8 ≤ s.held w.chan then s.busy c
    else
      match w.chan with
      | .can k =>
        let c : Ctx := { c with op := 2, index := 0x1f20 + k.val, sub := 1 }
        if s.dev = .locked ∨ s.openElsewhere (SDO_HANDSHAKE k.val) then s.answer c cState []
        else
          let (s, code, out) := f s
          let s := if code = 0 then s.modDict (fun d => { d with handshake := d.handshake.setIfInBounds k.val out }) else s
          s.answer c code []
      | _ =>
        let (s, code, out) := f s
        s.answer c code out)

/-- HELLO, its bytes the request's data, its role and credential as parsed. -/
def execHello (w : Wr) (role : BitVec 8) (cred : Cred) (s : State) : Host.Outcome State Fault Refusal :=
  .next (s.sessionRow w 0 (fun s => s.hello w.chan role.toNat cred w.data))
/-- FINISH of the handshake that the request's SESSION_ID names, or of its CAN channel. -/
def execSessionFinish (w : Wr) (s : State) : Host.Outcome State Fault Refusal :=
  .next (s.sessionRow w 0 (fun s => s.finish w.chan w.session w.vd.sig))
def execSessionClose (w : Wr) (id : BitVec 16) (s : State) : Host.Outcome State Fault Refusal :=
  .next (s.sessionRow w w.session (fun s => s.closeMsg w.session id.toNat))

/-- HANDSHAKE of channel `c` written (R450). -/
def execHandshake (w : Wr) (c : Fin 4) (s : State) : Host.Outcome State Fault Refusal :=
  .next (s.rowWrite w (SDO_HANDSHAKE c.val) w.data)

/-- Bytes of FW_IMAGE at an offset (R431). -/
def execFwImage (w : Wr) (offset : Nat) (s : State) : Host.Outcome State Fault Refusal :=
  .next (s.rowEffect w FW_IMAGE (fun s => s.fwImage offset w.data w.vd))
def execNextSlot (w : Wr) (s : State) : Host.Outcome State Fault Refusal := .next (s.rowWrite w FW_NEXT_SLOT w.data)
def execFwConfirm (w : Wr) (s : State) : Host.Outcome State Fault Refusal := .next (s.rowWrite w FW_CONFIRM w.data)

/-! ### Commit, store, any other object -/

/-- A write of an object: its index and subindex, the bytes written. -/
def execObjectWrite (w : Wr) (index : BitVec 16) (sub : BitVec 8) (s : State) : Host.Outcome State Fault Refusal :=
  .next (s.rowWrite w (index.toNat * 256 + sub.toNat) w.data)
def execCommit (w : Wr) (s : State) : Host.Outcome State Fault Refusal := .next (s.rowWrite w CMT_COMMIT w.data)
def execStore (w : Wr) (s : State) : Host.Outcome State Fault Refusal := .next (s.rowWrite w ID_STORE w.data)
def execRestoreDefaults (w : Wr) (s : State) : Host.Outcome State Fault Refusal := .next (s.rowWrite w ID_RESTORE_DEFAULTS w.data)

/-! ### CAN, serial, twin, supplies, calibration -/

def execTxRequest (w : Wr) (c : Fin 4) (n : Fin 128) (s : State) : Host.Outcome State Fault Refusal :=
  .next (s.rowWrite w (MO_REQUEST c.val n.val) [1])
def execCancel (w : Wr) (c : Fin 4) (n : Fin 128) (s : State) : Host.Outcome State Fault Refusal :=
  .next (s.rowWrite w (MO_REQUEST c.val n.val) [2])
def execRecover (w : Wr) (c : Fin 4) (s : State) : Host.Outcome State Fault Refusal := .next (s.rowWrite w (CANS_RECOVER c.val) w.data)
def execMstTx (w : Wr) (p : Fin 2) (s : State) : Host.Outcome State Fault Refusal := .next (s.rowWrite w (SP_MST_TX p.val) w.data)
def execHandover (w : Wr) (s : State) : Host.Outcome State Fault Refusal := .next (s.rowWrite w TW_HANDOVER w.data)
def execResetRequest (w : Wr) (s : State) : Host.Outcome State Fault Refusal := .next (s.rowWrite w DEV_RESET_REQUEST w.data)
def execStandbyRequest (w : Wr) (s : State) : Host.Outcome State Fault Refusal := .next (s.rowWrite w STBY_STANDBY_REQUEST w.data)
def execCalSave (w : Wr) (s : State) : Host.Outcome State Fault Refusal := .next (s.rowWrite w CAL_SAVE w.data)
def execCalImport (w : Wr) (s : State) : Host.Outcome State Fault Refusal := .next (s.rowWrite w CAL_IMPORT w.data)
def execCalDiscard (w : Wr) (s : State) : Host.Outcome State Fault Refusal := .next (s.rowWrite w CAL_DISCARD w.data)

/-! ### Reads that stand for themselves -/

/-- A read request taken from a channel and answered whole: an object of more than 1,024 bytes is read in segments. -/
def State.readRequest (s : State) (c : Ctx) : State :=
  if 8 ≤ s.held c.chan then s.busy c
  else
    let (s, code, b) := s.readObject (s.readRole c.session) c.index c.sub
    if code = 0 ∧ 1024 < b.length then s.answer c cProtocol [] else s.answer c code b

/-- A read of a long object, given to the requester as a whole: the segments of R448 carry it. -/
def State.rowRead (s : State) (w : Wr) (k : Nat) : State :=
  if !s.served then s
  else
    let c : Ctx := { s.ctxOf w (k / 256) (k % 256) with op := 1 }
    s.gated c true (fun s =>
      if 8 ≤ s.held c.chan then s.busy c
      else
        let (s, code, b) := s.readObject (s.readRole c.session) c.index c.sub
        s.answer c code b)

def execAuditExport (w : Wr) (s : State) : Host.Outcome State Fault Refusal := .next (s.rowRead w AUD_AUDIT_EXPORT)
def execCalExport (w : Wr) (s : State) : Host.Outcome State Fault Refusal := .next (s.rowRead w CAL_EXPORT)

end Sys2Proof.Machine
end

