-- ==== Sys2Proof/Machine/Channels.lean ====
section
/-! DEFINITION. The channels of Table OD-4: datagrams of Quinup and the mailbox (R100 to R102), segmented transfers (R448), and the
SDO servers of the CAN channels (R449, R450). -/
namespace Sys2Proof.Machine
open Obj

/-! ### Segmented transfers -/

/-- The transfer of a requester on an object. -/
def State.xfer (s : State) (c : Ctx) (write : Bool) : Option Xfer :=
  s.dict.xfers.find? (fun x => x.chan == c.chan && x.session == c.session && x.key == c.index * 256 + c.sub && x.write == write)

/-- The transfer ended. -/
def State.endXfer (s : State) (c : Ctx) (write : Bool) : State :=
  s.modDict (fun d => { d with xfers := d.xfers.filter (fun x =>
    !(x.chan == c.chan && x.session == c.session && x.key == c.index * 256 + c.sub && x.write == write)) })

/-- The transfer begun or carried on. -/
def State.setXfer (s : State) (c : Ctx) (x : Xfer) : State :=
  (s.endXfer c x.write).modDict (fun d => { d with xfers := { x with seenAt := s.clock } :: d.xfers })

/-- A first segment of a write may be taken. -/
def State.openWrite (s : State) (c : Ctx) : Nat :=
  let code := s.writeAccess (s.writeRole c.session) c.index c.sub
  if code ≠ 0 then code
  else if s.openElsewhere (c.index * 256 + c.sub) then cState
  else 0

/-- A segment of FW_IMAGE is written as it comes (R431). -/
def State.fwSegment (s : State) (c : Ctx) (vd : Verdict) (off : Nat) (last : Bool) (b : Bytes) : State × Nat :=
  let r := s.fwImage off b vd
  if r.code ≠ 0 ∨ last then (r.st.endXfer c true, r.code)
  else (r.st.setXfer c { chan := c.chan, session := c.session, key := FW_IMAGE, write := true, next := off + b.length }, 0)

/-- A segment of a write: contiguous from 0; the object changes when the last one is taken (R442). -/
def State.writeSegment (s : State) (c : Ctx) (vd : Verdict) (off : Nat) (last : Bool) (b : Bytes) : State × Nat :=
  let k := c.index * 256 + c.sub
  let octet := match findRow c.index c.sub with
    | some w => w.ty.size == 0
    | none => false
  match s.xfer c true with
  | none =>
    let code := s.openWrite c
    if code ≠ 0 then (s, code)
    else if off ≠ 0 ∨ !octet then (s, cProtocol)
    else if k = FW_IMAGE then s.fwSegment c vd 0 last b
    else if last then
      let (s, code) := s.writeObject none (s.writeRole c.session) c.session vd c.index c.sub b
      (s, code.getD 0)
    else (s.setXfer c { chan := c.chan, session := c.session, key := k, write := true, next := b.length, buf := b }, 0)
  | some x =>
    let s1 := s.endXfer c true
    let code := s.writeAccess (s.writeRole c.session) c.index c.sub
    if x.abandoned then (s1, cTimeout)
    else if code ≠ 0 then (s1, code)
    else if off ≠ x.next then (s1, cProtocol)
    else if k = FW_IMAGE then s.fwSegment c vd off last b
    else if last then
      let (s, code) := s1.writeObject none (s.writeRole c.session) c.session vd c.index c.sub (x.buf ++ b)
      (s, code.getD 0)
    else (s.setXfer c { x with next := off + b.length, buf := x.buf ++ b }, 0)

/-- A segment of a read: the first takes a copy of the object, and every one is served from it, up to 1,024 bytes; whether it is
the last. -/
def State.readSegment (s : State) (c : Ctx) (off : Nat) : State × Nat × Bytes × Bool :=
  let serve (s : State) (b : Bytes) : State × Nat × Bytes × Bool :=
    let last := decide (b.length ≤ off + 1024)
    (if last then s.endXfer c false
      else s.setXfer c { chan := c.chan, session := c.session, key := c.index * 256 + c.sub, write := false, next := off + 1024, buf := b },
     0, (b.drop off).take 1024, last)
  match s.xfer c false with
  | some x =>
    if x.abandoned then (s.endXfer c false, cTimeout, [], false)
    else if off ≠ x.next then (s.endXfer c false, cProtocol, [], false)
    else serve s x.buf
  | none =>
    if off ≠ 0 then (s, cProtocol, [], false)
    else
      let (s, code, b) := s.readObject (s.readRole c.session) c.index c.sub
      if code ≠ 0 then (s, code, [], false) else serve s b

/-- No segment for 1 s: the transfer is abandoned (R448). -/
def execSegmentTimeout (chan : Chan) (session : BitVec 16) (index : BitVec 16) (sub : BitVec 8) (s : State) :
    Host.Outcome State Fault Refusal :=
  .next (s.modDict (fun d => { d with xfers := d.xfers.map (fun x =>
    if x.chan = chan ∧ x.session = session.toNat ∧ x.key = index.toNat * 256 + sub.toNat ∧ x.seenAt + (secU : Int) ≤ s.clock then { x with abandoned := true, buf := [] }
    else x) }))

/-! ### Datagrams -/

/-- A request of Table LT-10 in its bytes, with the verdict of its trailer. One that is too short for its header and its session's
trailer reads as one without MAGIC: its length disagrees with every DATA_LENGTH (R101). -/
def parseDgram (b : Bytes) (macOk : Bool) (vd : Verdict) : Dgram :=
  let rest := 28 + (if leAt b 6 2 = 0 then 0 else 16)
  let n := b.length - rest
  { magic := if b.length < rest then 0 else leAt b 0 2, version := leAt b 2 1, reqId := leAt b 4 2, session := leAt b 6 2, fresh := leAt b 8 4,
    index := leAt b 12 2, sub := leAt b 14 1, last := (leAt b 15 1).testBit 0, segOffset := leAt b 16 4,
    dataLength := leAt b 20 2, data := (b.drop 28).take n, macOk := macOk, vd := vd }

/-- A datagram of the right form (R101). -/
def Dgram.wellFormed (d : Dgram) : Bool :=
  d.magic == 0x5171 && d.version == 1 && decide (d.dataLength ≤ 1024) && d.data.length == d.dataLength

/-- HELLO and FINISH open a session: they are taken without one, and their answer carries no trailer. -/
def Dgram.opens (d : Dgram) (op : Nat) : Bool := op == 0x10 && (leAt d.data 0 1 == 1 || leAt d.data 0 1 == 3)

/-- What an operation of Table LT-10 does, and its answer. -/
def State.dgramOp (s : State) (c : Ctx) (d : Dgram) : State :=
  if 8 ≤ s.held c.chan then s.busy c
  else match c.op with
    | 1 => s.readRequest c
    | 2 => s.writeRequest c d.vd d.data
    | 3 =>
      let (s, code, b, last) := s.readSegment c d.segOffset
      s.answer { c with flags := b2n last } code b
    | 4 =>
      let (s, code) := s.writeSegment c d.vd d.segOffset d.last d.data
      s.answer c code []
    | _ =>
      let (s, code, b) := s.sessionMessage c.chan d.session d.data d.vd
      s.answer c code b

/-- A Quinup datagram is one for the module: sent to its address and port, not a fragment, its checksum good (R100). -/
def State.udpOk (s : State) (u : Udp) : Bool :=
  u.ip == s.ownIp && u.port == s.cf NET_QUINUP_PORT && !u.fragment && u.sumOk

/-- A request arrives on Quinup or in the mailbox (R101, R102, R424). -/
def State.datagram (s : State) (ch : Chan) (op : Nat) (d : Dgram) : State :=
  if !s.served then s.dropRequest ch
  else if !Sys2Proof.Machine.Dgram.wellFormed d || !([1, 2, 3, 4, 0x10].contains op) then
    (s.bump NETC_FORMAT_DROPS).dropRequest ch
  else
    let c : Ctx := ⟨ch, d.udp.peer, d.session, d.reqId, d.fresh, op, d.index, d.sub, b2n d.last, d.segOffset, s.respKey d.session⟩
    if Sys2Proof.Machine.Dgram.opens d op then s.dgramOp { c with session := 0 } d
    else s.gated c d.macOk (fun s => s.dgramOp c d)

/-- A Quinup request: a datagram that is not for the module, or is damaged, is no request (R100). -/
def State.quinup (s : State) (op : Nat) (d : Dgram) : State := if s.udpOk d.udp then s.datagram .quinup op d else s

def execQuinupRead (d : Dgram) (s : State) : Host.Outcome State Fault Refusal := .next (s.quinup 1 d)
def execQuinupWrite (d : Dgram) (s : State) : Host.Outcome State Fault Refusal := .next (s.quinup 2 d)
def execQuinupReadSegment (d : Dgram) (s : State) : Host.Outcome State Fault Refusal := .next (s.quinup 3 d)
def execQuinupWriteSegment (d : Dgram) (s : State) : Host.Outcome State Fault Refusal := .next (s.quinup 4 d)
def execQuinupSession (d : Dgram) (s : State) : Host.Outcome State Fault Refusal := .next (s.quinup 0x10 d)

/-! ### CAN SDO -/

/-- The transfer of an SDO server, at most one. -/
def State.sdoXfer (s : State) (c : Fin 4) (write : Bool) : Option Xfer :=
  s.dict.xfers.find? (fun x => x.chan == .can c && x.write == write)

/-- The transfers of an SDO server ended. -/
def State.sdoEnd (s : State) (c : Fin 4) : State :=
  s.modDict (fun d => { d with xfers := d.xfers.filter (fun x => x.chan != .can c) })

/-- Download: expedited, or the start of a segmented one. -/
def State.sdoDownload (s : State) (c : Fin 4) (x : Ctx) (b : Bytes) (vd : Verdict) : State :=
  let b0 := leAt b 0 1
  let s := s.sdoEnd c
  if b0.testBit 1 then
    let own := match findRow x.index x.sub with
      | some w => if 1 ≤ w.ty.size ∧ w.ty.size ≤ 4 then w.ty.size else 4
      | none => 4
    s.writeRequest x vd ((b.drop 4).take (if b0.testBit 0 then 4 - b0 / 4 % 4 else own))
  else
    let code := s.openWrite x
    if code ≠ 0 then s.answer x code []
    else
      let t : Xfer := {
        chan := .can c, session := x.session, key := x.index * 256 + x.sub, write := true
        size := if b0.testBit 0 then some (leAt b 4 4) else none }
      (s.setXfer x t).answer x 0 []

/-- A segment of a download. -/
def State.sdoDownSegment (s : State) (c : Fin 4) (x : Ctx) (b : Bytes) (vd : Verdict) : State :=
  let b0 := leAt b 0 1
  match s.sdoXfer c true with
  | none => s.answer { x with op := 2, index := 0, sub := 0 } cProtocol []
  | some t =>
    let x : Ctx := { x with op := 4, index := t.key / 256, sub := t.key % 256, flags := b2n (b0.testBit 4) }
    let buf := t.buf ++ (b.drop 1).take (7 - b0 / 2 % 8)
    if t.abandoned then (s.sdoEnd c).answer x cTimeout []
    else if b0.testBit 4 ≠ t.toggle ∨ t.session ≠ x.session then (s.sdoEnd c).answer x cProtocol []
    else if b0.testBit 0 then
      let s := s.sdoEnd c
      if t.size.any (fun n => n != buf.length) then s.answer x cLength []
      else match s.writeObject (some x) (s.writeRole x.session) x.session vd x.index x.sub buf with
        | (s, some code) => s.answer x code []
        | (s, none) => s
    else (s.setXfer x { t with buf := buf, next := buf.length, toggle := !t.toggle }).answer x 0 []

/-- Upload: expedited, or the start of a segmented one from a copy. -/
def State.sdoUpload (s : State) (c : Fin 4) (x : Ctx) : State :=
  let s := s.sdoEnd c
  let (s, code, b) := s.readObject (s.readRole x.session) x.index x.sub
  if code ≠ 0 ∨ (1 ≤ b.length ∧ b.length ≤ 4) then s.answer x code b
  else
    let t : Xfer := { chan := .can c, session := x.session, key := x.index * 256 + x.sub, write := false, buf := b }
    (s.setXfer x t).answer x 0 b

/-- A segment of an upload. -/
def State.sdoUpSegment (s : State) (c : Fin 4) (x : Ctx) (b : Bytes) : State :=
  let tb := (leAt b 0 1).testBit 4
  match s.sdoXfer c false with
  | none => s.answer { x with op := 1, index := 0, sub := 0 } cProtocol []
  | some t =>
    let x : Ctx := { x with op := 1, index := t.key / 256, sub := t.key % 256 }
    if t.abandoned then (s.sdoEnd c).answer x cTimeout []
    else if tb ≠ t.toggle ∨ t.session ≠ x.session then (s.sdoEnd c).answer x cProtocol []
    else
      let part := (t.buf.drop t.next).take 7
      let last := decide (t.buf.length ≤ t.next + 7)
      let frame := leBytes 1 (16 * b2n tb + 2 * (7 - part.length) + b2n last) ++ part ++ List.replicate (7 - part.length) 0
      let s := if last then s.sdoEnd c else s.setXfer x { t with next := t.next + 7, toggle := !t.toggle }
      let id := s.cf (SDO_COB_TX c.val)
      s.canSend c.val id (sdoTrailer x id frame)

/-- An SDO frame whose session has been checked: its command specifier (CiA 301); block transfer ends with the protocol error. -/
def State.sdoRequest (s : State) (c : Fin 4) (session fresh : Nat) (b : Bytes) (vd : Verdict) : State :=
  let x (op : Nat) : Ctx := ⟨.can c, {}, session, 0, fresh, op, leAt b 1 2, leAt b 3 1, 0, 0, s.respKey session⟩
  if leAt b 0 1 / 32 = 4 then s.sdoEnd c
  else if 8 ≤ s.held (.can c) then s.busy (x 2)
  else match leAt b 0 1 / 32 with
    | 0 => s.sdoDownSegment c (x 4) b vd
    | 1 => s.sdoDownload c (x 2) b vd
    | 2 => s.sdoUpload c (x 1)
    | 3 => s.sdoUpSegment c (x 1) b
    | _ => s.answer (x 2) cProtocol []

/-- An SDO frame received on a channel (R449, R450, R424). -/
def State.sdoFrame (s : State) (c : Fin 4) (id : Nat) (b : Bytes) (macOk : Bool) (vd : Verdict) : State :=
  let own := at' s.dict.sdoBound c.val
  if !s.served || s.cf (CAN_MODE c.val) == 0 || id != s.cf (SDO_COB_RX c.val) % 2 ^ 30 then s
  else if b.length ≠ 8 ∧ (b.length ≠ 20 ∨ !s.on (CAN_FD_ENABLE c.val)) then s
  else if own = 0 then (if b.length = 8 then s.sdoRequest c 0 0 b vd else s)
  else
    let fresh := leAt b 8 4
    match s.session own with
    | some x =>
      if b.length = 20 ∧ macOk ∧ x.fresh < fresh then (s.acceptFresh own 0 fresh).sdoRequest c own fresh (b.take 8) vd
      else s.sessionFail (.can c) 0 own
    | none => s

def execSdoFrame (c : Fin 4) (id : BitVec 30) (bytes : Bytes) (macOk : Bool) (vd : Verdict) (s : State) :
    Host.Outcome State Fault Refusal := .next (s.sdoFrame c id.toNat bytes macOk vd)

end Sys2Proof.Machine
end

