-- ==== Sys2Proof/Machine/ProcessData.lean ====
section
/-! DEFINITION. Process data (R458 to R466): receive objects write their mapped objects at the apply instant, transmit objects read
theirs at the transmit instant. Objects 0 to 15 are CAN PDOs, 16 to 23 Ethernet frames. -/
namespace Sys2Proof.Machine
open Obj

def State.rxs (s : State) (r : Nat) : RxSt := at' s.dict.rx r
def State.modRx (s : State) (r : Nat) (f : RxSt → RxSt) : State :=
  s.modDict (fun d => { d with rx := d.rx.setIfInBounds r (f (at' d.rx r)) })
def State.modTx (s : State) (r : Nat) (f : TxSt → TxSt) : State :=
  s.modDict (fun d => { d with tx := d.tx.setIfInBounds r (f (at' d.tx r)) })

/-- The data lengths of a CAN FD frame. -/
def fdLens : List Nat := [0, 1, 2, 3, 4, 5, 6, 7, 8, 12, 16, 20, 24, 32, 48, 64]

/-- The least CAN FD data length of at least `n` bytes. -/
def fdLen (n : Nat) : Nat := (fdLens.find? (fun l => decide (n ≤ l))).getD 64

/-- Zeros added up to `n` bytes. -/
def padTo (n : Nat) (b : Bytes) : Bytes := b ++ List.replicate (n - b.length) 0

/-! ### Applying (R464, R465) -/

/-- One mapped object written with role OPERATOR; the number of refusals, and the first refused entry. -/
def State.pdWrite (vd : Verdict) (x : State × Nat × Option Nat × Bytes) (e : Nat) : State × Nat × Option Nat × Bytes :=
  let n := e % 256 / 8
  match x.1.writeObject none .operator 0 vd (e / 65536) (e / 256 % 256) (x.2.2.2.take n) with
  | (s, some code) =>
    if code = 0 then (s, x.2.1, x.2.2.1, x.2.2.2.drop n)
    else (s, x.2.1 + 1, x.2.2.1.or (some e), x.2.2.2.drop n)
  | (s, none) => (s, x.2.1, x.2.2.1, x.2.2.2.drop n)

/-- The values of a verified frame written together. -/
def State.pdApply (s : State) (r : Nat) (b : Bytes) (vd : Verdict) : State :=
  let s := s.modRx r (fun x => { x with waiting := none })
  if s.dev ≠ .op then s.bump PD_NOT_APPLIED
  else
    let (s, n, first, _) := (s.rxMap r).foldl (State.pdWrite vd) (s, 0, none, b)
    let s := s.wr PD_WRITE_ERRORS ((s.rd PD_WRITE_ERRORS + n) % 2 ^ 32)
    let s := match first with
      | some e => if (s.rxs r).errorRun then s else s.record 3 2 0 r (pay 16 e)
      | none => s
    s.modRx r (fun x => { x with errorRun := decide (0 < n) })

/-- APPLY_LATENCY, in 125 ps. -/
def State.latency (s : State) (r : Nat) : Int := ((8 * s.cf (if r < 16 then RPDO_APPLY_LATENCY r else ERX_APPLY_LATENCY (r - 16)) : Nat) : Int)

/-- A frame's verification completes; `tx` is its transmit instant in 125 ps. It replaces an older one that still waits. -/
def State.pdVerified (s : State) (r : Nat) (tx : Int) (b : Bytes) (vd : Verdict) : State :=
  let ta := tx + s.latency r
  let s := s.modRx r (fun x => { x with seenAt := s.clock, lapsed := false })
  if s.latency r = 0 then s.pdApply r b vd
  else if ta ≤ s.nowT then (s.bump PD_LATE).pdApply r b vd
  else s.modRx r (fun x => { x with waiting := some (ta, b) })

/-- The apply instant of the frame that a receive object holds. -/
def execPdApply (r : Fin 24) (vd : Verdict) (s : State) : Host.Outcome State Fault Refusal :=
  .next (match (s.rxs r.val).waiting with
    | some w => if w.1 ≤ s.nowT then s.pdApply r.val w.2 vd else s
    | none => s)

/-! ### Receiving -/

/-- The instant that a FRESHNESS in microseconds names, nearest to now, in 125 ps. -/
def State.freshInstant (s : State) (f : Nat) : Int :=
  let us : Int := s.now / (2 ^ 32 * 1000)
  (us + toS 32 ((f + 2 ^ 32 - usOf s.now) % 2 ^ 32)) * 8000

/-- A CAN PDO with its identifier (R460). On an unclaimed device no value is written. -/
def State.pdoReceive (s : State) (c id : Nat) (b : Bytes) (macOk : Bool) (vd : Verdict) : State :=
  match (upto 16).find? (fun r => s.rxOn r && s.cf (RPDO_CHANNEL r) == c && s.cf (RPDO_COB_ID r) % 2 ^ 30 == id) with
  | none => s
  | some r =>
    let n := mapBytes (s.rxMap r)
    if !s.served || s.cf (CAN_MODE c) == 0 then s
    else if !s.claimed then (if n ≤ b.length then s.pdVerified r s.nowT b vd else s)
    else
      let l := b.length - 12
      let fresh := leAt b l 4
      if b.length < n + 12 then (s.bump PD_AUTH_DROPS).record 3 1 4 c 0
      else if !s.freshOk (pairOf (s.cn c).rxFresh (1000 + r)) fresh then s.bump PD_STALE_DROPS
      else if !macOk then (s.bump PD_AUTH_DROPS).record 3 1 4 c 0
      else
        let s := s.modCn c (fun x => { x with rxFresh := pairSet x.rxFresh (1000 + r) fresh })
        s.pdVerified r (s.freshInstant fresh) (b.take n) vd

def execCanPdoReceive (c : Fin 4) (id : BitVec 30) (bytes : Bytes) (macOk : Bool) (vd : Verdict) (s : State) :
    Host.Outcome State Fault Refusal := .next (s.pdoReceive c.val id.toNat bytes macOk vd)

/-- The difference of a stamp from a line time in 125 ps, its seconds modulo 2^29 (R13). -/
def stampDiff (stamp : Nat) (t : Int) : Int :=
  let m : Int := ((2 ^ 29 * nsPerSec * 8 : Nat) : Int)
  let d := ((stampTicks stamp : Int) - t) % m
  if m ≤ 2 * d then d - m else d

/-- An Ethernet process-data frame: its PDU (Table OD-8), its receipt `off` units of 125 ps from now (R462). -/
def State.pdReceive (s : State) (port : Nat) (p : Bytes) (macOk : Bool) (off : Int) (vd : Verdict) : State :=
  let l := leAt p 18 2
  let form := leAt p 0 1 == 2 && leAt p 1 1 == 1 && decide (l ≤ 1024) && decide (l + 40 ≤ p.length)
  match (upto 8).find? (fun f => s.rxOn (16 + f) && s.cf (ERX_FRAME_ID f) == leAt p 2 2 && decide (mapBytes (s.rxMap (16 + f)) ≤ l)) with
  | none => if s.served then s.bump NETC_FORMAT_DROPS else s
  | some f =>
    let r := 16 + f
    let stamp := leAt p 8 8
    let seq := leAt p 4 4
    let rcv := (s.now16 + off * 8192 + s.ingressShift port) / 8192
    let w : Int := ((8000 * s.cf SEC_FRESH_WINDOW : Nat) : Int)
    let d := stampDiff stamp rcv
    if !s.served then s
    else if !form then s.bump NETC_FORMAT_DROPS
    else if !s.ltSt.good then s.bump PD_STALE_DROPS
    else if !(s.lineKey (leAt p 16 2) && macOk) then (s.bump PD_AUTH_DROPS).record 3 1 4 port 0
    else if !stampValid stamp || decide (d < -w) || decide (w ≤ d) then s.bump PD_STALE_DROPS
    else if (s.rxs r).lastSeq.any (fun x => let d := (seq + 2 ^ 32 - x) % 2 ^ 32; d == 0 || decide (2 ^ 31 ≤ d)) then s.bump PD_STALE_DROPS
    else (s.modRx r (fun x => { x with lastSeq := some seq })).pdVerified r (rcv + d) ((p.drop 24).take l) vd

def execPdFrameReceive (port : Fin 3) (pdu : Bytes) (macOk : Bool) (off : Int) (vd : Verdict) (s : State) :
    Host.Outcome State Fault Refusal := .next (s.pdReceive port.val pdu macOk off vd)

/-! ### Transmitting (R460, R461, R463) -/

/-- The mapped values as they stand, packed; RC objects are cleared by the read. -/
def State.pdRead (s : State) (l : List Nat) : State × Bytes :=
  l.foldl (fun (x : State × Bytes) e =>
    let i := e / 65536
    let j := e / 256 % 256
    (x.1.readClears i j, x.2 ++ x.1.readBytes .observer i j)) (s, [])

/-- The transmit instant t_c of object `r` that has come: the control-schedule instants S with (S − PHASE) mod PERIOD = 0 (R463), as the
line time there, which stamps use (R14, R25). -/
def State.pdInstant (s : State) (r : Nat) : Int :=
  let ns (k : Nat) : Int := ((s.cf k * 2 ^ 32 : Nat) : Int)
  (if r < 16 then gridBefore s.sched (ns (TPDO_PHASE r)) (ns (TPDO_PERIOD r))
   else gridBefore s.sched (ns (ETX_PHASE (r - 16))) (ns (ETX_PERIOD (r - 16)))) - s.time.schedDiff

/-- The CAN PDO of transmit object `r`: with the trailer of the channel on a claimed device. -/
def State.pdoSend (s : State) (r : Nat) : State :=
  let (s, b) := s.pdRead (s.txMap r)
  let c := s.cf (TPDO_CHANNEL r)
  let id := s.cf (TPDO_COB_ID r) % 2 ^ 30
  let tx := at' s.dict.tx r
  let inhibit : Int := ((s.cf (TPDO_INHIBIT_TIME r) * 800000 : Nat) : Int)
  let early := tx.at_.any (fun t => decide (s.nowT - t < inhibit))
  if s.cf (TPDO_TRANSMISSION_TYPE r) = 0xff ∧ (tx.last = some b ∨ early) then s
  else
    let s := s.modTx r (fun x => { x with last := some b, at_ := some s.nowT })
    if s.claimed then
      let (s, f) := s.canFresh c id (s.pdInstant r)
      s.canSend c id (s.canTrailer c id f (padTo (fdLen (b.length + 12) - 12) b))
    else s.canSend c id (padTo (fdLen b.length) b)

/-- The process-data PDU without its MAC. -/
def pdPdu (frameId seq stamp key : Nat) (b : Bytes) : Bytes :=
  [2, 1] ++ leBytes 2 frameId ++ leBytes 4 seq ++ leBytes 8 stamp ++ leBytes 2 key ++ leBytes 2 b.length ++ leBytes 4 0 ++ b

/-- The Ethernet frame of transmit object `r`. -/
def State.pdSend (s : State) (r : Nat) : State :=
  let f := r - 16
  let (s, b) := s.pdRead (s.txMap r)
  let seq := (at' s.dict.tx r).seq
  let key := if s.claimed then s.cf (ETX_KEY_ID f) else 0xffff
  let body := pdPdu (s.cf (ETX_FRAME_ID f)) seq (s.stampOf (s.pdInstant r)) key b
  let mac := if s.claimed then leBytes 16 (Config.cmac key body).toNat else leBytes 16 0
  (s.modTx r (fun x => { x with seq := (seq + 1) % 2 ^ 32, at_ := some s.nowT })).sendFrame
    (ethFrame (macOfObj (s.cf (ETX_DEST_ADDRESS f))) s.ownMac 0 (s.cf PD_ETHERTYPE) (body ++ mac))

/-- The transmit instant of object `r`. -/
def execPdTransmit (r : Fin 24) (s : State) : Host.Outcome State Fault Refusal :=
  .next (if !s.served || !s.txOn r.val then s else if r.val < 16 then s.pdoSend r.val else s.pdSend r.val)

/-! ### Timeouts (R466) -/

/-- A QUICK_STOP taken for an axis under R277, with no writer that waits for its answer. -/
def State.takeQuickStop (s : State) (n : Nat) : State :=
  let c : AxCmd := ⟨0x0a, (s.ax n).lastSeq.getD 0, none, s.clock⟩
  if (s.publisherOf n).isSome then s.holdBack n (.cmd c)
  else s.modAx n (fun a => { a with cmds := a.cmds ++ [c] })

/-- Axes with an object of A+00h in a mapping. -/
def mappedAxes (l : List Nat) : List Nat := allAxes.filter (fun n => l.any (fun e => e / 65536 == 0x3000 + 0x80 * n))

/-- No verified frame of receive object `r` for its TIMEOUT. -/
def State.rxTimeout (s : State) (r : Nat) : State :=
  let t := s.cf (if r < 16 then RPDO_TIMEOUT r else ERX_TIMEOUT (r - 16))
  let act := s.cf (if r < 16 then RPDO_TIMEOUT_ACTION r else ERX_TIMEOUT_ACTION (r - 16))
  let x := s.rxs r
  if !s.served || !s.rxOn r || t == 0 || x.lapsed || decide (s.clock < x.seenAt + ((t * 1000 * 2 ^ 32 : Nat) : Int)) then s
  else
    let s := s.modRx r (fun x => { x with lapsed := true })
    let s := ((s.setBit PD_RX_TIMEOUT r).bump PD_TIMEOUTS).record 3 3 0 r 0
    if act = 1 then each (mappedAxes (s.rxMap r)) s (fun s n => s.takeQuickStop n) else s

def execRxTimeout (r : Fin 24) (s : State) : Host.Outcome State Fault Refusal := .next (s.rxTimeout r.val)

end Sys2Proof.Machine
end

