-- ==== Sys2Proof/Machine/HostPort.lean ====
section
/-! DEFINITION. The host port (chapter 12): the BAR0 map with its access rules and freezes, the mailbox, event rings with
delivery and signalling, MSI-X, mirror rings, and the PCIe link. -/
namespace Sys2Proof.Machine
open Obj

def State.modHost (s : State) (f : HostSt → HostSt) : State := { s with host := f s.host }

def State.ring (s : State) (n : Nat) : Ring := at' s.host.rings n

def State.modRing (s : State) (n : Nat) (f : Ring → Ring) : State :=
  s.modHost (fun h => { h with rings := h.rings.setIfInBounds n (f (at' h.rings n)) })

def Ring.size (g : Ring) : Nat := 2 ^ fld g.ctrl 8 5
def Ring.enabled (g : Ring) : Bool := g.ctrl.testBit 0

/-- IRQ_N is asserted (R495). -/
def State.irqN (s : State) : Bool := s.host.irqStatus &&& s.host.irqEnable != 0

/-! ### MSI-X and signalling -/

/-- Posted writes are issued (R471, R51); not in D3hot (log entry 92). -/
def State.pcieWrites (s : State) : Bool := !s.pw.hostSel && s.host.linkUp && s.host.busMaster && !s.host.cfg.d3hot

/-- MSI-X messages are enabled for the function. -/
def State.msixOn (s : State) : Bool := s.host.cfg.msixEnable && !s.host.cfg.msixMask

/-- A word of the type 0 header of configuration space (Table HE-1): IDs, Memory Space and Bus Master Enable, class code, and BAR0: a
32-bit, non-prefetchable memory window of 4 MiB. No command of the table reads it. -/
def State.pcieHeader (s : State) (o : Nat) : Nat :=
  match o with
  | 0x00 => 0x48165e71
  | 0x04 => 2 * b2n s.host.cfg.memSpace + 4 * b2n s.host.busMaster
  | 0x08 => 0x11800000 + Config.pcieRevisionId.toNat
  | 0x10 => s.host.cfg.bar0.toNat * 2 ^ 22
  | _ => 0

/-- The MSI-X message of a vector: a posted write of its data to its address. -/
def State.msixMsg (s : State) (v : Nat) : Output := .msix v (at' s.host.msix v).addr (at' s.host.msix v).data

/-- PCIE_CLKREQ_N is driven low (R473). -/
def State.clkreqLow (s : State) : Bool := !s.pw.hostSel && s.pw.railsUp && s.dev != .standby

/-- The MSI-X message of a vector: a masked vector, or one that cannot be issued now, sets its pending bit (R492, log entry 92). -/
def State.msixSend (s : State) (v : Nat) : State :=
  if s.pw.hostSel then s
  else if (at' s.host.msix v).masked || !s.msixOn || !s.pcieWrites then s.modHost (fun h => { h with pba := orBit h.pba v })
  else s.emit (s.msixMsg v)

/-- Pending messages that can be issued are issued. -/
def State.msixPending (s : State) : State :=
  each (upto 32) s (fun s v =>
    if s.host.pba.testBit v && !(at' s.host.msix v).masked && s.msixOn && s.pcieWrites then
      (s.modHost (fun h => { h with pba := Sys2Proof.clrBit h.pba v })).emit (s.msixMsg v)
    else s)

/-- A ring signals its unsignalled records (R492). -/
def State.ringSignal (s : State) (n : Nat) : State :=
  let g := s.ring n
  if g.unsignalled = 0 then s
  else
    let s := s.modRing n (fun g => { g with unsignalled := 0, unsignalledFault := false })
    let s := s.modHost (fun h => { h with irqStatus := orBit h.irqStatus n })
    if g.ctrl.testBit 2 then s.msixSend (fld g.ctrl 16 5) else s

/-- A ring signals if one of the conditions of R492 that need no time holds. -/
def State.ringCheck (s : State) (n : Nat) : State :=
  let g := s.ring n
  if g.modCount ≤ g.unsignalled || g.modTime == 0 || (g.ctrl.testBit 3 && g.unsignalledFault) then s.ringSignal n else s

/-! ### Rings -/

/-- A ring is disabled: it admits nothing, and records staged for it are discarded from it only (R472, R486, R487). -/
def State.ringDisable (s : State) (n : Nat) : State :=
  let s := s.modRing n (fun g => { g with ctrl := Sys2Proof.clrBit g.ctrl 0 })
  s.modHost (fun h => { h with staging :=
    (h.staging.map (fun e => { e with rings := Sys2Proof.clrBit e.rings n })).filter (fun e => e.rings != 0) })

/-- The lowest free block of mirror RAM of `bytes` bytes aligned to its own size, as an offset in the window (R494). -/
def State.mirrorBlock (s : State) (n bytes : Nat) : Option Nat :=
  let used : List (Nat × Nat) := ((upto 16).filter (fun i => i != n && (s.ring i).enabled)).map (fun i =>
    ((s.ring i).mirrorOffset - 0x040000, 32 * (s.ring i).size))
  ((upto (262144 / bytes)).map (fun i => i * bytes)).find? (fun o =>
    used.all (fun e => decide (o + bytes ≤ e.1) || decide (e.1 + e.2 ≤ o)))

/-- A write that sets ENABLE of a disabled ring, its fields taken as written (R487). -/
def State.ringEnable (s : State) (n v : Nat) : State :=
  let size := fld v 8 5
  let fresh : Ring → Ring := fun g =>
    { g with
      ctrl := v
      producer := 0
      consumer := 0
      overflows := 0
      unsignalled := 0
      unsignalledFault := false
      overflowNext := false }
  let no : State := s.modRing n (fun g => { g with ctrl := Sys2Proof.clrBit v 0, status := orBit g.status 3 })
  if size < 6 ∨ 16 < size ∨ (s.ring n).base % 4096 ≠ 0 then no
  else if s.pw.hostSel then
    match s.mirrorBlock n (32 * 2 ^ size) with
    | none => no
    | some o => s.modRing n (fun g => { fresh g with mirrorOffset := 0x040000 + o })
  else s.modRing n fresh

/-- A write of RING_CTRL; while ENABLE is 1, SIZE_LOG2 and POLICY stay (R477, R487). -/
def State.ringCtrl (s : State) (n w : Nat) : State :=
  let v := w &&& 0x001f1f0f
  let old := (s.ring n).ctrl
  if old.testBit 0 then
    let s1 := s.modRing n (fun g => { g with ctrl := (v &&& 0x001f000c) ||| (old &&& 0x1f03) })
    (if v.testBit 0 then s1 else s1.ringDisable n).ringCheck n
  else if v.testBit 0 then s.ringEnable n v
  else s.modRing n (fun g => { g with ctrl := v })

/-- A write of CONSUMER (R491). -/
def State.consumerWrite (s : State) (n v : Nat) : State :=
  let g := s.ring n
  if (g.producer + 2 ^ 32 - v % 2 ^ 32) % 2 ^ 32 ≤ g.size then s.modRing n (fun g => { g with consumer := v % 2 ^ 32 })
  else s.modRing n (fun g => { g with status := orBit g.status 2 })

/-- The oldest staged record leaves for ring `n`: one ring less has to take it (R486). -/
def HostSt.taken (h : HostSt) (n : Nat) : HostSt :=
  match h.staging with
  | [] => h
  | e :: t =>
    let m := Sys2Proof.clrBit e.rings n
    { h with staging := if m = 0 then t else { e with rings := m } :: t }

/-- The record written to its slot: posted writes in the order of R490, or the mirror RAM at once (R488, R494). -/
def State.recordWrite (s : State) (n : Nat) (r : Rec) (overflow : Bool) : State :=
  let g := s.ring n
  let b := r.bytes (g.producer % 65535 + 1) overflow
  let slot := 32 * (g.producer % g.size)
  let s := if s.pw.hostSel then
      s.modHost (fun h => { h with mirror := h.mirror.writeAll (g.mirrorOffset - 0x040000 + slot) b })
    else
      let a := g.base + slot
      let s := if g.ctrl.testBit 1 then s.emit (.pcieWrite a (leBytes 8 0)) else s
      (s.emit (.pcieWrite (a + 8) (b.drop 8))).emit (.pcieWrite a (b.take 8))
  s.modRing n (fun g => { g with
    producer := (g.producer + 1) % 2 ^ 32, overflowNext := false
    firstAt := if g.unsignalled = 0 then s.clock else g.firstAt
    unsignalled := g.unsignalled + 1, unsignalledFault := g.unsignalledFault || r.fault })

/-- The oldest staged record is written to ring `n` or dropped under its policy (R488, R489). -/
def State.deliverRecord (s : State) (n : Nat) : State :=
  match s.host.staging with
  | [] => s
  | e :: _ =>
    if !e.rings.testBit n || !(s.pw.hostSel || s.pcieWrites) then s
    else
      let g := s.ring n
      let full := decide (g.size ≤ (g.producer + 2 ^ 32 - g.consumer) % 2 ^ 32)
      let s := s.modHost (HostSt.taken · n)
      if full && !g.ctrl.testBit 1 then
        s.modRing n (fun g => { g with
          overflows := (g.overflows + 1) % 2 ^ 32, status := orBit g.status 1, overflowNext := true })
      else
        let s := if full then s.modRing n (fun g => { g with overflows := (g.overflows + 1) % 2 ^ 32 }) else s
        (s.recordWrite n e.rcd (full || g.overflowNext)).ringCheck n

def execRecordDelivery (n : Fin 16) (s : State) : Host.Outcome State Fault Refusal := .next (s.deliverRecord n.val)
def execConsumer (n : Fin 16) (v : BitVec 32) (s : State) : Host.Outcome State Fault Refusal :=
  .next (s.consumerWrite n.val v.toNat)
/-- A write of RING_CTRL with ENABLE 1. -/
def execRingEnable (n : Fin 16) (v : BitVec 32) (s : State) : Host.Outcome State Fault Refusal :=
  .next (s.ringCtrl n.val (orBit v.toNat 0))
/-- MOD_TIME has passed since the first unsignalled record was written. -/
def execRingSignalTimeout (n : Fin 16) (s : State) : Host.Outcome State Fault Refusal :=
  .next (if (s.ring n.val).firstAt + (((s.ring n.val).modTime * 1000 * 2 ^ 32 : Nat) : Int) ≤ s.clock then s.ringSignal n.val else s)

/-- FLUSH: every ring signals what it has not signalled. -/
def State.flush (s : State) : State := each (upto 16) s State.ringSignal
def execFlush (s : State) : Host.Outcome State Fault Refusal := .next s.flush

/-! ### Mailbox -/

/-- MBX_SUBMIT (R482, R483): BUSY, and the first MBX_REQ_LENGTH bytes as one request. -/
def State.mbxSubmit (s : State) (macOk : Bool) (vd : Verdict) : State :=
  if s.host.mbxStatus.testBit 0 then s.modHost (fun h => { h with mbxStatus := orBit h.mbxStatus 2 })
  else
    let s := s.modHost (fun h => { h with
      mbxStatus := Sys2Proof.clrBit (Sys2Proof.clrBit (orBit h.mbxStatus 0) 1) 3
      mbxReply := none
      mbxDropped := false })
    let b := s.host.mbxRequest.readAll 0 s.host.mbxReqLength
    (s.bump HOST_MBX_REQUESTS).datagram .mailbox (leAt b 3 1) (parseDgram b macOk vd)

def execMbxSubmit (macOk : Bool) (vd : Verdict) (s : State) : Host.Outcome State Fault Refusal := .next (s.mbxSubmit macOk vd)

/-- The request in the mailbox has ended (R484). -/
def State.mbxComplete (s : State) : State :=
  let finish (b : Bytes) (dropped : Bool) : State :=
    let s := s.modHost (fun h => { h with
      mbxResponse := if dropped then h.mbxResponse else h.mbxResponse.writeAll 0 b
      mbxRespLength := b.length
      mbxStatus := Sys2Proof.putBit (orBit (Sys2Proof.clrBit h.mbxStatus 0) 1) 3 (dropped || h.mbxStatus.testBit 3)
      irqStatus := orBit h.irqStatus 16
      mbxReply := none
      mbxDropped := false })
    if s.host.mbxVector.testBit 8 then s.msixSend (fld s.host.mbxVector 0 5) else s
  if !s.host.mbxStatus.testBit 0 then s
  else if s.host.mbxDropped then finish [] true
  else match s.host.mbxReply with
    | some b => finish b false
    | none => s

def execMbxComplete (s : State) : Host.Outcome State Fault Refusal := .next s.mbxComplete

/-- A request of the mailbox waits for no answer any more. -/
def Ctx.unlessMailbox (c : Option Ctx) : Option Ctx :=
  match c with
  | some x => if x.chan = .mailbox then none else some x
  | none => none

/-- A pending mailbox response is discarded: what was asked goes on, and nobody waits for it (R472). -/
def State.mbxDiscard (s : State) : State :=
  let cmd (c : AxCmd) : AxCmd := { c with ctx := Ctx.unlessMailbox c.ctx }
  let chg (c : Change) : Change :=
    match c with
    | .cmd x => .cmd (cmd x)
    | y => y
  let s := { s with axis := s.axis.map (fun (a : AxisSt) => { a with
    cmds := a.cmds.map cmd
    taken := a.taken.map (fun (d : Due) => { d with what := chg d.what })
    due := a.due.map (fun (d : Due) => { d with what := chg d.what }) }) }
  let s := s.modDict (fun d => { d with
    commitCtx := Ctx.unlessMailbox d.commitCtx
    storeCtx := Ctx.unlessMailbox d.storeCtx })
  s.modHost (fun h => { h with mbxStatus := Sys2Proof.clrBit h.mbxStatus 0, mbxReply := none, mbxDropped := false })

/-! ### Reads of BAR0 -/

/-- Word `j` of a wide value. -/
def wordOf (v j : Nat) : Nat := v / 2 ^ (32 * j) % 2 ^ 32

/-- The word of a ring's controls (Table HE-10). -/
def State.ringWord (s : State) (n o : Nat) : Nat :=
  let g := s.ring n
  match o with
  | 0x00 => if s.pw.hostSel then 0 else wordOf g.base 0
  | 0x04 => if s.pw.hostSel then 0 else wordOf g.base 1
  | 0x08 => g.ctrl
  | 0x0c => g.sourceFilter
  | 0x10 => g.axisFilter
  | 0x14 => g.modCount
  | 0x18 => g.modTime
  | 0x20 => g.producer
  | 0x24 => g.consumer
  | 0x28 => g.overflows
  | 0x2c => Sys2Proof.putBit g.status 0 g.enabled
  | 0x30 => if s.pw.hostSel then g.mirrorOffset else 0
  | _ => 0

/-- The word of the identity page and the time readout (Tables HE-2, HE-4). -/
def State.idWord (s : State) (o : Nat) : Nat :=
  match o with
  | 0x000000 => 0x5E71
  | 0x000004 => 0x48160001
  | 0x000008 => s.revision
  | 0x00000c => 1
  | 0x000010 => wordOf (s.rd ID_SERIAL_64) 0
  | 0x000014 => wordOf (s.rd ID_SERIAL_64) 1
  | 0x000018 => s.globalStatus
  | 0x000024 => s.host.irqStatus
  | 0x000028 => s.host.irqEnable
  | 0x00002c => s.host.scratch
  | 0x000030 => s.host.staging.length
  | 0x000034 => s.rd HOST_STAGING_DROPS
  | 0x000038 => s.rd HOST_FAULT_DROPS
  | 0x000c00 => if s.pw.hostSel then 0 else s.host.pba
  | 0x001000 => s.host.mbxStatus
  | 0x001004 => s.host.mbxReqLength
  | 0x001008 => s.host.mbxRespLength
  | 0x00100c => s.host.mbxVector
  | 0x020000 => wordOf s.time.line.lt96 0
  | 0x020004 => wordOf s.time.line.lt96 1
  | 0x020008 => wordOf s.time.line.lt96 2
  | 0x020010 => wordOf s.time.free.lt96 0
  | 0x020014 => wordOf s.time.free.lt96 1
  | 0x020018 => wordOf s.time.free.lt96 2
  | 0x020020 => wordOf (s.stamp 0) 0
  | 0x020024 => wordOf (s.stamp 0) 1
  | 0x020028 => s.rd LT_FOLLOWED_DOMAIN % 256 + s.rd LT_STATE % 256 * 2 ^ 8 + s.rd LT_SLEWING % 2 * 2 ^ 16
  | 0x020030 => wordOf (s.rd LT_OFFSET_EST) 0
  | 0x020034 => wordOf (s.rd LT_OFFSET_EST) 1
  | 0x020038 => wordOf (s.rd LT_RATE_ADJ) 0
  | _ => 0

/-- The word of the MSI-X table. -/
def Msix.word (e : Msix) (j : Nat) : Nat :=
  match j with
  | 0 => wordOf e.addr 0
  | 1 => wordOf e.addr 1
  | 2 => e.data
  | _ => b2n e.masked

/-- The 32-bit word at an aligned BAR0 offset as it stands; reserved offsets read 0 (R5). -/
def State.barWord (s : State) (o : Nat) : Nat :=
  if 0x800 ≤ o ∧ o < 0xa00 then (if s.pw.hostSel then 0 else (at' s.host.msix ((o - 0x800) / 16)).word (o % 16 / 4))
  else if 0x1100 ≤ o ∧ o < 0x1600 then s.host.mbxRequest.readLE (o - 0x1100) 4
  else if 0x1800 ≤ o ∧ o < 0x1d00 then s.host.mbxResponse.readLE (o - 0x1800) 4
  else if 0x2000 ≤ o ∧ o < 0x3000 then s.ringWord ((o - 0x2000) / 0x100) (o % 0x100)
  else if 0x010000 ≤ o ∧ o < 0x020000 then
    let p := at' s.host.pages ((o - 0x010000) / 0x800)
    if o % 0x800 = 0 then p.seq
    else ((p.active.find? (fun (e : Nat × Nat) => e.1 == o % 0x800)).map (·.2)).getD 0
  else if 0x040000 ≤ o ∧ o < 0x080000 then (if s.pw.hostSel then s.host.mirror.readLE (o - 0x040000) 4 else 0)
  else if 0x100000 ≤ o ∧ o < 0x300000 then s.tableRam.readLE (o - 0x100000) 4
  else if 0x300000 ≤ o ∧ o < 0x400000 then s.acqRam.readLE (o - 0x300000) 4
  else s.idWord o

/-- The 8-byte values of a frame (R355): their offsets in it. -/
def wideAt (l : List (Nat × Nat)) : List Nat :=
  (l.foldl (fun (x : Nat × List Nat) (e : Nat × Nat) =>
    let o := alignUp x.1 e.1
    (o + e.1, if e.1 = 8 then o :: x.2 else x.2)) (0, [])).2

/-- The 64-bit field that a word at an offset of acquisition memory belongs to (log entry 54): a stamp of a segment header (Table AQ-4),
or an 8-byte value of a frame. -/
def State.acqField (s : State) (o : Nat) : Option Nat :=
  let size := s.rd ACQ_SEG_BYTES
  if size = 0 ∨ s.aq ACQ_SEG_COUNT * size ≤ o then none
  else
    let r := o % size
    let w := r / 8 * 8
    if r < 64 then (if w = 16 ∨ w = 24 ∨ w = 48 then some (o / 8 * 8) else none)
    else
      let p := (w - 64) % max 8 (s.rd ACQ_FRAME_BYTES)
      if (wideAt (s.slots.flatMap (fun n => s.streamVals n [0]))).contains p then some (o / 8 * 8) else none

/-- The field of more than one word that a word belongs to: the offset of its lowest word and its count of words (Tables HE-2,
HE-4, HE-5, HE-10, the MSI-X addresses, the stamps of records in mirror RAM, and acquisition memory). -/
def State.barField (s : State) (o : Nat) : Option (Nat × Nat) :=
  if 0x10 ≤ o ∧ o < 0x18 then some (0x10, 2)
  else if 0x800 ≤ o ∧ o < 0xa00 ∧ o % 16 < 8 then some (o / 16 * 16, 2)
  else if 0x2000 ≤ o ∧ o < 0x3000 ∧ o % 0x100 < 8 then some (o / 0x100 * 0x100, 2)
  else if 0x010000 ≤ o ∧ o < 0x020000 ∧ 0x008 ≤ o % 0x800 ∧ o % 0x800 < 0x060 then some (o / 8 * 8, 2)
  else if 0x020000 ≤ o ∧ o < 0x02000c then some (0x020000, 3)
  else if 0x020010 ≤ o ∧ o < 0x02001c then some (0x020010, 3)
  else if 0x020020 ≤ o ∧ o < 0x020028 then some (0x020020, 2)
  else if 0x020030 ≤ o ∧ o < 0x020038 then some (0x020030, 2)
  else if 0x040000 ≤ o ∧ o < 0x080000 ∧ 8 ≤ o % 32 ∧ o % 32 < 16 then some (o / 8 * 8, 2)
  else if 0x300000 ≤ o ∧ o < 0x400000 then (s.acqField (o - 0x300000)).map (fun f => (f + 0x300000, 2))
  else none

/-- A freeze lasts 1 µs (R476). -/
def State.freezeHolds (s : State) (x : Frozen) : Bool := decide (s.clock < x.at_ + ((1000 * 2 ^ 32 : Nat) : Int))

/-- A word of a frozen field read: once each of them has been, the freeze of the field ends (R476). -/
def frozenRead (l : List Frozen) (x : Frozen) : List Frozen :=
  let l := l.map (fun y => if y.offset = x.offset then { y with read := true } else y)
  if l.all (fun y => y.field != x.field || y.read) then l.filter (fun y => y.field != x.field) else l

/-- A word read (R476): the lowest word of a field freezes the others, and a frozen word is returned. -/
def State.barRead (s : State) (o : Nat) : State × Nat :=
  match s.barField o with
  | none => (s, s.barWord o)
  | some (f, n) =>
    if o = f then
      let fr : List Frozen := (upto (n - 1)).map (fun j => ⟨f + 4 + 4 * j, s.barWord (f + 4 + 4 * j), f, false, s.clock⟩)
      (s.modHost (fun h => { h with frozen := fr ++ h.frozen.filter (fun x => x.field != f) }), s.barWord o)
    else match s.host.frozen.find? (fun x => x.offset == o && s.freezeHolds x) with
      | none => (s, s.barWord o)
      | some x => (s.modHost (fun h => { h with frozen := frozenRead h.frozen x }), x.value)

/-- `n` words read in ascending offset. -/
def State.barReads (s : State) (o : Nat) : Nat → State × Bytes
  | 0 => (s, [])
  | n + 1 =>
    let (s1, v) := s.barRead o
    let (s2, b) := s1.barReads (o + 4) n
    (s2, leBytes 4 v ++ b)

/-- A read of the word that holds a BAR0 offset, or of an aligned 64-bit field whole (R475, R476). -/
def execBar0ReadFreeze (offset : BitVec 22) (wide : Bool) (s : State) : Host.Outcome State Fault Refusal :=
  let o := offset.toNat / 4 * 4
  let (s, v) := s.barRead o
  let s := s.emit (.bar0 o v)
  if wide && o % 8 == 0 then
    let (s, v) := s.barRead (o + 4)
    .next (s.emit (.bar0 (o + 4) v))
  else .next s

/-- 1 µs after a freeze of the field of a word, its words are released. -/
def execFreezeExpiry (offset : BitVec 22) (s : State) : Host.Outcome State Fault Refusal :=
  match s.barField (offset.toNat / 4 * 4) with
  | some (f, _) => .next (s.modHost (fun h => { h with frozen := h.frozen.filter (fun x => x.field != f || s.freezeHolds x) }))
  | none => .next s

/-! ### Writes of BAR0 -/

/-- A word of an MSI-X entry written; unmasking issues a pending message. -/
def State.msixWrite (s : State) (o v : Nat) : State :=
  if s.pw.hostSel then s
  else
    let e := (o - 0x800) / 16
    (s.modHost (fun h => { h with msix := h.msix.setIfInBounds e (
      let m := at' h.msix e
      match o % 16 / 4 with
      | 0 => { m with addr := m.addr / 2 ^ 32 * 2 ^ 32 + v }
      | 1 => { m with addr := m.addr % 2 ^ 32 + v * 2 ^ 32 }
      | 2 => { m with data := v }
      | _ => { m with masked := v.testBit 0 }) })).msixPending

/-- A word of a ring's controls written (Table HE-10, R477, R487). -/
def State.ringWordWrite (s : State) (n o v : Nat) : State :=
  match o with
  | 0x00 => if (s.ring n).enabled || s.pw.hostSel then s else s.modRing n (fun g => { g with base := g.base / 2 ^ 32 * 2 ^ 32 + v })
  | 0x04 => if (s.ring n).enabled || s.pw.hostSel then s else s.modRing n (fun g => { g with base := g.base % 2 ^ 32 + v * 2 ^ 32 })
  | 0x08 => s.ringCtrl n v
  | 0x0c => s.modRing n (fun g => { g with sourceFilter := Sys2Proof.clrBit v 0 })
  | 0x10 => s.modRing n (fun g => { g with axisFilter := v })
  | 0x14 => if 1 ≤ v ∧ v ≤ 65536 then (s.modRing n (fun g => { g with modCount := v })).ringCheck n else s
  | 0x18 => if v ≤ 1000000 then (s.modRing n (fun g => { g with modTime := v })).ringCheck n else s
  | 0x24 => s.consumerWrite n v
  | 0x2c => s.modRing n (fun g => { g with status := clrMask g.status (v &&& 0xe) })
  | _ => s

/-- A 32-bit word written at an aligned BAR0 offset: what is read-only, reserved or out of its field's range is ignored (R5,
R474, R477, R482). -/
def State.barWrite (s : State) (o v : Nat) (macOk : Bool) (vd : Verdict) : State :=
  let busy := s.host.mbxStatus.testBit 0
  let rejected := s.modHost (fun h => { h with mbxStatus := orBit h.mbxStatus 2 })
  if 0x800 ≤ o ∧ o < 0xa00 then s.msixWrite o v
  else if 0x1100 ≤ o ∧ o < 0x1600 then
    if busy then rejected
    else s.modHost (fun h => { h with mbxRequest := h.mbxRequest.writeAll (o - 0x1100) (leBytes 4 v) })
  else if 0x2000 ≤ o ∧ o < 0x3000 then s.ringWordWrite ((o - 0x2000) / 0x100) (o % 0x100) v
  else match o with
    | 0x000020 =>
      let s := if v.testBit 0 then s.mbxSubmit macOk vd else s
      if v.testBit 1 then s.flush else s
    | 0x000024 => s.modHost (fun h => { h with irqStatus := clrMask h.irqStatus v })
    | 0x000028 => s.modHost (fun h => { h with irqEnable := v &&& 0x1ffff })
    | 0x00002c => s.modHost (fun h => { h with scratch := v })
    | 0x001000 => s.modHost (fun h => { h with mbxStatus := clrMask h.mbxStatus (v &&& 0xe) })
    | 0x001004 =>
      if busy then rejected
      else if 28 ≤ v ∧ v ≤ 1068 then s.modHost (fun h => { h with mbxReqLength := v })
      else s
    | 0x00100c => s.modHost (fun h => { h with mbxVector := v &&& 0x11f })
    | _ => s

/-- Words written in ascending offset. -/
def State.barWrites (s : State) (o : Nat) (macOk : Bool) (vd : Verdict) : List Nat → State
  | [] => s
  | v :: t => (s.barWrite o v macOk vd).barWrites (o + 4) macOk vd t

/-- The 32-bit words of bytes. -/
def wordsOf (n : Nat) (b : Bytes) : List Nat := (upto n).map (fun i => leAt b (4 * i) 4)

/-- A write of bytes at a BAR0 offset; anything but one whole aligned 32-bit or 64-bit word is ignored (R477). -/
def execBar0Write (offset : BitVec 22) (b : Bytes) (macOk : Bool) (vd : Verdict) (s : State) : Host.Outcome State Fault Refusal :=
  let o := offset.toNat
  if (b.length = 4 ∧ o % 4 = 0) ∨ (b.length = 8 ∧ o % 8 = 0) then .next (s.barWrites o macOk vd (wordsOf (b.length / 4) b))
  else .next s

/-! ### The PCIe link -/

/-- Assertion of PCIE_PERST_N, or a Function Level Reset (R472). -/
def State.perst (s : State) (flr : Bool) : State :=
  if s.pw.hostSel then s
  else
    let s := (each (upto 16) s State.ringDisable).mbxDiscard
    s.modHost (fun h => { h with
      perst := h.perst || !flr
      busMaster := false
      cfg := {}
      msix := Vector.replicate 32 {}
      pba := 0
      scratch := 0 })

def execPciePerst (flr : Bool) (s : State) : Host.Outcome State Fault Refusal := .next (s.perst flr)

/-- PCIE_PERST_N is released (R473). -/
def execPciePerstNRelease (s : State) : Host.Outcome State Fault Refusal :=
  .next (if s.pw.hostSel then s else s.modHost (fun h => { h with perst := false, wakeN := false }))

/-- The link goes down, or bus mastering is disabled (R51). -/
def State.linkDown (s : State) (link : Bool) : State :=
  if s.pw.hostSel then s
  else if !link then s.modHost (fun h => { h with busMaster := false })
  else if !s.host.linkUp then s
  else ((s.modHost (fun h => { h with linkUp := false })).wr HOST_LINK_STATE 0).bump HOST_LINK_DOWNS

def execPcieLinkDown (link : Bool) (s : State) : Host.Outcome State Fault Refusal := .next (s.linkDown link)

/-- Link and bus mastering return (R51), at 5.0 or 2.5 GT/s, with the configuration that software has written; with PCIE_PERST_N asserted
no link comes up. -/
def State.linkRestored (s : State) (x : LinkIn) : State :=
  if s.pw.hostSel || s.host.perst then s
  else
    let again := s.pcieWrites
    let s := (s.modHost (fun h => { h with linkUp := true, busMaster := true, cfg := x.cfg })).wr HOST_LINK_STATE (if x.gen2 then 2 else 1)
    if again || !s.pcieWrites then s.msixPending
    else (s.record 16 1 0 0 (pay 16 (s.rd HOST_STAGING_DROPS) + pay 20 (s.rd HOST_FAULT_DROPS))).msixPending

def execPcieLinkRestored (x : LinkIn) (s : State) : Host.Outcome State Fault Refusal := .next (s.linkRestored x)

end Sys2Proof.Machine
end

