-- ==== Sys2Proof/Machine/Target.lean ====
section
/-! DEFINITION. Serial ports as targets (R525 to R532): the transfer of Table SP-3, its serve byte, and its errors. -/
namespace Sys2Proof.Machine
open Obj

/-- The serve byte (Table SP-4): READY, ERR, EVT, SEQ. -/
def State.serveByte (s : State) (p : Nat) : Nat :=
  let x := s.spt p
  128 * b2n x.fetch.isNone + 64 * b2n x.err + 32 * b2n s.irqN + x.seq % 32

/-- What a transfer amounts to once its bytes are known. -/
inductive TKind where
  /-- Released early or inside a byte of its expected part. -/
  | framing
  | cmdError
  /-- READ_DATA that has nothing to return (R531). -/
  | nothing
  /-- Its expected part has arrived: the count of expected bytes. -/
  | taken (expected : Nat)
  deriving DecidableEq, Repr, Inhabited

/-- Offset of a WRITE or READ_REQ, most significant byte first. -/
def targetOffset (b : Bytes) : Nat := leAt b 1 1 * 65536 + leAt b 2 1 * 256 + leAt b 3 1

/-- A transfer of the bytes `b`, `inside` when its release falls inside a further byte (R527 to R531). -/
def State.targetKind (s : State) (p : Nat) (b : Bytes) : TKind :=
  let x := s.spt p
  let n := leAt b 4 1
  let whole (e : Nat) : TKind := if b.length < e then .framing else .taken e
  if b.length = 0 then .framing
  else match leAt b 0 1 with
    | 0 => .taken 1
    | 3 =>
      match x.data with
      | none => .nothing
      | some d => if x.fetch.isSome then .nothing else whole (1 + d.length)
    | 1 =>
      if !s.hostPort p || x.fetch.isSome then .cmdError
      else if b.length < 5 then .framing
      else if targetOffset b % 4 ≠ 0 ∨ 0x400000 ≤ targetOffset b ∨ n = 0 ∨ 64 < n then .cmdError
      else whole (5 + 4 * n)
    | 2 =>
      if x.fetch.isSome then .cmdError
      else if b.length < 5 then .framing
      else if targetOffset b % 4 ≠ 0 ∨ 0x400000 ≤ targetOffset b ∨ n = 0 ∨ 64 < n then .cmdError
      else .taken 5
    | _ => .cmdError

/-- The effect of a transfer that is taken (R527). -/
def State.targetEffect (s : State) (p : Nat) (b : Bytes) (macOk : Bool) (vd : Verdict) : State :=
  let n := leAt b 4 1
  match leAt b 0 1 with
  | 1 => s.barWrites (targetOffset b) macOk vd (wordsOf n (b.drop 5))
  | 2 => s.modSp p (fun x => { x with fetch := some (targetOffset b, n), data := none })
  | _ => s

/-- The bytes that the device returns: the serve byte, then data of READ_DATA, else 0xFF. -/
def State.targetReturns (s : State) (p : Nat) (b : Bytes) (k : TKind) : Bytes :=
  let d := match k with
    | .taken _ => if leAt b 0 1 = 3 then (s.spt p).data.getD [] else []
    | _ => []
  (leBytes 1 (s.serveByte p) ++ d ++ List.replicate (b.length - 1 - d.length) 0xff).take b.length

/-- A target transfer: everything that was clocked while SS0_N was asserted (R525 to R531). -/
def State.target (s : State) (p : Nat) (b : Bytes) (inside : Bool) (macOk : Bool) (vd : Verdict) : State :=
  if s.spMode p ≠ 2 ∧ s.spMode p ≠ 3 then s
  else if s.spMode p = 3 ∧ s.rd (SP_MST_RESULT p) = 1 then s.modeFault p
  else
    let k := s.targetKind p b
    let s0 := s.emit (.miso p (s.targetReturns p b k))
    let cmd := leAt b 0 1
    let run (framing overrun err : Bool) (s : State) : State :=
      s.modSp p (fun x => { x with framingRun := framing, overrunRun := overrun, err := err })
    let framing : State :=
      let s1 := (s0.setBit (SP_PORT_STATUS p) 4).bump (SP_FRAMING_COUNT p)
      let s2 := if (s.spt p).framingRun then s1 else s1.record 12 2 0 p (pay 16 (b.length % 256) + pay 17 cmd)
      run true false true s2
    match k with
    | .framing => framing
    | .cmdError => run false false true (s0.setBit (SP_PORT_STATUS p) 6)
    | .nothing => run false false false s0
    | .taken e =>
      let extra := decide (e < b.length) || inside
      let count (s : State) : State :=
        if extra && inside then s
        else (s.bump (SP_TRANSFERS p)).modSp p (fun x => { x with seq := (x.seq + 1) % 32 })
      let s1 := count (s0.targetEffect p b macOk vd)
      if extra then
        let s2 := (s1.setBit (SP_PORT_STATUS p) 5).bump (SP_OVERRUN_COUNT p)
        let s3 := if (s.spt p).overrunRun then s2 else s2.record 12 3 0 p (pay 16 cmd)
        run false true true s3
      else run false false false s1

/-- The bytes clocked after the expected ones. -/
def extraBytes (n : BitVec 8) : Bytes := List.replicate n.toNat 0

/-- The header of a WRITE or READ_REQ (Table SP-3). -/
def targetHeader (code : Nat) (offset : BitVec 24) (n : BitVec 8) : Bytes :=
  leBytes 1 code ++ leBytes 1 (offset.toNat / 65536) ++ leBytes 1 (offset.toNat / 256) ++ leBytes 1 offset.toNat ++ leBytes 1 n.toNat

def noVerdict : Verdict := ⟨false, none, none, 0, 0, 0, .waiting⟩

def execTargetNop (p : Fin 2) (extra : BitVec 8) (inside : Bool) (s : State) : Host.Outcome State Fault Refusal :=
  .next (s.target p.val (leBytes 1 0 ++ extraBytes extra) inside false noVerdict)

/-- WRITE with its data bytes, `n` words long where the transfer is whole. -/
def execTargetWrite (p : Fin 2) (offset : BitVec 24) (n : BitVec 8) (data : Bytes) (inside macOk : Bool) (vd : Verdict) (s : State) :
    Host.Outcome State Fault Refusal := .next (s.target p.val (targetHeader 1 offset n ++ data) inside macOk vd)

def execReadReq (p : Fin 2) (offset : BitVec 24) (n : BitVec 8) (extra : BitVec 8) (inside : Bool) (s : State) :
    Host.Outcome State Fault Refusal := .next (s.target p.val (targetHeader 2 offset n ++ extraBytes extra) inside false noVerdict)

/-- READ_DATA that clocks `count` data bytes. -/
def execReadData (p : Fin 2) (count : Nat) (inside : Bool) (s : State) : Host.Outcome State Fault Refusal :=
  .next (s.target p.val (leBytes 1 3 ++ List.replicate count 0) inside false noVerdict)

/-- The fetch of a READ_REQ completes. -/
def execFetchComplete (p : Fin 2) (s : State) : Host.Outcome State Fault Refusal :=
  match (s.spt p.val).fetch with
  | none => .next s
  | some (o, n) =>
    let (s1, b) := s.barReads o n
    .next (s1.modSp p.val (fun x => { x with fetch := none, data := some b }))

/-- A transfer of whole bytes, and `inside` one more, whose release comes early. -/
def execFraming (p : Fin 2) (bytes : Bytes) (inside : Bool) (s : State) : Host.Outcome State Fault Refusal :=
  .next (s.target p.val bytes inside false noVerdict)

def execCmdError (p : Fin 2) (bytes : Bytes) (s : State) : Host.Outcome State Fault Refusal :=
  .next (s.target p.val bytes false false noVerdict)

end Sys2Proof.Machine
end

