-- ==== Sys2Proof/Machine/Boot.lean ====
section
/-! DEFINITION. Resets and boot (chapters 01, 10 and 16): what a reset keeps, the reset inputs and clocks, rail loss and STANDBY,
the always-on domain, boot and its failure, the physical release. -/
namespace Sys2Proof.Machine
open Obj

/-! ### What a reset keeps (R590) -/

/-- Objects of the always-on domain. -/
def aonObject (k : Nat) : Bool :=
  [DEV_RESET_CAUSE, DEV_RESET_COUNT, RAIL_STATUS, RAIL_BROWNOUTS, CLKS_CLOCK_STATUS, CLKS_XT32_RATE, CLKS_AON_TIME,
    STBY_VSTBY_VOLTAGE, STBY_VSTBY_CURRENT, STBY_LAST_WAKE, STBY_STANDBY_ENTRIES, STBY_LAST_STANDBY_TIME].contains k ||
  (decide (MAINS_STATE ≤ k) && decide (k ≤ MAINS_LAST_MAINS_LOSS)) ||
  (decide (TRK_TRACK_COUNT 0 ≤ k) && decide (k ≤ TRK_TRACK_LOST))

/-- Objects whose values stand in MRAM without a STORE. -/
def mramObject (k : Nat) : Bool :=
  [OWN_CLAIM_STATE, OWN_OWNER_COUNTER, FW_ACTIVE_SLOT, FW_NEXT_SLOT, FW_SLOT_A_VERSION, FW_SLOT_B_VERSION, FW_SLOT_A_STATE,
    FW_SLOT_B_STATE, FW_ROLLBACK_LEVEL, FW_BOOT_FAILS, AUD_AUDIT_COUNT, CAL_SOURCE, CAL_WRITES, TW_PAIR_ID, TW_PARTNER_SERIAL,
    TW_BOOT_EPOCH].contains k ||
  (decide (NV_WORD_WRITES 0 ≤ k) && decide (k ≤ NV_WEAR_WARN))

/-- Settings of the mains section and of VSTBY_5V, in force whatever the control rails do (R581, R583). -/
def aonSetting (k : Nat) : Bool := k / 256 == 0x2003 || k == STBY_VSTBY_ENABLE

/-- A pairing that waits is bound (R565). -/
def State.bindPairing (s : State) : State :=
  match s.sec.pairNext with
  | none => s
  | some x =>
    let s := s.modSec (fun e => { e with pairNext := none })
    match x with
    | none => (s.wr TW_PAIR_ID 0).wr TW_PARTNER_SERIAL 0
    | some (id, partner) => (s.wr TW_PAIR_ID id).wr TW_PARTNER_SERIAL partner

/-- A feedback port after a reset: nothing but its land levels, which the tracker has followed while it ran. -/
def PortSt.afterReset (q : PortSt) (k : Option TrackSt) : PortSt :=
  match k with
  | some k => if k.on then { lvl := (q.lvl.setIfInBounds 0 k.a).setIfInBounds 1 k.b } else { lvl := q.lvl }
  | none => { lvl := q.lvl }

/-- The supplies and the always-on domain after a reset: a warm one leaves the PLLs as they are (R590). -/
def Power.afterReset (p : Power) (cold : Bool) (cause : Nat) (locked : Bool) (free : Int) : Power :=
  { p with
    held := true
    aonPast := p.aonPast + free
    xtAt := if cold then p.aonPast + free + ((1000 * 2 ^ 32 * p.aonUs : Nat) : Int) else p.xtAt
    lossDue := false
    cause := cause
    strapDue := p.strapDue || cold
    bootWait := false
    stbyPrep := false
    swReset := false
    sysPllLost := p.sysPllLost && !cold
    timePllLost := p.timePllLost && !cold
    ethPllLost := p.ethPllLost && !cold
    holdTimeout := p.holdTimeout && !cold
    bootFailed := p.bootFailed && !([0, 1, 8].contains cause)
    slotFails := if [0, 1, 8].contains cause then 0 else p.slotFails
    lockKept := !cold && locked }

/-- The enclave after a reset: MRAM stands; sessions have closed. -/
def Secure.afterReset (e : Secure) (powerOn : Bool) (free : Int) : Secure :=
  { e with
    nonce := none
    trngFailed := false
    booted := false
    hellos := []
    windowOpen := powerOn || e.windowOpen
    windowEnd := if powerOn then ((1800 * secU : Nat) : Int) else e.windowEnd - free
    debugEnd := 0 }

/-- A reset with its scope and cause (R589, R590); the internal reset is asserted. `powerOn` marks the power-on resets, which
open the claim window (R407). -/
def State.resetDevice (s : State) (cold : Bool) (cause : Nat) (powerOn : Bool) : State :=
  let locked := s.dev == .locked || s.pw.lockKept
  let s := if s.pw.railsUp && s.dev != .standby then s.trackStart else s
  let s := s.closeAll.debugClose.bindPairing
  let s := s.wr FW_ACTIVE_SLOT (s.rd FW_NEXT_SLOT)
  let causes := if cold then s.rd TAMP_TAMPER_CAUSES &&& 8 else s.rd TAMP_TAMPER_CAUSES
  let fresh : State := {
    regs := s.regs.filter (fun (e : Nat × Nat) => aonObject e.1 || mramObject e.1)
    force := s.force.filter (fun (e : Nat × Nat) => aonSetting e.1)
    pw := s.pw.afterReset cold cause locked s.time.free.units
    sec := s.sec.afterReset powerOn s.time.free.units
    dict := {
      stored := s.dict.stored
      restoreMark := s.dict.restoreMark
      calInForce := s.dict.calInForce
      calSlot := s.dict.calSlot }
    host := { perst := s.host.perst, wakeN := s.host.wakeN }
    port := s.port.mapIdx (fun i q => q.afterReset s.track[i]?)
    track := s.track
    field := { s.field with since := s.field.since - s.time.free.units, first := 0, shortAt := Vector.replicate 8 (-1), overAt := -1, setAt := -1 }
    twin := { keepers := s.twin.keepers, fencedAt := s.twin.fencedAt - s.time.free.units }
    out := s.out
    pending := s.pending }
  (fresh.wr TAMP_TAMPER_CAUSES causes).wr CLKS_CLOCK_STATUS (s.rd CLKS_CLOCK_STATUS &&& 0x70)

/-- The extension of the internal reset: 1 ms from now at the least (R573, Table PS-3 rows 5 and 6). -/
def State.extendReset (s : State) : State :=
  s.modPw (fun p => { p with releaseAt := s.aonClock + ((1000000 * 2 ^ 32 : Nat) : Int) })

/-- Nothing keeps the device in reset, and the reset's extension has ended. -/
def State.mayRelease (s : State) : Bool :=
  !s.pw.porstLow && !s.pw.warmLow && !s.pw.refAbsent && !s.pw.sysPllLost && s.pw.railsUp && s.dev != .standby &&
  decide (s.pw.releaseAt ≤ s.aonClock)

/-- The internal reset is released and boot begins; after a cold reset the straps are sampled in that clock (R615). -/
def State.releaseReset (s : State) (hostSel twinRole : Bool) : State :=
  if s.pw.held && s.mayRelease then
    s.modPw (fun p => { p with
      held := false
      holdTimeout := false
      hostSel := if p.strapDue then hostSel else p.hostSel
      twinRole := if p.strapDue then twinRole else p.twinRole
      strapDue := false })
  else s

/-- The reset ends with the straps as they were sampled; while a cold reset still has to sample them, it waits for that (R615). -/
def State.releaseWarm (s : State) : State := if s.pw.strapDue then s else s.releaseReset s.pw.hostSel s.pw.twinRole

/-- A warm reset from which boot goes on at once. -/
def State.warmReset (s : State) (cause : Nat) : State := (s.resetDevice false cause false).releaseWarm

/-! ### Reset inputs and clocks -/

/-- The V24 monitor starts anew: V24_OK is 0, and its 10 ms begin (R378). -/
def State.v24Restart (s : State) : State :=
  let now := s.clock
  (s.clrBit FIELD_STATUS 0).modField (fun f => { f with since := now, first := 0 })

/-- STANDBY is left for BOOT with cause STANDBY_WAKE (Table AR-9, R597). -/
def State.leaveStandby (s : State) : State :=
  if s.dev = .standby ∧ s.pw.railsUp ∧ !s.pw.porstLow then
    let s := s.wr STBY_LAST_STANDBY_TIME (s.pw.standbyUs / 1000000 % 2 ^ 32)
    let s := (s.resetDevice true 1 true).v24Restart
    s.modHost (fun h => { h with wakeN := h.perst })
  else s

/-- PORST_N is released (R46, R573, R597): a cold reset, unless one for a lost rail stands already. -/
def State.porstRelease (s : State) : State :=
  let s := s.modPw (fun p => { p with porstLow := false, warmLow := false, porstAt := s.aonClock })
  let s := if s.dev = .standby then s.extendReset.leaveStandby
    else if s.pw.held ∧ s.pw.cause = 8 then s.extendReset
    else s.resetDevice true 0 true
  s.v24Restart

def execPorstNRelease (s : State) : Host.Outcome State Fault Refusal := .next s.porstRelease

/-- The end of every extension of the reset, with the levels of the straps (R615). -/
def execInternalResetRelease (hostSel twinRole : Bool) (s : State) : Host.Outcome State Fault Refusal :=
  .next (s.leaveStandby.releaseReset hostSel twinRole)

/-- 100 ms after the release of PORST_N a rail is still not up (Table PS-3, row 6). -/
def execResetHoldTimeout (s : State) : Host.Outcome State Fault Refusal :=
  .next (if !s.pw.porstLow && s.pw.held && !s.pw.railsUp && decide (s.pw.porstAt + ((100000000 * 2 ^ 32 : Nat) : Int) ≤ s.aonClock)
    then s.modPw (fun p => { p with holdTimeout := true }) else s)

/-- WARMRST_N low for 1 µs, or high again (R591). -/
def State.warmPin (s : State) (low : Bool) : State :=
  if s.dev = .standby ∨ s.pw.porstLow then s
  else if low then (s.resetDevice false 2 false).modPw (fun p => { p with warmLow := true })
  else (s.modPw (fun p => { p with warmLow := false })).releaseWarm

def execWarmrstN (low : Bool) (s : State) : Host.Outcome State Fault Refusal := .next (s.warmPin low)

/-- 1 ms after RESET_REQUEST (R592). -/
def execSoftwareReset (s : State) : Host.Outcome State Fault Refusal := 
  .next (if s.pw.swReset && decide (s.pw.swAt + ((1000000 * 2 ^ 32 : Nat) : Int) ≤ s.clock) then s.warmReset 3 else s)

/-- 1 ms after a twin unit entered FENCED (R550). -/
def execFenceReset (s : State) : Host.Outcome State Fault Refusal := .next (if s.twState = twFenced ∧ s.twin.fencedAt + ((1000000 * 2 ^ 32 : Nat) : Int) ≤ s.clock then s.warmReset 6 else s)

/-- REF25_IN has no edge for 200 ns (R585, Table AR-7). -/
def execRef25InAbsent (s : State) : Host.Outcome State Fault Refusal :=
  .next (if s.dev = .standby ∨ !s.pw.railsUp then s
    else (s.fenceAll.resetDevice true 4 false).modPw (fun p => { p with refAbsent := true }))

/-- REF25_IN is back: the reset that it held is released, with the levels of the straps. -/
def execRef25InReturn (hostSel twinRole : Bool) (s : State) : Host.Outcome State Fault Refusal :=
  .next (if s.pw.refAbsent then (s.modPw (fun p => { p with refAbsent := false })).releaseReset hostSel twinRole else s)

/-- SYS_PLL loses lock: legs fenced in hardware (Table AR-7), and BOOT waits for the relock, in a reset that is held too. It does not
run in STANDBY, before the rails and PORST_N (R34, Table AR-10), and without its reference. -/
def execSysPllLoss (s : State) : Host.Outcome State Fault Refusal :=
  .next (if s.dev = .standby ∨ s.pw.porstLow ∨ s.pw.refAbsent ∨ !s.pw.railsUp then s
    else (s.fenceAll.clrBit CLKS_CLOCK_STATUS 1).modPw (fun p => { p with sysPllLost := true }))

/-- SYS_PLL relocks: the warm reset and BOOT follow. -/
def execSysPllRelock (s : State) : Host.Outcome State Fault Refusal := .next (if s.pw.sysPllLost then (s.modPw (fun p => { p with sysPllLost := false })).warmReset 5 else s)

/-! ### Rails, STANDBY and the always-on domain -/

/-- A violation of Table PS-3 that the always-on domain sees is kept for the next boot (R571). -/
def State.violation (s : State) (row : Nat) : State :=
  if s.pw.aonUp && [1, 2, 3, 4, 7, 8, 9].contains row then s.modPw (fun p => { p with seqRows := p.seqRows ++ [row] }) else s

/-- The violation of rows 1 to 4 of Table PS-3 that comes with an event of a rail. -/
def State.rowSeen (s : State) (row : Option (Fin 10)) : State :=
  match row with
  | some r => if r.val ≤ 4 then s.violation r.val else s
  | none => s

/-- The row of Table PS-3 that a falling rail violates (0 none): the rails fall in the reverse order of their rise (R570). -/
def Power.fallRow (p : Power) (rail : Nat) : Nat :=
  let v33 := at' p.railUp 3 || at' p.railUp 4
  match rail with
  | 0 | 1 => if at' p.railUp 2 || v33 then 7 else 0
  | 2 => if v33 then 8 else 0
  | 4 => if at' p.railUp 3 then 0 else 9
  | _ => 0

/-- The object of a rail's voltage. -/
def railVolts (rail : Nat) : Nat := RAIL_V_CORE + rail

/-- A rail is lost (R568, R573): the reset is held until every rail is up and PORST_N released. A voltage at or above the falling
threshold is no loss. -/
def State.railLoss (s : State) (rail : Fin 5) (volts : Nat) (row : Option (Fin 10)) : State :=
  if !(at' s.pw.railUp rail.val && railBelow rail.val volts) then (s.wr (railVolts rail.val) volts).rowSeen row
  else
    let s := if s.dev = .standby ∨ !s.pw.railsUp then s else s.fenceAll.resetDevice true 8 true
    let s := s.violation (s.pw.fallRow rail.val)
    let s := s.modPw (fun p => { p with
      railUp := p.railUp.setIfInBounds rail.val false
      railStable := p.railStable.setIfInBounds rail.val false
      porstLow := true })
    let s := if rail = 0 then s.keeperRelease none else s
    (s.wr (railVolts rail.val) volts).rowSeen row

def execRailLoss (rail : Fin 5) (volts : BitVec 32) (row : Option (Fin 10)) (s : State) : Host.Outcome State Fault Refusal :=
  .next (s.railLoss rail volts.toNat row)

/-- A rail rises above its rising threshold (R568, R569): the clamp and the loss of that rail end; with the last one the extension of the
reset begins. -/
def State.railRise (s : State) (rail : Fin 5) (volts : Nat) (row : Option (Fin 10)) : State :=
  let s := (s.wr (railVolts rail.val) volts).rowSeen row
  if !railAbove rail.val volts then s
  else
    let wasUp := s.pw.railsUp
    let s := s.modPw (fun p => { p with
      railUp := p.railUp.setIfInBounds rail.val true
      railStable := p.railStable.setIfInBounds rail.val (railWithin rail.val volts)
      coreLow := p.coreLow && rail != 0
      ioLow := p.ioLow && rail != 3 })
    let s := if !wasUp && s.pw.railsUp then s.extendReset else s
    s.doRefresh

def execControlRailUp (rail : Fin 5) (volts : BitVec 32) (row : Option (Fin 10)) (s : State) : Host.Outcome State Fault Refusal :=
  .next (s.railRise rail volts.toNat row)

/-- The end of the span of a rail loss, HV supplying the always-on domain (R594). -/
def execStandbyEntry (s : State) : Host.Outcome State Fault Refusal :=
  .next (if s.pw.hv && s.pw.aonUp && !s.pw.railsUp && s.dev != .standby then
      let s := ((s.wr DEV_DEVICE_STATE Dev.standby.code).bump STBY_STANDBY_ENTRIES).wr STBY_LAST_WAKE 0
      s.modPw (fun p => { p with
        entryCount := Vector.ofFn (fun i => toS 32 (s.rd (TRK_TRACK_COUNT i.val)))
        standbyUs := 0 })
    else s)

/-- The always-on domain is reset: its objects, its settings and what it watched are gone. -/
def State.aonReset (s : State) (up hv crystal : Bool) : State :=
  let s := { s with
    regs := s.regs.filter (fun (e : Nat × Nat) => !aonObject e.1)
    track := Vector.replicate 4 {} }
  let s := s.modPw (fun p => { p with
    aonUp := up, aonLost := true, hv := hv, cause := 0, wakeOut := up, wakeCfg := [], wakePort := 0, seqRows := [],
    crystalRec := false, vLast := [], eLast := [], sinceCross := 0, halfPeriods := [], belowRun := 0, aboveRun := 0,
    samples := 0, lossSpan := none, backSpan := none, lostAt := 0, lossDue := false, vstbyOff := false, standbyUs := 0,
    aonAt := s.aonClock, xtAt := s.aonClock })
  let s := (s.putBit RAIL_STATUS 6 hv).putBit MAINS_HV_STATUS 0 hv
  (s.putBit CLKS_CLOCK_STATUS 4 crystal).vstbyRefresh

/-- VAON falls below 1.55 V (R574); a device in STANDBY has nothing left that runs. -/
def execVaonLoss (s : State) : Host.Outcome State Fault Refusal :=
  let standby := s.dev == .standby
  let s := s.aonReset false false false
  .next (if standby then s.wr DEV_DEVICE_STATE 0 else s)

/-- The always-on domain starts from reset (R576, R581, R596): MAINS_STATE ABSENT, WAKE_OUT asserted. -/
def execAlwaysOnDomainStart (hv crystal : Bool) (s : State) : Host.Outcome State Fault Refusal := .next (s.aonReset true hv crystal)

/-! ### Boot -/

/-- A boot runs: out of reset, in BOOT with SYS_PLL and TIME_PLL in lock (Table AR-10), before its step 6. -/
def State.booting (s : State) : Bool :=
  s.dev == .boot && !s.pw.held && !s.pw.bootWait && !s.pw.sysPllLost && !s.pw.timePllLost && decide (s.pw.slotFails < 2)

/-- Boot steps 2 to 5 (Table AR-10): clocks; restore, calibration, commit, tracked positions; the twin check begins. `reporting`
are the tamper causes that sensors report. -/
def State.bootSteps (s : State) (reporting : Nat) (storedOk calOk : Bool) : State :=
  let s := (s.wr DEV_RESET_CAUSE s.pw.cause).bump DEV_RESET_COUNT
  let s := (s.bump TW_BOOT_EPOCH).drawNonce
  let s := ((s.setBit CLKS_CLOCK_STATUS 0).setBit CLKS_CLOCK_STATUS 1).setBit CLKS_CLOCK_STATUS 2
  let s := ((s.calBoot calOk).restore storedOk).bootCommit
  let s := s.putBit CLKS_CLOCK_STATUS 3 (!s.pw.ethPllLost && s.cf NET_PORT_ENABLE &&& 6 != 0)
  let s := each (upto 16) s (fun s g => s.carrierStart g)
  let s := each (upto 4) s (fun s p => s.putBit TRK_TRACK_LOST p (s.tracked p && (s.bitOf TRK_TRACK_LOST p || s.pw.aonLost)))
  let s := s.trackRestore
  let s := each [Tamper.voltage, .clock, .temperature, .identity, .integrity] s (fun s t =>
    if reporting.testBit (tamperBit t) && !s.bitOf TAMP_TAMPER_CAUSES (tamperBit t) then
      ((s.setBit TAMP_TAMPER_CAUSES (tamperBit t)).bump TAMP_TAMPER_COUNT).audit 0x10 0 0 0
    else s)
  let s := s.modPw (fun p => { p with bootWait := true, lockKept := p.lockKept || reporting % 32 != 0 })
  s.twinStart

/-- Boot completes: step 6 follows at once, or on a twin unit when its check has ended (R564). A slot that the ROM refuses runs
nothing, so its boot does not complete (R430). -/
def execBootComplete (reporting : BitVec 5) (storedOk calOk : Bool) (s : State) : Host.Outcome State Fault Refusal :=
  .next (if s.booting && !s.slotRefused then
      let s := s.bootSteps reporting.toNat storedOk calOk
      if s.twState = twCheck then s else s.bootFinish
    else s)

/-- A boot fails (R430), where the slot is refused or 1 s has passed without PRE-OPERATIONAL: at the third failure of a slot the other
one is next; with both failed three times the device stays in BOOT. -/
def State.bootFailure (s : State) : State :=
  if !s.booting || !(s.slotRefused || decide ((secU : Int) ≤ s.clock)) then s
  else
    let s := (s.bump FW_BOOT_FAILS).wear 5 1
    let s := s.modPw (fun p => { p with bootFailed := true })
    let s := if s.rd FW_BOOT_FAILS < 3 then s
      else
        let s := (s.wr FW_NEXT_SLOT (1 - s.rd FW_NEXT_SLOT)).wr FW_BOOT_FAILS 0
        (s.modPw (fun p => { p with slotFails := p.slotFails + 1 })).audit 0x0c 0 0 0
    if s.pw.slotFails < 2 then s.warmReset 7 else s

def execBootFailure (s : State) : Host.Outcome State Fault Refusal := .next s.bootFailure

/-- The release strap has been held for 10 s (R409). -/
def State.physicalRelease (s : State) : State :=
  if !s.booting then s
  else
    let s := s.modSec (fun e => { e with ownerKey := none, revoked := [], keys := [], sealedStore := [], pairNext := none })
    let s := ((s.wr OWN_CLAIM_STATE 0).wr TW_PAIR_ID 0).wr TW_PARTNER_SERIAL 0
    let s := s.modDict (fun d => { d with stored := none, restoreMark := false })
    s.audit 0x03 0 0 0

def execPhysicalRelease (s : State) : Host.Outcome State Fault Refusal := .next s.physicalRelease

end Sys2Proof.Machine
end

