-- ==== Sys2Proof/Machine/Dispatch.lean ====
section
/-! DEFINITION. One arm per command: its meaning, called directly. -/
namespace Sys2Proof.Machine

/-- The effect of a command on everything but the queue. -/
def exec (i : Instr) (s : State) : Host.Outcome State Fault Refusal :=
  match i with
  | .porstNRelease => Sys2Proof.Machine.execPorstNRelease s
  | .bootComplete reporting storedOk calOk => Sys2Proof.Machine.execBootComplete reporting storedOk calOk s
  | .bootFailure => Sys2Proof.Machine.execBootFailure s
  | .ref25InAbsent => Sys2Proof.Machine.execRef25InAbsent s
  | .sysPllLoss => Sys2Proof.Machine.execSysPllLoss s
  | .timePllLoss => Sys2Proof.Machine.execTimePllLoss s
  | .timePllRelock => Sys2Proof.Machine.execTimePllRelock s
  | .ethPllLoss => Sys2Proof.Machine.execEthPllLoss s
  | .tamperReport t => Sys2Proof.Machine.execTamperReport t s
  | .deviceStart w => Sys2Proof.Machine.execDeviceStart w s
  | .deviceStop w => Sys2Proof.Machine.execDeviceStop w s
  | .deviceResetSafe w => Sys2Proof.Machine.execDeviceResetSafe w s
  | .scheduleSlewEnd => Sys2Proof.Machine.execScheduleSlewEnd s
  | .frameReceive p bytes fcsOk icv stampLost off => Sys2Proof.Machine.execFrameReceive p bytes fcsOk icv stampLost off s
  | .frameTransmit p off => Sys2Proof.Machine.execFrameTransmit p off s
  | .addressAgeing mac => Sys2Proof.Machine.execAddressAgeing mac s
  | .ptpSyncReceive d m => Sys2Proof.Machine.execPtpSyncReceive d m s
  | .domainAbsent d => Sys2Proof.Machine.execDomainAbsent d s
  | .requalifyTimeExpiry d => Sys2Proof.Machine.execRequalifyTimeExpiry d s
  | .domainRevert d => Sys2Proof.Machine.execDomainRevert d s
  | .selectRequest w => Sys2Proof.Machine.execSelectRequest w s
  | .tuIncrement v => Sys2Proof.Machine.execTuIncrement v s
  | .tuOffsetAdd v => Sys2Proof.Machine.execTuOffsetAdd v s
  | .offsetAddApply => Sys2Proof.Machine.execOffsetAddApply s
  | .lineTimeSlewEnd => Sys2Proof.Machine.execLineTimeSlewEnd s
  | .ppsInEdge off => Sys2Proof.Machine.execPpsInEdge off s
  | .todSeconds w => Sys2Proof.Machine.execTodSeconds w s
  | .ppsOutPulse rise => Sys2Proof.Machine.execPpsOutPulse rise s
  | .lineTimeAlarm a => Sys2Proof.Machine.execLineTimeAlarm a s
  | .alarmEnable w => Sys2Proof.Machine.execAlarmEnable w s
  | .echoOrArpRequest p bytes => Sys2Proof.Machine.execEchoOrArpRequest p bytes s
  | .quinupRead d => Sys2Proof.Machine.execQuinupRead d s
  | .quinupWrite d => Sys2Proof.Machine.execQuinupWrite d s
  | .quinupReadSegment d => Sys2Proof.Machine.execQuinupReadSegment d s
  | .quinupWriteSegment d => Sys2Proof.Machine.execQuinupWriteSegment d s
  | .quinupSession d => Sys2Proof.Machine.execQuinupSession d s
  | .passFrameReceive port p len macOk stampLost off => Sys2Proof.Machine.execPassFrameReceive port p len macOk stampLost off s
  | .quadTransition p isB l off => Sys2Proof.Machine.execQuadTransition p isB l off s
  | .ssiTransfer p w clock => Sys2Proof.Machine.execSsiTransfer p w clock s
  | .hybridReference p w clock => Sys2Proof.Machine.execHybridReference p w clock s
  | .hybridCheck p w clock => Sys2Proof.Machine.execHybridCheck p w clock s
  | .sincosConversion p c => Sys2Proof.Machine.execSincosConversion p c s
  | .indexEvent p l off => Sys2Proof.Machine.execIndexEvent p l off s
  | .indexArm w n => Sys2Proof.Machine.execIndexArm w n s
  | .trackerSample a b => Sys2Proof.Machine.execTrackerSample a b s
  | .latchEvent ix l off => Sys2Proof.Machine.execLatchEvent ix l off s
  | .arm w u => Sys2Proof.Machine.execArm w u s
  | .next w u => Sys2Proof.Machine.execNext w u s
  | .emuSourceSample e => Sys2Proof.Machine.execEmuSourceSample e s
  | .ssiTargetTransfer e edges off => Sys2Proof.Machine.execSsiTargetTransfer e edges off s
  | .ssiMonoflop g => Sys2Proof.Machine.execSsiMonoflop g s
  | .currentCellSample n w0 w1 gap => Sys2Proof.Machine.execCurrentCellSample n w0 w1 gap s
  | .reload g peak => Sys2Proof.Machine.execReload g peak s
  | .modFault b => Sys2Proof.Machine.execModFault b s
  | .overcurrent k w => Sys2Proof.Machine.execOvercurrent k w s
  | .ocFlags w modFault => Sys2Proof.Machine.execOcFlags w modFault s
  | .delayLineCalibration spans tap => Sys2Proof.Machine.execDelayLineCalibration spans tap s
  | .trip x => Sys2Proof.Machine.execTrip x s
  | .tripFlags w => Sys2Proof.Machine.execTripFlags w s
  | .directEnable w l => Sys2Proof.Machine.execDirectEnable w l s
  | .loadAll w => Sys2Proof.Machine.execLoadAll w s
  | .loadTransfer g valley => Sys2Proof.Machine.execLoadTransfer g valley s
  | .ccMode w n => Sys2Proof.Machine.execCcMode w n s
  | .vddCoreLow core => Sys2Proof.Machine.execVddCoreLow core s
  | .l2Sample n => Sys2Proof.Machine.execL2Sample n s
  | .l3Sample n => Sys2Proof.Machine.execL3Sample n s
  | .l4Sample n => Sys2Proof.Machine.execL4Sample n s
  | .virtualTick n => Sys2Proof.Machine.execVirtualTick n s
  | .outputInstant n lv => Sys2Proof.Machine.execOutputInstant n lv s
  | .deadlineMiss n lv late => Sys2Proof.Machine.execDeadlineMiss n lv late s
  | .swapRequest w n => Sys2Proof.Machine.execSwapRequest w n s
  | .bankSwap n lv => Sys2Proof.Machine.execBankSwap n lv s
  | .admitCheck w => Sys2Proof.Machine.execAdmitCheck w s
  | .switchOn w n seq => Sys2Proof.Machine.execSwitchOn w n seq s
  | .switchOff w n seq => Sys2Proof.Machine.execSwitchOff w n seq s
  | .enable w n seq => Sys2Proof.Machine.execEnable w n seq s
  | .disable w n seq => Sys2Proof.Machine.execDisable w n seq s
  | .setup w n seq => Sys2Proof.Machine.execSetup w n seq s
  | .move w n seq => Sys2Proof.Machine.execMove w n seq s
  | .velocity w n seq => Sys2Proof.Machine.execVelocity w n seq s
  | .replace w n seq => Sys2Proof.Machine.execReplace w n seq s
  | .stop w n seq => Sys2Proof.Machine.execStop w n seq s
  | .quickStop w n seq => Sys2Proof.Machine.execQuickStop w n seq s
  | .home w n seq => Sys2Proof.Machine.execHome w n seq s
  | .follow w n seq => Sys2Proof.Machine.execFollow w n seq s
  | .resetFault w n seq => Sys2Proof.Machine.execResetFault w n seq s
  | .badCommand w n code seq => Sys2Proof.Machine.execBadCommand w n code seq s
  | .classAFault n cause => Sys2Proof.Machine.execClassAFault n cause s
  | .classBFault n cause => Sys2Proof.Machine.execClassBFault n cause s
  | .targetVelocity w n => Sys2Proof.Machine.execTargetVelocity w n s
  | .profileParameterWrite w n which => Sys2Proof.Machine.execProfileParameterWrite w n which s
  | .homingTimeout n => Sys2Proof.Machine.execHomingTimeout n s
  | .passComesIntoForce ix => Sys2Proof.Machine.execPassComesIntoForce ix s
  | .passValidityEnd ix => Sys2Proof.Machine.execPassValidityEnd ix s
  | .graceTimeExpiry ix => Sys2Proof.Machine.execGraceTimeExpiry ix s
  | .commonStopEnd ix => Sys2Proof.Machine.execCommonStopEnd ix s
  | .publishInstant q => Sys2Proof.Machine.execPublishInstant q s
  | .canPassFrame c id bytes macOk off => Sys2Proof.Machine.execCanPassFrame c id bytes macOk off s
  | .passPartnerTimeout ix => Sys2Proof.Machine.execPassPartnerTimeout ix s
  | .gearRatioWrite w n den => Sys2Proof.Machine.execGearRatioWrite w n den s
  | .camNext w n => Sys2Proof.Machine.execCamNext w n s
  | .tableDataWrite w t header => Sys2Proof.Machine.execTableDataWrite w t header s
  | .finish w t => Sys2Proof.Machine.execFinish w t s
  | .regReset w n => Sys2Proof.Machine.execRegReset w n s
  | .acqStart w => Sys2Proof.Machine.execAcqStart w s
  | .acqStop w => Sys2Proof.Machine.execAcqStop w s
  | .acqForce w => Sys2Proof.Machine.execAcqForce w s
  | .rawSample off => Sys2Proof.Machine.execRawSample off s
  | .holdoffEnd => Sys2Proof.Machine.execHoldoffEnd s
  | .segmentReady => Sys2Proof.Machine.execSegmentReady s
  | .segReleased w => Sys2Proof.Machine.execSegReleased w s
  | .v24Ok x volts => Sys2Proof.Machine.execV24Ok x volts s
  | .v24Lost volts => Sys2Proof.Machine.execV24Lost volts s
  | .diTransition ix l off => Sys2Proof.Machine.execDiTransition ix l off s
  | .wireBreak x => Sys2Proof.Machine.execWireBreak x s
  | .doSet w => Sys2Proof.Machine.execDoSet w s
  | .doShort ix current => Sys2Proof.Machine.execDoShort ix current s
  | .doShortClear w => Sys2Proof.Machine.execDoShortClear w s
  | .totalOverload => Sys2Proof.Machine.execTotalOverload s
  | .openLoad ix x => Sys2Proof.Machine.execOpenLoad ix x s
  | .ainConversion a u aref => Sys2Proof.Machine.execAinConversion a u aref s
  | .claim w p key => Sys2Proof.Machine.execClaim w p key s
  | .transfer w p key => Sys2Proof.Machine.execTransfer w p key s
  | .sealedParams w p entries => Sys2Proof.Machine.execSealedParams w p entries s
  | .keyLoad w p entries => Sys2Proof.Machine.execKeyLoad w p entries s
  | .revoke w p serials => Sys2Proof.Machine.execRevoke w p serials s
  | .twinPairing w p pairId partner => Sys2Proof.Machine.execTwinPairing w p pairId partner s
  | .unlock w p => Sys2Proof.Machine.execUnlock w p s
  | .debugUnlock w p level duration => Sys2Proof.Machine.execDebugUnlock w p level duration s
  | .physicalRelease => Sys2Proof.Machine.execPhysicalRelease s
  | .claimWindowExpiry => Sys2Proof.Machine.execClaimWindowExpiry s
  | .hello w role cred => Sys2Proof.Machine.execHello w role cred s
  | .sessionFinish w => Sys2Proof.Machine.execSessionFinish w s
  | .sessionClose w id => Sys2Proof.Machine.execSessionClose w id s
  | .sessionIdle id => Sys2Proof.Machine.execSessionIdle id s
  | .certificateExpiry id => Sys2Proof.Machine.execCertificateExpiry id s
  | .fwImage w offset => Sys2Proof.Machine.execFwImage w offset s
  | .nextSlot w => Sys2Proof.Machine.execNextSlot w s
  | .fwConfirm w => Sys2Proof.Machine.execFwConfirm w s
  | .debugExpiry => Sys2Proof.Machine.execDebugExpiry s
  | .trngFailure => Sys2Proof.Machine.execTrngFailure s
  | .auditExport w => Sys2Proof.Machine.execAuditExport w s
  | .objectWrite w index sub => Sys2Proof.Machine.execObjectWrite w index sub s
  | .commit w => Sys2Proof.Machine.execCommit w s
  | .commitTakeEffect => Sys2Proof.Machine.execCommitTakeEffect s
  | .store w => Sys2Proof.Machine.execStore w s
  | .storeComplete => Sys2Proof.Machine.execStoreComplete s
  | .restoreDefaults w => Sys2Proof.Machine.execRestoreDefaults w s
  | .segmentTimeout chan session index sub => Sys2Proof.Machine.execSegmentTimeout chan session index sub s
  | .sdoFrame c id bytes macOk vd => Sys2Proof.Machine.execSdoFrame c id bytes macOk vd s
  | .handshake w c => Sys2Proof.Machine.execHandshake w c s
  | .pdFrameReceive port pdu macOk off vd => Sys2Proof.Machine.execPdFrameReceive port pdu macOk off vd s
  | .canPdoReceive c id bytes macOk vd => Sys2Proof.Machine.execCanPdoReceive c id bytes macOk vd s
  | .pdApply r vd => Sys2Proof.Machine.execPdApply r vd s
  | .pdTransmit r => Sys2Proof.Machine.execPdTransmit r s
  | .rxTimeout r => Sys2Proof.Machine.execRxTimeout r s
  | .pciePerst flr => Sys2Proof.Machine.execPciePerst flr s
  | .pcieLinkDown link => Sys2Proof.Machine.execPcieLinkDown link s
  | .pcieLinkRestored x => Sys2Proof.Machine.execPcieLinkRestored x s
  | .bar0ReadFreeze offset wide => Sys2Proof.Machine.execBar0ReadFreeze offset wide s
  | .freezeExpiry offset => Sys2Proof.Machine.execFreezeExpiry offset s
  | .bar0Write offset b macOk vd => Sys2Proof.Machine.execBar0Write offset b macOk vd s
  | .mbxSubmit macOk vd => Sys2Proof.Machine.execMbxSubmit macOk vd s
  | .mbxComplete => Sys2Proof.Machine.execMbxComplete s
  | .flush => Sys2Proof.Machine.execFlush s
  | .ringEnable n v => Sys2Proof.Machine.execRingEnable n v s
  | .consumer n v => Sys2Proof.Machine.execConsumer n v s
  | .recordDelivery n => Sys2Proof.Machine.execRecordDelivery n s
  | .ringSignalTimeout n => Sys2Proof.Machine.execRingSignalTimeout n s
  | .canFrameReceive c id fd brs bytes macOk off => Sys2Proof.Machine.execCanFrameReceive c id fd brs bytes macOk off s
  | .txRequest w c n => Sys2Proof.Machine.execTxRequest w c n s
  | .cancel w c n => Sys2Proof.Machine.execCancel w c n s
  | .canTransmitComplete c off tdc => Sys2Proof.Machine.execCanTransmitComplete c off tdc s
  | .canTxFailure c why => Sys2Proof.Machine.execCanTxFailure c why s
  | .recover w c => Sys2Proof.Machine.execRecover w c s
  | .busOffRecovered c => Sys2Proof.Machine.execBusOffRecovered c s
  | .canBusJoin c => Sys2Proof.Machine.execCanBusJoin c s
  | .mstTx w p => Sys2Proof.Machine.execMstTx w p s
  | .masterTransferDone p rx => Sys2Proof.Machine.execMasterTransferDone p rx s
  | .modeFault p => Sys2Proof.Machine.execModeFault p s
  | .targetNop p extra inside => Sys2Proof.Machine.execTargetNop p extra inside s
  | .targetWrite p offset n data inside macOk vd => Sys2Proof.Machine.execTargetWrite p offset n data inside macOk vd s
  | .readReq p offset n extra inside => Sys2Proof.Machine.execReadReq p offset n extra inside s
  | .readData p count inside => Sys2Proof.Machine.execReadData p count inside s
  | .fetchComplete p => Sys2Proof.Machine.execFetchComplete p s
  | .framing p bytes inside => Sys2Proof.Machine.execFraming p bytes inside s
  | .twlTrainingComplete taps ns => Sys2Proof.Machine.execTwlTrainingComplete taps ns s
  | .twlLinkLoss cause symbols => Sys2Proof.Machine.execTwlLinkLoss cause symbols s
  | .twlBurstReceive crcOk length => Sys2Proof.Machine.execTwlBurstReceive crcOk length s
  | .leaseRenewal core => Sys2Proof.Machine.execLeaseRenewal core s
  | .leaseExpiry => Sys2Proof.Machine.execLeaseExpiry s
  | .fenceReset => Sys2Proof.Machine.execFenceReset s
  | .keeperRelease trip => Sys2Proof.Machine.execKeeperRelease trip s
  | .handover w => Sys2Proof.Machine.execHandover w s
  | .handoverRelease => Sys2Proof.Machine.execHandoverRelease s
  | .twinInstant lag => Sys2Proof.Machine.execTwinInstant lag s
  | .copyReceive counter tagOk copy => Sys2Proof.Machine.execCopyReceive counter tagOk copy s
  | .heartbeatSend => Sys2Proof.Machine.execHeartbeatSend s
  | .heartbeatReceive counter tagOk state seen hash => Sys2Proof.Machine.execHeartbeatReceive counter tagOk state seen hash s
  | .heartbeatTimeout => Sys2Proof.Machine.execHeartbeatTimeout s
  | .copyStaleTimeout => Sys2Proof.Machine.execCopyStaleTimeout s
  | .dribbleSilence => Sys2Proof.Machine.execDribbleSilence s
  | .contestCheckEnd clocks legs => Sys2Proof.Machine.execContestCheckEnd clocks legs s
  | .partitionFault why => Sys2Proof.Machine.execPartitionFault why s
  | .twinCheckDecision => Sys2Proof.Machine.execTwinCheckDecision s
  | .twinCheckTimeout => Sys2Proof.Machine.execTwinCheckTimeout s
  | .railLoss rail volts row => Sys2Proof.Machine.execRailLoss rail volts row s
  | .standbyEntry => Sys2Proof.Machine.execStandbyEntry s
  | .brownout rail low => Sys2Proof.Machine.execBrownout rail low s
  | .vaonLoss => Sys2Proof.Machine.execVaonLoss s
  | .mainsSample v => Sys2Proof.Machine.execMainsSample v s
  | .mainsLoss report => Sys2Proof.Machine.execMainsLoss report s
  | .mainsReturn => Sys2Proof.Machine.execMainsReturn s
  | .vstbyOverload current => Sys2Proof.Machine.execVstbyOverload current s
  | .vstbyRetry => Sys2Proof.Machine.execVstbyRetry s
  | .vstbyLow volts => Sys2Proof.Machine.execVstbyLow volts s
  | .xt32Window rate => Sys2Proof.Machine.execXt32Window rate s
  | .aonTimeSet => Sys2Proof.Machine.execAonTimeSet s
  | .crystalStop => Sys2Proof.Machine.execCrystalStop s
  | .warmrstN low => Sys2Proof.Machine.execWarmrstN low s
  | .resetRequest w => Sys2Proof.Machine.execResetRequest w s
  | .softwareReset => Sys2Proof.Machine.execSoftwareReset s
  | .standbyRequest w => Sys2Proof.Machine.execStandbyRequest w s
  | .standbyRequestLapse => Sys2Proof.Machine.execStandbyRequestLapse s
  | .wake source x => Sys2Proof.Machine.execWake source x s
  | .tjWarning tj => Sys2Proof.Machine.execTjWarning tj s
  | .calSave w => Sys2Proof.Machine.execCalSave w s
  | .calSaveComplete => Sys2Proof.Machine.execCalSaveComplete s
  | .calImport w => Sys2Proof.Machine.execCalImport w s
  | .calDiscard w => Sys2Proof.Machine.execCalDiscard w s
  | .calExport w => Sys2Proof.Machine.execCalExport w s
  | .timePllTick => Sys2Proof.Machine.execTimePllTick s
  | .ref25InReturn hostSel twinRole => Sys2Proof.Machine.execRef25InReturn hostSel twinRole s
  | .sysPllRelock => Sys2Proof.Machine.execSysPllRelock s
  | .ethPllRelock => Sys2Proof.Machine.execEthPllRelock s
  | .ethLinkChange p up => Sys2Proof.Machine.execEthLinkChange p up s
  | .ptpMessageReceive d x => Sys2Proof.Machine.execPtpMessageReceive d x s
  | .ptpMessageInterval d t p => Sys2Proof.Machine.execPtpMessageInterval d t p s
  | .controlRailUp rail volts row => Sys2Proof.Machine.execControlRailUp rail volts row s
  | .internalResetRelease hostSel twinRole => Sys2Proof.Machine.execInternalResetRelease hostSel twinRole s
  | .resetHoldTimeout => Sys2Proof.Machine.execResetHoldTimeout s
  | .alwaysOnDomainStart hv crystal => Sys2Proof.Machine.execAlwaysOnDomainStart hv crystal s
  | .vaonSourceChange hv => Sys2Proof.Machine.execVaonSourceChange hv s
  | .pciePerstNRelease => Sys2Proof.Machine.execPciePerstNRelease s
  | .canReceiveError c eight => Sys2Proof.Machine.execCanReceiveError c eight s
  | .cmdError p bytes => Sys2Proof.Machine.execCmdError p bytes s
  | .twlReceiveClockReturn => Sys2Proof.Machine.execTwlReceiveClockReturn s
  | .dribbleSeen => Sys2Proof.Machine.execDribbleSeen s
  | .wireBreakClear ix => Sys2Proof.Machine.execWireBreakClear ix s
  | .tjWarnClear tj => Sys2Proof.Machine.execTjWarnClear tj s
  | .packetIn w => Sys2Proof.Machine.execPacketIn w s

end Sys2Proof.Machine
end

