-- ==== Sys2Proof/WellFormed.lean ====
section
/-! DEFINITION. Well-formed commands: operands of an open Lean type hold values that the fields of the spec admit (Tables LT-10,
LT-11, SE-3, SC-1; frame sizes of chapters 02, 13 and 14). The meanings are total and do not rely on it. -/
namespace Sys2Proof

def Verdict.wf (v : Verdict) : Bool :=
  decide (v.reporting < 32) && decide (v.oc < 2 ^ 32) && decide (v.md < 2 ^ 32)

def Peer.wf (p : Peer) : Bool := decide (p.mac < 2 ^ 48) && decide (p.ip < 2 ^ 32) && decide (p.port < 2 ^ 16)

def Wr.wf (w : Wr) : Bool :=
  w.peer.wf && decide (w.session < 2 ^ 16) && decide (w.reqId < 2 ^ 16) && decide (w.fresh < 2 ^ 32) && w.vd.wf

def Dgram.wf (d : Dgram) : Bool :=
  d.udp.peer.wf && decide (d.udp.ip < 2 ^ 32) && decide (d.udp.port < 2 ^ 16) &&
  decide (d.magic < 2 ^ 16) && decide (d.version < 256) && decide (d.reqId < 2 ^ 16) && decide (d.session < 2 ^ 16) &&
  decide (d.fresh < 2 ^ 32) && decide (d.index < 2 ^ 16) && decide (d.sub < 256) && decide (d.segOffset < 2 ^ 32) &&
  decide (d.dataLength < 2 ^ 16) && d.vd.wf

def Packet.wf (p : Packet) : Bool :=
  decide (p.typ < 256) && decide (p.target < 2 ^ 64) && decide (p.counter < 2 ^ 64) && decide (p.nonce < 2 ^ 256) &&
  decide (p.signer < 2 ^ 384) && decide (p.reporting < 32)

def Announce.wf (a : Announce) : Bool :=
  decide (a.priority1 < 256) && decide (a.clockClass < 256) && decide (a.accuracy < 256) && decide (a.variance < 2 ^ 16) &&
  decide (a.priority2 < 256) && decide (a.identity < 2 ^ 64) && decide (a.steps < 2 ^ 16) && decide (a.sender < 2 ^ 80) &&
  decide (a.flags < 2 ^ 16) && decide (a.utcOffset < 2 ^ 16) && decide (a.timeSource < 256)

def PtpMsg.wf : PtpMsg → Bool
  | .announce a _ => a.wf
  | .delayResult _ _ _ => true
  | .delayReq _ _ sender seq _ _ _ => decide (sender < 2 ^ 80) && decide (seq < 2 ^ 16)
  | .management _ _ sender seq id _ => decide (sender < 2 ^ 80) && decide (seq < 2 ^ 16) && decide (id < 2 ^ 16)

def PtpIn.wf (x : PtpIn) : Bool := x.msg.wf

def SyncMsg.wf (m : SyncMsg) : Bool := decide (m.originSec < 2 ^ 48) && decide (m.originNs < 1000000000)

def PassPdu.wf (p : PassPdu) : Bool :=
  decide (p.master < 256) && decide (p.flags < 256) && decide (p.sequence < 2 ^ 32) && decide (p.t0Sec < 2 ^ 48) &&
  decide (p.t0Ns < 1000000000) && decide (p.t0Frac < 2 ^ 16) && decide (p.validity < 2 ^ 32) && decide (p.keyId < 2 ^ 16)

/-- The toggles of a data land come one after the other. -/
def ascending : List Int → Bool
  | x :: y :: l => decide (x < y) && ascending (y :: l)
  | _ => true

def SsiWave.wf (w : SsiWave) : Bool := ascending w.toggles

/-- A frame of Ethernet with its FCS, of a length that the switch accepts or not (R53). -/
def frameWf (b : Bytes) : Bool := decide (1 ≤ b.length) && decide (b.length ≤ 65535)

/-- The data of a CAN FD frame. -/
def canWf (b : Bytes) : Bool := decide (b.length ≤ 64)

/-- The sizes that a BAR0 access may have on the bus. -/
def busWf (b : Bytes) : Bool := decide (1 ≤ b.length) && decide (b.length ≤ 256)

/-- A command whose operands are in their ranges. -/
def Instr.wf : Instr → Bool
  | .porstNRelease => true
  | .bootComplete _ _ _ => true
  | .bootFailure => true
  | .ref25InAbsent => true
  | .sysPllLoss => true
  | .timePllLoss => true
  | .timePllRelock => true
  | .ethPllLoss => true
  | .tamperReport _ => true
  | .deviceStart w => w.wf
  | .deviceStop w => w.wf
  | .deviceResetSafe w => w.wf
  | .scheduleSlewEnd => true
  | .frameReceive _ bytes _ _ _ _ => frameWf bytes
  | .frameTransmit _ _ => true
  | .addressAgeing _ => true
  | .ptpSyncReceive _ m => m.wf
  | .domainAbsent _ => true
  | .requalifyTimeExpiry _ => true
  | .domainRevert _ => true
  | .selectRequest w => w.wf
  | .tuIncrement _ => true
  | .tuOffsetAdd _ => true
  | .offsetAddApply => true
  | .lineTimeSlewEnd => true
  | .ppsInEdge _ => true
  | .todSeconds w => w.wf
  | .ppsOutPulse _ => true
  | .lineTimeAlarm _ => true
  | .alarmEnable w => w.wf
  | .echoOrArpRequest _ bytes => frameWf bytes
  | .quinupRead d => d.wf
  | .quinupWrite d => d.wf
  | .quinupReadSegment d => d.wf
  | .quinupWriteSegment d => d.wf
  | .quinupSession d => d.wf
  | .passFrameReceive _ p _ _ _ _ => p.wf
  | .quadTransition _ _ _ _ => true
  | .ssiTransfer _ w _ => w.wf
  | .hybridReference _ w _ => w.wf
  | .hybridCheck _ w _ => w.wf
  | .sincosConversion _ _ => true
  | .indexEvent _ _ _ => true
  | .indexArm w _ => w.wf
  | .trackerSample _ _ => true
  | .latchEvent _ _ _ => true
  | .arm w _ => w.wf
  | .next w _ => w.wf
  | .emuSourceSample _ => true
  | .ssiTargetTransfer _ _ _ => true
  | .ssiMonoflop _ => true
  | .currentCellSample _ _ _ _ => true
  | .reload _ _ => true
  | .modFault _ => true
  | .overcurrent _ _ => true
  | .ocFlags w _ => w.wf
  | .delayLineCalibration _ _ => true
  | .trip _ => true
  | .tripFlags w => w.wf
  | .directEnable w _ => w.wf
  | .loadAll w => w.wf
  | .loadTransfer _ _ => true
  | .ccMode w _ => w.wf
  | .vddCoreLow _ => true
  | .l2Sample _ => true
  | .l3Sample _ => true
  | .l4Sample _ => true
  | .virtualTick _ => true
  | .outputInstant _ _ => true
  | .deadlineMiss _ _ _ => true
  | .swapRequest w _ => w.wf
  | .bankSwap _ _ => true
  | .admitCheck w => w.wf
  | .switchOn w _ _ => w.wf
  | .switchOff w _ _ => w.wf
  | .enable w _ _ => w.wf
  | .disable w _ _ => w.wf
  | .setup w _ _ => w.wf
  | .move w _ _ => w.wf
  | .velocity w _ _ => w.wf
  | .replace w _ _ => w.wf
  | .stop w _ _ => w.wf
  | .quickStop w _ _ => w.wf
  | .home w _ _ => w.wf
  | .follow w _ _ => w.wf
  | .resetFault w _ _ => w.wf
  | .badCommand w _ _ _ => w.wf
  | .classAFault _ _ => true
  | .classBFault _ _ => true
  | .targetVelocity w _ => w.wf
  | .profileParameterWrite w _ _ => w.wf
  | .homingTimeout _ => true
  | .passComesIntoForce _ => true
  | .passValidityEnd _ => true
  | .graceTimeExpiry _ => true
  | .commonStopEnd _ => true
  | .publishInstant _ => true
  | .canPassFrame _ _ bytes _ _ => canWf bytes
  | .passPartnerTimeout _ => true
  | .gearRatioWrite w _ _ => w.wf
  | .camNext w _ => w.wf
  | .tableDataWrite w _ _ => w.wf
  | .finish w _ => w.wf
  | .regReset w _ => w.wf
  | .acqStart w => w.wf
  | .acqStop w => w.wf
  | .acqForce w => w.wf
  | .rawSample _ => true
  | .holdoffEnd => true
  | .segmentReady => true
  | .segReleased w => w.wf
  | .v24Ok _ _ => true
  | .v24Lost _ => true
  | .diTransition _ _ _ => true
  | .wireBreak _ => true
  | .doSet w => w.wf
  | .doShort _ _ => true
  | .doShortClear w => w.wf
  | .totalOverload => true
  | .openLoad _ _ => true
  | .ainConversion _ _ _ => true
  | .claim w p _ => w.wf && p.wf
  | .transfer w p _ => w.wf && p.wf
  | .sealedParams w p _ => w.wf && p.wf
  | .keyLoad w p _ => w.wf && p.wf
  | .revoke w p _ => w.wf && p.wf
  | .twinPairing w p _ _ => w.wf && p.wf
  | .unlock w p => w.wf && p.wf
  | .debugUnlock w p _ _ => w.wf && p.wf
  | .physicalRelease => true
  | .claimWindowExpiry => true
  | .hello w _ _ => w.wf
  | .sessionFinish w => w.wf
  | .sessionClose w _ => w.wf
  | .sessionIdle _ => true
  | .certificateExpiry _ => true
  | .fwImage w _ => w.wf
  | .nextSlot w => w.wf
  | .fwConfirm w => w.wf
  | .debugExpiry => true
  | .trngFailure => true
  | .auditExport w => w.wf
  | .objectWrite w _ _ => w.wf
  | .commit w => w.wf
  | .commitTakeEffect => true
  | .store w => w.wf
  | .storeComplete => true
  | .restoreDefaults w => w.wf
  | .segmentTimeout _ _ _ _ => true
  | .sdoFrame _ _ bytes _ vd => canWf bytes && vd.wf
  | .handshake w _ => w.wf
  | .pdFrameReceive _ _ _ _ vd => vd.wf
  | .canPdoReceive _ _ bytes _ vd => canWf bytes && vd.wf
  | .pdApply _ vd => vd.wf
  | .pdTransmit _ => true
  | .rxTimeout _ => true
  | .pciePerst _ => true
  | .pcieLinkDown _ => true
  | .pcieLinkRestored _ => true
  | .bar0ReadFreeze _ _ => true
  | .freezeExpiry _ => true
  | .bar0Write _ b _ vd => busWf b && vd.wf
  | .mbxSubmit _ vd => vd.wf
  | .mbxComplete => true
  | .flush => true
  | .ringEnable _ _ => true
  | .consumer _ _ => true
  | .recordDelivery _ => true
  | .ringSignalTimeout _ => true
  | .canFrameReceive _ _ _ _ bytes _ _ => canWf bytes
  | .txRequest w _ _ => w.wf
  | .cancel w _ _ => w.wf
  | .canTransmitComplete _ _ _ => true
  | .canTxFailure _ _ => true
  | .recover w _ => w.wf
  | .busOffRecovered _ => true
  | .canBusJoin _ => true
  | .mstTx w _ => w.wf
  | .masterTransferDone _ rx => busWf rx
  | .modeFault _ => true
  | .targetNop _ _ _ => true
  | .targetWrite _ _ _ _ _ _ vd => vd.wf
  | .readReq _ _ _ _ _ => true
  | .readData _ _ _ => true
  | .fetchComplete _ => true
  | .framing _ _ _ => true
  | .twlTrainingComplete _ _ => true
  | .twlLinkLoss _ _ => true
  | .twlBurstReceive _ _ => true
  | .leaseRenewal _ => true
  | .leaseExpiry => true
  | .fenceReset => true
  | .keeperRelease _ => true
  | .handover w => w.wf
  | .handoverRelease => true
  | .twinInstant _ => true
  | .copyReceive _ _ _ => true
  | .heartbeatSend => true
  | .heartbeatReceive _ _ _ _ _ => true
  | .heartbeatTimeout => true
  | .copyStaleTimeout => true
  | .dribbleSilence => true
  | .contestCheckEnd _ _ => true
  | .partitionFault _ => true
  | .twinCheckDecision => true
  | .twinCheckTimeout => true
  | .railLoss _ _ _ => true
  | .standbyEntry => true
  | .brownout _ _ => true
  | .vaonLoss => true
  | .mainsSample _ => true
  | .mainsLoss _ => true
  | .mainsReturn => true
  | .vstbyOverload _ => true
  | .vstbyRetry => true
  | .vstbyLow _ => true
  | .xt32Window _ => true
  | .aonTimeSet => true
  | .crystalStop => true
  | .warmrstN _ => true
  | .resetRequest w => w.wf
  | .softwareReset => true
  | .standbyRequest w => w.wf
  | .standbyRequestLapse => true
  | .wake _ _ => true
  | .tjWarning _ => true
  | .calSave w => w.wf
  | .calSaveComplete => true
  | .calImport w => w.wf
  | .calDiscard w => w.wf
  | .calExport w => w.wf
  | .timePllTick => true
  | .ref25InReturn _ _ => true
  | .sysPllRelock => true
  | .ethPllRelock => true
  | .ethLinkChange _ _ => true
  | .ptpMessageReceive _ x => x.wf
  | .ptpMessageInterval _ _ _ => true
  | .controlRailUp _ _ _ => true
  | .internalResetRelease _ _ => true
  | .resetHoldTimeout => true
  | .alwaysOnDomainStart _ _ => true
  | .vaonSourceChange _ => true
  | .pciePerstNRelease => true
  | .canReceiveError _ _ => true
  | .cmdError _ _ => true
  | .twlReceiveClockReturn => true
  | .dribbleSeen => true
  | .wireBreakClear _ => true
  | .tjWarnClear _ => true
  | .packetIn w => w.wf

end Sys2Proof
end

