-- ==== Sys2Proof/Safety.lean ====
section
/-! DEFINITION. The terms in which claims are made: the canonical forms of the data the state holds, the clocks in their ranges,
what drives a leg, and the invariants of the machine. -/
namespace Sys2Proof.Machine

/-- Every list of the state that has a canonical form is in it. -/
def State.canonical (s : State) : Bool :=
  s.regs.wf && s.force.wf && Memory.wf s.tableRam && Memory.wf s.acqRam && Memory.wf s.host.mbxRequest &&
  Memory.wf s.host.mbxResponse && Memory.wf s.host.mirror &&
  (match s.dict.committing with
   | some m => Store.wf m
   | none => true)

/-- Both clocks show a time: nanoseconds below 10^9, fraction and seconds in their fields. -/
def State.clocksWf (s : State) : Bool := s.time.line.wf && s.time.free.wf

/-- The parts of the state. -/
inductive Part where
  | regs | force | blobs | time | net | pw | sec | dict | host | leg | cell | axis | port | latch | emu | track | field | casc | sub | pub | tableRam | tableLen | acq | sp | twin | can | acqRam | out | pending
  deriving DecidableEq, Repr

/-- Two states agree in a part. -/
def Part.same : Part → State → State → Prop
  | .regs, s, t => t.regs = s.regs
  | .force, s, t => t.force = s.force
  | .blobs, s, t => t.blobs = s.blobs
  | .time, s, t => t.time = s.time
  | .net, s, t => t.net = s.net
  | .pw, s, t => t.pw = s.pw
  | .sec, s, t => t.sec = s.sec
  | .dict, s, t => t.dict = s.dict
  | .host, s, t => t.host = s.host
  | .leg, s, t => t.leg = s.leg
  | .cell, s, t => t.cell = s.cell
  | .axis, s, t => t.axis = s.axis
  | .port, s, t => t.port = s.port
  | .latch, s, t => t.latch = s.latch
  | .emu, s, t => t.emu = s.emu
  | .track, s, t => t.track = s.track
  | .field, s, t => t.field = s.field
  | .casc, s, t => t.casc = s.casc
  | .sub, s, t => t.sub = s.sub
  | .pub, s, t => t.pub = s.pub
  | .tableRam, s, t => t.tableRam = s.tableRam
  | .tableLen, s, t => t.tableLen = s.tableLen
  | .acq, s, t => t.acq = s.acq
  | .sp, s, t => t.sp = s.sp
  | .twin, s, t => t.twin = s.twin
  | .can, s, t => t.can = s.can
  | .acqRam, s, t => t.acqRam = s.acqRam
  | .out, s, t => t.out = s.out
  | .pending, s, t => t.pending = s.pending

/-- From `s` to `t` nothing outside the named parts changes. -/
def State.onlyIn (l : List Part) (s t : State) : Prop := ∀ p : Part, p ∉ l → p.same s t

/-- LEGn_H and LEGn_L of leg `l` would be asserted together at `t` (R209). -/
def State.shoots (s : State) (l : Nat) (t : Int) : Bool := (s.legOn l t).1 && (s.legOn l t).2

/-- The legs that are driven are legs that exist. -/
def State.legsExist (s : State) : Bool := decide (s.leg.driven < 2 ^ 48)

/-- No leg is driven. -/
def State.legsOff (s : State) : Bool := s.leg.driven == 0

/-- Every command that waits is well-formed. -/
def State.queueWf (s : State) : Bool := s.pending.all (fun c => Instr.wf c)

/-- A run of a ring is kept: a disabled ring has no staged record waiting for it. -/
def State.ringsClean (s : State) : Bool :=
  (upto 16).all (fun n => (at' s.host.rings n).ctrl.testBit 0 || s.host.staging.all (fun e => !e.rings.testBit n))

/-- The staging area is within its two parts (Table AR-11). -/
def State.stagingWf (s : State) : Bool := decide (s.host.general ≤ 224) && decide (s.host.reserved ≤ 32)

/-! ### What claims say of commands -/

/-- The command completes: it answers a next state, of which `p` holds. -/
def Completes (c : Instr) (s : State) (p : State → Prop) : Prop := ∃ t, exec c s = .next t ∧ p t

/-- The registers that change are among `ks`, and the parts that change among `ps`. -/
def State.frame (ks : List Nat) (ps : List Part) (s t : State) : Prop := (∀ k, k ∉ ks → t.rd k = s.rd k) ∧ s.onlyIn ps t

/-- The two counters of records that found no place (Table HE-9). -/
def dropCounters : List Nat := [Obj.HOST_STAGING_DROPS, Obj.HOST_FAULT_DROPS]

/-- From `s` to `t` one record has been written, with the present instant as its stamp (R485, R486). -/
def State.recorded (s t : State) (cls code detail index payload : Nat) : Prop :=
  t.host = (s.record cls code detail index payload).host ∧
    ∀ k ∈ dropCounters, t.rd k = (s.record cls code detail index payload).rd k

/-- The state in which a write request is executed: its FRESHNESS is the one its session takes next from (R424). -/
def State.arrived (s : State) (w : Wr) : State := s.acceptFresh w.session w.reqId w.fresh

/-- A write of object `k` passes the check of its session (R102, R424), the queue of its channel and the first five checks of
Table OD-5, and no other requester holds a segmented write of it. -/
def State.admits (s : State) (w : Wr) (k : Nat) : Prop :=
  s.served = true ∧ s.gate w.chan w.session w.reqId w.fresh true = .go ∧ (s.arrived w).held w.chan < 8 ∧
    (s.arrived w).writeAccess ((s.arrived w).writeRole w.session) (k / 256) (k % 256) = 0 ∧ (s.arrived w).openElsewhere k = false

/-- The write of object `k` has been answered with success. -/
def State.done (s : State) (w : Wr) (k : Nat) : State := s.answer (s.ctxOf w (k / 256) (k % 256)) 0 []

/-- The command is executed as a write of object `k`: its effect gives a state of which `p` holds, and the write is answered with
success. -/
def Written (c : Instr) (s : State) (w : Wr) (k : Nat) (p : State → Prop) : Prop := ∃ u, exec c s = .next (u.done w k) ∧ p u

/-- The write of object `k` has been answered with an abort code of Table OD-5. -/
def State.denied (s : State) (w : Wr) (k code : Nat) : State := s.answer (s.ctxOf w (k / 256) (k % 256)) code []

end Sys2Proof.Machine
end

