-- ==== Sys2Proof/Certificates/Slice0/Obligations.lean ====
section
/-! DEFINITION. What the model is claimed to do: the statements, taken from the numbered rules of the spec, and the few terms of
their own that they need. -/
namespace Sys2Proof.Claims
open Sys2Proof.Machine Sys2Proof.Machine.Obj

/-- The parts of the state that each command may change. -/
def touches : Instr → List Part
  | .porstNRelease | .bootFailure | .ref25InAbsent | .fenceReset | .railLoss _ _ _ | .warmrstN _ | .softwareReset
  | .sysPllRelock | .internalResetRelease _ _ =>
    [.regs, .force, .blobs, .time, .net, .pw, .sec, .dict, .host, .leg, .cell, .axis, .port, .latch, .emu, .track,
     .field, .casc, .sub, .pub, .tableRam, .tableLen, .acq, .sp, .twin, .can, .acqRam]
  | .bootComplete _ _ _ =>
    [.regs, .force, .blobs, .time, .pw, .sec, .dict, .host, .leg, .axis, .port, .latch, .emu, .sub, .pub, .tableRam, .tableLen, .acq, .twin, .can, .out]
  | .sysPllLoss => [.regs, .pw, .leg]
  | .timePllLoss => [.regs, .force, .pw, .host, .leg, .axis, .acq]
  | .timePllRelock | .standbyEntry | .mainsSample _ | .vstbyRetry | .xt32Window _ | .aonTimeSet | .wake _ _
  | .controlRailUp _ _ _ | .vaonSourceChange _ => [.regs, .pw]
  | .ethPllLoss => [.regs, .time, .pw, .out]
  | .tamperReport _ => [.regs, .force, .sec, .host, .leg, .axis]
  | .deviceStart _ | .deviceStop _ | .deviceResetSafe _ | .selectRequest _ | .todSeconds _ | .alarmEnable _ | .quinupRead _
  | .quinupWrite _ | .quinupReadSegment _ | .quinupWriteSegment _ | .quinupSession _ | .indexArm _ _ | .arm _ _ | .next _ _
  | .ocFlags _ _ | .tripFlags _ | .directEnable _ _ | .loadAll _ | .ccMode _ _ | .swapRequest _ _ | .admitCheck _
  | .switchOn _ _ _ | .switchOff _ _ _ | .enable _ _ _ | .disable _ _ _ | .setup _ _ _ | .move _ _ _ | .velocity _ _ _
  | .replace _ _ _ | .stop _ _ _ | .quickStop _ _ _ | .home _ _ _ | .follow _ _ _ | .resetFault _ _ _ | .badCommand _ _ _ _
  | .targetVelocity _ _ | .profileParameterWrite _ _ _ | .gearRatioWrite _ _ _ | .camNext _ _ | .tableDataWrite _ _ _
  | .finish _ _ | .regReset _ _ | .acqStart _ | .acqStop _ | .acqForce _ | .segReleased _ | .doSet _ | .doShortClear _
  | .nextSlot _ | .fwConfirm _ | .objectWrite _ _ _ | .commit _ | .store _ | .restoreDefaults _ | .sdoFrame _ _ _ _ _
  | .handshake _ _ | .mbxSubmit _ _ | .txRequest _ _ _ | .cancel _ _ _ | .recover _ _ | .mstTx _ _ | .handover _
  | .resetRequest _ | .standbyRequest _ | .calSave _ | .calImport _ | .calDiscard _ | .packetIn _ =>
    [.regs, .force, .blobs, .time, .net, .pw, .sec, .dict, .host, .leg, .axis, .port, .latch,
     .field, .casc, .tableRam, .tableLen, .acq, .sp, .twin, .can]
  | .scheduleSlewEnd | .domainRevert _ | .ethLinkChange _ _ => [.regs, .time, .host]
  | .frameReceive _ _ _ _ _ _ | .echoOrArpRequest _ _ => [.regs, .net]
  | .frameTransmit _ _ => [.regs, .net, .out]
  | .addressAgeing _ => [.net]
  | .ptpSyncReceive _ _ | .domainAbsent _ | .requalifyTimeExpiry _ | .lineTimeSlewEnd => [.regs, .time, .host, .out]
  | .tuIncrement _ | .bankSwap _ _ | .canBusJoin _ | .vstbyLow _ | .twlReceiveClockReturn | .tjWarnClear _ => [.regs]
  | .tuOffsetAdd _ => [.time]
  | .offsetAddApply | .timePllTick => [.regs, .time, .host, .axis, .latch, .field, .acq, .twin, .out]
  | .ppsInEdge _ => [.regs, .time, .host, .axis, .latch, .acq]
  | .ppsOutPulse _ => [.time, .out]
  | .lineTimeAlarm _ => [.regs, .time, .host, .acq]
  | .passFrameReceive _ _ _ _ _ _ | .canPassFrame _ _ _ _ _ => [.regs, .dict, .host, .sub]
  | .quadTransition _ _ _ _ | .hybridReference _ _ _ => [.regs, .port]
  | .ssiTransfer _ _ _ | .sincosConversion _ _ => [.regs, .port, .latch]
  | .hybridCheck _ _ _ => [.regs, .host, .axis, .port]
  | .indexEvent _ _ _ => [.regs, .host, .axis, .port, .latch, .acq]
  | .trackerSample _ _ | .vaonLoss | .alwaysOnDomainStart _ _ => [.regs, .pw, .track]
  | .latchEvent _ _ _ | .diTransition _ _ _ => [.regs, .host, .axis, .latch, .field, .acq]
  | .emuSourceSample _ => [.regs, .emu]
  | .ssiTargetTransfer _ _ _ | .ssiMonoflop _ => [.emu]
  | .currentCellSample _ _ _ _ => [.regs, .force, .host, .leg, .cell, .axis, .port, .latch, .acq]
  | .reload _ _ | .loadTransfer _ _ => [.regs, .leg]
  | .modFault _ | .overcurrent _ _ | .deadlineMiss _ _ _ | .classAFault _ _ | .partitionFault _ =>
    [.regs, .force, .host, .leg, .axis, .acq]
  | .delayLineCalibration _ _ => [.regs, .host, .leg]
  | .trip _ => [.regs, .force, .host, .leg, .axis, .latch, .acq, .twin]
  | .vddCoreLow _ => [.regs, .pw, .leg, .twin]
  | .l2Sample _ | .l4Sample _ => [.regs, .host, .axis, .casc]
  | .l3Sample _ => [.regs, .force, .net, .sec, .host, .leg, .axis, .port, .casc, .acq, .can]
  | .virtualTick _ => [.regs, .force, .net, .sec, .host, .leg, .axis, .port, .latch, .casc, .acq, .can]
  | .outputInstant _ _ => [.casc]
  | .classBFault _ _ | .wireBreakClear _ => [.regs, .axis]
  | .homingTimeout _ => [.regs, .force, .host, .leg, .axis]
  | .passComesIntoForce _ | .graceTimeExpiry _ => [.regs, .host, .sub]
  | .passValidityEnd _ | .commonStopEnd _ | .openLoad _ _ | .ainConversion _ _ _ | .pcieLinkDown _ | .mainsReturn
  | .tjWarning _ => [.regs, .host]
  | .publishInstant _ => [.regs, .net, .sec, .dict, .host, .axis, .sub, .pub, .can]
  | .passPartnerTimeout _ => [.regs, .sub]
  | .rawSample _ => [.regs, .host, .axis, .latch, .acq, .acqRam]
  | .holdoffEnd => [.regs, .acq]
  | .segmentReady => [.acq]
  | .v24Ok _ _ => [.regs, .field]
  | .v24Lost _ | .doShort _ _ | .totalOverload => [.regs, .host, .field]
  | .wireBreak _ => [.regs, .host, .axis]
  | .claim _ _ _ | .transfer _ _ _ | .sealedParams _ _ _ | .keyLoad _ _ _ | .revoke _ _ _ | .twinPairing _ _ _ _
  | .unlock _ _ | .debugUnlock _ _ _ _ => [.regs, .force, .net, .pw, .sec, .dict, .host, .leg, .axis, .acq, .can]
  | .physicalRelease | .sessionIdle _ | .certificateExpiry _ => [.regs, .sec, .dict, .host]
  | .claimWindowExpiry => [.sec]
  | .hello _ _ _ | .sessionFinish _ | .sessionClose _ _ | .fwImage _ _ | .auditExport _ | .storeComplete | .calExport _ =>
    [.regs, .net, .sec, .dict, .host, .can]
  | .debugExpiry | .trngFailure => [.regs, .sec, .host]
  | .commitTakeEffect =>
    [.regs, .force, .time, .net, .pw, .sec, .dict, .host, .leg, .axis, .port, .latch, .emu, .sub, .pub, .acq, .twin, .can, .out]
  | .segmentTimeout _ _ _ _ => [.dict]
  | .pdFrameReceive _ _ _ _ _ | .canPdoReceive _ _ _ _ _ | .pdApply _ _ =>
    [.regs, .force, .blobs, .time, .pw, .sec, .dict, .host, .leg, .axis, .port, .latch,
     .field, .casc, .tableRam, .tableLen, .acq, .sp, .twin, .can]
  | .pdTransmit _ => [.regs, .net, .dict, .can]
  | .rxTimeout _ => [.regs, .dict, .host, .axis]
  | .pciePerst _ => [.dict, .host, .axis]
  | .pcieLinkRestored _ => [.regs, .host, .out]
  | .bar0ReadFreeze _ _ | .mbxComplete | .flush | .ringEnable _ _ | .recordDelivery _ | .ringSignalTimeout _ =>
    [.host, .out]
  | .freezeExpiry _ | .consumer _ _ | .pciePerstNRelease => [.host]
  | .bar0Write _ _ _ _ | .targetNop _ _ _ | .targetWrite _ _ _ _ _ _ _ | .readReq _ _ _ _ _ | .readData _ _ _
  | .framing _ _ _ | .cmdError _ _ =>
    [.regs, .force, .blobs, .time, .net, .pw, .sec, .dict, .host, .leg, .axis, .port, .latch,
     .field, .casc, .tableRam, .tableLen, .acq, .sp, .twin, .can, .out]
  | .canFrameReceive _ _ _ _ _ _ _ => [.regs, .blobs, .host, .can]
  | .canTransmitComplete _ _ _ => [.regs, .host, .can, .out]
  | .canTxFailure _ _ | .busOffRecovered _ | .canReceiveError _ _ => [.regs, .host, .can]
  | .masterTransferDone _ _ => [.regs, .blobs, .sp, .out]
  | .modeFault _ => [.regs, .blobs, .host, .sp]
  | .fetchComplete _ => [.host, .sp]
  | .twlTrainingComplete _ _ => [.regs, .host, .twin]
  | .twlLinkLoss _ _ | .twlBurstReceive _ _ | .leaseExpiry | .handoverRelease | .heartbeatReceive _ _ _ _ _
  | .heartbeatTimeout | .copyStaleTimeout | .dribbleSilence | .twinCheckDecision | .dribbleSeen =>
    [.regs, .force, .time, .pw, .sec, .host, .leg, .axis, .acq, .twin]
  | .leaseRenewal _ | .keeperRelease _ => [.twin]
  | .twinInstant _ | .heartbeatSend => [.regs, .twin, .out]
  | .copyReceive _ _ _ => [.regs, .force, .time, .pw, .sec, .host, .leg, .axis, .casc, .sub, .pub, .acq, .twin]
  | .contestCheckEnd _ _ => [.regs, .force, .time, .pw, .sec, .host, .leg, .axis, .casc, .acq, .twin]
  | .twinCheckTimeout => [.regs, .force, .time, .pw, .sec, .host, .leg, .axis, .acq]
  | .brownout _ _ => [.regs, .force, .sec, .host, .leg, .axis, .acq]
  | .mainsLoss _ => [.regs, .pw, .host, .pub]
  | .vstbyOverload _ | .crystalStop | .standbyRequestLapse => [.regs, .pw, .host]
  | .calSaveComplete => [.regs, .dict]
  | .ref25InReturn _ _ | .resetHoldTimeout => [.pw]
  | .ethPllRelock => [.regs, .time, .pw, .host, .out]
  | .ptpMessageReceive _ _ => [.regs, .time, .net, .host]
  | .ptpMessageInterval _ _ _ => [.regs, .time, .net]

/-- The registers that an entry to FAULT of axis `n` writes. -/
def faultKeys (n : Nat) : List Nat :=
  [ST_FAULT_CAUSES n, ST_FAULT_CAUSE n, ST_FAULT_COUNT n, AX_AXIS_STATE n, AX_MOTION_MODE n, AX_QUEUE_DEPTH n, HOM_HOMING_RESULT n,
   HOM_HOMING_PHASE n, CAMA_CAM_ACTIVE n, LSS_LS_STATUS n, PRF_P_SET n, PRF_V_SET n, PRF_A_SET n, CC_MODE n]

/-- Axis `n`, not in FAULT in `s`, has gone to FAULT with a cause (R281, R284): its motion generator is at rest. -/
def faulted (n cause : Nat) (s t : State) : Prop :=
  t.axState n = axFault ∧ t.bitOf (ST_FAULT_CAUSES n) cause = true ∧
  (s.rd (ST_FAULT_CAUSE n) = 0 → t.rd (ST_FAULT_CAUSE n) = cause) ∧
  t.rd (ST_FAULT_COUNT n) = (s.rd (ST_FAULT_COUNT n) + 1) % 2 ^ 32 ∧
  t.axMode n = mmHold ∧ t.vSet n = 0 ∧ t.aSet n = 0 ∧ t.rd (AX_QUEUE_DEPTH n) = 0

/-- The parts that an entry to FAULT changes. -/
def faultParts : List Part := [.regs, .force, .host, .leg, .axis, .acq]

/-- The registers that an event offered to the latch units may write, and the parts (R153 to R159). -/
def unitKeys : List Nat :=
  (upto 16).flatMap (fun v => [LU_ARMED v, LU_DROPPED v, LU_DISCARDED v, LU_PENDING v, LU_CAP_STAMP v, LU_CAP_FLAGS v] ++
    (upto 4).map (LU_CAP_POS v)) ++ dropCounters
def unitParts : List Part := [.regs, .host, .axis, .latch, .acq]

/-- The registers of the axis bound to port `p` that a sample of the port writes. -/
def sampleKeys (s : State) (p : Nat) : List Nat :=
  FB_RAW_POSITION p :: match s.boundAxis p with
    | some n => [AF_POSITION n, AF_SPEED n, AF_SAMPLE_STAMP n]
    | none => []

/-- A sample of port `p` shows the position `x` (raw Q32): in RAW_POSITION, and with DIRECTION on the bound axis (R111), stamped
with the instant `ts` (R27). -/
def sampled (p : Nat) (ts x : Int) (s t : State) : Prop :=
  t.rd (FB_RAW_POSITION p) = ofPos x ∧
  ∀ n : Fin 16, s.boundAxis p = some n.val →
    t.rd (AF_POSITION n) = ofPos (s.dirOf n x) ∧ t.rd (AF_SAMPLE_STAMP n) = s.stampT ts

/-- A deviation of Table FB-4 in units of 2^-16 count, tolerance in counts, on port `p` bound to axis `n`: `flag` is the
PORT_STATUS bit of the check. -/
def checked (p n flag : Nat) (dev : Int) (tol : Nat) (s t : State) : Prop :=
  if -((tol : Int) * 65536) ≤ dev ∧ dev < (tol : Int) * 65536 + 1 then
    t.rd (FB_PORT_STATUS p) = s.rd (FB_PORT_STATUS p) ∧ t.rd (AI_MISMATCH_COUNT n) = s.rd (AI_MISMATCH_COUNT n) ∧
    (if s.on (AI_INDEX_CORRECT n) then
      t.portPos p s.nowT = s.portPos p s.nowT - dev * 65536 ∧
      t.rd (AI_CORRECTION_COUNT n) = (s.rd (AI_CORRECTION_COUNT n) + 1) % 2 ^ 32
    else t.port = s.port ∧ t.rd (AI_CORRECTION_COUNT n) = s.rd (AI_CORRECTION_COUNT n)) ∧
    (t.ax n).classB = (s.ax n).classB
  else
    t.rd (FB_PORT_STATUS p) = orBit (s.rd (FB_PORT_STATUS p)) flag ∧ t.port = s.port ∧
    t.rd (AI_MISMATCH_COUNT n) = (s.rd (AI_MISMATCH_COUNT n) + 1) % 2 ^ 32 ∧
    t.rd (AI_CORRECTION_COUNT n) = s.rd (AI_CORRECTION_COUNT n) ∧
    (t.ax n).classB = (if s.on (AI_INDEX_FAULT n) ∧ s.axState n ≠ axOff then orBit (s.ax n).classB fcIndex else (s.ax n).classB)

/-- A transition of A or B in sense `dir` has been counted on port `p`, `q` before it and `r` after it (R115, R118). -/
def counted (p : Nat) (q r : PortSt) (dir : Int) (s t : State) : Prop :=
  r.raw = q.raw + dir ∧ r.lastDir = dir ∧
  (if q.lastDir = 0 ∨ q.lastDir = dir then r.out = r.raw ∧ r.held = false
   else r.out = q.out ∧ r.held = !q.held) ∧
  (p < 4 → s.tracked p = true → s.portsSet = true → t.rd (TRK_TRACK_COUNT p) = ofS 32 r.raw) ∧
  t.rd (FB_PORT_STATUS p) = s.rd (FB_PORT_STATUS p) ∧ t.rd (FB_QUAD_ERRORS p) = s.rd (FB_QUAD_ERRORS p)

/-- Each field output is on exactly if the section is supplied and enabled, no overload stands, it is commanded on and not short
(R379, R387 to R390). -/
def outputsFollow (t : State) : Prop :=
  ∀ i : Fin 8, t.bitOf DO_STATE i = (t.fieldOn && !t.bitOf FIELD_STATUS 2 && t.doCommand.testBit i && !t.bitOf DO_SHORT i)

/-- The registers that the choice of the best master writes (R61, R76, R94). -/
def bmcaKeys : List Nat :=
  [0, 1].flatMap (fun d => [DOM_GM_IDENTITY d, DOM_STEPS_REMOVED d, DOM_PORT_STATE_P1 d, DOM_PORT_STATE_P2 d]) ++ [SYNT_SOURCE, SYNT_STATE]

/-- What a tick of TIME_PLL may write: the time unit, its alarms and the captures of those before, announce receipt timeouts, first levels
of field inputs, and a waiting twin copy. -/
def tickKeys : List Nat :=
  [CLK_OFFSET_ADDS, ALM_ALARM_FIRED, ALM_ALARM_ENABLE, DI_LEVEL, TWL_BURSTS_TX, TW_COPY_BYTES] ++ bmcaKeys ++ unitKeys
def tickParts : List Part := [.time, .out, .field, .twin] ++ unitParts

/-- Line time and its frequency reference as a change of a domain leaves them (R76, R90): the registers. -/
def followKeys : List Nat := [LT_STATE, LT_FOLLOWED_DOMAIN, LT_SLEWING, SEL_SWITCH_COUNT, SYNT_SOURCE, SYNT_STATE]

/-- Line time, in COARSE, FINE or HOLDOVER, has moved to domain `d` (R91): in one step where it may and the difference reaches the
threshold, else by a slew. -/
def moved (d : Nat) (s t : State) : Prop :=
  t.followed = d ∧ t.rd SEL_SWITCH_COUNT = (s.rd SEL_SWITCH_COUNT + 1) % 2 ^ 32 ∧ t.time.line = s.time.line ∧
  (s.ltSt.good = true →
    if ((s.cf SEL_SEAMLESS_THRESHOLD : Nat) : Int) * 65536 ≤ absI (s.domainDiff d) ∧ s.on SEL_STEP_ON_SWITCH = true then
      t.time.offsetAdd = some (s.domainDiff d + s.time.offsetAdd.getD 0) ∧ t.rd LT_SLEWING = 0
    else t.time.offsetAdd = s.time.offsetAdd ∧ t.rd LT_SLEWING = 1)

/-- Alarm `a` is due under the enables `en`. -/
def alarmDue (s : State) (en a : Nat) : Bool := en.testBit a && decide (lt96Units (s.rd (ALM_ALARM_TIME a)) ≤ s.time.line.units)

/-- The registers that a pass offered to a subscription may write. -/
def passKeys : List Nat :=
  LSC_NOT_FOLLOWED :: (upto 8).flatMap (fun i => [SUB_REJECTED_STALE i, SUB_REJECTED_TIME i, SUB_REJECTED_BOUNDS i, SUB_REJECTED_JUMP i,
    SUB_ACCEPTED i, SUB_LATE i, SUB_REPLACED i, SUB_CUR_SEQUENCE i, SUB_CUR_T0 i, SUB_STATE i]) ++
  (upto 32).map LSS_LS_STATUS ++ dropCounters

/-- One counter has gone on by one, and nothing else has changed. -/
def onlyCounts (k : Nat) (s t : State) : Prop := t.rd k = (s.rd k + 1) % 2 ^ 32 ∧ s.frame [k] [.regs] t

/-- A pass has been rejected by a check of Table LS-4: its counter, and the state of the subscription is as it was. -/
def rejected (i k : Nat) (s t : State) : Prop :=
  t.rd k = (s.rd k + 1) % 2 ^ 32 ∧ t.sub = s.sub ∧ t.rd (SUB_STATE i) = s.rd (SUB_STATE i) ∧
  t.rd (SUB_ACCEPTED i) = s.rd (SUB_ACCEPTED i) ∧ ∀ n ∈ s.subFollowers i, t.bitOf (LSS_LS_STATUS n) 6 = true

/-- What a write of COMMAND of axis `n` leaves (R276, R277, R329, R557): a repeated SEQ is answered and causes nothing; on a twin bench
unit a new one is refused; else the command waits, unanswered, for the axis's next L3 sample instant or, on a publishing axis, its T_c. -/
def commandTaken (s : State) (w : Wr) (n code seq : Nat) : State :=
  let a := (s.arrived w).wr (AX_COMMAND n) (code + 256 * seq)
  let c : AxCmd := ⟨code, seq, some (s.ctxOf w (AX_COMMAND n / 256) (AX_COMMAND n % 256)), s.clock⟩
  if (s.ax n).lastSeq = some seq then a.done w (AX_COMMAND n)
  else if s.isBench then (s.arrived w).denied w (AX_COMMAND n) cState
  else a.modAx n fun x =>
    if (s.publisherOf n).isSome then { x with lastSeq := some seq, taken := x.taken ++ [⟨s.clock, .cmd c⟩] }
    else { x with lastSeq := some seq, cmds := x.cmds ++ [c] }

/-- COMMAND_RESULT shows the command with its result, a refusal is counted, and the write that waits is answered (R278, Table MO-4). -/
def ended (u : State) (n : Nat) (c : AxCmd) (r : Nat) : State :=
  let u := u.wr (AX_COMMAND_RESULT n) (c.code + c.seq * 256 + r * 65536)
  let u := if r = 0 then u else u.wr (ST_COMMANDS_REFUSED n) ((u.rd (ST_COMMANDS_REFUSED n) + 1) % 2 ^ 32)
  match c.ctx with
  | some x => u.answer x (if r = 0 then 0 else if r = 1 ∨ r = 8 ∨ r = 9 then cState else cRefused) []
  | none => u

/-- A command with this code, as it takes effect, succeeds, and its effect gives a state of which `p` holds. -/
def Commanded (s : State) (n code : Nat) (p : AxCmd → State → Prop) : Prop :=
  ∀ c : AxCmd, c.code = code → ∃ u, s.runCommand n c = ended u n c 0 ∧ p c u

/-- A command with this code, as it takes effect, is refused with result `r`, and changes nothing else (R278). -/
def Refused (s : State) (n code r : Nat) : Prop := ∀ c : AxCmd, c.code = code → s.runCommand n c = ended s n c r

/-- Axis `n` holds its position at standstill: its set-point state is at rest. -/
def holds (n : Nat) (p : Int) (t : State) : Prop := t.pSet n = p ∧ t.vSet n = 0 ∧ t.aSet n = 0 ∧ t.axMode n = mmHold

/-- Axis `n` stops at deceleration `dec`: in STOPPING, or still in SETUP. -/
def stops (n : Nat) (dec : Int) (after : AfterStop) (s t : State) : Prop :=
  t.axState n = (if s.axState n = axSetup then axSetup else axStopping) ∧ t.axMode n = mmStop ∧
  (t.ax n).stopDec = dec ∧ (t.ax n).after = after ∧ t.rd (AX_QUEUE_DEPTH n) = 0 ∧ t.vSet n = s.vSet n

/-- No limit of the axis is in the way of a motion: no permitted window, no limit switch (R290, R296). -/
def clearWay (s : State) (n : Nat) : Prop :=
  s.on (LIM_LIMIT_ENABLE n) = false ∧ s.switchActive n 0 = false ∧ s.switchActive n 1 = false

/-- A packet of TYPE `typ` is well-formed, addressed to this device, signed by the key `signer`, and fresh (checks 1 and 3 to 5 of
Table SE-7). -/
def packetGood (a : State) (p : Packet) (typ signer : Nat) : Prop :=
  p.magicOk = true ∧ p.lengthOk = true ∧ p.target = a.rd ID_SERIAL_64 ∧ p.signer = signer ∧ p.signatureOk = true ∧
  (if typ = 1 ∨ typ = 7 ∨ typ = 8 then a.sec.nonce = some p.nonce else a.rd OWN_OWNER_COUNTER < p.counter)

/-- The packet is accepted (R414): it is answered with success, PACKET_RESULT reads ACCEPTED, it is counted, and `p` holds of the state
it gives. -/
def Accepted (c : Instr) (s : State) (w : Wr) (p : State → Prop) : Prop :=
  Written c s w PKT_PACKET_IN fun u => u.rd PKT_PACKET_RESULT = 0 ∧
    u.rd PKT_PACKETS_ACCEPTED = (s.rd PKT_PACKETS_ACCEPTED + 1) % 2 ^ 32 ∧ u.rd PKT_PACKETS_REFUSED = s.rd PKT_PACKETS_REFUSED ∧ p u

/-- The packet is refused with result `r` of Table SE-7 (R414, R416): it is answered with the code of its class, counted, and nothing of
it is applied. -/
def PacketRefused (c : Instr) (s : State) (w : Wr) (r : Nat) : Prop :=
  ∃ u : State, exec c s = .next (u.denied w PKT_PACKET_IN (if r = 1 ∨ r = 7 then cRange else if r = 2 then cState else cDenied)) ∧
    u.rd PKT_PACKET_RESULT = r ∧ u.rd PKT_PACKETS_REFUSED = (s.rd PKT_PACKETS_REFUSED + 1) % 2 ^ 32 ∧
    u.rd PKT_PACKETS_ACCEPTED = s.rd PKT_PACKETS_ACCEPTED ∧ u.rd OWN_CLAIM_STATE = s.rd OWN_CLAIM_STATE ∧
    u.rd OWN_OWNER_COUNTER = s.rd OWN_OWNER_COUNTER ∧ u.rd DEV_DEVICE_STATE = s.rd DEV_DEVICE_STATE ∧
    u.sec.ownerKey = s.sec.ownerKey ∧ u.sec.keys = s.sec.keys ∧ u.sec.revoked = s.sec.revoked ∧
    u.sec.sealedStore = s.sec.sealedStore ∧ u.sec.sessions = (s.arrived w).sec.sessions

/-- The newest record of the audit log has this code, and the log counts it (R437). -/
def audited (code : Nat) (s t : State) : Prop :=
  t.sec.audit.head?.map (·.code) = some code ∧ t.rd AUD_AUDIT_COUNT = (s.rd AUD_AUDIT_COUNT + 1) % 2 ^ 32

/-- Counter `k` has gone on by one. -/
def counts (k : Nat) (s t : State) : Prop := t.rd k = (s.rd k + 1) % 2 ^ 32

/-- A reset has been taken (R589, R590): in BOOT, no leg driven, every axis OFF, every session closed; the always-on domain keeps the
cause for the next boot and its objects (tracked counts as the ports have them, R145), MRAM what it holds, and every other register outside `ks` reads its default. A cold reset ends
the lock of R44 and leaves the straps to be sampled; a warm one keeps the lock. -/
def wasReset (cold : Bool) (cause : Nat) (ks : List Nat) (s t : State) : Prop :=
  t.dev = .boot ∧ t.pw.cause = cause ∧ t.leg.driven = 0 ∧ (∀ n : Fin 32, t.axState n = axOff) ∧ t.sec.sessions = [] ∧
  (∀ k, aonObject k = true → k ∉ [CLKS_CLOCK_STATUS, STBY_LAST_STANDBY_TIME] → k ∉ (upto 4).map TRK_TRACK_COUNT → t.rd k = s.rd k) ∧
  (∀ p : Fin 4, t.rd (TRK_TRACK_COUNT p) = s.rd (TRK_TRACK_COUNT p) ∨
    (s.tracked p = true ∧ t.rd (TRK_TRACK_COUNT p) = ofS 32 (s.pt p).raw)) ∧
  t.rd CLKS_CLOCK_STATUS = s.rd CLKS_CLOCK_STATUS &&& 0x70 ∧
  (∀ k, aonObject k = false → mramObject k = false → k ≠ TAMP_TAMPER_CAUSES → k ∉ ks → t.rd k = State.reset.rd k) ∧
  t.dict.stored = s.dict.stored ∧ t.dict.calInForce = s.dict.calInForce ∧ t.dict.calSlot = s.dict.calSlot ∧
  t.sec.ownerKey = s.sec.ownerKey ∧ t.rd FW_ACTIVE_SLOT = t.rd FW_NEXT_SLOT ∧ t.pw.aonUp = s.pw.aonUp ∧ t.pw.hv = s.pw.hv ∧
  t.pw.lockKept = (!cold && (s.dev == .locked || s.pw.lockKept))

/-- No latch unit takes an event of source `code` (R151). -/
def noUnit (s : State) (code : Nat) : Prop := ∀ u : Fin 16, s.unitEvent u code true = false

/-- A PTP message of the module, of messageType `typ`, is the newest frame of class 3 at port `p`, where the port is live and its buffer
has room (R61, R70). -/
def sentPtp (p typ : Nat) (s t : State) : Prop :=
  ∀ q : Fin 3, q.val = p → s.portLive q = true → s.rxHeld 0 3 + 200 ≤ Config.rxShare 0 3 →
    ∃ f, at' t.net.egress p = at' s.net.egress p ++ [f] ∧ f.cls = 3 ∧ f.ingress = 0 ∧
      ∃ o ∈ ptpOff f.bytes, beAt f.bytes o 1 = typ

/-- A write of object `k` does more than take its value: it is a row of its own, or its function acts on it. -/
def acts (k : Nat) : Bool :=
  let i := k / 256
  let j := k % 256
  [ID_STORE, ID_RESTORE_DEFAULTS, DEV_DEVICE_REQUEST, CMT_COMMIT, DEV_RESET_REQUEST, STBY_STANDBY_REQUEST, SEL_SELECT_REQUEST,
    PPS_TOD_SECONDS, ALM_ALARM_ENABLE, LEGS_LOAD_ALL, TRIP_FLAGS, SDF_OC_FLAGS, SDF_MOD_FAULT_FLAGS, ADM_ADMIT_CHECK, FIELD_STATUS, DO_SET,
    DO_SHORT, TW_HANDOVER, FW_NEXT_SLOT, FW_CONFIRM, CAL_SAVE, CAL_DISCARD, ACQ_CONTROL, ACQ_SEG_RELEASED].contains k ||
  (upto 4).any (fun c => i == SDO_COB_RX c / 256 || k == CANS_RECOVER c ||
    (decide (0x2710 + 16 * c ≤ i) && decide (i < 0x2720 + 16 * c) && (i % 16 == 6 || i % 16 == 8))) ||
  (upto 16).any (fun u => k == LU_ARM u || k == LU_NEXT u) || (upto 48).any (fun l => k == LEG_DIRECT_ENABLE l) ||
  (upto 80).any (fun t => i == CAM_FINISH t / 256) ||
  (upto 32).any (fun n => [AX_COMMAND n, AX_TARGET_VELOCITY n, AI_INDEX_ARM n, CC_MODE n, CCV_CC_STATUS n, BNK_SWAP_REQUEST n, GEAR_NUM n,
    GEAR_DEN n, CAMA_CAM_NEXT n, REG_RESET n].contains k || (i == PRF_V_MAX n / 256 && decide (2 ≤ j) && decide (j ≤ 5)))

/-- The command is a row that stands for one write of object `k` with the bytes of the request. -/
def isWrite (w : Wr) (c : Instr) (k : Nat) : Prop :=
  c = .store w ∧ k = ID_STORE ∨ c = .restoreDefaults w ∧ k = ID_RESTORE_DEFAULTS ∨ c = .commit w ∧ k = CMT_COMMIT ∨
  c = .resetRequest w ∧ k = DEV_RESET_REQUEST ∨ c = .standbyRequest w ∧ k = STBY_STANDBY_REQUEST ∨
  c = .selectRequest w ∧ k = SEL_SELECT_REQUEST ∨ c = .todSeconds w ∧ k = PPS_TOD_SECONDS ∨ c = .alarmEnable w ∧ k = ALM_ALARM_ENABLE ∨
  c = .loadAll w ∧ k = LEGS_LOAD_ALL ∨ c = .tripFlags w ∧ k = TRIP_FLAGS ∨ c = .ocFlags w false ∧ k = SDF_OC_FLAGS ∨
  c = .ocFlags w true ∧ k = SDF_MOD_FAULT_FLAGS ∨ c = .admitCheck w ∧ k = ADM_ADMIT_CHECK ∨ c = .doSet w ∧ k = DO_SET ∨
  c = .doShortClear w ∧ k = DO_SHORT ∨ c = .handover w ∧ k = TW_HANDOVER ∨ c = .nextSlot w ∧ k = FW_NEXT_SLOT ∨
  c = .fwConfirm w ∧ k = FW_CONFIRM ∨ c = .calSave w ∧ k = CAL_SAVE ∨ c = .calDiscard w ∧ k = CAL_DISCARD ∨
  c = .calImport w ∧ k = CAL_IMPORT ∨ c = .packetIn w ∧ k = PKT_PACKET_IN ∨ c = .segReleased w ∧ k = ACQ_SEG_RELEASED ∨
  (∃ n, c = .handshake w n ∧ k = SDO_HANDSHAKE n ∨ c = .recover w n ∧ k = CANS_RECOVER n) ∨
  (∃ n, c = .arm w n ∧ k = LU_ARM n ∨ c = .next w n ∧ k = LU_NEXT n ∨ c = .indexArm w n ∧ k = AI_INDEX_ARM n ∨
    c = .ccMode w n ∧ k = CC_MODE n ∨ c = .swapRequest w n ∧ k = BNK_SWAP_REQUEST n) ∨
  (∃ n, c = .targetVelocity w n ∧ k = AX_TARGET_VELOCITY n ∨ c = .gearRatioWrite w n false ∧ k = GEAR_NUM n ∨
    c = .gearRatioWrite w n true ∧ k = GEAR_DEN n ∨ c = .camNext w n ∧ k = CAMA_CAM_NEXT n ∨ c = .regReset w n ∧ k = REG_RESET n) ∨
  (∃ l, c = .directEnable w l ∧ k = LEG_DIRECT_ENABLE l) ∨ (∃ p, c = .mstTx w p ∧ k = SP_MST_TX p) ∨
  (∃ t, c = .finish w t ∧ k = CAM_FINISH t ∨ c = .tableDataWrite w t none ∧ k = tableKey t none)

/-- A busy reply has been counted (Table AR-11). -/
def busied (a : State) : State := { a with dict := { a.dict with busyReplies := (a.dict.busyReplies + 1) % 2 ^ 32 } }

/-- The command is executed, and what it gives is answered with a code and data: `p` holds of the state that the answer is given in. -/
def Answered (i : Instr) (s : State) (c : Ctx) (code : Nat) (b : Bytes) (p : State → Prop) : Prop :=
  ∃ u, exec i s = .next (u.answer c code b) ∧ p u

end Sys2Proof.Claims

open Sys2Proof Sys2Proof.Machine Sys2Proof.Machine.Obj

/-- For every state whose queue is not empty, the step is `exec` of the command at the front, on the state with the rest of the
queue: nothing is added around it. On an empty queue the step answers the state unchanged: this is the model's choice (log entry 2), since
the spec has no row for a tick, and what happens at a tick is the effect of the row that names it. -/
def Obligations.StepRunsTheFrontCommand : Prop :=
  (∀ (s : State) (c : Instr) (rest : List Instr), step (s.withPending (c :: rest)) = exec c (s.withPending rest)) ∧
  ∀ s : State, s.pending = [] → step s = .next s

/-- From every state, whatever the command at the front of the queue and its operands, the step answers a next state, never a
fault or a refusal, and the queue of that state is the rest: no command is lost, added or moved. -/
def Obligations.EveryCommandRuns : Prop :=
  ∀ (s : State) (c : Instr) (rest : List Instr), s.pending = c :: rest →
    ∃ t, step s = .next t ∧ t.pending = rest

/-- The object values, the values in force, table RAM, acquisition RAM, mailbox and mirror are lists in one canonical form:
addresses strictly rising, no entry equal to what an unlisted address reads as. Every step keeps it. What an unlisted byte reads
as is the model's choice of log entry 4. -/
def Obligations.CanonicalFormKept : Prop :=
  ∀ s t : State, s.canonical = true → step s = .next t → t.canonical = true

/-- Line time and the free clock show nanoseconds of 0 to 999,999,999, a fraction below 2^32 and seconds below 2^48. Every step
keeps that. -/
def Obligations.ClocksStayInRange : Prop :=
  ∀ s t : State, s.clocksWf = true → step s = .next t → t.clocksWf = true

/-- After reset the machine is in BOOT with no leg driven and no command waiting, every object reads the default of its row of
the object tables, the value in force of each object is that default, memory is in canonical form and both clocks are in range.
Where the spec gives no default the row carries the one that log entry 3 names. -/
def Obligations.ResetState : Prop :=
  State.reset.dev = .boot ∧ State.reset.legsOff = true ∧ State.reset.pending = [] ∧
  State.reset.canonical = true ∧ State.reset.clocksWf = true ∧
  (∀ i j w, findRow i j = some w → j < 256 →
    State.reset.rd (i * 256 + j) = w.dflt.value ((i - w.idx) / w.stride) (j - w.sub) ∧
    State.reset.cf (i * 256 + j) = State.reset.rd (i * 256 + j))

/-- Whatever the state and the operands, a command changes only the parts of the state that `touches` lists for it: only a
commit, a boot or a reset, and what runs them, writes the values in force; only RAW_SAMPLE and the resets write acquisition
memory; and so for every register group, FIFO, buffer and engine the spec names. -/
def Obligations.CommandsTouchOnlyTheirParts : Prop :=
  ∀ (c : Instr) (s t : State), exec c s = .next t → s.onlyIn (Claims.touches c) t

/-- The valleys of a group with LOCK 1 are the control-schedule instants S with (S − PHASE) mod PERIOD = 0 (R203); RELOAD at
another instant than a valley, or peak, of its group changes nothing. At one: every leg of the group that reloads there takes
the duty its cell has committed for it (R28) and is driven exactly if it is eligible (R210 to R212), its start being that
point if it was not driven; the switching signal of each leg of the group goes on from that point as its compare value gives
(R205, R206); every other leg keeps its drive, signal and compare value. A valley takes the group's new tap map (R208). No
fence, and no register but COMPARE_ACTIVE, changes. Each of these completes here, under conditions on the state and the
operands alone: reload. -/
def Obligations.ReloadSetsTheLegsOfItsGroup : Prop :=
  (∀ (s : State) (g : Fin 16), s.on (CG_LOCK g) = true → 0 < s.rd (CG_PERIOD_ACTIVE g) →
    (s.lastPoint g false - (s.cf (CG_PHASE g) : Nat)) % (s.rd (CG_PERIOD_ACTIVE g) : Nat) = 0 ∧
    s.lastPoint g false ≤ s.sched / (tickU : Int) ∧ s.sched / (tickU : Int) < s.lastPoint g false + (s.rd (CG_PERIOD_ACTIVE g) : Nat)) ∧
  ∀ (g : Fin 16) (peak : Bool) (s : State), Completes (.reload g peak) s fun t =>
    let point := s.lastPoint g peak
    let coarse := if peak = false ∧ s.leg.tapPending.testBit g = true then s.rd DL_STATE == 2 else s.leg.coarse.testBit g
    if s.atPoint g peak = false then t = s
    else
    (∀ l : Fin 48,
      (if s.groupOf l = g.val ∧ s.isReload l peak = true then
        t.rd (LEG_COMPARE_ACTIVE l) = (at' s.leg.cellCompare l).getD (s.rd (LEG_COMPARE_ACTIVE l)) ∧
        t.leg.driven.testBit l = s.legEligible l ∧ at' t.leg.cellCompare l = none ∧ at' t.leg.leaving l = none ∧
        at' t.leg.started l = (if s.legEligible l && !s.leg.driven.testBit l then point else at' s.leg.started l)
      else t.rd (LEG_COMPARE_ACTIVE l) = s.rd (LEG_COMPARE_ACTIVE l) ∧ t.leg.driven.testBit l = s.leg.driven.testBit l ∧
        at' t.leg.cellCompare l = at' s.leg.cellCompare l ∧ at' t.leg.leaving l = at' s.leg.leaving l ∧
        at' t.leg.started l = at' s.leg.started l) ∧
      at' t.leg.wave l = (if s.groupOf l = g.val then
        (at' s.leg.wave l).next (waveOf (s.cf (CG_COUNT_MODE g) == 1) peak coarse (s.rd (CG_PERIOD_ACTIVE g))
          (s.cf (CG_MIN_PULSE g)) (t.rd (LEG_COMPARE_ACTIVE l))) point
        else at' s.leg.wave l)) ∧
    t.leg.tapPending = (if peak then s.leg.tapPending else Sys2Proof.clrBit s.leg.tapPending g) ∧
    t.leg.coarse.testBit g = coarse ∧ t.leg.fenced = s.leg.fenced ∧
    s.frame ((upto 48).map LEG_COMPARE_ACTIVE) [.regs, .leg] t

/-- Clearing a trip flag drives no leg, and lifts no fence. A write of 1 to DIRECT_ENABLE of a leg that a set trip flag covers is
answered with the state-error code and changes nothing; ENABLE and SETUP of an axis whose leg set includes such a leg end with
TRIP_SET, which answers with the state-error code. A leg is not eligible to be driven while a set flag covers it, nor, if
cell-owned, while the fence of the trip stands; an ENABLE or SETUP that succeeds lifts it. Each of these completes here, under
conditions on the state and the operands alone: directEnable. -/
def Obligations.TripHoldsItsLegs : Prop :=
  (∀ (s : State) (m : Nat), (s.clearTrips m).leg = s.leg) ∧
  (∀ (s : State) (w : Wr) (l : Fin 48), s.admits w (LEG_DIRECT_ENABLE l) → w.data = [1] → (s.arrived w).tripped.testBit l = true →
    exec (.directEnable w l) s = .next ((s.arrived w).denied w (LEG_DIRECT_ENABLE l) cState)) ∧
  (∀ (s : State) (n : Fin 16), s.axState n = axReady → s.dev = .op → s.legTripped n = true →
    s.cmdEnable n = (s, rTripSet) ∧ s.cmdSetup n = (s, rTripSet)) ∧ resultCode rTripSet = cState ∧
  (∀ (s : State) (l : Fin 48), s.tripped.testBit l = true → s.legEligible l = false) ∧
  (∀ (s : State) (l : Fin 48), (s.legOwner l).isSome = true → s.leg.fenced.testBit l = true → s.legEligible l = false) ∧
  (∀ (s : State) (n : Fin 16) (l : Fin 48), s.axState n = axReady → s.dev = .op → s.legTripped n = false →
    (s.legSet n).testBit l = true → (s.cmdEnable n).1.leg.fenced.testBit l = false ∧ (s.cmdSetup n).1.leg.fenced.testBit l = false)

/-- Whatever the state of a leg, at no instant are LEGn_H and LEGn_L asserted together. Where LEGn_H is asserted, the switching signal
of this half has been high for the last DT_RISE; where LEGn_L is, low for the last DT_FALL; both dead times run anew from the leg's
start (R209, R211), truncated to 1 ns under a tap map that cannot span it (R208). A driven leg shows the two at its lands by POLARITY;
one that is not driven shows nothing (R210). -/
def Obligations.LegOutputsNeverOverlap : Prop :=
  ∀ (s : State) (l : Fin 48) (t : Int),
    let w := at' s.leg.wave l
    let dt (k : Nat) : Int := if s.leg.coarse.testBit (s.groupOf l) then ((s.cf k / 8 * 8 : Nat) : Int) else ((s.cf k : Nat) : Int)
    s.shoots l t = false ∧
    ((s.legOn l t).1 = true → at' s.leg.started l + dt (LEG_DT_RISE l) ≤ t ∧
      ∀ u : Int, t - dt (LEG_DT_RISE l) ≤ u → u ≤ t → w.at_ ≤ u → w.level u = true) ∧
    ((s.legOn l t).2 = true → at' s.leg.started l + dt (LEG_DT_FALL l) ≤ t ∧
      ∀ u : Int, t - dt (LEG_DT_FALL l) ≤ u → u ≤ t → w.at_ ≤ u → w.level u = false) ∧
    (s.leg.driven.testBit l = false → s.legLands l t = none) ∧
    (s.leg.driven.testBit l = true → ∃ a b : Bool, s.legLands l t = some (a, b) ∧
      (a = ((s.legOn l t).1 != (s.cf (LEG_POLARITY l)).testBit 0)) ∧ (b = ((s.legOn l t).2 != (s.cf (LEG_POLARITY l)).testBit 1)))

/-- On a channel whose cell is not gated, on a unit that is no twin bench, an overcurrent that the last OC_COUNT values of the
fast filter qualify (R183), or a modulator silent for 128 bits (R182), puts every leg of the axis at high impedance at once
and fences it, sets its flag and CC_STATUS bit, and the axis goes to FAULT with its cause; otherwise nothing changes.
TRIP_LEVEL shows which trip lands are at their active levels; one that is enabled and active for TRIP_FILTER + 1 samples
(R219), whatever the twin state (R543), it does the same to the legs of its mask, counts, withdraws DIRECT_ENABLE of the
direct-mode legs and faults every axis with a leg in the mask, and latch units see the event. The rest of the legs, registers
and state stays. Each of these completes here, under conditions on the state and the operands alone: modFault, overcurrent,
trip. -/
def Obligations.FastFaultsFenceAtOnce : Prop :=
  (∀ (s : State) (k : Fin 32) (b : BitVec 128), let n := k.val / 2
    let v := (fastValues (s.cf (SDC_OC_OSR k)) (s.cf (SDC_OC_COUNT k)) b).map (s.channelCurrent k)
    Completes (.overcurrent k b) s fun t =>
    if s.isBench = true ∨ s.cellGated n = true ∨
        ¬((∀ x ∈ v, F.le (s.cf (SDC_OC_HIGH k)) x = true) ∨ ∀ x ∈ v, F.le x (s.cf (SDC_OC_LOW k)) = true) then t = s
    else
      t.leg.driven = clrMask s.leg.driven (s.legSet n) ∧ t.leg.fenced = s.leg.fenced ||| s.legSet n ∧
      t.rd SDF_OC_FLAGS = orBit (s.rd SDF_OC_FLAGS) k ∧ t.rd (CCV_CC_STATUS n) = orBit (s.rd (CCV_CC_STATUS n)) 2 ∧
      (s.axState n ≠ axFault → Claims.faulted n fcOvercurrent s t) ∧
      s.frame (SDF_OC_FLAGS :: CCV_CC_STATUS n :: Claims.faultKeys n ++ dropCounters) (.leg :: Claims.faultParts) t) ∧
  (∀ (s : State) (k : Fin 32) (b : BitVec 128), let n := k.val / 2
    Completes (.modFault ⟨k, b⟩) s fun t =>
    if s.isBench = true ∨ s.cellGated n = true ∨ (b ≠ 0 ∧ b ≠ BitVec.allOnes 128) then t = s
    else
      t.leg.driven = clrMask s.leg.driven (s.legSet n) ∧ t.leg.fenced = s.leg.fenced ||| s.legSet n ∧
      t.rd SDF_MOD_FAULT_FLAGS = orBit (s.rd SDF_MOD_FAULT_FLAGS) k ∧ t.rd (CCV_CC_STATUS n) = orBit (s.rd (CCV_CC_STATUS n)) 3 ∧
      (s.axState n ≠ axFault → Claims.faulted n fcModFault s t) ∧
      s.frame (SDF_MOD_FAULT_FLAGS :: CCV_CC_STATUS n :: Claims.faultKeys n ++ dropCounters) (.leg :: Claims.faultParts) t) ∧
  (∀ (s : State) (i : Fin 8) (level : Bool) (samples : Nat), let m := s.cf (TRIP_MASK i) % 2 ^ 48
    let active := level == (s.cf TRIP_POLARITY).testBit i
    Completes (.trip ⟨i, level, samples⟩) s fun t =>
    t.bitOf TRIP_LEVEL i = active ∧ t.leg.tripLand.testBit i = level ∧
    (∀ j : Fin 8, j ≠ i → t.leg.tripLand.testBit j = s.leg.tripLand.testBit j ∧
      t.bitOf TRIP_LEVEL j = (s.leg.tripLand.testBit j == (s.cf TRIP_POLARITY).testBit j)) ∧
    if active = false ∨ (s.cf TRIP_ENABLE).testBit i = false ∨ samples ≤ s.cf (TRIP_FILTER i) then
      t.leg = { s.leg with tripLand := t.leg.tripLand } ∧ s.frame [TRIP_LEVEL] [.regs, .leg] t
    else
      t.leg.driven = clrMask s.leg.driven m ∧ t.leg.fenced = s.leg.fenced ||| m ∧
      t.rd TRIP_FLAGS = orBit (s.rd TRIP_FLAGS) i ∧ t.rd LEGS_TRIP_COUNT = (s.rd LEGS_TRIP_COUNT + 1) % 2 ^ 32 ∧
      (∀ l : Fin 48, t.rd (LEG_DIRECT_ENABLE l) =
        if m.testBit l && s.direct l then 0 else s.rd (LEG_DIRECT_ENABLE l)) ∧
      (∀ n : Fin 16, (s.legSet n &&& m) ≠ 0 → s.axState n ≠ axFault → Claims.faulted n fcTrip s t) ∧
      (∀ n : Fin 16, (s.legSet n &&& m) = 0 → t.axState n = s.axState n) ∧
      s.frame (TRIP_LEVEL :: TRIP_FLAGS :: LEGS_TRIP_COUNT :: (upto 48).map LEG_DIRECT_ENABLE ++
        (upto 16).flatMap Claims.faultKeys ++ Claims.unitKeys) ([.leg, .twin] ++ Claims.unitParts ++ Claims.faultParts) t)

/-- LOAD_ALL takes the shadows of the direct-mode legs and the periods into the pending set and marks the groups of those legs
(R215); what was pending is replaced and counted (R218), and a group whose reload point it coincides with waits for the
following one and is counted (R217). A LOAD_TRANSFER at a reload point of a group whose set is pending, strictly after the
LOAD_ALL, takes its period and the compares of its direct-mode legs together and clears the mark; at an instant that is no
reload point (R204), at a peak that a changed period must wait past, and for a group with nothing pending, nothing changes
(R216). A delay-line measurement sets DL_STATE, counts, and each group takes its map at its next valley (R208). Each of these
completes here, under conditions on the state and the operands alone: delayLineCalibration, loadAll, loadTransfer. -/
def Obligations.DirectLoads : Prop :=
  (∀ (s : State) (w : Wr), let a := s.arrived w
    s.admits w LEGS_LOAD_ALL → w.data = [1] →
    exec (.loadAll w) s = .next (a.loadAll.done w LEGS_LOAD_ALL) ∧
    a.loadAll.rd LEGS_LOAD_PENDING = a.rd LEGS_LOAD_PENDING ||| a.directGroups ∧
    (∀ l : Fin 48, at' a.loadAll.leg.pendCompare l =
      if a.direct l then a.rd (LEG_DIRECT_COMPARE l) else at' a.leg.pendCompare l) ∧
    (∀ g : Fin 16, at' a.loadAll.leg.pendPeriod g =
      if a.on (CG_LOCK g) then a.rd (CG_PERIOD_ACTIVE g) else a.rd (CG_DIRECT_PERIOD g)) ∧
    a.loadAll.rd LEGS_LOAD_DEFERRED = (a.rd LEGS_LOAD_DEFERRED +
      ((upto 16).filter (fun g => a.directGroups.testBit g && (a.atPoint g false ||
        (a.on (CG_RELOAD_AT_PEAK g) && a.cf (CG_COUNT_MODE g) == 0 && a.atPoint g true)))).length) % 2 ^ 32 ∧
    a.loadAll.leg.driven = a.leg.driven ∧ a.loadAll.leg.loadAt = a.clock ∧
    a.frame [LEGS_LOAD_PENDING, LEGS_LOAD_REPLACED, LEGS_LOAD_DEFERRED] [.regs, .leg] a.loadAll) ∧
  (∀ (s : State) (g : Fin 16) (valley : Bool), Completes (.loadTransfer g valley) s fun t =>
    let p := at' s.leg.pendPeriod g
    if s.bitOf LEGS_LOAD_PENDING g = true ∧ s.leg.loadAt < s.clock ∧ s.atPoint g (!valley) = true ∧ (valley = true ∨
        (s.on (CG_RELOAD_AT_PEAK g) = true ∧ s.cf (CG_COUNT_MODE g) = 0 ∧ p = s.rd (CG_PERIOD_ACTIVE g))) then
      t.rd (CG_PERIOD_ACTIVE g) = p ∧ t.bitOf LEGS_LOAD_PENDING g = false ∧
      (∀ l : Fin 48, t.rd (LEG_COMPARE_ACTIVE l) =
        if s.direct l && s.groupOf l == g then at' s.leg.pendCompare l else s.rd (LEG_COMPARE_ACTIVE l)) ∧
      (∀ h : Fin 16, h ≠ g → t.bitOf LEGS_LOAD_PENDING h = s.bitOf LEGS_LOAD_PENDING h) ∧
      at' t.leg.anchor g = (if p = s.rd (CG_PERIOD_ACTIVE g) then at' s.leg.anchor g else s.lastPoint g false) ∧
      (∀ l : Fin 48, (s.direct l && s.groupOf l == g) = false → at' t.leg.wave l = at' s.leg.wave l) ∧
      t.leg = { s.leg with anchor := t.leg.anchor, wave := t.leg.wave } ∧
      s.frame (LEGS_LOAD_PENDING :: CG_PERIOD_ACTIVE g :: (upto 48).map LEG_COMPARE_ACTIVE) [.regs, .leg] t
    else t = s) ∧
  (∀ (s : State) (spans : Bool) (tap : BitVec 32), Completes (.delayLineCalibration spans tap) s fun t =>
    t.rd DL_STATE = (if spans then 1 else 2) ∧ t.rd DL_CAL_COUNT = (s.rd DL_CAL_COUNT + 1) % 2 ^ 32 ∧ t.rd DL_TAP = tap.toNat ∧
    t.leg = { s.leg with tapPending := 0xffff } ∧
    (if spans = false ∧ s.rd DL_STATE ≠ 2 then s.recorded t 5 4 0 0 0 else t.host = s.host) ∧
    s.frame (DL_STATE :: DL_CAL_COUNT :: DL_TAP :: dropCounters) [.regs, .host, .leg] t)

/-- A write of OC_FLAGS or MOD_FAULT_FLAGS that is admitted is answered with success. A bit written 1 whose channel no longer has
the condition at the write (`w.vd` carries which channels have it) reads 0 after it; every other bit reads as before. Nothing
else of the registers changes, and no leg is released. Each of these completes here, under conditions on the state and the
operands alone: ocFlags. -/
def Obligations.FastFaultFlagsClear : Prop :=
  ∀ (s : State) (w : Wr) (md : Bool), let a := s.arrived w
    let key := if md then SDF_MOD_FAULT_FLAGS else SDF_OC_FLAGS
    let now := if md then w.vd.md else w.vd.oc
    s.admits w key → w.data.length = 4 →
    Written (.ocFlags w md) s w key fun u =>
      (∀ k : Fin 32, u.bitOf key k = (a.bitOf key k && !((leNat w.data).testBit k && !now.testBit k))) ∧
      u.leg.driven = a.leg.driven ∧ u.leg.fenced = a.leg.fenced ∧ a.frame [key] [.regs, .leg] u

/-- A written 1 clears a TRIP_FLAGS bit exactly where the trip input is at its inactive level at the write (R222), and releases no
leg (R223). DIRECT_ENABLE takes what is written: 0 leaves the leg's drive as it is until the next reload point (R212), 1 also
ends a fence of the leg, where no set trip flag covers it (R223). CC_MODE 2 takes effect at once in SETUP, and is answered
with the state-error code in any other axis state, with nothing changed; any other mode is stored for the next commit (R187).
SWAP_REQUEST marks each level asked for, where every inactive bank asked for lies in range; otherwise nothing changes and the
range-error code answers. At a sample instant, strictly after the request (R250), of a level whose swap is pending the other
bank becomes active, the mark clears and SWAP_COUNT counts; without one, or in the core clock of the request, nothing changes
(R249). Each of these completes here, under conditions on the state and the operands alone: tripFlags, directEnable, ccMode,
swapRequest, bankSwap. -/
def Obligations.FlagsModesAndBanks : Prop :=
  (∀ (s : State) (w : Wr), let a := s.arrived w
    s.admits w TRIP_FLAGS → w.data.length = 1 →
    Written (.tripFlags w) s w TRIP_FLAGS fun u =>
      (∀ i : Fin 8, u.bitOf TRIP_FLAGS i = (a.bitOf TRIP_FLAGS i && !((leNat w.data).testBit i && (a.leg.tripLand.testBit i != (a.cf TRIP_POLARITY).testBit i)))) ∧
      u.leg = a.leg ∧ a.frame [TRIP_FLAGS] [.regs] u) ∧
  (∀ (s : State) (w : Wr) (l : Fin 48), let a := s.arrived w
    s.admits w (LEG_DIRECT_ENABLE l) → w.data = [0] →
    exec (.directEnable w l) s = .next ((a.wr (LEG_DIRECT_ENABLE l) 0).done w (LEG_DIRECT_ENABLE l))) ∧
  (∀ (s : State) (w : Wr) (l : Fin 48), let a := s.arrived w
    s.admits w (LEG_DIRECT_ENABLE l) → w.data = [1] → a.tripped.testBit l = false →
    Written (.directEnable w l) s w (LEG_DIRECT_ENABLE l) fun u =>
      u.rd (LEG_DIRECT_ENABLE l) = 1 ∧ u.leg.driven = a.leg.driven ∧
      (∀ m : Fin 48, u.leg.fenced.testBit m = (a.leg.fenced.testBit m && decide (m ≠ l))) ∧
      a.frame [LEG_DIRECT_ENABLE l] [.regs, .leg] u) ∧
  (∀ (s : State) (w : Wr) (n : Fin 16), let a := s.arrived w
    s.admits w (CC_MODE n) → w.data = [2] →
    exec (.ccMode w n) s = .next (if a.inSetup n then ((a.wr (CC_MODE n) 2).wrForce (CC_MODE n) 2).done w (CC_MODE n)
      else a.denied w (CC_MODE n) cState)) ∧
  (∀ (s : State) (w : Wr) (n : Fin 16), let a := s.arrived w
    s.admits w (CC_MODE n) → w.data.length = 1 → leNat w.data ∈ [0, 1, 3, 4] →
    exec (.ccMode w n) s = .next ((a.wr (CC_MODE n) (leNat w.data)).done w (CC_MODE n))) ∧
  (∀ (s : State) (w : Wr) (n : Fin 16), let a := s.arrived w
    let asked (i : Fin 4) := (leNat w.data).testBit i && !a.bitOf (BNK_SWAP_PENDING n) i
    s.admits w (BNK_SWAP_REQUEST n) → w.data.length = 1 →
    if ∀ i : Fin 4, asked i = true → a.bankOk n (i + 1) (1 - a.bank n (i + 1)) = true then
      Written (.swapRequest w n) s w (BNK_SWAP_REQUEST n) fun u =>
        (∀ i : Fin 4, u.bitOf (BNK_SWAP_PENDING n) i = (a.bitOf (BNK_SWAP_PENDING n) i || (leNat w.data).testBit i)) ∧
        u.rd (BNK_BANK_ACTIVE n) = a.rd (BNK_BANK_ACTIVE n) ∧ 
        (∀ i : Fin 4, asked i = true → at' (u.cs n).swapAt i = a.clock) ∧ a.frame [BNK_SWAP_PENDING n] [.regs, .casc] u
    else exec (.swapRequest w n) s = .next (a.denied w (BNK_SWAP_REQUEST n) cRange)) ∧
  (∀ (s : State) (n : Fin 16) (lv : Fin 4), Completes (.bankSwap n lv) s fun t =>
    if s.bitOf (BNK_SWAP_PENDING n) lv = true ∧ at' (s.cs n).swapAt lv < s.clock then
      t.bitOf (BNK_BANK_ACTIVE n) lv = !s.bitOf (BNK_BANK_ACTIVE n) lv ∧ t.bitOf (BNK_SWAP_PENDING n) lv = false ∧
      t.rd (BNK_SWAP_COUNT n) = (s.rd (BNK_SWAP_COUNT n) + 1) % 2 ^ 32 ∧
      (∀ l : Fin 4, l ≠ lv → t.bitOf (BNK_BANK_ACTIVE n) l = s.bitOf (BNK_BANK_ACTIVE n) l ∧
        t.bitOf (BNK_SWAP_PENDING n) l = s.bitOf (BNK_SWAP_PENDING n) l) ∧
      s.frame [BNK_BANK_ACTIVE n, BNK_SWAP_PENDING n, BNK_SWAP_COUNT n] [.regs] t
    else t = s)

/-- At an L1 sample instant of an axis with a cell: a gated cell shows 0 A on both channels; any other shows on each channel the
current of R181 for its window and on the phases the currents that follow from it. The drive of the legs stays until the next
reload point (R28). A duty committed is a compare value of its group's third case of R205 on a leg of the cell; a bench unit
commits none (R200). Where V_DC lies below VDC_MIN while the power stage is on, nothing is committed, the legs are fenced at
their next reload and the axis goes to FAULT with UNDERVOLTAGE (R194). With CC_MODE 0 there is no cell, and nothing changes.
Each of these completes here, under conditions on the state and the operands alone: currentCellSample. -/
def Obligations.CurrentCellSamples : Prop :=
  ∀ (s : State) (n : Fin 16) (w0 w1 : BitVec 256) (gap : Bool), Completes (.currentCellSample n w0 w1 gap) s fun t =>
    (s.ccMode n = 0 → t = s) ∧
    (s.ccMode n ≠ 0 → t.leg.driven = s.leg.driven ∧
      (s.cellGated n = true → t.rd (SDC_CURRENT (2 * n)) = 0 ∧ t.rd (SDC_CURRENT (2 * n + 1)) = 0 ∧ t.leg = s.leg) ∧
      (s.cellGated n = false →
        let ia := s.channelCurrent (2 * n) (sincValue (s.cf (CC_OSR n)) w0)
        let ib := s.channelCurrent (2 * n + 1) (sincValue (s.cf (CC_OSR n)) w1)
        t.rd (SDC_CURRENT (2 * n)) = ia ∧ t.rd (SDC_CURRENT (2 * n + 1)) = ib ∧
        t.rd (CCP_I_PHASE n 0) = ia ∧ t.rd (CCP_I_PHASE n 1) = ib ∧
        t.rd (CCP_I_PHASE n 2) = (if s.twoPhase n then 0 else F.sub (F.neg ia) ib) ∧
        (s.isBench = true → t.leg = { s.leg with ocNow := t.leg.ocNow, modNow := t.leg.modNow }) ∧
        (∀ l : Fin 48, at' t.leg.cellCompare l = at' s.leg.cellCompare l ∨
          (s.isBench = false ∧ (∃ i : Fin 4, s.cf (CCL_LEG n i) = l.val) ∧
            ∃ c, at' t.leg.cellCompare l = some c ∧ 1 ≤ c ∧
              c ≤ max 1 (max (s.cf (CG_MIN_PULSE (s.cf (CC_CARRIER_GROUP n))))
                (s.cf (CG_PERIOD (s.cf (CC_CARRIER_GROUP n))) - s.cf (CG_MIN_PULSE (s.cf (CC_CARRIER_GROUP n))))))) ∧
        (s.vdcLow n = true → s.stageOn n = true → s.isBench = false →
          t.axState n = axFault ∧ t.bitOf (ST_FAULT_CAUSES n) fcUndervoltage = true ∧
          t.bitOf (CCV_CC_STATUS n) 4 = true ∧ t.leg.cellCompare = s.leg.cellCompare ∧
          t.leg.fenced = s.leg.fenced ||| s.legSet n)))

/-- A transition of A or B whose new level holds for FILTER is accepted (R113) and takes the level; its stamp is that of the edge
at the land (R114). On an active port in quadrature or hybrid mode it counts one, positive when A leads B after inversion; the
output position follows it, but holds its value at a reversing transition and at the one after it (R118). A transition less
than 2 ns from accepted ones of the other land is not counted, nor are those: their counts are taken back, and QUAD_ERROR is
set and counted (R116). A tracked count follows the raw count (R145). A shorter pulse, or the level the land has already,
changes nothing; in other modes only the level is taken. Each of these completes here, under conditions on the state and the
operands alone: quadTransition. -/
def Obligations.QuadratureCounts : Prop :=
  ∀ (s : State) (p : Fin 16) (isB level : Bool) (off : Int) (stable : Nat),
    Completes (.quadTransition p isB ⟨level, stable⟩ off) s fun t =>
    let li := if isB then 1 else 0
    let q := s.pt p
    let r := t.pt p
    let dir : Int := if isB = ((level != (s.cf (FB_INVERT p)).testBit li) == s.landOf p (1 - li)) then 1 else -1
    let now := s.nowT + off - Config.pathDelay (4 * p + li)
    if stable < 8 * s.cf (FB_FILTER p) ∨ at' q.lvl li = level then t = s
    else
      at' r.lvl li = level ∧ at' r.lvl (1 - li) = at' q.lvl (1 - li) ∧ (∀ o : Fin 16, o ≠ p → t.pt o = s.pt o) ∧
      (if (s.portMode p ≠ 1 ∧ s.portMode p ≠ 3) ∨ s.bitOf (FB_PORT_STATUS p) 0 = false then
        r.raw = q.raw ∧ r.out = q.out ∧ t.regs = s.regs
      else
        (let near := q.recent.filter (fun e => e.isB != isB && decide (-16 < now - e.t) && decide (now - e.t < 16))
        if near ≠ [] then
          r.recent.head? = some ⟨isB, now, none⟩ ∧ t.bitOf (FB_PORT_STATUS p) 3 = true ∧
          t.rd (FB_QUAD_ERRORS p) = (s.rd (FB_QUAD_ERRORS p) + 1) % 2 ^ 32 ∧
          r.raw = q.raw - ((near.filterMap (·.undo)).map (·.dir)).sum ∧
          (near.filterMap (·.undo) = [] → r.out = q.out ∧ r.held = q.held ∧ r.lastDir = q.lastDir)
        else r.recent.head? = some ⟨isB, now, some ⟨dir, q.out - q.raw, q.held, q.lastDir, q.idxDir⟩⟩ ∧ Claims.counted p q r dir s t) ∧
        (p.val < 4 → s.tracked p = true → s.portsSet = true → t.rd (TRK_TRACK_COUNT p) = ofS 32 r.raw)) ∧
      s.frame [FB_PORT_STATUS p, FB_QUAD_ERRORS p, TRK_TRACK_COUNT p] [.regs, .port] t

/-- On an active port in SSI mode, the bits sampled from the filtered data land after the clock edges (R123, R124) give a word.
One that passes R126 gives the position: the first one after commit its value modulo 2^32, a later one the last position plus
the difference from the last word modulo 2^SSI_BITS read as signed (R127); the port is then valid and referenced. A frame
error sets its flag and counts, carries the last position on at the last speed, and the third in a row clears POS_VALID.
Otherwise nothing changes. Each of these completes here, under conditions on the state and the operands alone: ssiTransfer. -/
def Obligations.SsiWords : Prop :=
  ∀ (s : State) (p : Fin 16) (w : SsiWave) (clock : Int), Completes (.ssiTransfer p w clock) s fun t =>
    let q := s.pt p
    if s.portMode p ≠ 2 ∨ s.bitOf (FB_PORT_STATUS p) 0 = false then t = s
    else (match s.ssiDecode p (s.ssiHigh p w clock) (s.ssiBits p w clock) with
      | none =>
        t.rd (FB_PORT_STATUS p) = (if 2 ≤ q.errRun then Sys2Proof.clrBit (orBit (s.rd (FB_PORT_STATUS p)) 4) 1
          else orBit (s.rd (FB_PORT_STATUS p)) 4) ∧
        t.rd (FB_SSI_ERRORS p) = (s.rd (FB_SSI_ERRORS p) + 1) % 2 ^ 32 ∧ (t.pt p).raw = q.raw ∧ (t.pt p).errRun = q.errRun + 1 ∧
        Claims.sampled p s.nowT (match q.hist with
          | x :: _ => carry x.x x.v (s.nowT - x.t)
          | [] => q.out * 2 ^ 32 + q.sub) s t
      | some v =>
        let raw : Int := match (if q.wantWord then none else q.ssiWord) with
          | none => ((v % 2 ^ 32 : Nat) : Int)
          | some v0 => q.raw + toS (s.cf (FB_SSI_BITS p)) (ofS (s.cf (FB_SSI_BITS p)) ((v : Int) - (v0 : Int)))
        (t.pt p).raw = raw ∧ (t.pt p).ssiWord = some v ∧ (t.pt p).errRun = 0 ∧ (t.pt p).wantWord = false ∧
        t.bitOf (FB_PORT_STATUS p) 1 = true ∧ t.bitOf (FB_PORT_STATUS p) 2 = true ∧ t.bitOf (FB_PORT_STATUS p) 9 = false ∧
        t.rd (FB_SSI_ERRORS p) = s.rd (FB_SSI_ERRORS p) ∧
        Claims.sampled p s.nowT (raw * 2 ^ 32 + (if q.wantWord then 0 else q.sub)) s t) ∧
      s.frame (FB_PORT_STATUS p :: FB_SSI_ERRORS p :: TRK_TRACK_LOST :: Claims.sampleKeys s p) [.regs, .port, .latch] t

/-- The absolute word after commit puts a hybrid port at word × HYBRID_SCALE at that instant, and makes it valid and referenced
(R129). A later word is compared: the deviation of the incremental position from word × HYBRID_SCALE, modulo 2^SSI_BITS ·
HYBRID_SCALE and read as signed, has the outcome of Table FB-4 (R130). A word with a frame error only sets the flag and
counts; a word that nobody waits for, or on a port that is not active, changes nothing. Each of these completes here, under
conditions on the state and the operands alone: hybridReference, hybridCheck. -/
def Obligations.HybridWords : Prop :=
  (∀ (s : State) (p : Fin 16) (w : SsiWave) (clock : Int), Completes (.hybridReference p w clock) s fun t =>
    if s.portMode p = 3 ∧ s.bitOf (FB_PORT_STATUS p) 0 = true ∧ (s.pt p).wantWord = true then
      (match s.ssiDecode p (s.ssiHigh p w clock) (s.ssiBits p w clock) with
        | none => t.bitOf (FB_PORT_STATUS p) 4 = true ∧ t.rd (FB_SSI_ERRORS p) = (s.rd (FB_SSI_ERRORS p) + 1) % 2 ^ 32 ∧ t.port = s.port
        | some v => posDiff (t.portPos p s.nowT) (((v * s.cf (FB_HYBRID_SCALE p) : Nat) : Int) * 2 ^ 32) = 0 ∧
          (t.pt p).wantWord = false ∧ t.bitOf (FB_PORT_STATUS p) 1 = true ∧ t.bitOf (FB_PORT_STATUS p) 2 = true) ∧
      s.frame [FB_PORT_STATUS p, FB_SSI_ERRORS p, TRK_TRACK_LOST] [.regs, .port] t
    else t = s) ∧
  (∀ (s : State) (p : Fin 16) (w : SsiWave) (clock : Int), s.boundAxis p = none → Completes (.hybridCheck p w clock) s fun t =>
    t.port = s.port ∧ s.frame [FB_PORT_STATUS p, FB_SSI_ERRORS p] [.regs] t) ∧
  (∀ (s : State) (p : Fin 16) (w : SsiWave) (clock : Int) (n : Fin 16), s.boundAxis p = some n.val →
    Completes (.hybridCheck p w clock) s fun t =>
    if s.portMode p = 3 ∧ s.bitOf (FB_PORT_STATUS p) 0 = true ∧ s.cf (FB_HYBRID_CHECK p) ≠ 0 ∧ (s.pt p).wantWord = false then
      (match s.ssiDecode p (s.ssiHigh p w clock) (s.ssiBits p w clock) with
        | none => t.bitOf (FB_PORT_STATUS p) 4 = true ∧ t.rd (FB_SSI_ERRORS p) = (s.rd (FB_SSI_ERRORS p) + 1) % 2 ^ 32 ∧ t.port = s.port
        | some v =>
          let m : Int := ((2 ^ s.cf (FB_SSI_BITS p) * s.cf (FB_HYBRID_SCALE p) : Nat) : Int) * 2 ^ 16
          let d := (s.portPos p s.nowT / 2 ^ 16 - ((v * s.cf (FB_HYBRID_SCALE p) : Nat) : Int) * 2 ^ 16) % m
          Claims.checked p n 7 (if m ≤ 2 * d then d - m else d) (s.cf (FB_HYBRID_TOLERANCE p)) s t) ∧
      s.frame ([FB_PORT_STATUS p, FB_SSI_ERRORS p, AI_CORRECTION_COUNT n, AI_MISMATCH_COUNT n, ST_FAULT_CAUSE n, ST_FAULT_CAUSES n] ++
        dropCounters)
        [.regs, .host, .axis, .port] t
    else t = s)

/-- On an active port in sin/cos mode a conversion that R131 does not skip takes the quadrant counter on by the quadrants counted
and lets the angle decide where it differs by one quadrant (R133); a difference of two sets SC_COUNT_ERROR, a vector length
outside 40 % to 130 % of 0.5 V sets SC_AMPLITUDE, and each clears POS_VALID, which is set otherwise (R134). The conversion of
an L1 sample instant gives the position: the counts and the angle within one count in 2^-18 (R132). Without SC_CORR_ENABLE no
estimate changes; outside 1 Hz to 50 kHz they are frozen (R135). In another mode nothing changes. What the converters and the
estimator give is open (log entry 78). Each of these completes here, under conditions on the state and the operands alone:
sincosConversion. -/
def Obligations.SincosConversions : Prop :=
  ∀ (s : State) (p : Fin 4) (c : ScConv), Completes (.sincosConversion p c) s fun t =>
    let (u, v) := s.scVolts p (Config.scVolts c.sin).toNat (Config.scVolts c.cos).toNat
    let (a, b) := s.scCorrect p u v
    let len := F.sqrt (F.add (F.mul a a) (F.mul b b))
    let inside := F.le 0x3e4ccccd len && F.le len 0x3f266666
    let st : Int := f32.toIntNearest (F.mul (F.atan2 a b) stepsPerRad) 0 % 2 ^ 20
    let q := s.pt p
    let raw := if q.scInit then st / 2 ^ 18 + q.scOff else q.raw + c.dq
    let d := (st / 2 ^ 18 - (raw - q.scOff)) % 4
    let est := [FB_SC_OFFSET_SIN p, FB_SC_OFFSET_COS p, FB_SC_GAIN_RATIO p, FB_SC_PHASE p]
    let spd := absI (lastSpeed q.hist)
    if s.portMode p ≠ 4 ∨ s.bitOf (FB_PORT_STATUS p) 0 = false ∨ s.scTaken p c.k = false then t = s
    else
      (t.pt p).raw = (if d = 1 then raw + 1 else if d = 3 then raw - 1 else raw) ∧ (t.pt p).scInit = false ∧
      t.bitOf (FB_PORT_STATUS p) 6 = (s.bitOf (FB_PORT_STATUS p) 6 || decide (d = 2)) ∧
      t.bitOf (FB_PORT_STATUS p) 5 = (s.bitOf (FB_PORT_STATUS p) 5 || !inside) ∧
      t.bitOf (FB_PORT_STATUS p) 1 = (decide (d ≠ 2) && inside) ∧
      (s.on (FB_SC_CORR_ENABLE p) = false → t.rd (FB_SC_CORR_STATE p) = 0 ∧ ∀ k ∈ est, t.rd k = s.rd k) ∧
      (s.on (FB_SC_CORR_ENABLE p) = true → if spd < 4 * 2 ^ 32 ∨ 200000 * 2 ^ 32 ≤ spd then
          t.rd (FB_SC_CORR_STATE p) = 3 ∧ ∀ k ∈ est, t.rd k = s.rd k
        else t.rd (FB_SC_CORR_STATE p) = 1 ∨ t.rd (FB_SC_CORR_STATE p) = 2) ∧
      (c.k = 0 → Claims.sampled p s.nowT ((t.pt p).raw * 2 ^ 32 + st % 2 ^ 18 * 2 ^ 14 + q.sub) s t) ∧
      s.frame (FB_PORT_STATUS p :: FB_SC_CORR_STATE p :: est ++ Claims.sampleKeys s p) [.regs, .port, .latch] t

/-- An accepted Z transition (R113) of an active quadrature or sin/cos port is the index event if it rises with no last count or a
positive one, or falls with a negative one (R140): it is stamped at the land's edge (R114), offered to the latch units (R151),
and on a bound axis counted. In reference mode, armed, it sets the position at the index instant to REFERENCE_POSITION and
makes the port referenced; later ones move nothing (R141). In check mode the first one is the base, and each later one has the
outcome of Table FB-4 for its deviation from the nearest whole turn (R142, R143). Any other accepted Z transition changes only
the level, and a pulse shorter than FILTER nothing. A write of 1 to INDEX_ARM arms reference mode again. Each of these
completes here, under conditions on the state and the operands alone: indexEvent, indexArm. -/
def Obligations.IndexEvents : Prop :=
  (∀ (s : State) (p : Fin 16) (level : Bool) (off : Int) (stable : Nat), Completes (.indexEvent p ⟨level, stable⟩ off) s fun t =>
    let z := level != (s.cf (FB_INVERT p)).testBit 2
    let i := s.nowT + off - Config.pathDelay (4 * p + 2)
    if stable < 8 * s.cf (FB_FILTER p) ∨ at' (s.pt p).lvl 2 = level then t = s
    else
    at' (t.pt p).lvl 2 = level ∧
    (if (s.portMode p = 1 ∨ s.portMode p = 4) ∧ s.bitOf (FB_PORT_STATUS p) 0 = true ∧ z = decide (0 ≤ (s.pt p).idxDir) then
      t.rd (FB_INDEX_STAMP p) = s.stampT i ∧ (s.boundAxis p = none → (t.pt p).raw = (s.pt p).raw) ∧
      ∀ n : Fin 16, s.boundAxis p = some n.val →
      t.rd (AI_INDEX_COUNT n) = (s.rd (AI_INDEX_COUNT n) + 1) % 2 ^ 32 ∧
      (s.cf (AI_INDEX_MODE n) = 1 → (s.pt p).idxArmed = true →
        posDiff (t.portPos p i) (s.cq (AI_REFERENCE_POSITION n)) = 0 ∧ t.bitOf (FB_PORT_STATUS p) 2 = true ∧
        (t.pt p).idxArmed = false ∧ (t.pt p).held = false) ∧
      (s.cf (AI_INDEX_MODE n) = 1 → (s.pt p).idxArmed = false → (t.pt p).raw = (s.pt p).raw ∧ (t.pt p).out = (s.pt p).out) ∧
      (s.cf (AI_INDEX_MODE n) = 2 → (s.pt p).idxBase = none →
        (t.pt p).idxBase = some (s.portPos p i / 2 ^ 16) ∧ (t.pt p).raw = (s.pt p).raw) ∧
      (∀ b ∈ (s.pt p).idxBase, s.cf (AI_INDEX_MODE n) = 2 →
        let cpr : Int := ((s.cf (AF_COUNTS_PER_REV n) : Nat) : Int) * 2 ^ 16
        let d := toS 48 (ofS 48 (s.portPos p i / 2 ^ 16 - b))
        let dev := d - (2 * d + cpr).fdiv (2 * cpr) * cpr
        t.rd (AI_LAST_DEVIATION n) = ofPos (dev * 2 ^ 16) ∧
        (if -((s.cf (AI_INDEX_TOLERANCE n) : Nat) : Int) * 2 ^ 16 ≤ dev ∧ dev < ((s.cf (AI_INDEX_TOLERANCE n) : Nat) : Int) * 2 ^ 16 + 1
         then t.portPos p i = (if s.on (AI_INDEX_CORRECT n) then s.portPos p i - dev * 2 ^ 16 else s.portPos p i)
         else t.portPos p i = s.portPos p i ∧ t.bitOf (FB_PORT_STATUS p) 8 = true ∧
           (s.on (AI_INDEX_FAULT n) = true → s.axState n ≠ axOff → (t.ax n).classB.testBit fcIndex = true)))
    else t.regs = s.regs ∧ (t.pt p).raw = (s.pt p).raw ∧ t.host = s.host ∧ t.axis = s.axis ∧ t.latch = s.latch) ∧
    s.frame ([FB_INDEX_STAMP p, FB_PORT_STATUS p, TRK_TRACK_LOST, TRK_TRACK_COUNT p] ++ (match s.boundAxis p with
      | some n => [AI_INDEX_COUNT n, AI_LAST_DEVIATION n, AI_CORRECTION_COUNT n, AI_MISMATCH_COUNT n, ST_FAULT_CAUSE n, ST_FAULT_CAUSES n]
      | none => []) ++ Claims.unitKeys) (.port :: Claims.unitParts) t) ∧
  (∀ (s : State) (w : Wr) (n : Fin 16), s.admits w (AI_INDEX_ARM n) → w.data = [1] →
    exec (.indexArm w n) s = .next ((match (s.arrived w).motorPort n with
      | some p => (s.arrived w).modPt p (fun q => { q with idxArmed := true })
      | none => s.arrived w).done w (AI_INDEX_ARM n)))

/-- While every control rail is up and the ports have their settings, the count of each tracked port is its raw count (R145).
While one is down, each tracked port takes its two levels: one that changed alone counts one, in the sense of R115, the
position wrapping at 32 bits; both at once, or a count less than 4 samples after the last, set TRACKING_LOST (R146). A port
that is not tracked keeps its state. The sample is a microsecond of the holdover clock (R586). Each of these completes here,
under conditions on the state and the operands alone: trackerSample. -/
def Obligations.StandbyTracking : Prop :=
  ∀ (s : State) (a b : BitVec 4), Completes (.trackerSample a b) s fun t =>
    if s.pw.railsUp then
      (∀ p : Fin 4, t.rd (TRK_TRACK_COUNT p) =
        if s.portsSet = true ∧ s.tracked p = true then ofS 32 (s.pt p).raw else s.rd (TRK_TRACK_COUNT p)) ∧
      s.frame ((upto 4).map TRK_TRACK_COUNT) [.regs] t
    else
      (∀ p : Fin 4, let k := at' s.track p
        let k' := at' t.track p
        let va := a.getLsbD p
        let vb := b.getLsbD p
        if k.on = false then k' = k ∧ t.rd (TRK_TRACK_COUNT p) = s.rd (TRK_TRACK_COUNT p) ∧ t.bitOf TRK_TRACK_LOST p = s.bitOf TRK_TRACK_LOST p
        else
          let one := (va != k.a) != (vb != k.b)
          let dir : Int := if (va != k.a) = ((va != k.invA) == (vb != k.invB)) then -1 else 1
          k'.a = va ∧ k'.b = vb ∧ k'.on = true ∧
          t.rd (TRK_TRACK_COUNT p) = (if one then ofS 32 (toS 32 (s.rd (TRK_TRACK_COUNT p)) + dir) else s.rd (TRK_TRACK_COUNT p)) ∧
          k'.since = (if one then some 0 else k.since.map (· + 1)) ∧
          t.bitOf TRK_TRACK_LOST p = (s.bitOf TRK_TRACK_LOST p || ((va != k.a) && (vb != k.b)) ||
            (one && decide (k.since = some 0 ∨ k.since = some 1 ∨ k.since = some 2)))) ∧
      t.aonClock = s.aonClock + 1000 * 2 ^ 32 ∧
      s.frame (TRK_TRACK_LOST :: (upto 4).map TRK_TRACK_COUNT) [.regs, .pw, .track] t

/-- An accepted change of a LAT land shows its level after LAT_INVERT (R150) and reaches every latch unit: one that is disabled,
not armed or has another source or edge ignores it (R151, R154); one that took an event less than 40 ns before or after counts
it as DROPPED (R153); one whose window rules it out counts it as DISCARDED (R155, R156); any other captures stamp and
positions (R152), shows the oldest capture of its queue of four, and in single mode disarms (R154, R158, R159). A pulse
shorter than LAT_FILTER, or no change, does nothing. ARM arms an enabled unit; NEXT drops the oldest capture. Each of these
completes here, under conditions on the state and the operands alone: latchEvent, arm, next. -/
def Obligations.LatchUnits : Prop :=
  (∀ (s : State) (land : Fin 8) (level : Bool) (off : Int) (stable : Nat), Completes (.latchEvent land ⟨level, stable⟩ off) s fun t =>
    let i := s.nowT + off - Config.pathDelay (64 + land)
    let f := s.freeT + (i - s.nowT)
    let v := level != (s.cf LATI_LAT_INVERT).testBit land
    if stable < 8 * s.cf (LATI_LAT_FILTER land) ∨ s.field.lats.testBit land = level then t = s
    else
    t.bitOf LATI_LAT_LEVEL land = v ∧ (∀ o : Fin 8, o ≠ land → t.bitOf LATI_LAT_LEVEL o = s.bitOf LATI_LAT_LEVEL o) ∧
    t.field = { s.field with lats := Sys2Proof.putBit s.field.lats land level } ∧
    (∀ u : Fin 16, let l := s.lu u
    let l' := t.lu u
    let c := s.capture u i (s.stampT i)
    let drop (k : Nat) := t.rd (LU_DROPPED u) = (s.rd (LU_DROPPED u) + k) % 2 ^ 32
    let shut := s.cf (LU_WINDOW u) ≠ 0 ∧ (s.unitWindow u (at' c.pos 0) = false ∨ (s.cf (LU_WINDOW u) = 2 ∧ (l.locked = true ∨ ∃ x ∈ l.passEnd, i < x)))
    if s.cf (LU_MODE u) = 0 ∨ s.rd (LU_ARMED u) = 0 ∨ s.unitEvent u land v = false then
      l' = l ∧ t.rd (LU_DROPPED u) = s.rd (LU_DROPPED u) ∧ t.rd (LU_ARMED u) = s.rd (LU_ARMED u)
    else if ∃ t0, l.last = some t0 ∧ -320 < f - t0 ∧ f - t0 < 320 then l' = l ∧ drop 1 ∧ t.rd (LU_ARMED u) = s.rd (LU_ARMED u)
    else l'.last = some f ∧
      (if shut then l'.queue = l.queue ∧ t.rd (LU_DISCARDED u) = (s.rd (LU_DISCARDED u) + 1) % 2 ^ 32 ∧
        t.rd (LU_ARMED u) = s.rd (LU_ARMED u)
      else l'.recent = (c :: l.recent).take 16 ∧ c.stamp = s.stampT i ∧
        (∀ j : Fin 4, s.cf (LU_AXIS u j) < 32 → at' c.pos j = trunc16 (s.axisPos (s.cf (LU_AXIS u j)) i)) ∧
        (if l.queue.length < 4 then l'.queue = l.queue ++ [c] else l'.queue = l.queue ∧ drop 1) ∧
        t.rd (LU_PENDING u) = l'.queue.length ∧ (∀ h ∈ l'.queue.head?, t.rd (LU_CAP_STAMP u) = h.stamp) ∧
        t.rd (LU_ARMED u) = (if s.cf (LU_MODE u) = 1 then 0 else s.rd (LU_ARMED u)))) ∧
    s.frame (LATI_LAT_LEVEL :: Claims.unitKeys) (.field :: Claims.unitParts) t) ∧
  (∀ (s : State) (w : Wr) (u : Fin 16), let a := s.arrived w
    s.admits w (LU_ARM u) → w.data = [1] →
    exec (.arm w u) s = .next ((if a.cf (LU_MODE u) = 0 then a else a.wr (LU_ARMED u) 1).done w (LU_ARM u))) ∧
  (∀ (s : State) (w : Wr) (u : Fin 16), let a := s.arrived w
    s.admits w (LU_NEXT u) → w.data = [1] → Written (.next w u) s w (LU_NEXT u) fun x =>
      (x.lu u).queue = (a.lu u).queue.drop 1 ∧ x.rd (LU_PENDING u) = ((a.lu u).queue.drop 1).length ∧
      (∀ h ∈ ((a.lu u).queue.drop 1).head?, x.rd (LU_CAP_STAMP u) = h.stamp ∧ x.rd (LU_CAP_FLAGS u) = h.flags ∧
        ∀ i : Fin 4, x.rd (LU_CAP_POS u i) = ofPos (at' h.pos i)) ∧
      a.frame ([LU_PENDING u, LU_CAP_STAMP u, LU_CAP_FLAGS u] ++ (upto 4).map (LU_CAP_POS u)) [.regs, .latch] x)

/-- A source sample of an enabled output without POS_VALID holds it and sets SOURCE_INVALID (R166). With it the emulated count of
R161 is the target: the first sample, and every one in SSI mode, takes it at once; a later one steps the output by the counts
due, no further than MAX_EDGE_RATE has let out by then (R165). No count is lost: LAG shows how many are still due, which
OVERSPEED marks. A transfer latches the word if the data land was high, and each rising edge gives the next bit of it, from
bit 1 again past its end (R168, R169); the monoflop ends it once SSI_MONOFLOP has passed. A disabled output, or one in the
other mode, stays. The lands of an output are driven only in the states of R170, by the unit that drives shared nets. Each of
these completes here, under conditions on the state and the operands alone: emuSourceSample, ssiTargetTransfer, ssiMonoflop. -/
def Obligations.Emulation : Prop :=
  (∀ (s : State) (e : Fin 4), Completes (.emuSourceSample e) s fun t =>
    let n := s.cf (EMU_SOURCE_AXIS e)
    let c := s.emuCount e (s.posOf n)
    if s.cf (EMU_MODE e) = 0 then t = s
    else (if physical n = true ∧ s.posValid n = false then
        t.rd (EMU_COUNT e) = s.rd (EMU_COUNT e) ∧ t.rd (EMU_LAG e) = s.rd (EMU_LAG e) ∧ t.bitOf (EMU_STATUS e) 1 = true ∧ t.emu = s.emu
      else t.bitOf (EMU_STATUS e) 1 = false ∧ (t.em e).target = some c ∧
        (if (s.em e).target = none ∨ s.cf (EMU_MODE e) = 2 then t.rd (EMU_COUNT e) = c.toNat ∧ t.rd (EMU_LAG e) = 0 ∧ (t.em e).due = 0
        else let due := (s.em e).due + toS 32 (ofS 32 (c - (s.em e).target.getD 0))
          ∃ k room : Int,
          room = (s.em e).credit + (if physical n then s.t1 n else s.tVirtual) * ((s.cf (EMU_MAX_EDGE_RATE e) : Nat) : Int) ∧
          k = clampI (-(room / secI)) (room / secI) due ∧ (t.em e).due = due - k ∧
          t.rd (EMU_COUNT e) = ofS 32 ((s.rd (EMU_COUNT e) : Int) + k) ∧
          t.rd (EMU_LAG e) = min (due - k).natAbs (2 ^ 32 - 1) ∧
          (t.em e).credit = minI (secI - 1) (room - absI k * secI) ∧
          t.bitOf (EMU_STATUS e) 0 = (s.bitOf (EMU_STATUS e) 0 || due != k))) ∧
      (∀ o : Fin 4, o ≠ e → t.em o = s.em o) ∧ s.frame [EMU_COUNT e, EMU_STATUS e, EMU_LAG e] [.regs, .emu] t) ∧
  (∀ (s : State) (e : Fin 4) (edges : Nat) (off : Int), Completes (.ssiTargetTransfer e edges off) s fun t =>
    let x := s.em e
    let word := if x.dataLow then x.word
      else s.emuWord e (s.emuCount e (s.latestAt (s.cf (EMU_SOURCE_AXIS e)) (s.nowT + off))).toNat
    let before := if x.dataLow then x.sent else []
    if s.cf (EMU_MODE e) ≠ 2 then t = s
    else (t.em e).word = word ∧ (t.em e).sent.take before.length = before ∧
      (t.em e).sent.length = before.length + edges ∧
      (∀ i : Nat, i < edges → (t.em e).sent.getD (before.length + i) false =
        word.getD ((before.length + i) % max 1 word.length) false) ∧
      (t.em e).dataLow = (x.dataLow || decide (0 < edges)) ∧ (∀ o : Fin 4, o ≠ e → t.em o = s.em o) ∧
      s.frame [] [.emu] t) ∧
  (∀ (s : State) (e : Fin 4) (passed : Nat), Completes (.ssiMonoflop ⟨e, passed⟩) s fun t =>
    if passed < s.cf (EMU_SSI_MONOFLOP e) then t = s
    else t.em e = { s.em e with dataLow := false, sent := [] } ∧ (∀ o : Fin 4, o ≠ e → t.em o = s.em o) ∧ s.frame [] [.emu] t) ∧
  (∀ (s : State) (e : Fin 4), s.emuDriven e = false → s.emuLands e = (none, none, none)) ∧
  (∀ (s : State) (e : Fin 4), s.emuDriven e = true ↔ s.cf (EMU_MODE e) ≠ 0 ∧ s.rd TW_TWIN_STATE ∈ [0, 5] ∧
    s.dev ∈ [.preop, .op, .safe, .locked])

/-- A short of an output that is on, or was before a write of DO_SET in this core clock (R391), sets DO_SHORT, counts, records and
turns it off; a total overload turns all off; an open load is flagged, below 5 mA for 20 ms, and leaves the output on where
its check is enabled. A written DO_SET is kept, and DO_SHORT bits written 1 clear but for shorts of this core clock; after
each the outputs follow R387. A short or an open load of an output that is off shows only its current. Each of these completes
here, under conditions on the state and the operands alone: doSet, doShort, doShortClear, totalOverload, openLoad. -/
def Obligations.FieldOutputs : Prop :=
  (∀ (s : State) (i : Fin 8) (current : BitVec 32), Completes (.doShort i current) s fun t =>
    t.rd (DO_CURRENT i) = current.toNat ∧
    (if s.bitOf DO_STATE i = true ∨ (s.field.setAt = s.clock ∧ s.field.onBefore.testBit i = true) then
      t.rd DO_SHORT = orBit (s.rd DO_SHORT) i ∧ t.rd DO_SHORT_COUNT = (s.rd DO_SHORT_COUNT + 1) % 2 ^ 32 ∧
      t.bitOf DO_STATE i = false ∧ Claims.outputsFollow t ∧ s.recorded t 10 3 0 i 0 ∧
      t.field = { s.field with shortAt := s.field.shortAt.setIfInBounds i s.clock } ∧
      s.frame (DO_CURRENT i :: DO_SHORT :: DO_SHORT_COUNT :: DO_STATE :: dropCounters) [.regs, .host, .field] t
    else s.frame [DO_CURRENT i] [.regs] t)) ∧
  (∀ s : State, Completes .totalOverload s fun t =>
    t.rd FIELD_STATUS = orBit (s.rd FIELD_STATUS) 2 ∧ t.rd DO_STATE = 0 ∧ s.recorded t 10 4 0 0 0 ∧
    t.field = { s.field with overAt := s.clock } ∧
    s.frame (FIELD_STATUS :: DO_STATE :: dropCounters) [.regs, .host, .field] t) ∧
  (∀ (s : State) (i : Fin 8) (current : BitVec 32) (held : Nat), Completes (.openLoad i ⟨current, held⟩) s fun t =>
    t.rd (DO_CURRENT i) = current.toNat ∧
    (if (s.cf DO_OL_ENABLE).testBit i = true ∧ s.bitOf DO_STATE i = true ∧ F.lt current.toNat 0x3ba3d70a = true ∧ 20 ≤ held then
      t.rd DO_OPEN_LOAD = orBit (s.rd DO_OPEN_LOAD) i ∧ t.rd DO_STATE = s.rd DO_STATE ∧ s.recorded t 10 5 0 i 0 ∧
      s.frame (DO_CURRENT i :: DO_OPEN_LOAD :: dropCounters) [.regs, .host] t
    else s.frame [DO_CURRENT i] [.regs] t)) ∧
  (∀ (s : State) (w : Wr), s.admits w DO_SET → w.data.length = 1 → Written (.doSet w) s w DO_SET fun u =>
    u.rd DO_SET = leNat w.data ∧ Claims.outputsFollow u ∧ u.field.setAt = s.clock ∧ u.field.lands = s.field.lands ∧
    (s.arrived w).frame [DO_SET, DO_STATE] [.regs, .field] u) ∧
  (∀ (s : State) (w : Wr), s.admits w DO_SHORT → w.data.length = 1 → Written (.doShortClear w) s w DO_SHORT fun u =>
    (∀ i : Fin 8, u.bitOf DO_SHORT i = ((s.arrived w).bitOf DO_SHORT i &&
      !((leNat w.data).testBit i && decide (at' s.field.shortAt i ≠ s.clock)))) ∧
    Claims.outputsFollow u ∧ (s.arrived w).frame [DO_SHORT, DO_STATE] [.regs] u)

/-- The monitor runs once PORST_N is released, outside STANDBY. V24 at 18.0 V or more for 10 ms, in which it has run, sets V24_OK,
ends the wire break of each input that reads on, and lets the outputs follow (R378, R380, R384); V24 below 17.0 V clears it,
makes every input read 0 and every output off, with V24_LOST and a record where the section was enabled. An input reads on or
off by the thresholds of its type, within the ranges of Table FI-1 (R381). A change held for DI_FILTER shows the level after
inversion: the first one after V24_OK without an edge (R380), each other with its stamp, and it reaches homing, trigger units
and latch units (R382, R383); with the section off only the land changes. Reading on ends a wire break; one is flagged,
latched and recorded once, below 0.30 mA for WB_TIME with the input off (R384). VDD_CORE or VDDIO_33 below its threshold puts
every leg at high impedance and keeps it there, and VDD_CORE turns the outputs off and releases the keepers (R569, R387,
R545). Each of these completes here, under conditions on the state and the operands alone: vddCoreLow, v24Ok, v24Lost,
diTransition, wireBreak, wireBreakClear. -/
def Obligations.FieldInputsAndSupply : Prop :=
  (∀ (s : State) (volts : BitVec 32) (held : Nat) (lands : Vector (BitVec 32) 16), Completes (.v24Ok ⟨volts, held⟩ lands) s fun t =>
    if s.dev = .standby ∨ s.pw.porstLow = true then t = s
    else t.rd FIELD_V24_VOLTAGE = volts.toNat ∧
      (if F.le 0x41900000 volts.toNat = true ∧ 10 ≤ held ∧ s.field.since + 10000000 * 2 ^ 32 ≤ s.clock ∧
          s.bitOf FIELD_STATUS 0 = false then
        t.rd FIELD_STATUS = orBit (s.rd FIELD_STATUS) 0 ∧ t.rd DI_LEVEL = s.rd DI_LEVEL ∧
        (∀ i : Fin 16, t.field.lands.testBit i = s.diReads i false (at' lands i).toNat ∧
          t.bitOf DI_WIRE_BREAK i = (s.bitOf DI_WIRE_BREAK i && !t.field.lands.testBit i)) ∧
        t.field.okAt = s.nowT ∧ t.field.first = 65535 ∧ Claims.outputsFollow t ∧
        s.frame [FIELD_V24_VOLTAGE, FIELD_STATUS, DI_WIRE_BREAK, DO_STATE] [.regs, .field] t
      else s.frame [FIELD_V24_VOLTAGE] [.regs] t)) ∧
  (∀ (s : State) (volts : BitVec 32), Completes (.v24Lost volts) s fun t =>
    if s.dev = .standby ∨ s.pw.porstLow = true then t = s
    else t.rd FIELD_V24_VOLTAGE = volts.toNat ∧
      (if F.lt volts.toNat 0x41880000 = true ∧ s.bitOf FIELD_STATUS 0 = true then
        t.bitOf FIELD_STATUS 0 = false ∧ t.bitOf FIELD_STATUS 1 = (s.bitOf FIELD_STATUS 1 || s.on FIELD_ENABLE) ∧
        t.bitOf FIELD_STATUS 2 = s.bitOf FIELD_STATUS 2 ∧ t.rd DI_LEVEL = 0 ∧ t.rd DO_STATE = 0 ∧
        (if s.on FIELD_ENABLE then s.recorded t 10 1 0 0 0 else t.host = s.host) ∧ t.field = { s.field with first := 0 } ∧
        s.frame (FIELD_V24_VOLTAGE :: FIELD_STATUS :: DI_LEVEL :: DO_STATE :: dropCounters) [.regs, .host, .field] t
      else s.frame [FIELD_V24_VOLTAGE] [.regs] t)) ∧
  (∀ (s : State) (i : Fin 16) (v : Nat), let three := (s.cf DI_TYPE).testBit (i / 8)
    (F.le (if three then 0x41180000 else 0x41580000) v = true → s.diReads i false v = true) ∧
    (F.lt v (if three then 0x40f00000 else 0x41380000) = true → s.diReads i false v = false) ∧
    (F.le (if three then 0x40f00000 else 0x41280000) v = true → s.diReads i true v = true) ∧
    (F.lt v (if three then 0x40b00000 else 0x41080000) = true → s.diReads i true v = false)) ∧
  (∀ (s : State) (i : Fin 16) (volts : BitVec 32) (off : Int) (stable : Nat), Completes (.diTransition i ⟨volts, stable⟩ off) s fun t =>
    let level := s.diReads i (s.field.lands.testBit i) volts.toNat
    let v := level != (s.cf DI_INVERT).testBit i
    let filtered := decide (8 * (1000 * s.cf (DI_FILTER i)) ≤ stable)
    let at_ := s.nowT + off - Config.pathDelay (72 + i)
    let first := s.field.first.testBit i || decide (at_ < s.field.okAt + ((8000 * s.cf (DI_FILTER i) : Nat) : Int))
    t.bitOf DI_WIRE_BREAK i = (s.bitOf DI_WIRE_BREAK i && !level) ∧
    t.field.lands.testBit i = (if filtered then level else s.field.lands.testBit i) ∧
    t.bitOf DI_LEVEL i = (if filtered && s.fieldOn then v else s.bitOf DI_LEVEL i) ∧
    (if filtered = true ∧ first = false ∧ s.fieldOn = true ∧ s.bitOf DI_LEVEL i ≠ v then t.rd (DI_STAMP i) = s.stampT at_
    else t.rd (DI_STAMP i) = s.rd (DI_STAMP i) ∧ t.acq = s.acq ∧ t.latch = s.latch ∧
      (s.bitOf DI_WIRE_BREAK i = false ∨ level = false → t.axis = s.axis)) ∧
    (∀ j : Fin 16, j ≠ i → t.bitOf DI_LEVEL j = s.bitOf DI_LEVEL j ∧ t.field.lands.testBit j = s.field.lands.testBit j) ∧
    s.frame ([DI_LEVEL, DI_WIRE_BREAK, DI_STAMP i] ++ Claims.unitKeys) (.field :: Claims.unitParts) t) ∧
  (∀ (s : State) (i : Fin 16) (current : BitVec 32) (held : Nat), Completes (.wireBreak ⟨i, current, held⟩) s fun t =>
    if (s.cf DI_WB_ENABLE).testBit i = true ∧ s.fieldOn = true ∧ s.field.lands.testBit i = false ∧ s.bitOf DI_WIRE_BREAK i = false ∧
        F.lt current.toNat 0x399d4952 = true ∧ s.cf DI_WB_TIME ≤ held then
      t.rd DI_WIRE_BREAK = orBit (s.rd DI_WIRE_BREAK) i ∧ t.rd DI_WB_LATCHED = orBit (s.rd DI_WB_LATCHED) i ∧
      s.recorded t 10 2 0 i 0 ∧ s.frame (DI_WIRE_BREAK :: DI_WB_LATCHED :: dropCounters) [.regs, .host, .axis] t
    else t = s) ∧
  (∀ (s : State) (i : Fin 16), Completes (.wireBreakClear i) s fun t =>
    t.bitOf DI_WIRE_BREAK i = false ∧ (∀ j : Fin 16, j ≠ i → t.bitOf DI_WIRE_BREAK j = s.bitOf DI_WIRE_BREAK j) ∧
    (s.bitOf DI_WIRE_BREAK i = false → t = s) ∧ s.frame [DI_WIRE_BREAK] [.regs, .axis] t) ∧
  (∀ (s : State) (core : Bool), Completes (.vddCoreLow core) s fun t =>
    (∀ l : Fin 48, t.leg.driven.testBit l = false ∧ t.leg.fenced.testBit l = true ∧ t.legEligible l = false) ∧
    (core = true → t.rd DO_STATE = 0) ∧ (core = false → s.pw.coreLow = false → Claims.outputsFollow t) ∧
    t.twin.keepers = (if core then 0 else s.twin.keepers) ∧ s.frame [DO_STATE] [.regs, .pw, .leg, .twin] t)

/-- A conversion of an enabled analogue input, whose quantity, filtered over 1/AIN_RATE to either side of the instant, lies within
full scale and, in bridge mode, a reference of 2.0 V at least, gives RAW the calibrated quantity, VALUE its scaled value and
STAMP the instant it is attributed to, the latest of the control schedule's whole multiples of 1/AIN_RATE that lies AIN_DELAY
or more before now (R395), and clears FAULT. A faulted conversion keeps the three, sets FAULT and the matching latched bit,
and records the first of a run. A disabled input does nothing. Each of these completes here, under conditions on the state and
the operands alone: ainConversion. -/
def Obligations.AnalogueConversions : Prop :=
  ∀ (s : State) (a : Fin 4) (steps : List (Int × BitVec 32)) (aref : BitVec 32), Completes (.ainConversion a steps aref) s fun t =>
    let m := s.cf (AIN_MODE a)
    let g := if m = 1 then 0 else 2
    let x := F.add (F.mul (s.calv (CALV_AIN_CAL (4 * a + g))) (ainFilter (s.cf (AIN_RATE a)) steps)) (s.calv (CALV_AIN_CAL (4 * a + g + 1)))
    let low := m == 2 && F.lt aref.toNat 0x40000000
    let big := if m = 1 then F.lt 0x4123d70a (F.abs x) else F.lt 0x41f5c28f (F.abs (F.mul x aref.toNat))
    if m = 0 then t = s
    else t.bitOf (AIN_STATUS a) 0 = true ∧
      (if low = true ∨ big = true then
        t.rd (AIN_VALUE a) = s.rd (AIN_VALUE a) ∧ t.rd (AIN_RAW a) = s.rd (AIN_RAW a) ∧ t.rd (AIN_STAMP a) = s.rd (AIN_STAMP a) ∧
        t.bitOf (AIN_STATUS a) 1 = true ∧ t.bitOf (AIN_STATUS a) 2 = (s.bitOf (AIN_STATUS a) 2 || big) ∧
        t.bitOf (AIN_STATUS a) 3 = (s.bitOf (AIN_STATUS a) 3 || low) ∧
        (if s.bitOf (AIN_STATUS a) 1 then t.host = s.host else s.recorded t 10 6 (if low then 3 else 2) a 0)
      else
        t.rd (AIN_RAW a) = x ∧ t.rd (AIN_VALUE a) = F.add (F.mul (s.cf (AIN_SCALE a)) x) (s.cf (AIN_OFFSET a)) ∧
        (let p : Int := ((1000000000 / max 1 (s.cf (AIN_RATE a)) * 2 ^ 32 : Nat) : Int)
          let due : Int := s.sched - ((ainDelay (s.cf (AIN_RATE a)) * 2 ^ 32 : Nat) : Int)
          0 < p → ∃ i : Int, t.rd (AIN_STAMP a) = s.stampOf (i - s.time.schedDiff) ∧ i % p = 0 ∧ i ≤ due ∧ due - p < i) ∧
        t.bitOf (AIN_STATUS a) 1 = false ∧ t.host = s.host) ∧
      s.frame ([AIN_STATUS a, AIN_VALUE a, AIN_RAW a, AIN_STAMP a] ++ dropCounters) [.regs, .host] t

/-- START takes a claimed device with a configuration in force, no armed debug port and a valid calibration set from
PRE-OPERATIONAL to OPERATIONAL; STOP takes it back and every axis whose power stage is on to READY; RESET_SAFE takes it from
SAFE to PRE-OPERATIONAL when no cause is left. In any other state each is answered with the state-error code, and nothing
changes (R43, R45), but for the brownout cause, which a RESET_SAFE clears while every rail is stable even where another cause
keeps SAFE (R572). TIME_PLL loss puts every leg at high impedance and the device in SAFE, where no axis has its power stage
on, and its cause stands until it relocks; a tamper report takes the device to LOCKED from every state but STANDBY, is counted
and audited. Each of these completes here, under conditions on the state and the operands alone: timePllLoss, timePllRelock,
tamperReport, deviceStart, deviceStop, deviceResetSafe. -/
def Obligations.DeviceStates : Prop :=
  (∀ (s : State) (w : Wr), let a := s.arrived w
    s.admits w DEV_DEVICE_REQUEST →
    if a.dev = .preop ∧ a.claimed = true ∧ a.dict.committed = true ∧ a.rd DBG_DEBUG_STATE < 2 ∧ a.rd CAL_STATE = 0 then
      Written (.deviceStart w) s w DEV_DEVICE_REQUEST fun u => u.dev = .op ∧ Claims.outputsFollow u ∧
        a.frame (DEV_DEVICE_STATE :: DO_STATE :: dropCounters) [.regs, .host] u
    else exec (.deviceStart w) s = .next (a.denied w DEV_DEVICE_REQUEST cState)) ∧
  (∀ (s : State) (w : Wr), let a := s.arrived w
    s.admits w DEV_DEVICE_REQUEST →
    if a.dev = .op then
      Written (.deviceStop w) s w DEV_DEVICE_REQUEST fun u => u.dev = .preop ∧
        (∀ n : Fin 32, u.axState n = if a.stageOn n = true ∧ ¬(a.inSetup n = true ∧ a.claimed = false) then axReady else a.axState n) ∧
        (∀ l : Fin 48, u.rd (LEG_DIRECT_ENABLE l) = 0) ∧ u.leg = { a.leg with leaving := u.leg.leaving }
    else exec (.deviceStop w) s = .next (a.denied w DEV_DEVICE_REQUEST cState)) ∧
  (∀ (s : State) (w : Wr), let a := s.arrived w
    s.admits w DEV_DEVICE_REQUEST →
    if a.dev = .safe ∧ (if a.pw.allStable then Sys2Proof.clrBit (a.rd DEV_SAFE_CAUSES) 2 else a.rd DEV_SAFE_CAUSES) = 0 then
      Written (.deviceResetSafe w) s w DEV_DEVICE_REQUEST fun u => u.dev = .preop ∧ u.rd DEV_SAFE_CAUSES = 0 ∧
        a.frame (DEV_DEVICE_STATE :: DEV_SAFE_CAUSES :: DO_STATE :: dropCounters) [.regs, .host] u
    else exec (.deviceResetSafe w) s = .next ((if a.dev = .safe ∧ a.pw.allStable = true then a.clrBit DEV_SAFE_CAUSES 2 else a).denied
      w DEV_DEVICE_REQUEST cState)) ∧
  (∀ s : State, Completes .timePllLoss s fun t =>
    t.bitOf DEV_SAFE_CAUSES 0 = true ∧ t.stampsValid = false ∧ t.bitOf CLKS_CLOCK_STATUS 2 = false ∧
    (∀ l : Fin 48, t.leg.driven.testBit l = false ∧ t.leg.fenced.testBit l = true) ∧
    t.dev = (if s.dev = .preop ∨ s.dev = .op then .safe else s.dev) ∧
    (s.dev = .preop ∨ s.dev = .op → ∀ n : Fin 32, t.stageOn n = false)) ∧
  (∀ s : State, Completes .timePllRelock s fun t =>
    t.bitOf DEV_SAFE_CAUSES 0 = false ∧ t.pw.timePllLost = false ∧ t.bitOf CLKS_CLOCK_STATUS 2 = true ∧ t.dev = s.dev ∧
    s.frame [DEV_SAFE_CAUSES, CLKS_CLOCK_STATUS] [.regs, .pw] t) ∧
  (∀ (s : State) (c : Tamper), Completes (.tamperReport c) s fun t =>
    t.dev = (if s.dev = .standby then .standby else .locked) ∧ t.bitOf TAMP_TAMPER_CAUSES (tamperBit c) = true ∧
    t.rd TAMP_TAMPER_COUNT = (s.rd TAMP_TAMPER_COUNT + 1) % 2 ^ 32 ∧ t.rd AUD_AUDIT_COUNT = (s.rd AUD_AUDIT_COUNT + 1) % 2 ^ 32 ∧
    (∃ r, t.sec.audit.head? = some r ∧ r.cls = 0x0e ∧ r.code = 0x10) ∧ t.sec.keys = s.sec.keys ∧ t.leg = { s.leg with leaving := t.leg.leaving })

/-- A tick adds the increment to line time and one nominal tick to the free-running clock; without TIME_PLL lock it is one period
of REF25_IN. A pending offset is applied with the tick's increment in one addition, unless that would make line time negative,
which is recorded (R83, R85); two pending offsets are summed (R84). A step during motion leaves the control schedule behind,
and each tick closes at most 10 ppm of the difference (R25), of the 40 ns that a tick then is without TIME_PLL lock. An
enabled alarm fires at the first tick at or after its time, or at once when it is enabled past it, and waits for the latch
units, which take it in the next tick (R98, R151, R160). A tick also brings the first levels of field inputs, a waiting twin
copy and the announce receipt timeouts. Each of these completes here, under conditions on the state and the operands alone:
scheduleSlewEnd, tuIncrement, tuOffsetAdd, offsetAddApply, lineTimeAlarm, alarmEnable, timePllTick. -/
def Obligations.TimeUnit : Prop :=
  (∀ s : State, Completes .timePllTick s fun t =>
    let lost := s.pw.timePllLost
    let most : Int := if lost then 42949 * 40 else 42949
    let inc := if lost then 40 * 2 ^ 32 else s.rd CLK_INCREMENT % 2 ^ 36
    t.time.free = s.time.free.tick (if lost then 40 * 2 ^ 32 else 2 ^ 32) ∧ t.time.offsetAdd = none ∧
    (s.time.offsetAdd = none → t.time.line = s.time.line.tick inc ∧ t.rd CLK_OFFSET_ADDS = s.rd CLK_OFFSET_ADDS ∧
      t.time.schedDiff = s.time.schedDiff - clampI (-most) most s.time.schedDiff) ∧
    (∀ o ∈ s.time.offsetAdd,
      if s.now + o * 65536 + inc < 0 then t.time.line = s.time.line.tick inc ∧ t.rd CLK_OFFSET_ADDS = s.rd CLK_OFFSET_ADDS
      else
        t.time.line = Clock.ofUnits (s.now + o * 65536 + inc).toNat ∧ t.rd CLK_OFFSET_ADDS = (s.rd CLK_OFFSET_ADDS + 1) % 2 ^ 32 ∧
        (let d := s.time.schedDiff - (if 2 ^ 32 < absI (o * 65536) ∧ s.inMotion = true then o * 65536 else 0)
         t.time.schedDiff = d - clampI (-most) most d)) ∧
    (∀ a : Fin 4, let due := Claims.alarmDue t (s.rd ALM_ALARM_ENABLE) a
      t.bitOf ALM_ALARM_FIRED a = (s.bitOf ALM_ALARM_FIRED a || due) ∧
      t.bitOf ALM_ALARM_ENABLE a = (s.bitOf ALM_ALARM_ENABLE a && !due)) ∧
    (∀ a : Fin 4, ((a.val, t.nowT) ∈ t.time.alarms ↔ Claims.alarmDue t (s.rd ALM_ALARM_ENABLE) a = true)) ∧
    s.frame Claims.tickKeys Claims.tickParts t) ∧
  (∀ s : State, if s.time.offsetAdd.isSome = true then Completes .offsetAddApply s fun t => exec .timePllTick s = .next t
    else exec .offsetAddApply s = .next s) ∧
  (∀ (s : State) (v : BitVec 64), Completes (.tuIncrement v) s fun t =>
    t.rd CLK_INCREMENT = v.toNat % 2 ^ 36 ∧ t.rd LT_RATE_ADJ = f32.ofDy (((v.toNat % 2 ^ 36 : Nat) : Int) - 2 ^ 32) (-32) ∧
    s.frame [CLK_INCREMENT, LT_RATE_ADJ] [.regs] t) ∧
  (∀ (s : State) (v : BitVec 64),
    exec (.tuOffsetAdd v) s = .next { s with time := { s.time with offsetAdd := some (v.toInt + s.time.offsetAdd.getD 0) } }) ∧
  (∀ s : State, Completes .scheduleSlewEnd s fun t =>
    if s.time.schedSlew = true ∧ s.sched = s.now then
      t.sched = s.now ∧ t.time.schedSlew = false ∧ s.recorded t 2 7 0 0 0 ∧ s.frame dropCounters [.regs, .time, .host] t
    else t = s) ∧
  (∀ (s : State) (a : Fin 4), Completes (.lineTimeAlarm a) s fun t =>
    if Claims.alarmDue s (s.rd ALM_ALARM_ENABLE) a then
      t.bitOf ALM_ALARM_FIRED a = true ∧ t.bitOf ALM_ALARM_ENABLE a = false ∧ t.time.alarms = s.time.alarms ++ [(a.val, s.nowT)] ∧
      s.recorded t 2 5 0 a 0 ∧ s.frame (ALM_ALARM_FIRED :: ALM_ALARM_ENABLE :: dropCounters) [.regs, .time, .host, .acq] t
    else t = s) ∧
  (∀ (s : State) (w : Wr), let a := s.arrived w
    s.admits w ALM_ALARM_ENABLE → w.data.length = 1 → Written (.alarmEnable w) s w ALM_ALARM_ENABLE fun u =>
      (∀ i : Fin 4, let due := Claims.alarmDue a (leNat w.data) i
        u.bitOf ALM_ALARM_ENABLE i = ((leNat w.data).testBit i && !due) ∧
        u.bitOf ALM_ALARM_FIRED i = (a.bitOf ALM_ALARM_FIRED i || due)) ∧
      a.frame (ALM_ALARM_FIRED :: ALM_ALARM_ENABLE :: dropCounters) [.regs, .time, .host, .acq] u)

/-- A Sync that lost its stamp only counts in STAMP_LOSS (R69); one outside the ports or the transport of the domain's instance,
or at a port that is master or passive, changes nothing; one that fails its security is dropped and counted (R63). Any other
gives the domain its offset against the free-running clock and its rate. An ABSENT domain becomes ACQUIRING; one that has
reached COARSE since and whose rate or offset breaks its bound becomes UNTRUSTED and counts it (R88); an UNTRUSTED one stays,
and its requalification holds only if both bounds do (R89). Three announce intervals without a Sync make a domain ABSENT,
unless it is UNTRUSTED; a clean REQUALIFY_TIME takes an UNTRUSTED one to ACQUIRING. Each of these completes here, under
conditions on the state and the operands alone: ptpSyncReceive, domainAbsent, requalifyTimeExpiry. -/
def Obligations.DomainStates : Prop :=
  (∀ (s : State) (d : Fin 2) (m : SyncMsg), Completes (.ptpSyncReceive d m) s fun t =>
    let b := s.ptpAuth d m.port.val m.icv
    let f := s.free16 + m.off * 8192 + s.ingressShift m.port.val
    let o := ((m.originSec : Int) * nsPerSec + m.originNs) * 65536 + m.corr + at' (s.dm d).linkDelay m.port.val - f
    let bound := ((s.cf (DOM_OFFSET_BOUND d) : Nat) : Int) * 65536
    let rateBad := F.lt (s.cf (DOM_RATE_BOUND d)) (F.abs m.rate.toNat)
    let offBad := decide (bound < absI (o - s.predicted d f))
    if m.stampLost then t.rd NETC_STAMP_LOSS = (s.rd NETC_STAMP_LOSS + 1) % 2 ^ 32 ∧ s.frame [NETC_STAMP_LOSS] [.regs] t
    else if s.ptpPort d m.port.val = false ∨ s.transportIs d m.udp = false ∨ s.syncPort d m.port.val = false then t = s
    else if b.1 = false then
      t.rd (DOM_AUTH_DROPS d) = (s.rd (DOM_AUTH_DROPS d) + 1) % 2 ^ 32 ∧ s.frame (DOM_AUTH_DROPS d :: dropCounters) [.regs, .host] t
    else
      toS 64 (t.rd (DOM_DOMAIN_OFFSET d)) = toS 64 (ofS 64 o) ∧ t.rd (DOM_DOMAIN_RATE d) = m.rate.toNat ∧ (t.dm d).lastFree = some f ∧
      (s.domSt d = .absent → t.domSt d = .acquiring) ∧
      (s.domSt d ∈ [.acquiring, .coarse, .fine] → (s.dm d).reached = true → rateBad = true ∨ offBad = true →
        t.domSt d = .untrusted ∧ t.rd (DOM_UNTRUSTED_COUNT d) = (s.rd (DOM_UNTRUSTED_COUNT d) + 1) % 2 ^ 32) ∧
      (s.domSt d ∈ [.acquiring, .coarse, .fine] → (s.dm d).reached = false ∨ rateBad = false ∧ offBad = false →
        t.rd (DOM_UNTRUSTED_COUNT d) = s.rd (DOM_UNTRUSTED_COUNT d) ∧ t.domSt d ≠ .untrusted) ∧
      (s.domSt d = .untrusted → t.domSt d = .untrusted ∧
        (t.dm d).requalOk = !(rateBad || (offBad && !(s.dm d).requalFirst)) ∧
        (t.dm d).requalAt = (if (t.dm d).requalOk then (s.dm d).requalAt else s.clock)) ∧
      t.rd (DOM_STATE (1 - d.val)) = s.rd (DOM_STATE (1 - d.val)) ∧ t.time.line = s.time.line ∧
      s.frame ([DOM_DOMAIN_OFFSET d, DOM_DOMAIN_RATE d, DOM_STATE d, DOM_UNTRUSTED_COUNT d, LT_OFFSET_EST, SYNT_FREQ_OFFSET, CLK_INCREMENT,
        LT_RATE_ADJ] ++ Claims.followKeys ++ dropCounters) [.regs, .time, .host, .out] t) ∧
  (∀ (s : State) (d : Fin 2), s.cf SEL_PREFERRED ≤ 1 → Completes (.domainAbsent d) s fun t =>
    t.domSt d = (if s.domSt d = .disabled then .disabled else if s.domSt d = .untrusted then .untrusted else .absent) ∧
    (s.domSt d = .untrusted → (t.dm d).requalOk = false ∧ (t.dm d).requalFirst = true ∧ t.regs = s.regs) ∧
    (s.domSt d ≠ .disabled → s.domSt d ≠ .untrusted → s.domSt d ≠ .absent → (t.dm d).lastFree = none ∧
      (s.domGood (1 - d.val) = true → t.followed = 1 - d.val) ∧
      (s.followed = d.val → s.domGood (1 - d.val) = false → s.time.everCoarse = true → t.followed = 255 ∧ t.ltSt = .holdover) ∧
      (s.followed = d.val → s.domGood (1 - d.val) = false → s.time.everCoarse = false → s.domSt (1 - d.val) ≠ .acquiring →
        t.followed = 255 ∧ t.ltSt = .unset)) ∧
    t.time.line = s.time.line ∧ s.frame (DOM_STATE d :: Claims.followKeys ++ dropCounters) [.regs, .time, .host, .out] t) ∧
  (∀ (s : State) (d : Fin 2), Completes (.requalifyTimeExpiry d) s fun t =>
    if s.domSt d = .untrusted ∧ (s.dm d).requalOk = true ∧ s.requalified d (s.dm d).requalAt = true then t.domSt d = .acquiring ∧ t.time.line = s.time.line ∧
      s.frame (DOM_STATE d :: Claims.followKeys ++ dropCounters) [.regs, .time, .host, .out] t
    else t = s)

/-- SELECT_REQUEST moves line time to a domain in COARSE or FINE (R93), and is refused with the state-error code for another one.
With REVERT, a preferred domain that has been good for its REQUALIFY_TIME while the other was followed is followed again
(R92). From COARSE on a move slews, or takes one step (R91). A slew ends once at most 1 ns of the difference is left (log
entry 72): SLEWING is cleared, and the followed domain shows. Without ETH_PLL both links are down, nothing is followed, and
line time is in HOLDOVER if it has been COARSE, else UNSET; once ETH_PLL is back a good domain is followed. Each of these
completes here, under conditions on the state and the operands alone: ethPllLoss, domainRevert, selectRequest,
lineTimeSlewEnd, ethPllRelock. -/
def Obligations.FollowedDomain : Prop :=
  (∀ (s : State) (w : Wr), let a := s.arrived w
    s.admits w SEL_SELECT_REQUEST → w.data.length = 1 → leNat w.data ≤ 1 →
    if a.domGood (leNat w.data) = false then exec (.selectRequest w) s = .next (a.denied w SEL_SELECT_REQUEST cState)
    else if a.followed = leNat w.data then exec (.selectRequest w) s = .next (a.done w SEL_SELECT_REQUEST)
    else Written (.selectRequest w) s w SEL_SELECT_REQUEST fun u => Claims.moved (leNat w.data) a u ∧
      a.frame (Claims.followKeys ++ dropCounters) [.regs, .time, .host] u) ∧
  (∀ (s : State) (d : Fin 2), Completes (.domainRevert d) s fun t =>
    if s.on SEL_REVERT = true ∧ s.cf SEL_PREFERRED = d.val ∧ s.domGood d = true ∧ s.followed = 1 - d.val ∧
        s.requalified d (s.dm d).goodAt = true then
      Claims.moved d s t ∧ s.frame (Claims.followKeys ++ dropCounters) [.regs, .time, .host] t
    else t = s) ∧
  (∀ s : State, Completes .lineTimeSlewEnd s fun t =>
    if s.rd LT_SLEWING = 1 ∧ absI (s.domainDiff s.followed) ≤ 65536 then
      (s.followed < 2 → s.domGood s.followed = true → t.followed = s.followed ∧ t.rd LT_SLEWING = 0 ∧
        t.ltSt = (if s.domSt s.followed = .fine then .fine else .coarse)) ∧
      t.time.line = s.time.line ∧ s.frame (Claims.followKeys ++ dropCounters) [.regs, .time, .host, .out] t
    else t = s) ∧
  (∀ s : State, Completes .ethPllLoss s fun t =>
    t.rd NET_LINK_UP = 0 ∧ t.bitOf CLKS_CLOCK_STATUS 3 = false ∧ t.pw.ethPllLost = true ∧ t.followed = 255 ∧
    t.ltSt = (if s.time.everCoarse then .holdover else .unset) ∧ t.rd SYNT_SOURCE = 0 ∧ t.time.line = s.time.line ∧
    s.frame (NET_LINK_UP :: CLKS_CLOCK_STATUS :: Claims.followKeys) [.regs, .time, .pw, .out] t) ∧
  (∀ s : State, Completes .ethPllRelock s fun t =>
    t.pw.ethPllLost = false ∧ t.bitOf CLKS_CLOCK_STATUS 3 = (s.cf NET_PORT_ENABLE &&& 6 != 0) ∧ t.rd NET_LINK_UP = s.rd NET_LINK_UP ∧
    (s.followed = 255 → s.cf SEL_PREFERRED ≤ 1 → ∀ d : Fin 2, (s.domSt d).trusted = true → (s.domSt (1 - d.val)).trusted = false ∨ s.cf SEL_PREFERRED = d.val →
      t.followed = d.val) ∧
    t.time.line = s.time.line ∧ s.frame (CLKS_CLOCK_STATUS :: Claims.followKeys ++ dropCounters) [.regs, .time, .pw, .host, .out] t)

/-- The first Announce that a domain sees shows its grandmaster's identity and STEPS_REMOVED (R94); a measured link delay shows
where its port is the one that syntonises; a delay request of the domain's mechanism is answered. A message outside the ports
or the transport of the instance changes nothing, one that fails R63 is dropped and counted. An interval sends its message
from the port in its role (R61, R65). A PPS_IN edge is stamped, corrected by the cable delay (R95), seen by the latch units,
and applies a written time of day in one offset add (R96). PPS_OUT rises in the tick in which line time reaches a second plus
PPS_OUT_OFFSET, only in COARSE, FINE or HOLDOVER, and falls PPS_OUT_WIDTH later (R97). The answer to an ARP or echo request
goes to the requester from the module (R99); a host that uses the module's link-local address makes it take another (log entry
68). The bytes of messages and answers are the model's (log entries 68, 70). Each of these completes here, under conditions on
the state and the operands alone: ppsInEdge, todSeconds, ppsOutPulse, echoOrArpRequest, ptpMessageReceive, ptpMessageInterval. -/
def Obligations.PtpAndPps : Prop :=
  (∀ (s : State) (d : Fin 2) (udp : Bool) (m : PtpMsg), Completes (.ptpMessageReceive d ⟨udp, m⟩) s fun t =>
    let b := s.ptpAuth d (ptpMsgPort m) (ptpMsgIcv m)
    if s.ptpPort d (ptpMsgPort m) = false ∨ s.transportIs d udp = false then t = s
    else if b.1 = false then
      t.rd (DOM_AUTH_DROPS d) = (s.rd (DOM_AUTH_DROPS d) + 1) % 2 ^ 32 ∧ s.frame (DOM_AUTH_DROPS d :: dropCounters) [.regs, .host] t
    else match m with
      | .announce a _ =>
        (a.steps < 255 → (∀ p : Fin 3, at' (s.dm d).portBest p = none) → s.on (DOM_GM_CAPABLE d) = false →
          t.rd (DOM_GM_IDENTITY d) = a.identity ∧ t.rd (DOM_STEPS_REMOVED d) = a.steps + 1 ∧ (t.dm d).best = some a) ∧
        (255 ≤ a.steps → t.time = s.time) ∧ t.time.line = s.time.line ∧
        s.frame ([DOM_GM_IDENTITY d, DOM_STEPS_REMOVED d, DOM_PORT_STATE_P1 d, DOM_PORT_STATE_P2 d, SYNT_SOURCE, SYNT_STATE] ++ dropCounters)
          [.regs, .time, .host] t
      | .delayResult p x _ => at' (t.dm d).linkDelay p.val = x ∧
        (s.syntPort d = p.val → t.rd (DOM_MEAN_LINK_DELAY d) = ofS 64 x) ∧ s.frame [DOM_MEAN_LINK_DELAY d] [.regs, .time] t
      | .delayReq p peer _ _ _ _ _ =>
        (peer ≠ s.peerDelay d → t = s) ∧
        (peer = true → s.peerDelay d = true → Claims.sentPtp p 3 s t) ∧
        (peer = false → s.peerDelay d = false →
          if s.cf (DOM_INSTANCE d) ≤ 3 ∧ s.portSt d p = 6 then Claims.sentPtp p 9 s t else t = s) ∧
        s.frame [NETC_RX_DROPS 3] [.regs, .net] t
      | .management _ action _ _ _ _ => (action = 2 ∨ action = 4 → t = s) ∧ s.frame [NETC_RX_DROPS 3] [.regs, .net] t) ∧
  (∀ (s : State) (d : Fin 2) (t : PtpTimer) (p : Fin 3), Completes (.ptpMessageInterval d t p) s fun u =>
    if s.ptpSends d p t then
      Claims.sentPtp p (match t with | .sync => 0 | .announce => 11 | .delayReq => if s.peerDelay d then 2 else 1) s u ∧
      at' (u.dm d).seqs (seqPlace p t) = (at' (s.dm d).seqs (seqPlace p t) + 1) % 2 ^ 16 ∧
      u.time.line = s.time.line ∧ s.frame [NETC_RX_DROPS 3] [.regs, .time, .net] u
    else u = s) ∧
  (∀ (s : State) (off : Int), Completes (.ppsInEdge off) s fun t =>
    let e := s.now + off * 2 ^ 29 - toS 32 (s.cf PPS_IN_DELAY) * 2 ^ 32
    if s.on PPS_IN_ENABLE = false then t = s
    else t.rd PPS_IN_STAMP = s.stampOf e ∧ t.time.ppsLast = some (s.time.free.units : Int) ∧ t.time.todPending = none ∧
      (s.followed < 2 →
        t.time.offsetAdd = (match s.time.todPending with
          | some v => some (((v : Int) - nearestSec e) * 65536000000000 + s.time.offsetAdd.getD 0)
          | none => s.time.offsetAdd) ∧ t.rd CLK_INCREMENT = s.rd CLK_INCREMENT) ∧
      t.time.line = s.time.line ∧
      s.frame ([PPS_IN_STAMP, LT_OFFSET_EST, CLK_INCREMENT, LT_RATE_ADJ] ++ Claims.unitKeys) (.time :: Claims.unitParts) t) ∧
  (∀ s : State, Completes (.ppsOutPulse true) s fun t =>
    (∀ i : Int, s.ltSt.good = true → s.on PPS_OUT_ENABLE = true → s.time.ppsOut = none →
      (i - toS 32 (s.cf PPS_OUT_OFFSET) * 2 ^ 32) % secI = 0 → s.now - s.tickInc < i → i ≤ s.now →
      t = { s with time := { s.time with ppsOut := some i }, out := s.out ++ [.pps true (i / 2 ^ 29)] }) ∧
    (s.ltSt.good = false ∨ s.on PPS_OUT_ENABLE = false ∨ s.time.ppsOut ≠ none → t = s) ∧ s.frame [] [.time, .out] t) ∧
  (∀ s : State, Completes (.ppsOutPulse false) s fun t =>
    match s.time.ppsOut with
    | none => t = s
    | some i =>
      let f := i + ((s.cf PPS_OUT_WIDTH : Nat) : Int) * 2 ^ 32
      if f ≤ s.now then t = { s with time := { s.time with ppsOut := none }, out := s.out ++ [.pps false (f / 2 ^ 29)] } else t = s) ∧
  (∀ (s : State) (w : Wr), let a := s.arrived w
    s.admits w PPS_TOD_SECONDS → w.data.length = 8 → leNat w.data < 2 ^ 48 →
    exec (.todSeconds w) s = .next ({ a with time := { a.time with todPending := some (leNat w.data) } }.done w PPS_TOD_SECONDS)) ∧
  (∀ (s : State) (p : Fin 3) (bs : Bytes), Completes (.echoOrArpRequest p bs) s fun t =>
    (s.served = false ∨ p = 0 ∨ s.arpConflict bs = false ∧ s.serviceAnswer bs = none → t = s) ∧
    (s.served = true → p ≠ 0 → s.arpConflict bs = true → t = s.newAddress ∧ t.net.conflicts = s.net.conflicts + 1) ∧
    (∀ b ∈ s.serviceAnswer bs, s.served = true → p ≠ 0 → s.arpConflict bs = false → t = s.sendFrame b ∧
      beAt b 0 6 = beAt bs 6 6 ∧ beAt b 6 6 = macOfObj (s.rd NET_MAC_ADDRESS) ∧ 60 ≤ b.length ∧
      (beAt bs 0 6 = macOfObj (s.rd NET_MAC_ADDRESS) ∨ beAt bs 0 6 = 2 ^ 48 - 1)) ∧
    s.frame ((upto 9).map NETC_TX_DROPS ++ (upto 4).map NETC_RX_DROPS) [.regs, .net] t)

/-- A frame of fewer than 64 or more than 1,522 bytes is dropped and counted for its port and class (R53), one from the module's
own address on P1 or P2 as a class 0 drop (R55), one that lost its stamp in STAMP_LOSS (R69); a frame with a bad FCS is
dropped unless some port forwards it cut-through (R59, R60). Else it is queued, or dropped as the newest of its class, at each
live port it goes to and at no other, and a good one is learned (R54). An egress sends the oldest frame of its highest class
(R58); one whose FCS was bad ends inverted and counts as stomped (R60), and none while the one before it is in transmission. A
learned address leaves after 300 s. A link comes up only on an enabled port; a port whose link goes down sees no master. That
length comes before the other checks, and that a frame with a bad FCS is not learned, is the model's choice (log entry 69).
Each of these completes here, under conditions on the state and the operands alone: frameReceive, frameTransmit,
addressAgeing, ethLinkChange. -/
def Obligations.SwitchFrames : Prop :=
  (∀ (s : State) (p : Fin 3) (bs : Bytes) (ok : Bool) (icv : Icv) (lost : Bool) (off : Int),
    Completes (.frameReceive p bs ok icv lost off) s fun t =>
    let cls := s.classOf bs
    let stamp := s.free16 + off * 8192 + s.ingressShift p.val
    let goes (q : Fin 3) : Prop := q ∈ s.targets p bs ∧ s.portLive q = true ∧ (ok = true ∨ s.cutAt q cls stamp = true)
    let drop (c : Nat) := t.rd (NETC_RX_DROPS (4 * p.val + c)) = (s.rd (NETC_RX_DROPS (4 * p.val + c)) + 1) % 2 ^ 32 ∧
      s.frame [NETC_RX_DROPS (4 * p.val + c)] [.regs] t
    if s.pw.held = true ∨ s.dev = .standby ∨ s.portLive p = false then t = s
    else if bs.length < 64 ∨ 1522 < bs.length then drop cls
    else if p ≠ 0 ∧ beAt bs 6 6 = macOfObj (s.rd NET_MAC_ADDRESS) then drop 0
    else if lost = true then t.rd NETC_STAMP_LOSS = (s.rd NETC_STAMP_LOSS + 1) % 2 ^ 32 ∧ s.frame [NETC_STAMP_LOSS] [.regs] t
    else if ok = false ∧ (bs.length = 64 ∨ ∀ q, ¬goes q) then drop cls
    else
      t.net.learned = (if ok then (s.net.learn (beAt bs 6 6) p (s.free16 + off * 8192)).learned else s.net.learned) ∧
      (if Config.rxShare p.val cls < s.rxHeld p cls + bs.length then
        t.net.egress = s.net.egress ∧ t.rd (NETC_RX_DROPS (4 * p.val + cls)) = (s.rd (NETC_RX_DROPS (4 * p.val + cls)) + 1) % 2 ^ 32
      else ∀ q : Fin 3,
        (goes q → ¬(cls < 3 ∧ Config.txShare q cls < classBytes (at' s.net.egress q) cls + bs.length) →
          at' t.net.egress q = at' s.net.egress q ++ [⟨bs, cls, s.cutAt q cls stamp, !ok, p, stamp, icv⟩]) ∧
        (¬goes q → at' t.net.egress q = at' s.net.egress q) ∧
        (goes q → cls < 3 → Config.txShare q cls < classBytes (at' s.net.egress q) cls + bs.length →
          at' t.net.egress q = at' s.net.egress q ∧
          t.rd (NETC_TX_DROPS (3 * q.val + cls)) = (s.rd (NETC_TX_DROPS (3 * q.val + cls)) + 1) % 2 ^ 32)) ∧
      s.frame (NETC_RX_DROPS (4 * p.val + cls) :: (upto 9).map NETC_TX_DROPS) [.regs, .net] t) ∧
  (∀ (s : State) (q : Fin 3) (off : Int), Completes (.frameTransmit q off) s fun t =>
    let start := s.free16 + off * 8192
    match (if s.portLive q = true ∧ at' s.net.busyUntil q ≤ start then nextFrame (at' s.net.egress q) else none) with
    | none => t = s
    | some f =>
      at' t.net.egress q = dropFrame f.cls (at' s.net.egress q) ∧ (∀ r : Fin 3, r ≠ q → at' t.net.egress r = at' s.net.egress r) ∧
      t.out.length = s.out.length + 1 ∧
      (q ≠ 0 → at' t.net.busyUntil q = start + (f.bytes.length + 20 : Nat) * (80 * 65536)) ∧
      (q = 0 ∨ ptpOff f.bytes = none → f.badFcs = false → t.out = s.out ++ [.frame q f.bytes .kept]) ∧
      t.rd NETC_STOMPED = (if f.badFcs then (s.rd NETC_STOMPED + 1) % 2 ^ 32 else s.rd NETC_STOMPED) ∧
      s.frame [NETC_STOMPED, NETC_ICV_INVERTED, NETC_SPP_UNKNOWN] [.regs, .net, .out] t) ∧
  (∀ (s : State) (mac : BitVec 48), Completes (.addressAgeing mac) s fun t =>
    t.net.learned = s.net.learned.filter (fun e => e.mac != mac.toNat || decide (s.free16 < e.at_ + 300 * 65536000000000)) ∧ t.net.egress = s.net.egress ∧ s.frame [] [.net] t) ∧
  (∀ (s : State) (p : Fin 3) (up : Bool), Completes (.ethLinkChange p up) s fun t =>
    (p = 0 → t = s) ∧
    (p ≠ 0 → t.bitOf NET_LINK_UP p = (up && (s.cf NET_PORT_ENABLE).testBit p && !s.pw.ethPllLost)) ∧
    (∀ q : Fin 3, q ≠ p → t.bitOf NET_LINK_UP q = s.bitOf NET_LINK_UP q) ∧
    (p ≠ 0 → t.bitOf NET_LINK_UP p = false → ∀ d : Fin 2, at' (t.dm d).portBest p = none ∧ at' (t.dm d).syncAt p = none) ∧
    s.frame (NET_LINK_UP :: Claims.bmcaKeys ++ dropCounters) [.regs, .time, .host] t)

/-- A pass frame of a wrong length or format is dropped and counted (R104), one without a valid MAC under a line key is dropped
with a record (R26), and one that no subscription takes is counted. Offered to a subscription, a pass is rejected by the first
check of Table LS-4 that it fails: line time or common stop, sequence, times, bounds, jump. An accepted one waits as the held
pass for its T0, or comes into force at once if T0 has passed, both in units of 125 ps (R18). A CAN half waits for its
partner; after 1 ms alone it is dropped and counted. Each of these completes here, under conditions on the state and the
operands alone: passFrameReceive, canPassFrame, passPartnerTimeout. -/
def Obligations.PassReception : Prop :=
  (∀ (s : State) (port : Fin 3) (p : PassPdu) (len : Nat) (macOk lost : Bool) (off : Int),
    Completes (.passFrameReceive port p len macOk lost off) s fun t =>
      if s.served = false then t = s
      else if lost then Claims.onlyCounts NETC_STAMP_LOSS s t
      else if len ≠ 76 ∨ pduFormatOk p = false then Claims.onlyCounts NETC_FORMAT_DROPS s t
      else if macOk = false ∨ s.lineKey p.keyId = false then
        s.recorded t 3 1 2 port 0 ∧ t.dict.passDrops = (s.dict.passDrops + 1) % 2 ^ 32 ∧ s.frame dropCounters [.regs, .host, .dict] t
      else if s.subsOf p.master 1 = [] then Claims.onlyCounts LSC_UNSUBSCRIBED s t
      else s.frame Claims.passKeys [.regs, .host, .sub] t) ∧
  (∀ (s : State) (port : Fin 3) (p : PassPdu) (off : Int) (i : Fin 8),
    s.served = true → pduFormatOk p = true → s.lineKey p.keyId = true → s.subsOf p.master 1 = [i.val] →
    Completes (.passFrameReceive port p 76 true false off) s fun t =>
      let q := pduPass p
      let rcv := s.now16 + off * 8192 + s.ingressShift port
      let st := s.rd (SUB_STATE i)
      let d := (q.seq + 2 ^ 32 - (s.sb i).lastSeq) % 2 ^ 32
      let early (o : Option Pass) := o.any (fun h => decide (q.t0 < h.t0))
      let te := if rcv ≤ q.t0 then q.t0 else rcv
      let jump := (s.subMaster i te).any (fun m =>
        decide (s.cq (SUB_JUMP_P i) < absI (posDiff (q.eval te).p m.p)) || decide (s.cq (SUB_JUMP_V i) < absI ((q.eval te).v - m.v)))
      if s.ltSt.good = false ∨ st = 4 then Claims.onlyCounts LSC_NOT_FOLLOWED s t
      else if st ≠ 1 ∧ st ≠ 6 ∧ (d = 0 ∨ 2 ^ 31 ≤ d) then Claims.rejected i (SUB_REJECTED_STALE i) s t
      else if q.validity < 1000 ∨ q.tEnd / 8192 ≤ rcv / 8192 ∨ rcv + ((s.cf (SUB_MAX_LEAD i) * 65536 : Nat) : Int) < q.t0 ∨
          early (s.sb i).cur = true ∨ early (s.sb i).held = true then Claims.rejected i (SUB_REJECTED_TIME i) s t
      else if s.cq (SUB_V_BOUND i) < absI q.v0 ∨ s.cq (SUB_A_BOUND i) < absI q.a0 ∨ s.cq (SUB_J_BOUND i) < absI q.j ∨
          s.cq (SUB_V_BOUND i) < absI (q.eval q.tEnd).v then Claims.rejected i (SUB_REJECTED_BOUNDS i) s t
      else if (st = 2 ∨ st = 3 ∨ st = 5) ∧ jump = true then Claims.rejected i (SUB_REJECTED_JUMP i) s t
      else t.rd (SUB_ACCEPTED i) = (s.rd (SUB_ACCEPTED i) + 1) % 2 ^ 32 ∧ (t.sb i).lastSeq = q.seq ∧
        (rcv / 8192 ≤ q.t0 / 8192 → (t.sb i).held = some q ∧ (t.sb i).cur = (s.sb i).cur ∧ t.rd (SUB_STATE i) = st ∧
          t.rd (SUB_LATE i) = s.rd (SUB_LATE i)) ∧
        (q.t0 / 8192 < rcv / 8192 → t.rd (SUB_LATE i) = (s.rd (SUB_LATE i) + 1) % 2 ^ 32 ∧
          (st ≠ 0 → (t.sb i).cur = some q ∧ (t.sb i).held = none ∧ t.rd (SUB_STATE i) = 2 ∧ t.rd (SUB_CUR_SEQUENCE i) = q.seq))) ∧
  (∀ (s : State) (c : Fin 4) (id : BitVec 32) (bs : Bytes) (macOk : Bool) (off : Int),
    Completes (.canPassFrame c id bs macOk off) s fun t =>
      (s.served = false → t = s) ∧
      (s.served = true → ∀ i : Fin 8, s.on (SUB_ENABLE i) = true → s.cf (SUB_TRANSPORT i) = 2 → s.cf (SUB_CAN_CHANNEL i) = c.val →
        passIdent id.toNat = passIdent (s.cf (SUB_CAN_ID i)) → bs.length = 48 → (s.sb i).half = none →
        (t.sb i).half = some ⟨true, leAt bs 2 1, leAt bs 4 1, bs, s.canReceipt c off⟩ ∧ (t.sb i).cur = (s.sb i).cur ∧ (t.sb i).held = (s.sb i).held) ∧
      s.frame (NETC_FORMAT_DROPS :: LSC_UNSUBSCRIBED :: Claims.passKeys) [.regs, .dict, .host, .sub] t) ∧
  (∀ (s : State) (i : Fin 8), Completes (.passPartnerTimeout i) s fun t =>
    if ∃ h ∈ (s.sb i).half, (h.at_ + 65536000000) / 8192 ≤ s.now16 / 8192 then
      t.rd (SUB_REJECTED_TIME i) = (s.rd (SUB_REJECTED_TIME i) + 1) % 2 ^ 32 ∧ (t.sb i).half = none ∧
      s.frame [SUB_REJECTED_TIME i] [.regs, .sub] t
    else t = s)

/-- At its T0 the held pass becomes the current one and the subscription ACTIVE, unless it is OFF or in its common stop (R322). At
T_end an ACTIVE subscription is HELD if the pass says so, else the loss is counted and stamped and GRACE begins (R324). At the
end of the grace time the common stop begins from the state of the pass there, and a pass still held is rejected (R325); at
its end the subscription is LOST. In any other state, and before line time reaches them in units of 125 ps (R18), the instants
change nothing. Each of these completes here, under conditions on the state and the operands alone: passComesIntoForce,
passValidityEnd, graceTimeExpiry, commonStopEnd. -/
def Obligations.SubscriptionStates : Prop :=
  (∀ (s : State) (i : Fin 8), Completes (.passComesIntoForce i) s fun t =>
    match (s.sb i).held with
    | none => t = s
    | some p =>
      if s.now16 / 8192 < p.t0 / 8192 ∨ s.rd (SUB_STATE i) = 0 ∨ s.rd (SUB_STATE i) = 4 then t = s
      else t.rd (SUB_STATE i) = 2 ∧ (t.sb i).cur = some p ∧ (t.sb i).held = none ∧ t.rd (SUB_CUR_SEQUENCE i) = p.seq ∧
        t.rd (SUB_CUR_T0 i) = (Clock.ofUnits (p.t0 * 65536).toNat).lt96 ∧
        s.frame ([SUB_STATE i, SUB_CUR_SEQUENCE i, SUB_CUR_T0 i] ++ dropCounters) [.regs, .host, .sub] t) ∧
  (∀ (s : State) (i : Fin 8), Completes (.passValidityEnd i) s fun t =>
    match (s.sb i).cur with
    | none => t = s
    | some p =>
      if s.rd (SUB_STATE i) ≠ 2 ∨ s.now16 / 8192 < p.tEnd / 8192 then t = s
      else t.rd (SUB_STATE i) = (if p.flags.testBit 2 then 5 else 3) ∧
        (p.flags.testBit 2 = false → t.rd (SUB_LOSSES i) = (s.rd (SUB_LOSSES i) + 1) % 2 ^ 32 ∧
          t.rd (SUB_LAST_LOSS i) = s.stampOf ((p.t0 + p.validity * 65536) * 65536)) ∧
        (p.flags.testBit 2 = true → t.rd (SUB_LOSSES i) = s.rd (SUB_LOSSES i)) ∧
        s.frame ([SUB_STATE i, SUB_LOSSES i, SUB_LAST_LOSS i] ++ dropCounters) [.regs, .host] t) ∧
  (∀ (s : State) (i : Fin 8), Completes (.graceTimeExpiry i) s fun t =>
    match (s.sb i).cur with
    | none => t = s
    | some p =>
      let ts := p.t0 + p.validity * 65536 + s.cf (SUB_GRACE_TIME i) * 65536
      if s.rd (SUB_STATE i) ≠ 3 ∨ s.now16 / 8192 < ts / 8192 then t = s
      else
        t.rd (SUB_STATE i) = 4 ∧ (t.sb i).held = none ∧ (t.sb i).ts = ts ∧ (t.sb i).ps = (p.eval ts).p ∧
        (t.sb i).vs = D.ofQ (p.eval ts).v ∧ (t.sb i).as_ = D.ofQ (p.eval ts).a ∧
        t.rd (SUB_REJECTED_TIME i) = (if (s.sb i).held.isSome then (s.rd (SUB_REJECTED_TIME i) + 1) % 2 ^ 32
          else s.rd (SUB_REJECTED_TIME i)) ∧
        s.frame (SUB_STATE i :: SUB_REJECTED_TIME i :: (upto 32).map LSS_LS_STATUS ++ dropCounters) [.regs, .host, .sub] t) ∧
  (∀ (s : State) (i : Fin 8), Completes (.commonStopEnd i) s fun t =>
    if s.rd (SUB_STATE i) = 4 ∧ D.lt (dtSec (s.now16 - (s.sb i).ts)) (s.stopT i (s.sb i).vs) = false then t.rd (SUB_STATE i) = 6 ∧ s.recorded t 8 1 0 i (pay 16 4 + pay 17 6) ∧
      s.frame (SUB_STATE i :: dropCounters) [.regs, .host] t
    else t = s)

/-- A publisher of an operational device in line time, without a stop in progress, takes the next SEQUENCE and sends a pass of its
source axis as planned at T0, LEAD after now; on Ethernet its frame goes to the switch with its MAC (R103, R327, R331, R332).
On mains loss it sends its stop pass and enters its stop (R333). Where it may not publish it reads 2 and sends nothing. A
disabled publisher, and one of a twin bench, does nothing. Each of these completes here, under conditions on the state and the
operands alone: publishInstant. -/
def Obligations.PublishInstants : Prop :=
  ∀ (s : State) (q : Fin 4), Completes (.publishInstant q) s fun t =>
    let n := s.cf (PUB_SOURCE_AXIS q)
    let lead : Int := ((s.cf (PUB_LEAD q) * 2 ^ 32 : Nat) : Int)
    let t0 := (s.now + lead) / 65536
    let a := s.giveTc n (s.sched + lead)
    let seq := (s.rd (PUB_SEQUENCE q) + 1) % 2 ^ 32
    let sent := t.rd (PUB_SEQUENCE q) = seq ∧ t.rd (PUB_PUBLISHED q) = (s.rd (PUB_PUBLISHED q) + 1) % 2 ^ 32
    let silent := t.rd (PUB_SEQUENCE q) = s.rd (PUB_SEQUENCE q) ∧ t.rd (PUB_PUBLISHED q) = s.rd (PUB_PUBLISHED q)
    if s.isBench = true ∨ s.on (PUB_ENABLE q) = false then t = s
    else
      (∀ m ∈ (s.pb q).stop, t.rd (PUB_STATE q) = s.rd (PUB_STATE q) ∧
        (s.mayPublish q = true → t0 / 8192 < m.tEnd / 8192 → sent) ∧ (s.mayPublish q = false ∨ m.tEnd / 8192 ≤ t0 / 8192 → silent)) ∧
      ((s.pb q).stop = none → s.mayPublish q = false → t.rd (PUB_STATE q) = 2 ∧ silent ∧ t.net = s.net) ∧
      ((s.pb q).stop = none → s.mayPublish q = true → (s.pb q).mainsDue = true →
        t.rd (PUB_STATE q) = 3 ∧ sent ∧ (t.pb q).stop.isSome = true ∧ (t.pb q).mainsDue = false) ∧
      ((s.pb q).stop = none → s.mayPublish q = true → (s.pb q).mainsDue = false → t.rd (PUB_STATE q) = 1 ∧ sent ∧
        (s.cf (PUB_TRANSPORT q) = 1 → t.net = (s.sendFrame (s.passFrame
          (passWire (s.pubPdu q seq 0 t0 (a.planned n (t0 * 65536)) (s.cf (PUB_VALIDITY q)))))).net)) ∧
      (∀ r : Fin 4, r ≠ q → t.rd (PUB_SEQUENCE r) = s.rd (PUB_SEQUENCE r) ∧ t.rd (PUB_STATE r) = s.rd (PUB_STATE r)) ∧
      t.time = s.time

/-- A level of an axis without its power stage has the output 0 (R236). L2, observer off, gives IQ_CMD from the velocity error
through its PI law and its two biquads, clamped at IQ_LIMIT, and integrates only while it is not limited (Table CL-3). L4 with
a fresh process value gives U4 by Table CL-5; with a stale one it holds U4 and says so (R246). At its output instant a level's
held output is published (R30). A missed deadline is counted for its level and its loop processor, leaves the levels' states
as they were, and the MISS_LIMITth in a row faults the axis with DEADLINE (R265 to R267). Each of these completes here, under
conditions on the state and the operands alone: l2Sample, l4Sample, outputInstant, deadlineMiss. -/
def Obligations.ControlLevels : Prop :=
  (∀ (s : State) (n : Fin 16), s.isBench = false → Completes (.l2Sample n) s fun t =>
    let b := if s.bitOf (BNK_SWAP_PENDING n) 1 = true ∧ at' (s.cs n).swapAt 1 < s.clock then 1 - s.bank n 2 else s.bank n 2
    let k (f : Nat → Nat → Nat) : Nat := s.rd (f n b)
    let c := s.cs n
    let c' := t.cs n
    let ev := F.ofQ (satS 64 (c.vPub - s.speedOf n))
    let u := F.add (F.mul (k L2B_KP_V) ev) c.iV
    let y := biquad (k L2B_BQ1_B0) (k L2B_BQ1_B1) (k L2B_BQ1_B2) (k L2B_BQ1_A1) (k L2B_BQ1_A2) u c.s11 c.s12
    let z := biquad (k L2B_BQ2_B0) (k L2B_BQ2_B1) (k L2B_BQ2_B2) (k L2B_BQ2_A1) (k L2B_BQ2_A2) y.1 c.s21 c.s22
    let i := F.add z.1 c.ffPub
    let cmd := F.clampAbs (s.iqClamp n) i
    let limited := !F.eq cmd i
    if s.l2On n = false then c'.on2 = false ∧ c'.iqHeld = 0 ∧ t.axis = s.axis
    else (c.on2 = true → s.on (CAS_OBS_ENABLE n) = false →
        t.rd (CV_IQ_CMD n) = cmd ∧ c'.iqHeld = cmd ∧ t.bitOf (CV_CASCADE_STATUS n) 0 = limited ∧
        (limited = false → s.bitOf (CCV_CC_STATUS n) 1 = false → c'.iV = F.add c.iV (F.mul (F.mul (k L2B_KI_V) (secondsF (s.t2 n))) ev)) ∧
        (limited = true → sameSign ev i = true → c'.iV = c.iV)) ∧
      s.frame [BNK_BANK_ACTIVE n, BNK_SWAP_PENDING n, BNK_SWAP_COUNT n, CV_IQ_CMD n, CV_CASCADE_STATUS n, CV_V_HAT n, CV_A_HAT n,
        MISS_CONSEC_MISS n] [.regs, .host, .axis, .casc] t) ∧
  (∀ (s : State) (n : Fin 16), s.isBench = false → Completes (.l4Sample n) s fun t =>
    let b := if s.bitOf (BNK_SWAP_PENDING n) 3 = true ∧ at' (s.cs n).swapAt 3 < s.clock then 1 - s.bank n 4 else s.bank n 4
    let k (f : Nat → Nat → Nat) : Nat := s.rd (f n b)
    let c := s.cs n
    let c' := t.cs n
    let pv := (s.processValue n).1
    let t4 := secondsF (s.t4 n)
    let sp := s.rd (L4_SETPOINT n)
    let rl := if F.eq (k L4B_SP_RATE) 0 then sp else F.add c.rRl (F.clampAbs (F.mul (k L4B_SP_RATE) t4) (F.sub sp c.rRl))
    let rs := F.add c.rS (F.mul (F.div t4 (F.add (k L4B_SP_TF) t4)) (F.sub rl c.rS))
    let y := F.sub (F.mul (k L4B_C_W) rs) pv
    let al := F.div (k L4B_TF4) (F.add (k L4B_TF4) t4)
    let d := F.add (F.mul al c.d4) (F.div (F.mul (F.mul (F.sub F.one al) (k L4B_KD4)) (F.sub y (if c.stale then y else c.yPrev))) t4)
    let sum := F.add (F.add (F.add (F.mul (k L4B_KP4) (F.sub (F.mul (k L4B_B_W) rs) pv)) c.i4) d) (s.rd (L4_FF4 n))
    let u := if s.on (L4_U4_INVERT n) then F.neg sum else sum
    let lo := F.sub c.uPrev (F.mul (k L4B_U4_RATE) t4)
    let hi := F.add c.uPrev (F.mul (k L4B_U4_RATE) t4)
    let u2 := F.clampAbs (k L4B_U4_LIMIT) (if F.eq (k L4B_U4_RATE) 0 then u else F.clamp lo hi u)
    if s.l4On n = false then c'.on4 = false ∧ c'.u4Held = 0 ∧ t.axis = s.axis
    else (c.on4 = true → c.started4 = true → (s.processValue n).2 = false →
        t.rd (CV_PV n) = pv ∧ t.rd (CV_SP_SHAPED n) = rs ∧ t.rd (CV_U4 n) = u2 ∧ c'.u4Held = u2 ∧ c'.stale = false ∧
        t.bitOf (CV_CASCADE_STATUS n) 4 = false) ∧
      (c.on4 = true → (s.processValue n).2 = true → c'.u4Held = c.u4Held ∧ c'.i4 = c.i4 ∧ t.bitOf (CV_CASCADE_STATUS n) 4 = true ∧
        t.bitOf (CV_CASCADE_STATUS n) 2 = false ∧
        t.rd (CV_U4 n) = s.rd (CV_U4 n) ∧ (s.on (L4_PV_STALE_FAULT n) = true → (t.ax n).classB.testBit 10 = true ∧
          t.bitOf (ST_FAULT_CAUSES n) 10 = true)) ∧
      s.frame ([BNK_BANK_ACTIVE n, BNK_SWAP_PENDING n, BNK_SWAP_COUNT n, CV_PV n, CV_SP_SHAPED n, CV_U4 n, CV_CASCADE_STATUS n,
        MISS_CONSEC_MISS n, ST_FAULT_CAUSE n, ST_FAULT_CAUSES n] ++ dropCounters) [.regs, .host, .axis, .casc] t) ∧
  (∀ (s : State) (n : Fin 16) (lv : Fin 3), Completes (.outputInstant n lv) s fun t =>
    let c := s.cs n
    let c' := t.cs n
    if s.isBench then t = s
    else
      (lv = 0 → c'.iqPub = (if s.ctlMode n = 1 then (if s.stageOn n then s.rd (CAS_TORQUE_SET n) else 0) else if s.l2On n then c.iqHeld else 0)) ∧
      (lv = 1 → c'.vPub = (if s.l2On n then c.vHeld else 0) ∧ c'.ffPub = (if s.l2On n then c.ffHeld else 0) ∧
        c'.pSetPub = (if s.stageOn n then c.pSetHeld else 0) ∧ c'.vSetPub = (if s.stageOn n then c.vSetHeld else 0)) ∧
      (lv = 2 → c'.u4Pub = (if s.l4On n then c.u4Held else 0)) ∧
      (∀ m : Fin 16, m ≠ n → t.cs m = s.cs m) ∧ s.frame [] [.casc] t) ∧
  (∀ (s : State) (n : Fin 32) (lv : Fin 3) (late : BitVec 32), Completes (.deadlineMiss n lv late) s fun t =>
    let i := if n.val < 16 then lv.val else 1
    let run := at' (s.ax n).consecMiss i + 1
    t.bitOf (ST_AXIS_STATUS n) 14 = true ∧ t.casc = s.casc ∧
    (n.val < 16 → t.rd (MISS_L n lv) = (s.rd (MISS_L n lv) + 1) % 2 ^ 32 ∧ t.rd (MISS_LAST_OVERRUN n) = late.toNat) ∧
    (16 ≤ n.val → t.rd (ST_GEN_MISSES n) = (s.rd (ST_GEN_MISSES n) + 1) % 2 ^ 32) ∧ at' (t.ax n).consecMiss i = run ∧
    ((s.ax n).lp < 4 → t.rd (LPS_LP_MISSES (s.ax n).lp) = (s.rd (LPS_LP_MISSES (s.ax n).lp) + 1) % 2 ^ 32) ∧
    ((if n.val < 16 then s.cf (CAS_MISS_LIMIT n) else 3) ≤ run → s.axState n ≠ axFault → Claims.faulted n 6 s t) ∧
    (run < (if n.val < 16 then s.cf (CAS_MISS_LIMIT n) else 3) → t.axState n = s.axState n ∧
      t.rd (ST_FAULT_CAUSES n) = s.rd (ST_FAULT_CAUSES n)) ∧
    s.frame ([ST_AXIS_STATUS n, LPS_LP_MISSES (s.ax n).lp, MISS_L n lv, MISS_LAST_OVERRUN n, MISS_CONSEC_MISS n,
      ST_GEN_MISSES n] ++ Claims.faultKeys n ++ dropCounters) Claims.faultParts t)

/-- An instant publishes the axis's snapshot page of the one before (R480), runs every command taken at an earlier core clock in
order, each with its result (R277), ends its run of misses and gives its set-point a new instant; an axis in READY follows
POSITION, and one in a position move with nothing in its way has the set-point of its plan one period on (R271, R285). A class
A cause faults an axis at once (R281); a class B cause only arises, and at the axis's next instant it fences the axis or stops
it at QUICK_STOP_DEC with FAULT after it, as FAULT_REACTION says; an axis in OFF keeps none (R282, log entry 12).
HOMING_TIMEOUT after HOME ends homing with TIMEOUT and stops the axis at D (R306). Each of these completes here, under
conditions on the state and the operands alone: l3Sample, virtualTick, classAFault, classBFault, homingTimeout. -/
def Obligations.AxisInstantsAndFaults : Prop :=
  (∀ (s : State) (n : Fin 16), s.isBench = false → Completes (.l3Sample n) s fun t =>
    let swaps := s.bitOf (BNK_SWAP_PENDING n) 2 && decide (at' (s.cs n).swapAt 2 < s.clock)
    let quiet := (s.ax n).cmds = [] ∧ (s.ax n).due = [] ∧ (s.ax n).cold = false ∧ s.homing n = false
    (at' t.host.pages n).seq = ((at' s.host.pages n).seq + 1) % 2 ^ 32 ∧ (at' t.host.pages n).active = (at' s.host.pages n).filling ∧
    (t.ax n).cmds = (s.ax n).cmds.filter (fun c => decide (s.clock ≤ c.tw)) ∧ (t.ax n).genT = s.nowT ∧
    (t.ax n).gens.head?.map (·.t) = some s.nowT ∧ (t.stageOn n = true → at' (t.ax n).consecMiss 1 = 0) ∧
    t.bitOf (BNK_SWAP_PENDING n) 2 = (s.bitOf (BNK_SWAP_PENDING n) 2 && !swaps) ∧
    t.bitOf (BNK_BANK_ACTIVE n) 2 = (s.bitOf (BNK_BANK_ACTIVE n) 2 != swaps) ∧ t.time = s.time ∧
    (∀ (l : List AxCmd) (c : AxCmd), (s.ax n).cmds = l ++ [c] → c.tw < s.clock → c.code < 256 → c.seq < 256 → (s.ax n).due = [] →
      (s.ax n).cold = false → t.rd (AX_COMMAND_RESULT n) % 65536 = c.code + 256 * c.seq) ∧
    (quiet → (s.ax n).classB = 0 → s.axState n = axReady → s.axMode n = mmHold →
      t.pSet n = s.posOf n ∧ t.vSet n = 0 ∧ t.aSet n = 0 ∧ t.axState n = axReady) ∧
    (quiet → (s.ax n).classB ≠ 0 → s.axState n = axEnabled → s.axMode n = mmHold →
      if s.cf (AX_FAULT_REACTION n) = 0 then t.axState n = axFault ∧ t.rd (ST_FAULT_COUNT n) = (s.rd (ST_FAULT_COUNT n) + 1) % 2 ^ 32
      else t.axState n = axStopping ∧ t.axMode n = mmStop ∧ (t.ax n).stopDec = s.cq (PRF_QUICK_STOP_DEC n) ∧ t.faultPending n = true) ∧
    (quiet → (s.ax n).classB = 0 → s.axState n = axRunning →
      s.axMode n = mmPosition → (s.ax n).dirty = false → s.ccMode n = 1 → Claims.clearWay s n →
      planDone (s.ax n).plan ((s.ax n).tPlan + s.t3 n) = false →
      let x := evalPlan (s.ax n).plan ((s.ax n).tPlan + s.t3 n)
      t.rd (PRF_P_SET n) = ofPos x.p ∧ t.rd (PRF_V_SET n) = ofSat x.v ∧ t.rd (PRF_A_SET n) = ofSat x.a ∧ t.axState n = axRunning)) ∧
  (∀ (s : State) (n : Fin 32), s.isBench = false → Completes (.virtualTick n) s fun t =>
    let quiet := (s.ax n).due = [] ∧ (s.ax n).cold = false ∧ s.homing n = false
    (at' t.host.pages n).seq = ((at' s.host.pages n).seq + 1) % 2 ^ 32 ∧ (at' t.host.pages n).active = (at' s.host.pages n).filling ∧
    (t.ax n).cmds = (s.ax n).cmds.filter (fun c => decide (s.clock ≤ c.tw)) ∧ (t.ax n).genT = s.nowT ∧
    (16 ≤ n.val → (t.ax n).sampT = s.nowT) ∧ t.time = s.time ∧
    (∀ c : AxCmd, 16 ≤ n.val → quiet → (s.ax n).cmds = [c] → c.tw < s.clock → c.code = 1 → (s.ax n).classB = 0 → s.axMode n = mmHold →
      s.dev ≠ .locked → s.axState n = axOff →
      t.axState n = axReady ∧ t.rd (AX_COMMAND_RESULT n) = (1 + 256 * c.seq) % 2 ^ 32) ∧
    (16 ≤ n.val → quiet → (s.ax n).cmds = [] → (s.ax n).classB = 0 → s.axState n = axRunning →
      s.axMode n = mmPosition → (s.ax n).dirty = false → Claims.clearWay s n →
      planDone (s.ax n).plan ((s.ax n).tPlan + s.t3 n) = false →
      let x := evalPlan (s.ax n).plan ((s.ax n).tPlan + s.t3 n)
      t.rd (PRF_P_SET n) = ofPos x.p ∧ t.rd (PRF_V_SET n) = ofSat x.v ∧ t.rd (PRF_A_SET n) = ofSat x.a)) ∧
  (∀ (s : State) (n : Fin 32) (c : Fin 8), Completes (.classAFault n c) s fun t =>
    if c = 0 then t = s
    else (s.axState n ≠ axFault → Claims.faulted n c s t) ∧
      (s.axState n = axFault → t.axState n = axFault ∧ t.bitOf (ST_FAULT_CAUSES n) c = true ∧
        t.rd (ST_FAULT_COUNT n) = s.rd (ST_FAULT_COUNT n)) ∧
      s.frame (Claims.faultKeys n ++ dropCounters) Claims.faultParts t) ∧
  (∀ (s : State) (n : Fin 32) (c : Fin 16), Completes (.classBFault n c) s fun t =>
    if c.val < 8 ∨ 13 < c.val ∨ s.axState n = axOff then t = s
    else (t.ax n).classB.testBit c = true ∧ t.bitOf (ST_FAULT_CAUSES n) c = true ∧
      (s.rd (ST_FAULT_CAUSE n) = 0 → t.rd (ST_FAULT_CAUSE n) = c) ∧ t.axState n = s.axState n ∧
      s.frame [ST_FAULT_CAUSES n, ST_FAULT_CAUSE n] [.regs, .axis] t) ∧
  (∀ (s : State) (n : Fin 32), Completes (.homingTimeout n) s fun t =>
    if s.homing n = true ∧ (s.ax n).home.since + (s.cf (HOM_HOMING_TIMEOUT n) : Nat) * 1000000 * 2 ^ 32 ≤ s.clock then
      t.rd (HOM_HOMING_RESULT n) = 4 ∧ t.rd (HOM_HOMING_PHASE n) = 0 ∧ t.axMode n = mmStop ∧ (t.ax n).after = .enabled ∧
      (t.ax n).stopDec = (s.lims n).d ∧ t.axState n = (if s.axState n = axSetup then axSetup else axStopping) ∧ t.vSet n = s.vSet n
    else t = s)

/-- A write of COMMAND with a new SEQ is taken: COMMAND shows it and it waits, unanswered, for the axis's next L3 sample instant
(for its T_c on a publishing axis); a repeated SEQ is answered and causes nothing (R276, R277, R329); a twin bench unit
refuses a new one (R557). As it takes effect a command has its result in COMMAND_RESULT and its write is answered; a refused
one changes nothing and is counted (R278). SWITCH_ON takes OFF to READY if no condition of R279 refuses it; SWITCH_OFF takes
READY to OFF; ENABLE and SETUP take READY to their state at the present position, holding it; DISABLE takes a standing axis to
READY and stops a moving one; STOP and QUICK_STOP stop a moving axis at D or at QUICK_STOP_DEC; RESET_FAULT takes FAULT to
READY if no cause stands. In another state, and in LOCKED, each is refused with STATE. A code outside Table MO-3 is refused
with BAD_COMMAND. Each of these completes here, under conditions on the state and the operands alone: switchOn, switchOff,
enable, disable, setup, move, velocity, replace, stop, quickStop, home, follow, resetFault, badCommand. -/
def Obligations.PowerCommands : Prop :=
  (∀ (s : State) (w : Wr) (n : Fin 32) (q : BitVec 8), let m := n.val
    let u (code : Nat) := Claims.commandTaken s w m code q.toNat
    s.admits w (AX_COMMAND m) →
    exec (.switchOn w n q) s = .next (u 1) ∧ exec (.switchOff w n q) s = .next (u 2) ∧ exec (.enable w n q) s = .next (u 3) ∧
    exec (.disable w n q) s = .next (u 4) ∧ exec (.setup w n q) s = .next (u 5) ∧ exec (.move w n q) s = .next (u 6) ∧
    exec (.velocity w n q) s = .next (u 7) ∧ exec (.replace w n q) s = .next (u 8) ∧ exec (.stop w n q) s = .next (u 9) ∧
    exec (.quickStop w n q) s = .next (u 10) ∧ exec (.home w n q) s = .next (u 11) ∧ exec (.follow w n q) s = .next (u 12) ∧
    exec (.resetFault w n q) s = .next (u 13) ∧ ∀ code : BitVec 8, exec (.badCommand w n code q) s = .next (u code.toNat)) ∧
  (∀ (s : State) (n : Fin 32), let m := n.val
    let quiet := s.stopping m = false
    (s.dev = .locked → ∀ code, Claims.Refused s m code 1) ∧
    (s.dev ≠ .locked →
    (s.axState m = axOff → (m < 16 → s.ccMode m ≠ 0 ∧ (s.ccMode m = 1 ∨ s.ccMode m = 4 → s.posValid m = true) ∧ s.legTripped m = false ∧
        s.ocSet m = false ∧ s.modSet m = false ∧ s.vdcLow m = false) →
      Claims.Commanded s m 1 fun _ u => u.axState m = axReady ∧ s.frame [AX_AXIS_STATE m] [.regs] u) ∧
    (s.axState m ≠ axOff → Claims.Refused s m 1 1) ∧
    (s.axState m = axReady → Claims.Commanded s m 2 fun _ u => u.axState m = axOff ∧ u.axMode m = mmHold ∧ u.leg = s.leg) ∧
    (s.axState m ≠ axReady → Claims.Refused s m 2 1) ∧
    (s.axState m = axReady → s.dev = .op → (m < 16 → s.legTripped m = false) →
      Claims.Commanded s m 3 fun _ u => u.axState m = axEnabled ∧ Claims.holds m (s.posOf m) u ∧
        ∀ l : Fin 48, u.leg.fenced.testBit l = (s.leg.fenced.testBit l && !(s.legSet m).testBit l)) ∧
    (s.axState m ≠ axReady ∨ s.dev ≠ .op → Claims.Refused s m 3 1) ∧
    (s.axState m = axReady → s.dev = .op → m < 16 → s.legTripped m = true → Claims.Refused s m 3 8) ∧
    (s.axState m = axReady → s.dev = .op ∨ (s.dev = .preop ∧ s.claimed = false) → (m < 16 → s.legTripped m = false) →
      Claims.Commanded s m 5 fun _ u => u.axState m = axSetup ∧ Claims.holds m (s.posOf m) u) ∧
    (s.axState m ≠ axReady → Claims.Refused s m 5 1) ∧
    (s.stageOn m = true → quiet → s.standstill m = true →
      Claims.Commanded s m 4 fun _ u => u.axState m = axReady ∧ Claims.holds m (s.pSet m) u) ∧
    (s.stageOn m = true → quiet → s.standstill m = false →
      Claims.Commanded s m 4 fun _ u => Claims.stops m (s.lims m).d .ready s u) ∧
    (s.stageOn m = false → Claims.Refused s m 4 1) ∧
    (s.stageOn m = true → quiet → s.axState m ≠ axEnabled → s.axMode m ≠ mmHold →
      (Claims.Commanded s m 9 fun _ u => Claims.stops m (s.lims m).d .enabled s u) ∧
      Claims.Commanded s m 10 fun _ u => Claims.stops m (s.cq (PRF_QUICK_STOP_DEC m)) .enabled s u) ∧
    (s.axState m = axEnabled → (Claims.Commanded s m 9 fun _ u => u = s) ∧ Claims.Commanded s m 10 fun _ u => u = s) ∧
    (s.stageOn m = false → Claims.Refused s m 9 1 ∧ Claims.Refused s m 10 1) ∧
    (s.axState m = axFault → s.causeStands m = false → Claims.Commanded s m 13 fun _ u =>
      u.axState m = axReady ∧ u.rd (ST_FAULT_CAUSE m) = 0 ∧ u.rd (ST_FAULT_CAUSES m) = 0 ∧
      s.frame [AX_AXIS_STATE m, ST_FAULT_CAUSE m, ST_FAULT_CAUSES m] [.regs] u) ∧
    (s.axState m = axFault → s.causeStands m = true → Claims.Refused s m 13 9) ∧
    (s.axState m ≠ axFault → Claims.Refused s m 13 1) ∧
    (∀ code : Nat, code = 0 ∨ 13 < code → Claims.Refused s m code 10)))

/-- With no limit in its way, MOVE of an ENABLED axis starts a position move to its target, relative to p_set if MOVE_FLAGS[0] is
set; in SETUP it joins the queue of at most 16 (R289, R298). VELOCITY starts velocity mode (R288). REPLACE of a moving axis
stops it at D, and the move follows at standstill (R287). HOME starts homing of the configured method (R301), FOLLOW starts
following (R308). A MOVE or VELOCITY on a RUNNING axis is TARGET_LOCKED, and without its power stage each is refused with
STATE. A write of TARGET_VELOCITY or of a profile parameter is taken, and replans at the next instant (R286, R288). Each of
these completes here, under conditions on the state and the operands alone: targetVelocity, profileParameterWrite. -/
def Obligations.MotionCommands : Prop :=
  (∀ (s : State) (n : Fin 32), let m := n.val
    let tgt := s.targetOf m (s.q (AX_TARGET_POSITION m)) (s.bitOf (AX_MOVE_FLAGS m) 0)
    s.dev = .op → s.publisherOf m = none →
    (s.axState m = axEnabled → s.hasProfile m = true → Claims.clearWay s m →
      (Claims.Commanded s m 6 fun _ u => u.axState m = axRunning ∧ u.axMode m = mmPosition ∧ (u.ax m).target = tgt ∧
        (u.ax m).tPlan = 0 ∧ u.bitOf (ST_AXIS_STATUS m) 4 = false ∧ u.pSet m = s.pSet m ∧ u.vSet m = s.vSet m) ∧
      (Claims.Commanded s m 7 fun _ u => u.axState m = axRunning ∧ u.axMode m = mmVelocity ∧ (u.ax m).tPlan = 0 ∧
        u.pSet m = s.pSet m ∧ u.vSet m = s.vSet m) ∧
      Claims.Commanded s m 8 fun _ u => u.axState m = axRunning ∧ u.axMode m = mmPosition ∧ (u.ax m).target = tgt) ∧
    (s.axState m = axRunning ∨ s.axState m = axStopping → Claims.Refused s m 6 2 ∧
      Claims.Refused s m 7 2) ∧
    (s.stageOn m = false → Claims.Refused s m 6 1 ∧ Claims.Refused s m 7 1 ∧
      Claims.Refused s m 8 1 ∧ Claims.Refused s m 11 1 ∧ Claims.Refused s m 12 1) ∧
    (s.inSetup m = true → s.hasProfile m = true → Claims.clearWay s m → s.axMode m = mmHold ∨ s.axMode m = mmQueue →
      if (s.ax m).queue.length < 16 then
        Claims.Commanded s m 6 fun _ u => u.inSetup m = true ∧ u.axMode m = mmQueue ∧
          (u.ax m).queue = (s.ax m).queue ++ [⟨tgt, (s.lims m).v⟩] ∧ u.rd (AX_QUEUE_DEPTH m) = (s.ax m).queue.length + 1
      else Claims.Refused s m 6 5) ∧
    (s.axState m = axRunning → s.stopping m = false → s.hasProfile m = true → Claims.clearWay s m →
      Claims.Commanded s m 8 fun c u =>
        Claims.stops m (s.lims m).d (.move (s.q (AX_TARGET_POSITION m)) (s.bitOf (AX_MOVE_FLAGS m) 0) c.seq) s u) ∧
    (s.axState m = axEnabled → s.hasProfile m = true → Claims.clearWay s m →
      (s.homeConfigured m = true → Claims.Commanded s m 11 fun _ u =>
        if s.homeMethod m = 8 then u.rd (HOM_HOMING_RESULT m) = 2 ∧ u.rd (HOM_HOMING_REF_POS m) = ofPos (s.posOf m) ∧
          u.vSet m = 0 ∧ u.axState m = axEnabled
        else u.rd (HOM_HOMING_RESULT m) = 1 ∧ u.axState m = axRunning ∧ u.axMode m = mmHoming ∧ (m < 16 → u.referenced m = false)) ∧
      (s.homeConfigured m = false → Claims.Refused s m 11 7)) ∧
    (s.axState m = axEnabled → s.followReady m = true → (s.masterState m).isSome = true → Claims.clearWay s m →
      (s.genHas m (s.followNeeds m) = true → Claims.Commanded s m 12 fun _ u => u.axMode m = mmFollow ∧
        u.axState m = axRunning ∧ (u.ax m).fol.engaged = true) ∧
      (s.genHas m (s.followNeeds m) = false → Claims.Refused s m 12 3))) ∧
  (∀ (s : State) (w : Wr) (n : Fin 32), let m := n.val
    let a := s.arrived w
    let v := leNat w.data
    s.admits w (AX_TARGET_VELOCITY m) → w.data.length = 8 →
    Written (.targetVelocity w n) s w (AX_TARGET_VELOCITY m) fun u => u.rd (AX_TARGET_VELOCITY m) = v ∧
      (a.publisherOf m = none → (u.ax m).dirty = true ∧ u.params m = { a.params m with tv := (if (a.ax m).use = none then q32 v else (a.params m).tv) }) ∧
      (a.publisherOf m ≠ none → u.params m = a.params m ∧ (u.ax m).taken.length = (a.ax m).taken.length + 1) ∧
      a.frame [AX_TARGET_VELOCITY m] [.regs, .axis] u) ∧
  (∀ (s : State) (w : Wr) (n : Fin 32) (i : Fin 4), let m := n.val
    let a := s.arrived w
    let k := PRF_V_MAX m + i
    let v := leNat w.data
    s.admits w k → w.data.length = 8 → 0 < q32 v →
    Written (.profileParameterWrite w n i) s w k fun u => u.rd k = v ∧
      (a.publisherOf m = none → (u.ax m).dirty = true) ∧ (a.publisherOf m ≠ none → u.params m = a.params m) ∧
      a.frame [k] [.regs, .axis] u)

/-- A gear ratio is taken, and the carried remainder is 0 (R316); a GEAR_DEN of 0 is outside its range. CAM_NEXT takes a READY cam
as the next one, and 255 cancels it; a cam that is not READY is refused with the state-error code, a number of no cam with the
range-error code (R341). REG_RESET with its bit set puts REG_TOTAL to 0 (R344). ADMIT_CHECK with its bit set shows the result
of the first check that the pending configuration fails, the axis and processor that it names, and the values that the checks
before it gave; the others of those objects read their defaults, and nothing is committed (R263, R646). Each of these
completes here, under conditions on the state and the operands alone: admitCheck, gearRatioWrite, camNext, regReset. -/
def Obligations.LineShaftWrites : Prop :=
  (∀ (s : State) (w : Wr) (n : Fin 32) (den : Bool), let a := s.arrived w
    let k := if den then GEAR_DEN n else GEAR_NUM n
    s.admits w k → w.data.length = 4 →
    if den = true ∧ leNat w.data = 0 then exec (.gearRatioWrite w n den) s = .next (a.denied w k cRange)
    else Written (.gearRatioWrite w n den) s w k fun u =>
      u.rd k = leNat w.data ∧ (u.ax n).fol.rem = 0 ∧ (∀ m : Fin 32, m ≠ n → u.ax m = a.ax m) ∧ a.frame [k] [.regs, .axis] u) ∧
  (∀ (s : State) (w : Wr) (n : Fin 32), let a := s.arrived w
    let k := CAMA_CAM_NEXT n
    let v := leNat w.data
    s.admits w k → w.data.length = 1 →
    if 64 ≤ v ∧ v ≠ 255 then exec (.camNext w n) s = .next (a.denied w k cRange)
    else if v = 255 ∨ (a.tableReady v = true ∧ a.tableSpan v ≤ 2 ^ 63) then
      Written (.camNext w n) s w k fun u =>
        u.bitOf (LSS_LS_STATUS n) 4 = decide (v ≠ 255) ∧ (v ≠ 255 → u.rd k = v ∧ (u.ax n).camAt = a.clock) ∧
        (v = 255 → a.bitOf (LSS_LS_STATUS n) 4 = true → u.rd k = 255) ∧ a.frame [k, LSS_LS_STATUS n] [.regs, .axis] u
    else exec (.camNext w n) s = .next (a.denied w k cState)) ∧
  (∀ (s : State) (w : Wr) (n : Fin 32), let a := s.arrived w
    s.admits w (REG_RESET n) → w.data.length = 1 →
    Written (.regReset w n) s w (REG_RESET n) fun u =>
      u.q (REG_TOTAL n) = (if (leNat w.data).testBit 0 then 0 else a.q (REG_TOTAL n)) ∧ a.frame [REG_TOTAL n] [.regs] u) ∧
  (∀ (s : State) (w : Wr), let a := s.arrived w
    let c := a.asIf a.candidate
    let r : Admit := match c.configBad with
      | some (n, _) => { axis := n }
      | none => c.admission
    s.admits w ADM_ADMIT_CHECK → w.data.length = 1 → Written (.admitCheck w) s w ADM_ADMIT_CHECK fun u =>
      ((leNat w.data).testBit 0 = false → u = a) ∧
      ((leNat w.data).testBit 0 = true →
        u.rd ADM_ADMISSION_RESULT = r.code ∧ u.rd ADM_REFUSED_AXIS = r.axis ∧ u.rd ADM_REFUSED_LP = r.lp ∧
        ∀ k ∈ admitKeys, u.rd k = ((r.shows.reverse.find? (fun e => e.1 == k)).map (·.2)).getD (State.reset.rd k)) ∧
      a.frame (ADM_ADMISSION_RESULT :: ADM_REFUSED_AXIS :: ADM_REFUSED_LP :: admitKeys) [.regs] u)

/-- Table data go into table RAM from the entry START on, up to its end, and put the table in LOADING (R337); data that meet the
entries of another table that is READY are refused with the state-error code, and more than LENGTH entries with the
range-error code. A header object of any subindex takes a value in its range and puts the table in LOADING; what had been
loaded of a table that was not LOADING no longer counts. FINISH takes a table whose data are complete and meet nothing else to
READY, with its CRC, and is refused with the range-error code otherwise. Checks 1 to 5 admit none of these for a table in use,
and FINISH for a LOADING table only. Each of these completes here, under conditions on the state and the operands alone:
tableDataWrite, finish. -/
def Obligations.TableWrites : Prop :=
  (∀ (s : State) (w : Wr) (x : Fin 80), let a := s.arrived w
    let k := tableKey x none
    let lo := 8 * a.rd (CAM_START x)
    let c := Instr.tableDataWrite w x none
    s.admits w k →
    if 524288 < w.data.length then exec c s = .next (a.denied w k cLength)
    else if a.tableOverlap x (a.rd (CAM_START x)) ((w.data.length + 7) / 8) then exec c s = .next (a.denied w k cState)
    else if a.rd (CAM_LENGTH x) * 8 < w.data.length then exec c s = .next (a.denied w k cRange)
    else Written (.tableDataWrite w x none) s w k fun u =>
      u.rd (CAM_TABLE_STATE x) = 1 ∧ u.tableLen = a.tableLen.setIfInBounds x (some w.data.length) ∧
      (∀ i : Nat, u.tableRam.read i = if lo ≤ i ∧ i < lo + w.data.length ∧ i < 2097152 then w.data.getD (i - lo) 0 else a.tableRam.read i) ∧
      a.frame [CAM_TABLE_STATE x] [.regs, .tableRam, .tableLen] u) ∧
  (∀ (s : State) (w : Wr) (x : Fin 80) (j : Fin 7), let a := s.arrived w
    let k := tableKey x (some j.val)
    s.admits w k → ∀ r ∈ findRow (k / 256) (k % 256), w.data.length = r.ty.size →
    if a.valueCode r (k / 256) (k % 256) (leNat w.data) ≠ 0 then
      exec (.tableDataWrite w x (some j)) s = .next (a.denied w k (a.valueCode r (k / 256) (k % 256) (leNat w.data)))
    else Written (.tableDataWrite w x (some j)) s w k fun u =>
      u.rd k = leNat w.data ∧ u.rd (CAM_TABLE_STATE x) = 1 ∧
      u.tableLen = (if a.rd (CAM_TABLE_STATE x) = 1 then a.tableLen else a.tableLen.setIfInBounds x none) ∧
      a.frame [k, CAM_TABLE_STATE x] [.regs, .tableLen] u) ∧
  (∀ (s : State) (w : Wr) (x : Fin 80), let a := s.arrived w
    let st := a.rd (CAM_START x)
    let n := a.rd (CAM_LENGTH x)
    s.admits w (CAM_FINISH x) → w.data.length = 1 →
    if (leNat w.data).testBit 0 = false then exec (.finish w x) s = .next (a.done w (CAM_FINISH x))
    else if (if x.val < 64 then 4 else 2) ≤ n ∧ n ≤ 65536 ∧ st + n ≤ 262144 ∧ a.tableOverlap x st n = false ∧ 0 < a.q (CAM_MASTER_SPAN x) ∧
        at' a.tableLen x = some (8 * n) then
      Written (.finish w x) s w (CAM_FINISH x) fun u => u.rd (CAM_TABLE_STATE x) = 2 ∧
        u.rd (CAM_TABLE_CRC x) = crc32 (a.tableRam.readAll (8 * st) (8 * n)) ∧
        a.frame [CAM_TABLE_STATE x, CAM_TABLE_CRC x] [.regs] u
    else exec (.finish w x) s = .next (a.denied w (CAM_FINISH x) cRange))

/-- START takes an engine that stands, with a configuration that Table AQ-3 does not refuse, and its first raw sample comes 1 µs
later at the earliest (R357, R368). STOP acts at the first raw sample strictly after it (R373); FORCE is accepted in PRE and
ARMED, for the first raw sample strictly after it (R367). A raw sample is taken at a raw sample instant, in order, ACQ_LAG
after it (R349, R351). It begins a segment that is due, and is taken into the block; a trigger transition, or FORCE, in ARMED
is the trigger; in PRE with WAIT_PRE it is suppressed; after the trigger it is ignored and counted (R364 to R366). The end of
hold-off, not before its time, re-arms in HOLDOFF (R369), the next store is ready 1 µs later (R370), and SEG_RELEASED takes a
count up to SEG_DONE (R372). Each of these completes here, under conditions on the state and the operands alone: acqStart,
acqStop, acqForce, rawSample, holdoffEnd, segmentReady, segReleased. -/
def Obligations.AcquisitionEngine : Prop :=
  (∀ (s : State) (w : Wr), let a := s.arrived w
    let x := a.modAcq (fun q => { q with cfg := a.regs.filter (fun e => acqConfigKey e.1) })
    s.admits w ACQ_CONTROL →
    if a.aqStill = false then exec (.acqStart w) s = .next (a.denied w ACQ_CONTROL cState)
    else if x.startCode ≠ 0 then exec (.acqStart w) s = .next ((a.wr ACQ_START_RESULT x.startCode).denied w ACQ_CONTROL cRange)
    else Written (.acqStart w) s w ACQ_CONTROL fun u => u.acq.readyAt = some (s.nowT + 8000) ∧ u.acq.cfg = x.acq.cfg ∧ u.rd ACQ_LAG = x.acqLag ∧
      u.rd ACQ_FRAME_BYTES = x.frameSize ∧ u.rd ACQ_SEG_BYTES = 64 + x.aq ACQ_SEG_FRAMES * x.frameSize ∧ u.rd ACQ_START_RESULT = 0 ∧
      u.rd ACQ_SEG_DONE = 0 ∧ u.rd ACQ_SEG_RELEASED = 0 ∧
      a.frame [ACQ_FRAME_BYTES, ACQ_SEG_BYTES, ACQ_LAG, ACQ_START_RESULT, ACQ_SEG_DONE, ACQ_SEG_RELEASED, ACQ_FIRST_IGNORED] [.regs, .acq] u) ∧
  (∀ (s : State) (w : Wr), let a := s.arrived w
    s.admits w ACQ_CONTROL → exec (.acqStop w) s = .next
      ((if a.aqStill = true ∧ a.acq.readyAt = none then a else { a with acq := { a.acq with stopReq := some a.nowT } }).done w ACQ_CONTROL)) ∧
  (∀ (s : State) (w : Wr), let a := s.arrived w
    s.admits w ACQ_CONTROL → exec (.acqForce w) s = .next (if a.aqState = 1 ∨ a.aqState = 2
      then { a with acq := { a.acq with forceReq := some a.nowT } }.done w ACQ_CONTROL else a.denied w ACQ_CONTROL cState)) ∧
  (∀ (s : State) (w : Wr), let a := s.arrived w
    let v := leNat w.data
    s.admits w ACQ_SEG_RELEASED → w.data.length = 4 →
    if (a.rd ACQ_SEG_DONE + 2 ^ 32 - a.rd ACQ_SEG_RELEASED) % 2 ^ 32 < (v + 2 ^ 32 - a.rd ACQ_SEG_RELEASED) % 2 ^ 32 then
      exec (.segReleased w) s = .next (a.denied w ACQ_SEG_RELEASED cRange)
    else Written (.segReleased w) s w ACQ_SEG_RELEASED fun u => u.rd ACQ_SEG_RELEASED = v ∧
      (a.aqState ≠ 6 → u.aqState = a.aqState ∧ u.acq = a.acq) ∧
      (a.aqState = 6 → (a.acq.seg + 2 ^ 32 - v) % 2 ^ 32 < a.aq ACQ_SEG_COUNT → u.aqState = 5 ∧ u.acq.rAt = some s.nowT) ∧
      a.frame [ACQ_SEG_RELEASED, ACQ_STATE] [.regs, .acq] u) ∧
  (∀ (s : State) (off : Int), Completes (.rawSample off) s fun t =>
    let i := s.nowT + off
    let a := s.acqNote
    let st := s.aqState
    let e := a.evalUnits i
    let stop := s.acq.stopReq.any (fun r => decide (r < i))
    let run := s.rawDue i = true ∧ (∀ r ∈ s.acq.readyAt.or (s.acq.rAt.map (· + 8000)), i < r) ∧ stop = false
    let forced := s.acq.forceReq.any (fun r => decide (r < i))
    (s.rawDue i = false → t = s) ∧
    (s.rawDue i = true → stop = true → t.aqState = 0 ∧ t.acq.stopReq = none ∧ t.acq.readyAt = none ∧ t.acq.rAt = none ∧
      (st ≠ 3 → t.rd ACQ_SEG_DONE = s.rd ACQ_SEG_DONE) ∧
      (st = 3 → s.acq.trig.isSome = true → t.rd ACQ_SEG_DONE = (s.rd ACQ_SEG_DONE + 1) % 2 ^ 32)) ∧
    (∀ r ∈ s.acq.readyAt, r ≤ i → s.rawDue i = true → stop = false → t.acq.readyAt = none ∧ t.acq.k = 1 ∧ t.aqState ≠ 0) ∧
    (st = 0 ∨ st = 7 → run → t = a) ∧
    (st = 1 ∨ st = 2 → run → t.acq.k = s.acq.k + 1) ∧
    (st = 1 ∨ st = 2 → run → forced = true → t.acq.forceReq = none ∧
      ∃ g, t.acq.trig = some g ∧ g.k = s.acq.k ∧ g.t = i ∧ g.stamp = a.rawStamp i ∧ g.forced = true ∧ g.units = e.2.1 ∧ g.ignored = s.acq.ignored) ∧
    (st = 2 → run → forced = false → e.2.2 = true →
      ∃ g, t.acq.trig = some g ∧ g.k = s.acq.k ∧ g.t = i ∧ g.stamp = a.rawStamp i ∧ g.forced = false ∧ g.units = e.2.1) ∧
    (st = 1 → run → forced = false → e.2.2 = true → s.aq ACQ_WAIT_PRE ≠ 0 →
      t.rd ACQ_SUPPRESSED = (s.rd ACQ_SUPPRESSED + 1) % 2 ^ 32 ∧ t.acq.trig = s.acq.trig) ∧
    (3 ≤ st → st ≤ 6 → run → e.2.2 = true → t.rd ACQ_IGNORED_TOTAL = (s.rd ACQ_IGNORED_TOTAL + 1) % 2 ^ 32) ∧
    (1 ≤ st → st ≤ 6 → run → e.2.2 = (decide (s.aq ACQ_TRIG_MASK ≠ 0) && !s.acq.prevComb &&
      (if s.aq ACQ_COMBINE = 0 then e.2.1 &&& s.aq ACQ_TRIG_MASK != 0 else e.2.1 &&& s.aq ACQ_TRIG_MASK == s.aq ACQ_TRIG_MASK)) ∧
      t.acq.prevT = some i ∧ ∀ u : Fin 8, s.aq (TRU_TRIG_TYPE u) = 0 → t.rd (TRU_TRIG_STATE u) = 0) ∧
    s.onlyIn [.regs, .host, .axis, .latch, .acq, .acqRam] t) ∧
  (∀ (s : State) (i : Int), s.rawDue i = true ↔
    s.rawInstant i = true ∧ (∀ p ∈ s.acq.prevT, p < i) ∧ i + ((8 * s.rd ACQ_LAG : Nat) : Int) ≤ s.nowT) ∧
  (∀ s : State, Completes .holdoffEnd s fun t =>
    let at_ (g : TrigAt) : Int := g.t + 8 * (s.aq ACQ_HOLDOFF_TIME : Nat)
    let past := s.aq ACQ_HOLDOFF_MODE = 0 ∧ (s.aqState = 3 ∨ s.aqState = 4) ∧
      (s.acq.holdOver = true ∨ ∃ g ∈ s.acq.trig, at_ g ≤ s.nowT)
    (past → t.acq.holdOver = true) ∧ (past → s.aqState = 3 → t.aqState = 3) ∧
    (past → s.aqState = 4 → t.acq.seg = s.acq.seg + 1 ∧ (t.aqState = 6 ∨ t.aqState = 5 ∧
      ∀ g ∈ s.acq.trig, t.acq.rAt = some (if s.acq.doneAt < at_ g then at_ g else s.acq.doneAt))) ∧
    (¬past → t = s) ∧ s.frame [ACQ_STATE] [.regs, .acq] t) ∧
  (∀ s : State, exec .segmentReady s = .next (match s.acq.rAt with
    | some r => { s with acq := { s.acq with rAt := none, readyAt := some (r + 8000) } }
    | none => s))

/-- A packet that is well-formed, for this device, rightly signed and fresh, in its device and claim state and with a valid body
is accepted and applied: CLAIM binds its key (R407), TRANSFER binds the new one and closes every session (R408), SEALED_PARAMS
writes its values (R417), KEY_LOAD its keys (R419), REVOKE its serials and ends their sessions (R420, R422), TWIN_PAIRING
waits for the next reset (R565), UNLOCK leads to PRE-OPERATIONAL (R436), DEBUG_UNLOCK opens the port for its duration (R433).
The first check of Table SE-7 that fails refuses it: the result is shown, counted and answered by its class, and nothing of
the packet is applied (R414, R416). Each of these completes here, under conditions on the state and the operands alone: claim,
transfer, sealedParams, keyLoad, revoke, twinPairing, unlock, debugUnlock, packetIn. -/
def Obligations.SignedPackets : Prop :=
  (∀ (s : State) (w : Wr) (p : Packet) (key : BitVec 384), let a := s.arrived w
    s.admits w PKT_PACKET_IN → Claims.packetGood a p 1 key.toNat → a.claimed = false → a.sec.windowOpen = true → a.clock < a.sec.windowEnd →
    a.dev = .preop →
    Claims.Accepted (.claim w p key) s w fun u => u.claimed = true ∧ u.sec.ownerKey = some key.toNat ∧ u.rd OWN_OWNER_COUNTER = 0 ∧
      u.sec.sealedStore = s.sec.sealedStore ∧ u.dev = .preop) ∧
  (∀ (s : State) (w : Wr) (p : Packet) (key : BitVec 384), let a := s.arrived w
    s.admits w PKT_PACKET_IN → a.sec.ownerKey = some p.signer → Claims.packetGood a p 2 p.signer → a.claimed = true → a.dev = .preop →
    Claims.Accepted (.transfer w p key) s w fun u => u.claimed = true ∧ u.sec.ownerKey = some key.toNat ∧ u.rd OWN_OWNER_COUNTER = 0 ∧
      u.sec.sessions = [] ∧ u.sec.keys = s.sec.keys ∧ u.sec.sealedStore = s.sec.sealedStore ∧ u.force = s.force) ∧
  (∀ (s : State) (w : Wr) (p : Packet) (l : List SealedEntry), let a := s.arrived w
    s.admits w PKT_PACKET_IN → a.sec.ownerKey = some p.signer → Claims.packetGood a p 3 p.signer → a.claimed = true →
    a.dev = .preop ∨ a.dev = .op ∨ a.dev = .safe → l ≠ [] → l.length ≤ 512 → (∀ e ∈ l, a.sealedOk e = true) →
    Claims.Accepted (.sealedParams w p l) s w fun u => u.rd OWN_OWNER_COUNTER = p.counter ∧
      (∀ e ∈ l.getLast?, let k := e.index * 256 + e.sub
        u.rd k = keepBits k (leNat e.value) ∧ u.sec.sealedStore.get k = keepBits k (leNat e.value)) ∧
      u.force = s.force ∧ u.sec.keys = s.sec.keys) ∧
  (∀ (s : State) (w : Wr) (p : Packet) (l : List KeyEntry), let a := s.arrived w
    s.admits w PKT_PACKET_IN → a.sec.ownerKey = some p.signer → Claims.packetGood a p 4 p.signer → p.decryptOk = true → a.claimed = true →
    a.dev = .preop ∨ a.dev = .op ∨ a.dev = .safe → a.packetContent (.keys l) = true →
    Claims.Accepted (.keyLoad w p l) s w fun u => keysApply s.sec.keys l = some u.sec.keys ∧ keyCountsOk u.sec.keys = true ∧
      u.rd OWN_OWNER_COUNTER = p.counter ∧ u.sec.revoked = s.sec.revoked) ∧
  (∀ (s : State) (w : Wr) (p : Packet) (l : List (BitVec 32)), let a := s.arrived w
    s.admits w PKT_PACKET_IN → a.sec.ownerKey = some p.signer → Claims.packetGood a p 5 p.signer → a.claimed = true →
    l ≠ [] → l.length ≤ 64 → (revokeAll s.sec.revoked (l.map (·.toNat))).length ≤ 64 →
    Claims.Accepted (.revoke w p l) s w fun u => (∀ x ∈ l, x.toNat ∈ u.sec.revoked) ∧ (∀ x ∈ s.sec.revoked, x ∈ u.sec.revoked) ∧
      (∀ x ∈ u.sec.sessions, x.role = .owner ∨ x.serial ∉ l.map (·.toNat)) ∧ u.rd OWN_OWNER_COUNTER = p.counter) ∧
  (∀ (s : State) (w : Wr) (p : Packet) (id : BitVec 32) (partner : BitVec 64), let a := s.arrived w
    s.admits w PKT_PACKET_IN → a.sec.ownerKey = some p.signer → Claims.packetGood a p 6 p.signer → p.decryptOk = true → a.claimed = true →
    a.dev = .preop → id ≠ 0 ∨ partner = 0 → Claims.Accepted (.twinPairing w p id partner) s w fun u =>
      u.sec.pairNext = some (if id = 0 then none else some (id.toNat, partner.toNat)) ∧ u.rd TW_PAIR_ID = s.rd TW_PAIR_ID ∧
      u.rd OWN_OWNER_COUNTER = p.counter) ∧
  (∀ (s : State) (w : Wr) (p : Packet), let a := s.arrived w
    s.admits w PKT_PACKET_IN → a.sec.ownerKey = some p.signer → Claims.packetGood a p 7 p.signer → a.claimed = true → a.dev = .locked →
    p.reporting = 0 → a.bitOf TAMP_TAMPER_CAUSES 3 = false → Claims.Accepted (.unlock w p) s w fun u => u.dev = .preop ∧
      u.rd TAMP_TAMPER_CAUSES = 0 ∧ u.pw.lockKept = false ∧ u.sec.keys = s.sec.keys) ∧
  (∀ (s : State) (w : Wr) (p : Packet) (lv : BitVec 8) (dur : BitVec 32), let a := s.arrived w
    s.admits w PKT_PACKET_IN → Claims.packetGood a p 8 p.signer →
    (if a.claimed then a.sec.ownerKey = some p.signer else p.signer = Config.vendorKey.toNat) → a.dev = .preop →
    1 ≤ lv.toNat → lv.toNat ≤ 3 → 60 ≤ dur.toNat → dur.toNat ≤ 86400 → Claims.Accepted (.debugUnlock w p lv dur) s w fun u =>
      u.rd DBG_DEBUG_STATE = lv.toNat ∧ u.sec.debugEnd = s.time.free.units + ((dur.toNat * secU : Nat) : Int)) ∧
  (∀ (s : State) (w : Wr) (p : Packet) (key : BitVec 384) (l : List SealedEntry) (kl : List KeyEntry) (rl : List (BitVec 32))
      (id dur : BitVec 32) (partner : BitVec 64) (lv : BitVec 8), let a := s.arrived w
    s.admits w PKT_PACKET_IN → ∀ e ∈ ([(.claim w p key, 1, .claim key.toNat), (.transfer w p key, 2, .transfer key.toNat),
        (.sealedParams w p l, 3, .sealed_ l), (.keyLoad w p kl, 4, .keys kl), (.revoke w p rl, 5, .revoke (rl.map (·.toNat))),
        (.twinPairing w p id partner, 6, .pairing id.toNat partner.toNat), (.unlock w p, 7, .unlock),
        (.debugUnlock w p lv dur, 8, .debug lv.toNat dur.toNat)] : List (Instr × Nat × PBody)),
      a.packetCheck { p with typ := e.2.1 } e.2.2 ≠ 0 →
      Claims.PacketRefused e.1 s w (a.packetCheck { p with typ := e.2.1 } e.2.2)) ∧
  (∀ (s : State) (w : Wr), let a := s.arrived w
    let r := a.packetCheck (parsePacket w.data w.vd) (parseBody (leAt w.data 5 1) ((w.data.drop 80).take (leAt w.data 24 4)) w.vd.plain)
    s.admits w PKT_PACKET_IN → 176 ≤ w.data.length → w.data.length ≤ 65712 →
    (r = 0 → Claims.Accepted (.packetIn w) s w fun _ => True) ∧
    (r ≠ 0 → Claims.PacketRefused (.packetIn w) s w r) ∧
    (leAt w.data 0 4 ≠ 0x4b505353 ∨ w.data.length ≠ 176 + leAt w.data 24 4 → r = 1))

/-- A HELLO of a claimed device with fewer than 8 sessions, working random numbers and a valid credential leaves a handshake with
a new SESSION_ID and is answered with a CHALLENGE of two numbers drawn, signed over both messages (R421); with 8 sessions open
it is answered busy (R422). FINISH opens the session of its handshake, with its keys, if the signature verifies, and is denied
otherwise; each is audited. CLOSE, SESSION_IDLE without a request and an expired certificate close a session with an audit
record; without trusted line time a certificate is not judged (R420). The claim window closes; a physical release erases
owner, revocations, keys and sealed values (R409). In LOCKED a CAN handshake is refused (R436). Each of these completes here,
under conditions on the state and the operands alone: physicalRelease, claimWindowExpiry, hello, sessionFinish, sessionClose,
sessionIdle, certificateExpiry, handshake. -/
def Obligations.Sessions : Prop :=
  (∀ (s : State) (w : Wr) (role : BitVec 8) (cred : Cred), let a := s.acceptFresh 0 w.reqId w.fresh
    let c : Ctx := { s.ctxOf w 0 0 with op := 0x10, session := 0 }
    s.served = true → a.held w.chan < 8 → w.chan = .quinup ∨ w.chan = .mailbox →
    (a.claimed = false → exec (.hello w role cred) s = .next (a.answer c cState [])) ∧
    (a.claimed = true → 8 ≤ a.sec.sessions.length → exec (.hello w role cred) s = .next (a.answer c cBusy [])) ∧
    (a.claimed = true → a.sec.sessions.length < 8 → a.sec.trngFailed = false → ∀ x ∈ a.credential role.toNat cred,
      ∃ b, Claims.Answered (.hello w role cred) s c 0 b fun t => t.sec.drawn = s.sec.drawn + 2 ∧
        (∀ h ∈ t.sec.hellos.head?, h.chan = w.chan ∧ h.role = x.1 ∧ h.serial = x.2.1 ∧ h.notAfter = x.2.2 ∧
          t.sec.nextId = h.id + 1) ∧ (∃ body, b = body ++ leBytes 96 (Config.deviceSign (w.data ++ body)).toNat ∧ body.length = 131) ∧
        t.sec.hellos ≠ [] ∧ t.sec.keys = s.sec.keys ∧ a.onlyIn [.sec] t) ∧
    (a.claimed = true → a.sec.sessions.length < 8 → a.sec.trngFailed = false → a.credential role.toNat cred = none →
      Claims.Answered (.hello w role cred) s c cDenied [] fun t => t.sec.hellos = s.sec.hellos ∧ Claims.audited 0x08 s t)) ∧
  (∀ (s : State) (w : Wr), let a := s.acceptFresh 0 w.reqId w.fresh
    s.served = true → a.held w.chan < 8 → w.chan = .quinup ∨ w.chan = .mailbox → a.sec.sessions.length < 8 →
    ∀ h ∈ a.sec.hellos.find? (fun x => x.chan == w.chan && x.id == w.session),
    Completes (.sessionFinish w) s fun t =>
      t.sec.hellos = s.sec.hellos.filter (fun x => x.id != h.id) ∧
      (w.vd.sig = true → (∃ x, t.sec.sessions.getLast? = some x ∧ x.id = h.id ∧ x.role = h.role ∧ x.chan = w.chan ∧ x.reqKey = h.reqKey ∧ x.respKey = h.respKey ∧
          x.timeUnchecked = !s.ltSt.good) ∧ t.sec.sessions.length = s.sec.sessions.length + 1 ∧ Claims.audited 0x06 s t) ∧
      (w.vd.sig = false → t.sec.sessions.length = s.sec.sessions.length ∧ Claims.audited 0x08 s t)) ∧
  (∀ (s : State) (w : Wr) (id : BitVec 16), let a := s.arrived w
    let c : Ctx := { s.ctxOf w 0 0 with op := 0x10 }
    s.served = true → s.gate w.chan w.session w.reqId w.fresh true = .go → a.held w.chan < 8 → w.chan = .quinup ∨ w.chan = .mailbox →
    if w.session = id.toNat ∧ (a.session w.session).isSome = true then
      Claims.Answered (.sessionClose w id) s c 0 [] fun t => t.session id.toNat = none ∧ Claims.audited 0x07 s t ∧
        t.sec.hellos = s.sec.hellos ∧ t.sec.keys = s.sec.keys
    else exec (.sessionClose w id) s = .next (a.answer c cState [])) ∧
  (∀ (s : State) (id : BitVec 16), Completes (.sessionIdle id) s fun t =>
    if ∃ x ∈ s.session id.toNat, x.usedAt + (s.cf SES_SESSION_IDLE * 4294967296000000000 : Nat) ≤ s.clock then
      t.session id.toNat = none ∧
      t.sec.sessions = s.sec.sessions.filter (fun x => x.id != id.toNat) ∧ Claims.audited 0x07 s t
    else t = s) ∧
  (∀ (s : State) (id : BitVec 16), Completes (.certificateExpiry id) s fun t =>
    (∀ x ∈ s.session id.toNat, s.ltSt.good = true → x.role ≠ .owner →
      (x.notAfter ≤ s.time.line.sec → t.session id.toNat = none ∧ Claims.audited 0x07 s t) ∧
      (s.time.line.sec < x.notAfter → ∀ y ∈ t.session id.toNat, y = { x with timeUnchecked := false })) ∧
    (s.session id.toNat = none ∨ s.ltSt.good = false → t = s)) ∧
  (∀ s : State, exec .claimWindowExpiry s = .next
    (if s.sec.windowEnd ≤ s.clock then { s with sec := { s.sec with windowOpen := false } } else s)) ∧
  (∀ s : State, Completes .physicalRelease s fun t =>
    if s.booting then t.claimed = false ∧ t.sec.ownerKey = none ∧ t.sec.revoked = [] ∧ t.sec.keys = [] ∧ t.sec.sealedStore = [] ∧
      t.dict.stored = none ∧ t.rd TW_PAIR_ID = 0 ∧ t.sec.slots = s.sec.slots ∧ t.rd FW_ROLLBACK_LEVEL = s.rd FW_ROLLBACK_LEVEL ∧
      t.dict.calSlot = s.dict.calSlot ∧ Claims.audited 0x03 s t
    else t = s) ∧
  (∀ (s : State) (w : Wr) (c : Fin 4), s.dev = .locked → s.gate w.chan w.session w.reqId w.fresh true = .go →
    (s.arrived w).held w.chan < 8 → exec (.handshake w c) s = .next
    ((s.arrived w).denied w (SDO_HANDSHAKE c) ((s.arrived w).writeAccess ((s.arrived w).writeRole w.session) (SDO_HANDSHAKE c / 256) 1)) ∧
    (s.arrived w).writeAccess ((s.arrived w).writeRole w.session) (SDO_HANDSHAKE c / 256) 1 ≠ 0) ∧
  (∀ (s : State) (w : Wr) (c : Fin 4), ((s.arrived w).session w.session).isSome = true → w.data = 4 :: leBytes 2 w.session →
    w.session < 2 ^ 16 → s.admits w (SDO_HANDSHAKE c) → Written (.handshake w c) s w (SDO_HANDSHAKE c) fun u =>
      u.session w.session = none ∧ at' u.dict.handshake c = [] ∧ Claims.audited 0x07 s u)

/-- The first bytes of FW_IMAGE erase the slot that is not active and put it in LOADING; once LENGTH + 512 bytes have arrived it
is VALID if R429 holds and INVALID if not, with an audit record (R431). Bytes out of order are refused. NEXT_SLOT takes a
VALID slot only. FW_CONFIRM raises ROLLBACK_LEVEL to the level of the active slot once that has booted, and never lowers it,
and the image is then a confirmed one (R431, R432). The end of DURATION closes the debug port (R433); a TRNG failure leaves no
nonce (R413); AUDIT_EXPORT reads the whole log, signed (R438). Each of these completes here, under conditions on the state and
the operands alone: fwImage, nextSlot, fwConfirm, debugExpiry, trngFailure, auditExport. -/
def Obligations.FirmwareAndAudit : Prop :=
  (∀ (s : State) (w : Wr), let a := s.arrived w
    let i := a.otherSlot
    let st := if i = 0 then FW_SLOT_A_STATE else FW_SLOT_B_STATE
    let ver := if i = 0 then FW_SLOT_A_VERSION else FW_SLOT_B_VERSION
    let size := leAt w.data 12 4 + 512
    s.admits w FW_IMAGE → a.fwImageState = true → i < 2 → 16 ≤ w.data.length → leAt w.data 12 4 ≤ 2096640 →
    (w.data.length < size → Written (.fwImage w 0) s w FW_IMAGE fun u => u.rd st = 1 ∧ u.rd ver = 0 ∧
      (at' u.sec.slots i).received = w.data.length ∧ at' u.sec.slots (1 - i) = at' a.sec.slots (1 - i) ∧ u.rd AUD_AUDIT_COUNT = a.rd AUD_AUDIT_COUNT) ∧
    (size ≤ w.data.length → Written (.fwImage w 0) s w FW_IMAGE fun u => u.rd ver = leAt w.data 4 4 ∧ Claims.audited 0x0a a u ∧
      u.rd st = (if leAt w.data 0 4 = 0x57464e4a ∧ w.vd.sig = true ∧ a.rd FW_ROLLBACK_LEVEL ≤ leAt w.data 8 1 ∧ leAt w.data 8 1 ≤ 63 ∧
        (a.on FW_COUNTERSIGN_REQUIRED = true → w.vd.owner.isSome = true ∧ w.vd.owner = a.sec.ownerKey) then 2 else 3) ∧
      (at' u.sec.slots i).confirmed = false)) ∧
  (∀ (s : State) (w : Wr) (o : Nat), let a := s.arrived w
    s.admits w FW_IMAGE → o ≠ 0 → o ≠ (at' a.sec.slots a.otherSlot).received → a.fwImageState = true →
    exec (.fwImage w o) s = .next (a.denied w FW_IMAGE cProtocol)) ∧
  (∀ (s : State) (w : Wr), let a := s.arrived w
    let v := leNat w.data
    s.admits w FW_NEXT_SLOT → w.data.length = 1 → v ≤ 1 →
    if a.rd (if v = 0 then FW_SLOT_A_STATE else FW_SLOT_B_STATE) = 2 then
      Written (.nextSlot w) s w FW_NEXT_SLOT fun u => u.rd FW_NEXT_SLOT = v ∧ u.rd FW_ACTIVE_SLOT = a.rd FW_ACTIVE_SLOT ∧ Claims.audited 0x0b a u
    else exec (.nextSlot w) s = .next (a.denied w FW_NEXT_SLOT cState)) ∧
  (∀ (s : State) (w : Wr), let a := s.arrived w
    let lv := (at' a.sec.slots (a.rd FW_ACTIVE_SLOT)).level
    (s.admits w FW_CONFIRM → w.data = [1] → Written (.fwConfirm w) s w FW_CONFIRM fun u =>
      u.rd FW_ROLLBACK_LEVEL = max (a.rd FW_ROLLBACK_LEVEL) lv ∧
      (a.rd FW_ACTIVE_SLOT < 2 → (at' u.sec.slots (a.rd FW_ACTIVE_SLOT)).confirmed = true) ∧ u.rd FW_NEXT_SLOT = a.rd FW_NEXT_SLOT) ∧
    (s.served = true → s.gate w.chan w.session w.reqId w.fresh true = .go → a.held w.chan < 8 → Role.level .owner ≤ Role.level (a.writeRole w.session) →
      a.sec.booted = false → exec (.fwConfirm w) s = .next (a.denied w FW_CONFIRM cState))) ∧
  (∀ s : State, Completes .debugExpiry s fun t =>
    if s.sec.debugEnd ≤ s.clock ∧ s.rd DBG_DEBUG_STATE ≠ 0 then t.rd DBG_DEBUG_STATE = 0 ∧ Claims.audited 0x0f s t else t = s) ∧
  (∀ s : State, Completes .trngFailure s fun t => t.sec.trngFailed = true ∧ t.sec.nonce = none ∧ t.sec.drawn = s.sec.drawn ∧
    t.sec.sessions = s.sec.sessions ∧ Claims.audited 0x12 s t) ∧
  (∀ (s : State) (w : Wr), let a := s.arrived w
    let body := a.sec.audit.reverse.flatMap (fun r => r.bytes 0 false) ++ leBytes 32 a.sec.auditTailHead ++ leBytes 32 a.sec.auditHead ++
      leBytes 4 (a.rd AUD_AUDIT_COUNT)
    s.served = true → s.gate w.chan w.session w.reqId w.fresh true = .go → a.held w.chan < 8 → a.readAccess (a.readRole w.session) (AUD_AUDIT_EXPORT / 256) (AUD_AUDIT_EXPORT % 256) = 0 →
    exec (.auditExport w) s = .next (a.answer { s.ctxOf w (AUD_AUDIT_EXPORT / 256) (AUD_AUDIT_EXPORT % 256) with op := 1 } 0
      (body ++ leBytes 96 (Config.deviceSign body).toNat)))

/-- R84: a second offset add written before the first has been applied is summed with it, and line time moves by the sum at one
tick. R251: while the swap of a level is pending, a write of a coefficient of its inactive bank, by a role that may write it,
is refused with the state-error code, and a SWAP_REQUEST for levels whose swap is pending is answered and changes nothing.
Each of these completes here, under conditions on the state and the operands alone: tuOffsetAdd, swapRequest, objectWrite,
timePllTick. -/
def Obligations.PendingSwapAndOffsets : Prop :=
  (∀ (s : State) (v w : BitVec 64), s.time.offsetAdd = none → Completes (.tuOffsetAdd v) s fun t => Completes (.tuOffsetAdd w) t fun u =>
    u.time.line = s.time.line ∧
    (0 ≤ s.now + (v.toInt + w.toInt) * 65536 → Completes .timePllTick u fun x =>
      x.time.line = Clock.ofUnits (s.now + (v.toInt + w.toInt) * 65536 +
        (if s.pw.timePllLost then 40 * 2 ^ 32 else s.rd CLK_INCREMENT % 2 ^ 36 : Nat)).toNat ∧ x.time.offsetAdd = none)) ∧
  (∀ (s : State) (w : Wr) (index : BitVec 16) (sub : BitVec 8), let a := s.arrived w
    let k := index.toNat * 256 + sub.toNat
    s.served = true → s.gate w.chan w.session w.reqId w.fresh true = .go → a.held w.chan < 8 → a.dev ≠ .locked →
    idxExists index.toNat = true →
    ∀ x ∈ bankOfKey k, ∀ r ∈ findRow index.toNat sub.toNat,
      r.isSealed = false → r.writeRole ≤ Role.level (a.writeRole w.session) →
      a.bitOf (BNK_SWAP_PENDING x.1) (x.2.1 - 1) = true → a.bank x.1 x.2.1 ≠ x.2.2 →
      exec (.objectWrite w index sub) s = .next (a.denied w k cState)) ∧
  (∀ (s : State) (w : Wr) (n : Fin 16) (v : BitVec 8), let a := s.arrived w
    s.admits w (BNK_SWAP_REQUEST n) → w.data = [v] → v.toNat < 16 →
    (∀ i : Fin 4, v.toNat.testBit i = true → a.bitOf (BNK_SWAP_PENDING n) i = true) →
    exec (.swapRequest w n) s = .next (a.done w (BNK_SWAP_REQUEST n)))

/-- A write request is checked in the order of Table OD-5: the first check that fails gives its abort code, and but for the answer nothing
changes (R446); a full queue counts its busy reply (R447), and a CAL_SAVE refused in this state shows it in CAL_RESULT (Table NV-5). Before
the boot sequence serves requests a write does nothing. -/
def Obligations.ObjectServer : Prop :=
  ∀ (s : State) (w : Wr) (i : BitVec 16) (j : BitVec 8), let a := s.arrived w
    let k := i.toNat * 256 + j.toNat
    let role := a.writeRole w.session
    let c := Instr.objectWrite w i j
    (s.served = false → exec c s = .next s) ∧
    (s.served = true → s.gate w.chan w.session w.reqId w.fresh true = .go →
      (8 ≤ a.held w.chan → exec c s = .next ((Claims.busied a).denied w k cBusy)) ∧
      (a.held w.chan < 8 →
        (idxExists i.toNat = false → exec c s = .next (a.denied w k cNoObject)) ∧
        (idxExists i.toNat = true →
          (findRow i.toNat j.toNat = none → exec c s = .next (a.denied w k (if j = 0 then cReadOnly else cNoSub))) ∧
          ∀ r ∈ findRow i.toNat j.toNat,
            if r.acc = .ro ∨ r.acc = .rc ∨ scAbsent i.toNat j.toNat = true then exec c s = .next (a.denied w k cReadOnly)
            else if r.isSealed = true ∨ Role.level role < r.writeRole then exec c s = .next (a.denied w k cDenied)
            else if a.writeState k = false then
              exec c s = .next ((if k = CAL_SAVE then a.wr CAL_RESULT 5 else a).denied w k cState)
            else if a.openElsewhere k = true then exec c s = .next (a.denied w k cState)
            else if lengthOk r w.data.length = false then exec c s = .next (a.denied w k cLength)
            else (0 < r.ty.size → a.valueCode r i.toNat j.toNat (leNat w.data) ≠ 0 →
              exec c s = .next (a.denied w k (a.valueCode r i.toNat j.toNat (leNat w.data)))))))

/-- A write that passes its checks is executed and answered with success. An object with flag P reads back what was written, its
reserved bits 0, and the configuration in force stays until a commit (R443, R4), CC_MODE apart, whose write has its own row
and may be refused (R187). A write of any other object that has no effect of its own (`Claims.acts` lists those that have)
changes that register alone: a W1C object loses the bits written 1 (R20). MO_DATA takes its bytes (R518). The objects whose
writes are rows of their own do what those rows do. A transfer that has had no segment for 1 s keeps its place, marked as
abandoned, and every other one is as it was (R448). Each of these completes here, under conditions on the state and the
operands alone: objectWrite, segmentTimeout. -/
def Obligations.ObjectValues : Prop :=
  (∀ (s : State) (w : Wr) (i : BitVec 16) (j : BitVec 8), let a := s.arrived w
    let k := i.toNat * 256 + j.toNat
    let v := leNat w.data
    s.admits w k → ∀ r ∈ findRow i.toNat j.toNat, w.data.length = r.ty.size → a.valueCode r i.toNat j.toNat v = 0 →
    (r.persistent = true → (∀ n : Fin 16, k ≠ CC_MODE n) → 0 < r.ty.size →
      Written (.objectWrite w i j) s w k fun u => u.force = s.force ∧
        u.rd k = (match r.rng with
          | .bits m => v &&& m
          | _ => v)) ∧
    (Claims.acts k = false → 0 < r.ty.size →
      Written (.objectWrite w i j) s w k fun u => a.frame [k] [.regs] u ∧
        u.rd k = (match r.rng with
          | .bits m => v &&& m
          | .w1c m => clrMask (a.rd k) (v &&& m)
          | _ => v))) ∧
  (∀ (s : State) (w : Wr) (c : Fin 4) (n : Fin 128), let k := MO_DATA c n
    s.admits w k → w.data.length ≤ 64 → Written (.objectWrite w (BitVec.ofNat 16 (k / 256)) (BitVec.ofNat 8 (k % 256))) s w k fun u =>
      u.octets k = w.data ∧ (s.arrived w).onlyIn [.blobs] u) ∧
  (∀ (s : State) (w : Wr) (i : BitVec 16) (j : BitVec 8) (c : Instr), Claims.isWrite w c (i.toNat * 256 + j.toNat) →
    exec (.objectWrite w i j) s = exec c s) ∧
  (∀ (s : State) (w : Wr) (n : Fin 32) (code q : BitVec 8), w.data = [code, q, 0, 0] →
    exec (.objectWrite w (BitVec.ofNat 16 (0x3000 + 0x80 * n.val)) 1) s = exec (.badCommand w n code q) s) ∧
  (∀ (s : State) (chan : Chan) (session i : BitVec 16) (j : BitVec 8), Completes (.segmentTimeout chan session i j) s fun t =>
    s.onlyIn [.dict] t ∧ t.dict.xfers.length = s.dict.xfers.length ∧
    (∀ write : Bool, let c : Ctx := { chan := chan, session := session.toNat, reqId := 0, fresh := 0, op := 0, index := i.toNat, sub := j.toNat }
      t.xfer c write = (s.xfer c write).map (fun x =>
        if x.seenAt + 4294967296000000000 ≤ s.clock then { x with abandoned := true, buf := [] } else x)) ∧
    (∀ (c : Ctx) (write : Bool), c.chan ≠ chan ∨ c.session ≠ session.toNat ∨ c.index * 256 + c.sub ≠ i.toNat * 256 + j.toNat →
      t.xfer c write = s.xfer c write))

/-- A datagram to another address or port, a fragment, or one with a bad checksum is no request (R100); one of the wrong form is
dropped and counted (R101). One of a session that is not open, whose trailer is bad or whose FRESHNESS is stale is dropped and
counted (R424); one that repeats the last REQUEST_ID and FRESHNESS gets the cached response again and does nothing else
(R102). Otherwise it is executed and its answer goes to where it came from: READ answers the bytes of the object, WRITE does
what OBJECT_WRITE does (R445), segments run from 0 without a gap and the object changes with the last one, a read is served
from the copy its first segment took (R448), SESSION closes its session. An SDO frame of another COB-ID or length is not
taken; expedited transfers write and read as other channels do; a frame without a valid trailer on a bound channel is dropped
(R450). Each of these completes here, under conditions on the state and the operands alone: quinupRead, quinupWrite,
quinupReadSegment, quinupWriteSegment, quinupSession, objectWrite, sdoFrame. -/
def Obligations.Datagrams : Prop :=
  (∀ (s : State) (d : Dgram), let good := d.magic = 0x5171 ∧ d.version = 1 ∧ d.dataLength ≤ 1024 ∧ d.data.length = d.dataLength
    ∀ e ∈ ([(.quinupRead d, 1), (.quinupWrite d, 2), (.quinupReadSegment d, 3), (.quinupWriteSegment d, 4), (.quinupSession d, 0x10)] :
      List (Instr × Nat)),
      (s.udpOk d.udp = (d.udp.ip == s.ownIp && d.udp.port == s.cf NET_QUINUP_PORT && !d.udp.fragment && d.udp.sumOk)) ∧
      (s.served = false ∨ s.udpOk d.udp = false → exec e.1 s = .next s) ∧
      (s.served = true → s.udpOk d.udp = true → ¬good → Completes e.1 s fun t => Claims.onlyCounts NETC_FORMAT_DROPS s t) ∧
      (s.served = true → s.udpOk d.udp = true → good → d.session ≠ 0 → Machine.Dgram.opens d e.2 = false →
        let a := s.acceptFresh d.session d.reqId d.fresh
        (s.gate .quinup d.session d.reqId d.fresh d.macOk = .drop → Completes e.1 s fun t =>
          t.rd SES_SESSION_FAILS = (s.rd SES_SESSION_FAILS + 1) % 2 ^ 32 ∧ t.net = s.net ∧ t.dict = s.dict ∧ t.blobs = s.blobs ∧
          t.sec.keys = s.sec.keys ∧ t.sec.sessions.length = s.sec.sessions.length ∧ t.force = s.force ∧
          (∀ x ∈ s.session d.session, (x.failRun = false → Claims.audited 0x08 s t) ∧
            (x.failRun = true → t.rd AUD_AUDIT_COUNT = s.rd AUD_AUDIT_COUNT))) ∧
        (∀ x ∈ s.session d.session, d.macOk = true → x.accepted = some (d.reqId, d.fresh) →
          (∀ b : Bytes, x.cached = some (d.reqId, d.fresh, b) → exec e.1 s = .next (s.sendUdp d.udp.peer b)) ∧
          (x.cached = none → exec e.1 s = .next s)) ∧
        (s.gate .quinup d.session d.reqId d.fresh d.macOk = .go → 8 ≤ a.held .quinup → exec e.1 s = .next ((Claims.busied a).answer
            ⟨.quinup, d.udp.peer, d.session, d.reqId, d.fresh, e.2, d.index, d.sub, b2n d.last, d.segOffset, s.respKey d.session⟩ cBusy [])))) ∧
  (∀ (s : State) (d : Dgram), let a := s.acceptFresh d.session d.reqId d.fresh
    let c (op : Nat) : Ctx := ⟨.quinup, d.udp.peer, d.session, d.reqId, d.fresh, op, d.index, d.sub, b2n d.last, d.segOffset, s.respKey d.session⟩
    let k := d.index * 256 + d.sub
    s.served = true → s.udpOk d.udp = true → Machine.Dgram.wellFormed d = true →
    s.gate .quinup d.session d.reqId d.fresh d.macOk = .go → a.held .quinup < 8 →
    (let b := a.readBytes (a.readRole d.session) d.index d.sub;
      exec (.quinupRead d) s = .next (if a.readAccess (a.readRole d.session) d.index d.sub ≠ 0 then
        a.answer (c 1) (a.readAccess (a.readRole d.session) d.index d.sub) []
      else (a.readClears d.index d.sub).answer (c 1) (if 1024 < b.length then cProtocol else 0) (if 1024 < b.length then [] else b))) ∧
    (let code := a.writeAccess (a.writeRole d.session) d.index d.sub;
      (code ≠ 0 → k ≠ CAL_SAVE → exec (.quinupWrite d) s = .next (a.answer (c 2) code [])) ∧
      (∀ r ∈ findRow d.index d.sub, code = 0 → a.openElsewhere k = false → 0 < r.ty.size → lengthOk r d.data.length = true →
        a.valueCode r d.index d.sub (leNat d.data) = 0 → a.oneWrite d.vd k (leNat d.data) = none → a.familyWrite d.vd k (leNat d.data) = none →
        k ≠ ID_STORE → k ≠ CMT_COMMIT → axisOffset d.index ≠ 0 ∨ d.sub ≠ 1 ∨ d.index < 0x3000 ∨ 0x4000 ≤ d.index →
        Claims.Answered (.quinupWrite d) s (c 2) 0 [] fun u => a.frame [k] [.regs] u)) ∧
    (d.index < 2 ^ 16 → d.sub < 2 ^ 8 → d.last = false → d.segOffset = 0 → Completes (.quinupWrite d) s fun t =>
      exec (.objectWrite ⟨.quinup, d.udp.peer, d.session, d.reqId, d.fresh, d.data, d.vd⟩ (BitVec.ofNat 16 d.index) (BitVec.ofNat 8 d.sub)) s =
        .next t) ∧
    (a.xfer (c 3) false = none → d.segOffset = 0 → a.readAccess (a.readRole d.session) d.index d.sub = 0 →
      let b := a.readBytes (a.readRole d.session) d.index d.sub
      Claims.Answered (.quinupReadSegment d) s { c 3 with flags := b2n (decide (b.length ≤ 1024)) } 0 (b.take 1024) fun u =>
        (u.xfer (c 3) false).map (fun x => (x.next, x.buf)) = (if b.length ≤ 1024 then none else some (1024, b))) ∧
    (∀ x ∈ a.xfer (c 3) false,
      if x.abandoned = true ∨ d.segOffset ≠ x.next then
        Claims.Answered (.quinupReadSegment d) s { c 3 with flags := 0 } (if x.abandoned then cTimeout else cProtocol) [] fun u =>
          u.regs = s.regs ∧ u.xfer (c 3) false = none
      else Claims.Answered (.quinupReadSegment d) s { c 3 with flags := b2n (decide (x.buf.length ≤ x.next + 1024)) } 0
          ((x.buf.drop x.next).take 1024) fun u => u.regs = s.regs ∧
        (u.xfer (c 3) false).map (fun x => (x.next, x.buf)) = (if x.buf.length ≤ x.next + 1024 then none else some (x.next + 1024, x.buf))) ∧
    (∀ r ∈ findRow d.index d.sub, a.writeAccess (a.writeRole d.session) d.index d.sub = 0 → r.ty.size = 0 → k ≠ FW_IMAGE →
      (a.xfer (c 4) true = none → a.openElsewhere k = false → d.last = false →
        Claims.Answered (.quinupWriteSegment d) s (c 4) (if d.segOffset = 0 then 0 else cProtocol) [] fun u =>
          u.blobs = s.blobs ∧ u.regs = s.regs ∧ (u.xfer (c 4) true).map (fun x => (x.next, x.buf)) =
            (if d.segOffset = 0 then some (d.data.length, d.data) else none)) ∧
      (∀ x ∈ a.xfer (c 4) true,
        (x.abandoned = true ∨ d.segOffset ≠ x.next →
          Claims.Answered (.quinupWriteSegment d) s (c 4) (if x.abandoned then cTimeout else cProtocol) [] fun u =>
            u.xfer (c 4) true = none ∧ u.blobs = s.blobs ∧ u.regs = s.regs) ∧
        (x.abandoned = false → d.segOffset = x.next → d.last = false → Claims.Answered (.quinupWriteSegment d) s (c 4) 0 [] fun u =>
          u.blobs = s.blobs ∧ u.regs = s.regs ∧
          (u.xfer (c 4) true).map (fun x => (x.next, x.buf)) = some (x.next + d.data.length, x.buf ++ d.data)) ∧
        (x.abandoned = false → d.segOffset = x.next → d.last = true → (a.endXfer (c 4) true).openElsewhere k = false →
          lengthOk r (x.buf.length + d.data.length) = true → (moOf k).isSome = true →
          Claims.Answered (.quinupWriteSegment d) s (c 4) 0 [] fun u =>
            u.octets k = x.buf ++ d.data ∧ u.xfer (c 4) true = none ∧ u.regs = s.regs))) ∧
    (∀ id : BitVec 16, id.toNat = d.session → (s.session d.session).isSome = true → d.data = 4 :: leBytes 2 d.session →
      Completes (.quinupSession d) s fun t => t.session d.session = none ∧ Claims.audited 0x07 s t ∧ t.sec.keys = s.sec.keys)) ∧
  (∀ (s : State) (c : Fin 4) (id : BitVec 30) (b : Bytes) (macOk : Bool) (vd : Verdict),
    (s.served = false ∨ s.cf (CAN_MODE c) = 0 ∨ id.toNat ≠ s.cf (SDO_COB_RX c) % 2 ^ 30 ∨ (b.length ≠ 8 ∧ (b.length ≠ 20 ∨ s.on (CAN_FD_ENABLE c) = false)) →
      exec (.sdoFrame c id b macOk vd) s = .next s) ∧
    (s.served = true → s.cf (CAN_MODE c) ≠ 0 → id.toNat = s.cf (SDO_COB_RX c) % 2 ^ 30 → b.length = 8 → at' s.dict.sdoBound c = 0 →
      (∀ x ∈ s.dict.xfers, x.chan ≠ .can c) → s.held (.can c) < 8 →
      let i := leAt b 1 2
      let j := leAt b 3 1
      let x (op : Nat) : Ctx := ⟨.can c, {}, 0, 0, 0, op, i, j, 0, 0, s.respKey 0⟩
      (∀ n : Fin 4, leAt b 0 1 = 0x23 + 4 * n.val → Completes (.sdoFrame c id b macOk vd) s fun t =>
        exec (.objectWrite ⟨.can c, {}, 0, 0, 0, (b.drop 4).take (4 - n.val), vd⟩ (BitVec.ofNat 16 i) (BitVec.ofNat 8 j)) s = .next t) ∧
      (leAt b 0 1 = 0x40 → s.readAccess (s.readRole 0) i j = 0 → 1 ≤ (s.readBytes (s.readRole 0) i j).length →
        (s.readBytes (s.readRole 0) i j).length ≤ 4 →
        exec (.sdoFrame c id b macOk vd) s = .next ((s.readClears i j).answer (x 1) 0 (s.readBytes (s.readRole 0) i j))) ∧
      (160 ≤ leAt b 0 1 → exec (.sdoFrame c id b macOk vd) s = .next (s.answer (x 2) cProtocol []))) ∧
    (s.served = true → s.cf (CAN_MODE c) ≠ 0 → id.toNat = s.cf (SDO_COB_RX c) % 2 ^ 30 → at' s.dict.sdoBound c ≠ 0 →
      ∀ x ∈ s.session (at' s.dict.sdoBound c), b.length = 8 ∨ (b.length = 20 ∧ s.on (CAN_FD_ENABLE c) = true ∧ (macOk = false ∨ leAt b 8 4 ≤ x.fresh)) →
      Completes (.sdoFrame c id b macOk vd) s fun t => t.can = s.can ∧ t.dict = s.dict ∧
        t.rd SES_SESSION_FAILS = (s.rd SES_SESSION_FAILS + 1) % 2 ^ 32))

/-- COMMIT is taken in PRE-OPERATIONAL, OPERATIONAL or SAFE with every axis OFF, READY or FAULT (R452): a configuration that
passes its checks waits for its instant, and the answer with it; one that fails is refused with the admission-error code and
shown, and what is in force stays. At its instant the configuration is in force, counted and answered (R453). STORE takes its
snapshot when it is written; the set stored before stays until the new one is complete (R454). "load" only marks the stored
set, and an accepted STORE takes the mark back (R456). Each of these completes here, under conditions on the state and the
operands alone: commit, commitTakeEffect, store, storeComplete, restoreDefaults. -/
def Obligations.CommitAndStore : Prop :=
  (∀ (s : State) (w : Wr), let a := s.arrived w
    let m := a.candidate
    s.admits w CMT_COMMIT → (w.data = [0] → exec (.commit w) s = .next (a.done w CMT_COMMIT)) ∧
    (w.data = [1] →
      ((a.examine m).2.1 = 0 → Completes (.commit w) s fun t => t.dict.committing = some m ∧ s.clock + 1000000 * 2 ^ 32 ≤ t.dict.commitFrom ∧
        t.dict.commitCtx = some (s.ctxOf w (CMT_COMMIT / 256) (CMT_COMMIT % 256)) ∧ t.force = s.force ∧ t.net = s.net ∧
        t.host.mbxReply = s.host.mbxReply ∧ t.can = s.can ∧ t.rd CMT_COMMIT_COUNT = s.rd CMT_COMMIT_COUNT) ∧
      ((a.examine m).2.1 ≠ 0 →
        Claims.Answered (.commit w) s (s.ctxOf w (CMT_COMMIT / 256) (CMT_COMMIT % 256)) cAdmission [] fun t => t.rd CMT_COMMIT_RESULT = (a.examine m).2.1 ∧
        t.rd CMT_COMMIT_REFUSED_OBJECT = (a.examine m).2.2 ∧ t.force = s.force ∧ t.dict.committing = s.dict.committing ∧
        t.rd CMT_COMMIT_COUNT = s.rd CMT_COMMIT_COUNT))) ∧
  (∀ (s : State) (w : Wr), let a := s.arrived w
    s.served = true → s.gate w.chan w.session w.reqId w.fresh true = .go → a.held w.chan < 8 → Role.level .operator ≤ Role.level (a.writeRole w.session) →
    a.axesIdle = false ∨ (a.dev ≠ .preop ∧ a.dev ≠ .op ∧ a.dev ≠ .safe) → exec (.commit w) s = .next (a.denied w CMT_COMMIT cState)) ∧
  (∀ s : State, (s.dict.committing = none ∨ s.clock < s.dict.commitFrom ∨ s.wholeMs = false → exec .commitTakeEffect s = .next s) ∧
    ∀ m ∈ s.dict.committing, s.dict.commitFrom ≤ s.clock → s.wholeMs = true →
      ∃ t : State, exec .commitTakeEffect s = .next (t.answerTo s.dict.commitCtx 0) ∧
      (∀ k, (∀ c : Fin 4, k ≠ SDO_COB_RX c ∧ k ≠ SDO_COB_TX c) → t.force.get k = m.get k) ∧ t.rd CMT_COMMIT_RESULT = 0 ∧
      t.rd CMT_COMMIT_COUNT = (s.rd CMT_COMMIT_COUNT + 1) % 2 ^ 32 ∧ t.dict.committing = none ∧ t.dict.commitCtx = none ∧
      t.dict.committed = true ∧ t.dict.stored = s.dict.stored ∧ t.axis.map (·.lastSeq) = s.axis.map (·.lastSeq)) ∧
  (∀ (s : State) (w : Wr), let a := s.arrived w
    s.admits w ID_STORE → w.data.length = 4 →
    if leNat w.data = 0x65766173 then Completes (.store w) s fun t => t.dict.storing = some a.snapshot ∧ t.dict.stored = s.dict.stored ∧
      t.dict.restoreMark = false ∧ t.regs = s.regs ∧ t.force = s.force ∧ t.net = s.net ∧
      t.dict.storeCtx = some (s.ctxOf w (ID_STORE / 256) (ID_STORE % 256))
    else exec (.store w) s = .next (a.denied w ID_STORE cRange)) ∧
  (∀ (s : State) (w : Wr), let a := s.arrived w
    s.served = true → s.gate w.chan w.session w.reqId w.fresh true = .go → a.held w.chan < 8 → Role.level .operator ≤ Role.level (a.writeRole w.session) →
    s.dict.storing.isSome = true →
    exec (.store w) s = .next (a.denied w ID_STORE cState)) ∧
  (∀ s : State, (s.dict.storing = none → exec .storeComplete s = .next s) ∧
    ∀ x ∈ s.dict.storing, ∃ t : State, exec .storeComplete s = .next (t.answerTo s.dict.storeCtx 0) ∧ t.dict.stored = some x ∧ t.dict.storing = none ∧ t.force = s.force ∧
      t.dict.restoreMark = s.dict.restoreMark) ∧
  (∀ (s : State) (w : Wr), let a := s.arrived w
    s.admits w ID_RESTORE_DEFAULTS → w.data.length = 4 →
    if leNat w.data = 0x64616F6C then Written (.restoreDefaults w) s w ID_RESTORE_DEFAULTS fun u => u.dict.restoreMark = true ∧
      u.force = s.force ∧ u.dict.stored = s.dict.stored ∧ (∀ k, k < 0x2c0000 ∨ 0x2c1000 ≤ k → u.rd k = s.rd k) ∧ u.blobs = s.blobs
    else exec (.restoreDefaults w) s = .next (a.denied w ID_RESTORE_DEFAULTS cRange))

/-- The frame of an enabled receive object is dropped and counted by the first check that fails (R460, R462); one that passes is
written when it is verified if APPLY_LATENCY is 0 or its apply instant is past (LATE), else it waits for its instant and
replaces an older one (R464). Writing takes the mapped objects in order with role OPERATOR: a refused entry is skipped,
WRITE_ERRORS counts it, and the first frame of a run of refusals is recorded (R465); outside OPERATIONAL nothing is written
(R464). A transmit object sends its mapped values, one on change only when they differ and INHIBIT_TIME has passed (R463). A
timeout is shown, counted and recorded, and takes its QUICK_STOP (R466). Each of these completes here, under conditions on the
state and the operands alone: pdFrameReceive, canPdoReceive, pdApply, pdTransmit, rxTimeout. -/
def Obligations.ProcessData : Prop :=
  (∀ (s : State) (port : Fin 3) (p : Bytes) (macOk : Bool) (off : Int) (vd : Verdict) (f : Fin 8),
    let l := leAt p 18 2
    let r := 16 + f.val
    let seq := leAt p 4 4
    let rcv := (s.now16 + off * 8192 + s.ingressShift port) / 8192
    let d := stampDiff (leAt p 8 8) rcv
    let w : Int := ((8000 * s.cf SEC_FRESH_WINDOW : Nat) : Int)
    let ta := rcv + d + s.latency r
    (s.served = false → exec (.pdFrameReceive port p macOk off vd) s = .next s) ∧
    (s.served = true → (∀ g : Fin 8, s.rxOn (16 + g.val) = true → s.cf (ERX_FRAME_ID g) ≠ leAt p 2 2) →
      Completes (.pdFrameReceive port p macOk off vd) s fun t => Claims.onlyCounts NETC_FORMAT_DROPS s t) ∧
    (s.served = true → (∀ g : Fin 8, s.rxOn (16 + g.val) = true ∧ s.cf (ERX_FRAME_ID g) = leAt p 2 2 ↔ g = f) → mapBytes (s.rxMap r) ≤ l →
      if leAt p 0 1 ≠ 2 ∨ leAt p 1 1 ≠ 1 ∨ 1024 < l ∨ p.length < l + 40 then
        Completes (.pdFrameReceive port p macOk off vd) s fun t => Claims.onlyCounts NETC_FORMAT_DROPS s t
      else if s.ltSt.good = false then Completes (.pdFrameReceive port p macOk off vd) s fun t => Claims.onlyCounts PD_STALE_DROPS s t
      else if s.lineKey (leAt p 16 2) = false ∨ macOk = false then
        Completes (.pdFrameReceive port p macOk off vd) s fun t =>
          t.rd PD_AUTH_DROPS = (s.rd PD_AUTH_DROPS + 1) % 2 ^ 32 ∧ (s.wr PD_AUTH_DROPS ((s.rd PD_AUTH_DROPS + 1) % 2 ^ 32)).recorded t 3 1 4 port 0 ∧
          s.frame (PD_AUTH_DROPS :: dropCounters) [.regs, .host] t
      else if stampValid (leAt p 8 8) = false ∨ d < -w ∨ w ≤ d then
        Completes (.pdFrameReceive port p macOk off vd) s fun t => Claims.onlyCounts PD_STALE_DROPS s t
      else if ∃ x, (s.rxs r).lastSeq = some x ∧ ((seq + 2 ^ 32 - x) % 2 ^ 32 = 0 ∨ 2 ^ 31 ≤ (seq + 2 ^ 32 - x) % 2 ^ 32) then
        Completes (.pdFrameReceive port p macOk off vd) s fun t => Claims.onlyCounts PD_STALE_DROPS s t
      else
        (s.latency r ≠ 0 → s.nowT < ta → Completes (.pdFrameReceive port p macOk off vd) s fun t => s.onlyIn [.dict] t ∧
          t.rxs r = { s.rxs r with lastSeq := some seq, seenAt := s.clock, lapsed := false, waiting := some (ta, (p.drop 24).take l) } ∧
          ∀ q : Fin 24, q.val ≠ r → t.rxs q = s.rxs q) ∧
        (s.latency r ≠ 0 → ta ≤ s.nowT → Completes (.pdFrameReceive port p macOk off vd) s fun t =>
          t.rd PD_LATE = (s.rd PD_LATE + 1) % 2 ^ 32 ∧ (t.rxs r).waiting = none ∧ (t.rxs r).lastSeq = some seq ∧ (t.rxs r).seenAt = s.clock) ∧
        (s.dev ≠ .op → s.latency r = 0 → Completes (.pdFrameReceive port p macOk off vd) s fun t =>
          Claims.counts PD_NOT_APPLIED s t ∧ (t.rxs r).lastSeq = some seq ∧ s.frame [PD_NOT_APPLIED] [.regs, .dict] t))) ∧
  (∀ (s : State) (c : Fin 4) (id : BitVec 30) (b : Bytes) (macOk : Bool) (vd : Verdict) (r : Fin 16),
    let n := mapBytes (s.rxMap r)
    let fresh := leAt b (b.length - 12) 4
    let mine (q : Nat) : Prop := s.rxOn q = true ∧ s.cf (RPDO_CHANNEL q) = c.val ∧ s.cf (RPDO_COB_ID q) % 2 ^ 30 = id.toNat
    ((∀ q : Fin 16, ¬mine q) ∨ s.served = false ∨ s.cf (CAN_MODE c) = 0 → exec (.canPdoReceive c id b macOk vd) s = .next s) ∧
    ((∀ q : Fin 16, mine q ↔ q = r) → s.served = true → s.cf (CAN_MODE c) ≠ 0 → s.claimed = true →
      let auth := Completes (.canPdoReceive c id b macOk vd) s fun t => Claims.counts PD_AUTH_DROPS s t ∧
        (s.wr PD_AUTH_DROPS ((s.rd PD_AUTH_DROPS + 1) % 2 ^ 32)).recorded t 3 1 4 c 0 ∧ s.frame (PD_AUTH_DROPS :: dropCounters) [.regs, .host] t
      if b.length < n + 12 then auth
      else if s.freshOk (pairOf (s.cn c).rxFresh (1000 + r)) fresh = false then
        Completes (.canPdoReceive c id b macOk vd) s fun t => Claims.onlyCounts PD_STALE_DROPS s t
      else if macOk = false then auth
      else
        let ta := s.freshInstant fresh + s.latency r
        (s.latency r ≠ 0 → s.nowT < ta → Completes (.canPdoReceive c id b macOk vd) s fun t => s.onlyIn [.dict, .can] t ∧
          t.rxs r = { s.rxs r with seenAt := s.clock, lapsed := false, waiting := some (ta, b.take n) } ∧ pairOf (t.cn c).rxFresh (1000 + r) = some fresh) ∧
        (s.dev ≠ .op → s.latency r = 0 → Completes (.canPdoReceive c id b macOk vd) s fun t => Claims.counts PD_NOT_APPLIED s t ∧
          pairOf (t.cn c).rxFresh (1000 + r) = some fresh ∧ (t.rxs r).waiting = none ∧ s.frame [PD_NOT_APPLIED] [.regs, .dict, .can] t))) ∧
  (∀ (s : State) (r : Fin 24) (vd : Verdict), ((s.rxs r).waiting = none → exec (.pdApply r vd) s = .next s) ∧
    ∀ w ∈ (s.rxs r).waiting, (s.nowT < w.1 → exec (.pdApply r vd) s = .next s) ∧ (w.1 ≤ s.nowT →
      (s.dev ≠ .op → Completes (.pdApply r vd) s fun t => Claims.counts PD_NOT_APPLIED s t ∧ (t.rxs r).waiting = none ∧
        s.frame [PD_NOT_APPLIED] [.regs, .dict] t) ∧
      (s.dev = .op →
        let x := (s.rxMap r).foldl (State.pdWrite vd) (s.modRx r (fun x => { x with waiting := none }), 0, none, w.2)
        Completes (.pdApply r vd) s fun t => t.rd PD_WRITE_ERRORS = (x.1.rd PD_WRITE_ERRORS + x.2.1) % 2 ^ 32 ∧
          (∀ k, k ≠ PD_WRITE_ERRORS → k ∉ dropCounters → t.rd k = x.1.rd k) ∧ (t.rxs r).errorRun = decide (0 < x.2.1) ∧
          (t.rxs r).waiting = none ∧ (∀ e ∈ x.2.2.1, (x.1.rxs r).errorRun = false → x.1.recorded t 3 2 0 r (pay 16 e)) ∧
          (x.2.2.1 = none ∨ (x.1.rxs r).errorRun = true → t.host = x.1.host)) ∧
      (s.dev = .op → ∀ e : Nat, s.rxMap r = [e] →
        s.writeAccess .operator (e / 65536) (e / 256 % 256) ≠ 0 → e / 65536 * 256 + e / 256 % 256 ≠ CAL_SAVE →
        Completes (.pdApply r vd) s fun t => Claims.counts PD_WRITE_ERRORS s t ∧ s.frame (PD_WRITE_ERRORS :: dropCounters) [.regs, .dict, .host] t))) ∧
  (∀ (s : State) (r : Fin 24), let b := (s.pdRead (s.txMap r)).2
    (s.served = false ∨ s.txOn r = false → exec (.pdTransmit r) s = .next s) ∧
    (s.served = true → s.txOn r = true → 16 ≤ r.val → Completes (.pdTransmit r) s fun t =>
      let x := at' s.dict.tx r
      let key := if s.claimed then s.cf (ETX_KEY_ID (r - 16)) else 0xffff
      let body := pdPdu (s.cf (ETX_FRAME_ID (r - 16))) x.seq (s.stampOf (s.pdInstant r)) key b
      let mac := if s.claimed then leBytes 16 (Config.cmac key body).toNat else leBytes 16 0
      t.net = (s.sendFrame (ethFrame (macOfObj (s.cf (ETX_DEST_ADDRESS (r - 16)))) s.ownMac 0 (s.cf PD_ETHERTYPE) (body ++ mac))).net ∧
      t.out = s.out ∧ (at' t.dict.tx r).seq = (x.seq + 1) % 2 ^ 32 ∧ (at' t.dict.tx r).at_ = some s.nowT ∧ s.onlyIn [.regs, .dict, .net] t) ∧
    (s.served = true → s.txOn r = true → r.val < 16 →
      let c := s.cf (TPDO_CHANNEL r)
      let id := s.cf (TPDO_COB_ID r) % 2 ^ 30
      let x := at' s.dict.tx r
      (s.cf (TPDO_TRANSMISSION_TYPE r) = 0xff → x.last = some b ∨ (∃ t, x.at_ = some t ∧ s.nowT - t < ((s.cf (TPDO_INHIBIT_TIME r) * 800000 : Nat) : Int)) →
        exec (.pdTransmit r) s = .next s) ∧
      (s.cf (TPDO_TRANSMISSION_TYPE r) ≠ 0xff ∨ (x.last ≠ some b ∧ x.at_ = none) → s.cf (CAN_MODE c) ≠ 0 → s.listenOnly c = false → c < 4 →
        Completes (.pdTransmit r) s fun t => (at' t.dict.tx r).last = some b ∧ (at' t.dict.tx r).at_ = some s.nowT ∧
          s.onlyIn [.regs, .dict, .can] t ∧ (t.cn c).proto.length = (s.cn c).proto.length + 1 ∧
          (s.claimed = false → (t.cn c).proto = (s.cn c).proto ++ [⟨id, padTo (fdLen b.length) b, s.nowT⟩]) ∧
          (s.claimed = true → (t.cn c).proto = (s.cn c).proto ++
            [⟨id, s.canTrailer c id (s.canFresh c id (s.pdInstant r)).2 (padTo (fdLen (b.length + 12) - 12) b), s.nowT⟩])))) ∧
  (∀ (s : State) (r : Fin 24),
    let time := s.cf (if r.val < 16 then RPDO_TIMEOUT r else ERX_TIMEOUT (r - 16))
    let act := s.cf (if r.val < 16 then RPDO_TIMEOUT_ACTION r else ERX_TIMEOUT_ACTION (r - 16))
    if s.served = false ∨ s.rxOn r = false ∨ time = 0 ∨ (s.rxs r).lapsed = true ∨ s.clock < (s.rxs r).seenAt + ((time * 1000 * 2 ^ 32 : Nat) : Int) then exec (.rxTimeout r) s = .next s
    else Completes (.rxTimeout r) s fun t => t.bitOf PD_RX_TIMEOUT r = true ∧ Claims.counts PD_TIMEOUTS s t ∧
      ((s.setBit PD_RX_TIMEOUT r).bump PD_TIMEOUTS).recorded t 3 3 0 r 0 ∧
      s.frame (PD_RX_TIMEOUT :: PD_TIMEOUTS :: dropCounters) [.regs, .host, .axis, .dict] t ∧ (t.rxs r).lapsed = true ∧
      (act ≠ 1 → t.axis = s.axis) ∧
      ∀ n : Fin 32, if act = 1 ∧ (∃ e ∈ s.rxMap r, e / 65536 = 0x3000 + 0x80 * n.val) then
          let c : AxCmd := ⟨0x0a, (s.ax n).lastSeq.getD 0, none, s.clock⟩
          if (s.publisherOf n).isSome then (t.ax n).taken = (s.ax n).taken ++ [⟨s.clock, .cmd c⟩] else (t.ax n).cmds = (s.ax n).cmds ++ [c]
        else t.ax n = s.ax n)

/-- A valid frame on a joined channel is counted, a remote one matching nothing (Table CN-1), and written with its stamp into the
lowest object that accepts it, unless a protocol function takes it; an object that had NEW_DATA shows MSG_LOST and counts
(R504 to R506). TX_REQUEST sets TX_PENDING and clears TRANSMITTED and CANCELLED, or is refused (R508); CANCEL of an object
that is not in transmission clears it at once, else the frame's end decides (R511, Table CN-2). A frame sent shows TRANSMITTED
and its SOF stamp; one that fails is offered again, but with ONE_SHOT shows TX_FAILED (R512), and bit errors that reach
ID_CLASH_LIMIT are shown and recorded (R513). TEC above 255 is bus-off, left after recovery (R516); 11 recessive bits join the
bus (R500). An FD frame on a channel without FD is an error; a measured delay above 350 ns ends a frame in a bit error (R499).
In listen-only no error counter changes (R501). Each of these completes here, under conditions on the state and the operands
alone: canFrameReceive, txRequest, cancel, canTransmitComplete, canTxFailure, recover, busOffRecovered, canBusJoin,
canReceiveError. -/
def Obligations.CanChannels : Prop :=
  (∀ (s : State) (c : Fin 4) (id : BitVec 31) (fd brs : Bool) (b : Bytes) (macOk : Bool) (off : Int),
    (s.cf (CAN_MODE c) = 0 ∨ s.bitOf (CANS_CHANNEL_STATUS c) 1 = false ∨ s.bitOf (CANS_CHANNEL_STATUS c) 3 = true →
      exec (.canFrameReceive c id fd brs b macOk off) s = .next s) ∧
    (s.cf (CAN_MODE c) ≠ 0 → s.bitOf (CANS_CHANNEL_STATUS c) 1 = true → s.bitOf (CANS_CHANNEL_STATUS c) 3 = false →
      if fd = true ∧ s.on (CAN_FD_ENABLE c) = false then
        exec (.canFrameReceive c id fd brs b macOk off) s = exec (.canReceiveError c false) s
      else b.length ≤ 64 →
      ((id.toNat.testBit 30 = true → Completes (.canFrameReceive c id fd brs b macOk off) s fun t => Claims.counts (CANS_RX_FRAMES c) s t ∧
        Claims.counts (CANS_UNMATCHED c) s t ∧ t.blobs = s.blobs ∧ t.can = s.can) ∧
      (id.toNat.testBit 30 = false → id.toNat ∈ s.protoIds c → Completes (.canFrameReceive c id fd brs b macOk off) s fun t => Claims.counts (CANS_RX_FRAMES c) s t ∧
        t.blobs = s.blobs ∧ t.can = s.can ∧ t.rd (CANS_UNMATCHED c) = s.rd (CANS_UNMATCHED c)) ∧
      (id.toNat.testBit 30 = false → id.toNat ∉ s.protoIds c → (∀ n : Fin 128, s.moAccepts c n id.toNat fd = false) →
        Completes (.canFrameReceive c id fd brs b macOk off) s fun t => Claims.counts (CANS_RX_FRAMES c) s t ∧
          Claims.counts (CANS_UNMATCHED c) s t ∧ t.blobs = s.blobs) ∧
      (id.toNat.testBit 30 = false → id.toNat ∉ s.protoIds c → ∀ n : Fin 128, s.moAccepts c n id.toNat fd = true →
        (∀ m : Fin 128, m < n → s.moAccepts c m id.toNat fd = false) → s.moAuth c n = false →
        Completes (.canFrameReceive c id fd brs b macOk off) s fun t => Claims.counts (CANS_RX_FRAMES c) s t ∧
          t.blob (MO_DATA c n) = b ∧ t.rd (MO_RX_ID c n) = id.toNat ∧ t.rd (MO_STAMP c n) = s.stampT (s.nowT + off - (s.cf (CAN_RX_DELAY c) * 8 : Nat)) ∧
          t.rd (MO_UPDATE c n) = (s.rd (MO_UPDATE c n) + 1) % 2 ^ 16 ∧ t.bitOf (MO_STATUS c n) 0 = true ∧
          t.bitOf (MO_STATUS c n) 1 = (s.bitOf (MO_STATUS c n) 0 || s.bitOf (MO_STATUS c n) 1) ∧
          fld (t.rd (MO_STATUS c n)) 8 7 = b.length ∧ t.bitOf (MO_STATUS c n) 6 = fd ∧ t.bitOf (MO_STATUS c n) 7 = brs ∧
          (if s.bitOf (MO_STATUS c n) 0 then Claims.counts (CANS_LOST_FRAMES c) s t else t.rd (CANS_LOST_FRAMES c) = s.rd (CANS_LOST_FRAMES c)) ∧
          (s.listenOnly c = true → t.rd (CANS_REC c) = s.rd (CANS_REC c) ∧ t.rd (CANS_TEC c) = s.rd (CANS_TEC c)) ∧
          ∀ m : Fin 128, m ≠ n → t.blob (MO_DATA c m) = s.blob (MO_DATA c m) ∧ t.rd (MO_STATUS c m) = s.rd (MO_STATUS c m))))) ∧
  (∀ (s : State) (w : Wr) (c : Fin 4) (n : Fin 128), let a := s.arrived w
    s.admits w (MO_REQUEST c n) →
    if a.moDir c n ≠ 2 ∨ a.listenOnly c = true ∨ a.dev = .boot ∨ a.dev = .standby then exec (.txRequest w c n) s = .next (a.denied w (MO_REQUEST c n) cState)
    else if a.bitOf (MO_STATUS c n) 0 then exec (.txRequest w c n) s = .next (a.done w (MO_REQUEST c n))
    else Written (.txRequest w c n) s w (MO_REQUEST c n) fun u => u.bitOf (MO_STATUS c n) 0 = true ∧ u.bitOf (MO_STATUS c n) 2 = false ∧
      u.bitOf (MO_STATUS c n) 3 = false ∧ (∀ i : Fin 16, i ≠ 0 → i ≠ 2 → i ≠ 3 → u.bitOf (MO_STATUS c n) i = a.bitOf (MO_STATUS c n) i) ∧
      a.frame [MO_STATUS c n] [.regs, .can] u ∧ (u.cn c).proto = (a.cn c).proto ∧
      (let p := padTo (a.cf (MO_DLC c n)) ((a.blob (MO_DATA c n)).take (a.cf (MO_DLC c n)))
       if a.moAuth c n = false then u.moFrame c n = p
       else u.moFrame c n = a.canTrailer c (a.cf (MO_ID c n)) (a.canFresh c (a.cf (MO_ID c n)) a.now).2 (p.take (p.length - 12)))) ∧
  (∀ (s : State) (w : Wr) (c : Fin 4) (n : Fin 128), let a := s.arrived w
    s.admits w (MO_REQUEST c n) →
    if a.txPending c n = false then exec (.cancel w c n) s = .next (a.done w (MO_REQUEST c n))
    else if w.vd.phase = .waiting then Written (.cancel w c n) s w (MO_REQUEST c n) fun u => u.txPending c n = false ∧
      u.bitOf (MO_STATUS c n) 3 = true ∧ u.bitOf (MO_STATUS c n) 2 = a.bitOf (MO_STATUS c n) 2 ∧ a.frame [MO_STATUS c n] [.regs, .can] u
    else Written (.cancel w c n) s w (MO_REQUEST c n) fun u => u.regs = a.regs ∧ n.val ∈ (u.cn c).cancel ∧ (u.cn c).tx = some n.val ∧
      a.onlyIn [.can] u) ∧
  (∀ (s : State) (c : Fin 4) (off : Int) (tdc : BitVec 16), let o := s.offered c (s.nowT + off)
    (s.canMayDrive c = false ∨ o = none → exec (.canTransmitComplete c off tdc) s = .next s) ∧
    (s.canMayDrive c = true → ∀ x ∈ o, (s.offerOut c x).isFd = true ∧ s.on (CAN_TDC_ENABLE c) = true ∧ 350 < tdc.toNat →
      exec (.canTransmitComplete c off tdc) s = exec (.canTxFailure c ⟨.bitError, off, some tdc⟩) s) ∧
    (s.canMayDrive c = true → ∀ x ∈ o, ¬((s.offerOut c x).isFd = true ∧ s.on (CAN_TDC_ENABLE c) = true ∧ 350 < tdc.toNat) → Completes (.canTransmitComplete c off tdc) s fun t => Claims.counts (CANS_TX_FRAMES c) s t ∧
      t.out = s.out ++ [s.offerOut c x] ∧ t.rd (CANS_TEC c) = min (s.rd (CANS_TEC c) - 1) 255 ∧
      ((s.offerOut c x).isFd = true ∧ s.on (CAN_TDC_ENABLE c) = true → t.rd (CANS_TDC_MEASURED c) = tdc.toNat) ∧
      match x with
      | .proto p => (t.cn c).proto = (s.cn c).proto.erase p ∧ pairOf (t.cn c).protoClash p.id = none
      | .object n => t.bitOf (MO_STATUS c n) 0 = false ∧ t.bitOf (MO_STATUS c n) 2 = true ∧
          t.rd (MO_STAMP c n) = s.stampT (s.nowT + off - (s.cf (CAN_RX_DELAY c) * 8 : Nat)) ∧ pairOf (t.cn c).clash n = none)) ∧
  (∀ (s : State) (c : Fin 4) (n m : Fin 128) (t : Int), (s.cn c).tx = none → (s.cn c).proto = [] → s.txPending c n = true → s.txPending c m = true →
    (∀ e ∈ (s.cn c).asked, e.1 = n.val → e.2 ≤ t) → arbKey (s.cf (MO_ID c n)) < arbKey (s.cf (MO_ID c m)) ∨ (arbKey (s.cf (MO_ID c n)) = arbKey (s.cf (MO_ID c m)) ∧ n < m) →
    s.offered c t ≠ some (.object m)) ∧
  (∀ (s : State) (c : Fin 4) (why : CanFail), let o := s.offered c (s.nowT + why.sof)
    (s.canMayDrive c = false ∨ o = none → exec (.canTxFailure c why) s = .next s) ∧
    (s.canMayDrive c = true → ∀ x ∈ o, Completes (.canTxFailure c why) s fun t => t.out = s.out ∧ (t.cn c).proto = (s.cn c).proto ∧
      t.rd (CANS_TDC_MEASURED c) = (match why.tdc with
        | some d => if (s.offerOut c x).isFd = true ∧ s.on (CAN_TDC_ENABLE c) = true then d.toNat else s.rd (CANS_TDC_MEASURED c)
        | none => s.rd (CANS_TDC_MEASURED c)) ∧
      (why.how = .lost → t.rd (CANS_ERROR_FRAMES c) = s.rd (CANS_ERROR_FRAMES c) ∧ t.rd (CANS_TEC c) = s.rd (CANS_TEC c)) ∧
      (why.how ≠ .lost → Claims.counts (CANS_ERROR_FRAMES c) s t) ∧
      (why.how = .bitError ∨ why.how = .error true → t.rd (CANS_TEC c) = min (s.rd (CANS_TEC c) + 8) 255 ∧
        (t.rd (CANS_TEC c) = 255 → 247 < s.rd (CANS_TEC c) → t.bitOf (CANS_CHANNEL_STATUS c) 3 = true ∧ t.bitOf (CANS_CHANNEL_STATUS c) 5 = true ∧
          (s.on (CAN_BUSOFF_AUTO c) = true → (t.cn c).recovering = true) ∧ Claims.counts (CANS_BUS_OFF_COUNT c) s t)) ∧
      match x with
      | .proto p => why.how = .bitError → ((pairOf (s.cn c).protoClash p.id).getD 0) + 1 = s.cf (CAN_ID_CLASH_LIMIT c) →
          t.bitOf (CANS_CHANNEL_STATUS c) 6 = true
      | .object n => n < 128 →
        (if n ∈ (s.cn c).cancel then t.bitOf (MO_STATUS c n) 0 = false ∧ t.bitOf (MO_STATUS c n) 3 = true
         else if s.moFlag c n 7 then t.bitOf (MO_STATUS c n) 0 = false ∧ t.bitOf (MO_STATUS c n) 4 = true
         else t.bitOf (MO_STATUS c n) 0 = s.bitOf (MO_STATUS c n) 0 ∧ (t.cn c).tx = none) ∧
        (why.how = .bitError → ((pairOf (s.cn c).clash n).getD 0) + 1 = s.cf (CAN_ID_CLASH_LIMIT c) →
          t.bitOf (MO_STATUS c n) 5 = true ∧ t.bitOf (CANS_CHANNEL_STATUS c) 6 = true))) ∧
  (∀ (s : State) (w : Wr) (c : Fin 4), let a := s.arrived w
    s.admits w (CANS_RECOVER c) → w.data = [1] → if a.bitOf (CANS_CHANNEL_STATUS c) 3 then
      Written (.recover w c) s w (CANS_RECOVER c) fun u => (u.cn c).recovering = true ∧ a.onlyIn [.can] u
    else exec (.recover w c) s = .next (a.done w (CANS_RECOVER c))) ∧
  (∀ (s : State) (c : Fin 4), if s.bitOf (CANS_CHANNEL_STATUS c) 3 = true ∧ (s.cn c).recovering = true then
      Completes (.busOffRecovered c) s fun t => t.bitOf (CANS_CHANNEL_STATUS c) 3 = false ∧ t.bitOf (CANS_CHANNEL_STATUS c) 2 = false ∧
        t.rd (CANS_TEC c) = 0 ∧ t.rd (CANS_REC c) = 0 ∧ (t.cn c).recovering = false ∧ s.recorded t 11 4 0 c 0 ∧
        (∀ m : Fin 128, t.txPending c m = s.txPending c m) ∧
        s.frame ([CANS_CHANNEL_STATUS c, CANS_TEC c, CANS_REC c] ++ dropCounters) [.regs, .can, .host] t
    else exec (.busOffRecovered c) s = .next s) ∧
  (∀ (s : State) (c : Fin 4), if s.cf (CAN_MODE c) ≠ 0 ∧ s.dev ≠ .boot ∧ s.dev ≠ .standby then
      Completes (.canBusJoin c) s fun t => t.bitOf (CANS_CHANNEL_STATUS c) 1 = true ∧ s.frame [CANS_CHANNEL_STATUS c] [.regs] t
    else exec (.canBusJoin c) s = .next s) ∧
  (∀ (s : State) (c : Fin 4) (eight : Bool),
    if s.cf (CAN_MODE c) = 0 ∨ s.bitOf (CANS_CHANNEL_STATUS c) 1 = false ∨ s.bitOf (CANS_CHANNEL_STATUS c) 3 = true then
      exec (.canReceiveError c eight) s = .next s
    else if s.listenOnly c = true then Completes (.canReceiveError c eight) s fun t => Claims.onlyCounts (CANS_ERROR_FRAMES c) s t
    else Completes (.canReceiveError c eight) s fun t => Claims.counts (CANS_ERROR_FRAMES c) s t ∧
      t.rd (CANS_REC c) = min (s.rd (CANS_REC c) + if eight then 8 else 1) 255 ∧ (t.rd (CANS_REC c) > 127 → t.bitOf (CANS_CHANNEL_STATUS c) 2 = true))

/-- MST_TX starts a transfer if the port may master, is not BUSY and shows no MODE_FAULT (R522); it lasts SS_LEAD, the clocks and
SS_LAG (R521), and its end holds the bytes received, and a select by another master in mode 3 is a mode fault that discards it
(R523). A port that is no target ignores target transfers (R525). The serve byte shows READY, ERR, EVT and SEQ (R526). A whole
NOP, WRITE, READ_REQ or READ_DATA is taken and SEQ advances (R527); WRITE on the host port writes its words; READ_REQ starts a
fetch whose data READ_DATA returns; one that ends early is FRAMING (R528), bytes beyond the expected ones are OVERRUN (R529);
an unknown command, a bad offset or count, a WRITE on a monitoring target or a command while READY is 0 is CMD_ERROR and takes
nothing (R530); READ_DATA without data takes nothing and is no error (R531). Each of these completes here, under conditions on
the state and the operands alone: mstTx, masterTransferDone, modeFault, targetNop, targetWrite, readReq, readData,
fetchComplete, framing, cmdError. -/
def Obligations.SerialPorts : Prop :=
  (∀ (s : State) (w : Wr) (p : Fin 2), let a := s.arrived w
    s.admits w (SP_MST_TX p) → 1 ≤ w.data.length → w.data.length ≤ 256 → Written (.mstTx w p) s w (SP_MST_TX p) fun u =>
      u.rd (SP_MST_RESULT p) = 1 ∧ (u.spt p).tx = w.data ∧ (u.spt p).startAt = a.clock ∧ a.frame [SP_MST_RESULT p] [.regs, .sp] u) ∧
  (∀ (s : State) (w : Wr) (p : Fin 2), let a := s.arrived w
    s.served = true → s.gate w.chan w.session w.reqId w.fresh true = .go → a.dev ≠ .locked → a.held w.chan < 8 → Role.level .operator ≤ Role.level (a.writeRole w.session) →
    (s.spMode p ≠ 1 ∧ s.spMode p ≠ 3) ∨ s.rd (SP_MST_RESULT p) = 1 ∨ s.bitOf (SP_PORT_STATUS p) 3 = true →
    exec (.mstTx w p) s = .next (a.denied w (SP_MST_TX p) cState)) ∧
  (∀ (s : State) (p : Fin 2) (rx : Bytes), let x := s.spt p
    let time := s.cf (SP_SS_LEAD p) + (16 * x.tx.length - 1) * s.cf (SP_SCLK_DIV p) + s.cf (SP_SS_LAG p)
    if s.rd (SP_MST_RESULT p) = 1 ∧ x.startAt + ((time * 2 ^ 32 : Nat) : Int) ≤ s.clock then
      Completes (.masterTransferDone p rx) s fun t => t.rd (SP_MST_RESULT p) = 2 ∧ t.blob (SP_MST_RX p) = rx.take x.tx.length ∧
        Claims.counts (SP_TRANSFERS p) s t ∧ t.out = s.out ++ [.spi p (s.cf (SP_MST_SELECT p)) (s.cf (SP_SPI_MODE p)) (s.cf (SP_SCLK_DIV p)) x.tx] ∧ (t.spt p).tx = [] ∧
        s.frame [SP_MST_RESULT p, SP_TRANSFERS p] [.regs, .blobs, .sp, .out] t
    else exec (.masterTransferDone p rx) s = .next s) ∧
  (∀ (s : State) (p : Fin 2), if s.spMode p = 3 ∧ s.rd (SP_MST_RESULT p) = 1 then Completes (.modeFault p) s fun t =>
      t.rd (SP_MST_RESULT p) = 3 ∧ t.bitOf (SP_PORT_STATUS p) 3 = true ∧ t.blob (SP_MST_RX p) = [] ∧ Claims.counts (SP_MODE_FAULT_COUNT p) s t ∧
      s.recorded t 12 1 0 p (pay 16 (s.cf (SP_MST_SELECT p))) ∧ t.out = s.out ∧
      s.frame ([SP_MST_RESULT p, SP_PORT_STATUS p, SP_MODE_FAULT_COUNT p] ++ dropCounters) [.regs, .blobs, .sp, .host] t
    else exec (.modeFault p) s = .next s) ∧
  (∀ (s : State) (p : Fin 2), let x := s.spt p
    s.serveByte p = 128 * b2n x.fetch.isNone + 64 * b2n x.err + 32 * b2n s.irqN + x.seq % 32) ∧
  (∀ (s : State) (p : Fin 2) (o : BitVec 24) (n extra : BitVec 8) (data : Bytes) (count : Nat) (inside macOk : Bool) (vd : Verdict),
    let x := s.spt p
    let serve : Bytes := leBytes 1 (s.serveByte p)
    let ff (k : Nat) : Bytes := List.replicate k 0xff
    let taken (t : State) : Prop := (t.spt p).seq = (x.seq + 1) % 32 ∧ Claims.counts (SP_TRANSFERS p) s t
    let nothing (t : State) : Prop := (t.spt p).seq = x.seq ∧ t.rd (SP_TRANSFERS p) = s.rd (SP_TRANSFERS p) ∧ (t.spt p).fetch = x.fetch ∧
      (t.spt p).data = x.data
    let cmdErr (c : Instr) : Prop := Completes c s fun t => nothing t ∧ t.bitOf (SP_PORT_STATUS p) 6 = true ∧ (t.spt p).err = true ∧
      s.frame [SP_PORT_STATUS p] [.regs, .sp, .out] t
    let framing (c : Instr) : Prop := Completes c s fun t => nothing t ∧ t.bitOf (SP_PORT_STATUS p) 4 = true ∧ (t.spt p).err = true ∧
      Claims.counts (SP_FRAMING_COUNT p) s t ∧ (x.framingRun = true → t.host = s.host) ∧
      s.frame ([SP_PORT_STATUS p, SP_FRAMING_COUNT p] ++ dropCounters) [.regs, .sp, .out, .host] t
    let okAt := o.toNat % 4 = 0 ∧ o.toNat < 2 ^ 22 ∧ 1 ≤ n.toNat ∧ n.toNat ≤ 64
    (s.spMode p ≠ 2 → s.spMode p ≠ 3 → ∀ c ∈ ([.targetNop p extra inside, .targetWrite p o n data inside macOk vd, .readReq p o n extra inside,
      .readData p count inside, .framing p data inside, .cmdError p data] : List Instr), exec c s = .next s) ∧
    (s.spMode p = 2 ∨ (s.spMode p = 3 ∧ s.rd (SP_MST_RESULT p) ≠ 1) →
      Completes (.targetNop p 0 false) s (fun t => taken t ∧ (t.spt p).err = false ∧ t.out = s.out ++ [.miso p serve] ∧
        s.frame [SP_TRANSFERS p] [.regs, .sp, .out] t) ∧
      (extra ≠ 0 → Completes (.targetNop p extra false) s (fun t => taken t ∧ (t.spt p).err = true ∧
        t.out = s.out ++ [.miso p (serve ++ ff extra.toNat)] ∧ t.bitOf (SP_PORT_STATUS p) 5 = true ∧ Claims.counts (SP_OVERRUN_COUNT p) s t ∧
        (x.overrunRun = true → t.host = s.host) ∧
        s.frame ([SP_TRANSFERS p, SP_OVERRUN_COUNT p, SP_PORT_STATUS p] ++ dropCounters) [.regs, .sp, .out, .host] t)) ∧
      (Completes (.targetNop p extra true) s (fun t => (t.spt p).seq = x.seq ∧ t.rd (SP_TRANSFERS p) = s.rd (SP_TRANSFERS p) ∧
        t.bitOf (SP_PORT_STATUS p) 5 = true ∧ Claims.counts (SP_OVERRUN_COUNT p) s t)) ∧
      (if x.fetch = none ∧ okAt then
        Completes (.readReq p o n 0 false) s (fun t => taken t ∧ (t.spt p).fetch = some (o.toNat, n.toNat) ∧ (t.spt p).data = none ∧
          (t.spt p).err = false ∧ t.out = s.out ++ [.miso p (serve ++ ff 4)] ∧ s.frame [SP_TRANSFERS p] [.regs, .sp, .out] t)
      else cmdErr (.readReq p o n extra inside)) ∧
      (x.fetch ≠ none ∨ s.hostPort p = false ∨ ¬okAt → cmdErr (.targetWrite p o n data inside macOk vd)) ∧
      (x.fetch = none → s.hostPort p = true → okAt →
        (data.length < 4 * n.toNat → framing (.targetWrite p o n data inside macOk vd)) ∧
        (data.length = 4 * n.toNat →
          let u := (s.emit (.miso p (serve ++ ff (4 + data.length)))).barWrites o.toNat macOk vd (wordsOf n.toNat data)
          Completes (.targetWrite p o n data false macOk vd) s (fun t => (t.spt p).seq = ((u.spt p).seq + 1) % 32 ∧ (t.spt p).err = false ∧
            Claims.counts (SP_TRANSFERS p) u t ∧ u.frame [SP_TRANSFERS p] [.regs, .sp] t))) ∧
      (∀ d ∈ x.data, x.fetch = none → count = d.length → Completes (.readData p count false) s (fun t => taken t ∧
        t.out = s.out ++ [.miso p (serve ++ d)] ∧ (t.spt p).data = some d ∧ (t.spt p).err = false ∧
        s.frame [SP_TRANSFERS p] [.regs, .sp, .out] t)) ∧
      (∀ d ∈ x.data, x.fetch = none → count < d.length → framing (.readData p count inside)) ∧
      (x.data = none ∨ x.fetch ≠ none → Completes (.readData p count inside) s (fun t => nothing t ∧ (t.spt p).err = false ∧
        t.out = s.out ++ [.miso p (serve ++ ff count)] ∧ s.frame [] [.sp, .out] t)) ∧
      (data = [] ∨ (data.length < 5 ∧ leAt data 0 1 = 2 ∧ x.fetch = none) ∨ (data.length < 5 ∧ leAt data 0 1 = 1 ∧ x.fetch = none ∧ s.hostPort p = true) →
        framing (.framing p data inside)) ∧
      (3 < leAt data 0 1 → cmdErr (.cmdError p data)))) ∧
  (∀ (s : State) (p : Fin 2), ((s.spt p).fetch = none → exec (.fetchComplete p) s = .next s) ∧
    ∀ x ∈ (s.spt p).fetch, Completes (.fetchComplete p) s fun t => (t.spt p).fetch = none ∧ (t.spt p).data = some (s.barReads x.1 x.2).2 ∧
      (t.spt p).seq = ((s.barReads x.1 x.2).1.spt p).seq ∧ (s.barReads x.1 x.2).1.onlyIn [.sp] t)

/-- A BAR0 read returns the word; of a wide field the lowest word freezes the others, and a frozen word is returned until each of
them has been read or 1 us has passed (R476). A write of anything but whole aligned words, or to what is read-only, reserved
or out of range, is ignored (R5, R477); what it can change is the host interface only (R474), and the mailbox buffer not while
BUSY (R482). PCIE_PERST_N and a Function Level Reset disable rings and reset MSI-X (R472); its release lets PCIE_WAKE_N go
(R473). While the link is down nothing is issued (R471), and its return is recorded (R51). Each of these completes here, under
conditions on the state and the operands alone: pciePerst, pcieLinkDown, pcieLinkRestored, bar0ReadFreeze, freezeExpiry,
bar0Write, pciePerstNRelease. -/
def Obligations.HostLink : Prop :=
  (∀ (s : State) (o : BitVec 22), let a := o.toNat / 4 * 4
    (s.barField a = none → exec (.bar0ReadFreeze o false) s = .next { s with out := s.out ++ [.bar0 a (s.barWord a)] }) ∧
    (∀ f ∈ s.barField a, a = f.1 → Completes (.bar0ReadFreeze o false) s fun t => t.out = s.out ++ [.bar0 a (s.barWord a)] ∧
      (∀ j : Fin 2, j.val + 1 < f.2 → t.host.frozen.find? (fun x => x.offset == a + 4 + 4 * j.val) =
        some ⟨a + 4 + 4 * j.val, s.barWord (a + 4 + 4 * j.val), a, false, s.clock⟩) ∧ s.onlyIn [.host, .out] t) ∧
    (∀ f ∈ s.barField a, a ≠ f.1 →
      let holds (x : Frozen) : Bool := x.offset == a && decide (s.clock < x.at_ + ((1000 * 2 ^ 32 : Nat) : Int))
      (s.host.frozen.find? holds = none → exec (.bar0ReadFreeze o false) s = .next { s with out := s.out ++ [.bar0 a (s.barWord a)] }) ∧
      ∀ x ∈ s.host.frozen.find? holds, Completes (.bar0ReadFreeze o false) s fun t =>
        let l := s.host.frozen.map (fun y => if y.offset = a then { y with read := true } else y)
        t.out = s.out ++ [.bar0 a x.value] ∧ s.onlyIn [.host, .out] t ∧
        t.host.frozen = if ∀ y ∈ l, y.field = x.field → y.read = true then l.filter (fun y => y.field != x.field) else l) ∧
    (∀ f ∈ s.barField a, f = (a, 2) → a % 8 = 0 → Completes (.bar0ReadFreeze o true) s fun t =>
      t.out = s.out ++ [.bar0 a (s.barWord a), .bar0 (a + 4) (s.barWord (a + 4))] ∧
      t.host.frozen.find? (fun x => x.field == a) = none) ∧
    (∀ f ∈ s.barField a, Completes (.freezeExpiry o) s fun t => t.host.frozen = s.host.frozen.filter (fun x =>
      x.field != f.1 || decide (s.clock < x.at_ + ((1000 * 2 ^ 32 : Nat) : Int))) ∧ s.onlyIn [.host] t) ∧
    (s.barField a = none → exec (.freezeExpiry o) s = .next s)) ∧
  (∀ (s : State) (o : BitVec 22) (b : Bytes) (macOk : Bool) (vd : Verdict), let a := o.toNat
    let v := leNat b
    let w : Instr := .bar0Write o b macOk vd
    (¬((b.length = 4 ∧ a % 4 = 0) ∨ (b.length = 8 ∧ a % 8 = 0)) → exec w s = .next s) ∧
    (b.length = 8 → a % 8 = 0 → exec w s = match exec (.bar0Write o (b.take 4) macOk vd) s with
      | .next t => .next (t.barWrite (a + 4) (leAt b 4 4) macOk vd)
      | r => r) ∧
    (b.length = 4 → a % 4 = 0 →
      (a ∉ [0x20, 0x24, 0x28, 0x2c, 0x1000, 0x1004, 0x100c] → a < 0x800 ∨ (0xa00 ≤ a ∧ a < 0x1100) ∨ (0x1600 ≤ a ∧ a < 0x2000) ∨ 0x3000 ≤ a →
        exec w s = .next s) ∧
      (a = 0x24 → exec w s = .next { s with host := { s.host with irqStatus := clrMask s.host.irqStatus v } }) ∧
      (a = 0x28 → exec w s = .next { s with host := { s.host with irqEnable := v &&& 0x1ffff } }) ∧
      (a = 0x2c → exec w s = .next { s with host := { s.host with scratch := v } }) ∧
      (a = 0x1004 → if s.host.mbxStatus.testBit 0 then
          exec w s = .next { s with host := { s.host with mbxStatus := orBit s.host.mbxStatus 2 } }
        else exec w s = .next { s with host := { s.host with mbxReqLength := if 28 ≤ v ∧ v ≤ 1068 then v else s.host.mbxReqLength } }) ∧
      (0x1100 ≤ a → a < 0x1600 → if s.host.mbxStatus.testBit 0 then
          exec w s = .next { s with host := { s.host with mbxStatus := orBit s.host.mbxStatus 2 } }
        else Completes w s fun t => s.onlyIn [.host] t ∧ t.host.mbxStatus = s.host.mbxStatus ∧ ∀ i : Fin 1280,
          t.host.mbxRequest.read i = if a - 0x1100 ≤ i.val ∧ i.val < a - 0x1100 + 4 then b.getD (i - (a - 0x1100)) 0 else s.host.mbxRequest.read i) ∧
      (0x2000 ≤ a → a < 0x3000 → ∀ r : Fin 16, r.val = (a - 0x2000) / 0x100 →
        (a % 0x100 = 0 → (s.ring r).enabled = true ∨ s.pw.hostSel = true → exec w s = .next s) ∧
        (a % 0x100 = 0 → (s.ring r).enabled = false → s.pw.hostSel = false → Completes w s fun t =>
          (t.ring r).base = (s.ring r).base / 2 ^ 32 * 2 ^ 32 + v ∧ s.onlyIn [.host] t) ∧
        (a % 0x100 = 0x14 → v = 0 ∨ 65536 < v → exec w s = .next s) ∧
        (a % 0x100 = 0x18 → 1000000 < v → exec w s = .next s)) ∧
      (a ≠ 0x20 → Completes w s fun t => t.regs = s.regs ∧ t.force = s.force ∧ s.onlyIn [.host, .out] t))) ∧
  (∀ (s : State) (flr : Bool), if s.pw.hostSel then exec (.pciePerst flr) s = .next s
    else Completes (.pciePerst flr) s fun t => (∀ n : Fin 16, (t.ring n).enabled = false) ∧ t.host.busMaster = false ∧
      t.host.pba = 0 ∧ t.host.cfg = {} ∧ (∀ v : Fin 32, (at' t.host.msix v).masked = true) ∧ t.host.scratch = 0 ∧ t.host.mbxStatus.testBit 0 = false ∧
      t.host.mbxReply = none ∧ t.host.perst = (s.host.perst || !flr) ∧ t.host.staging.filter (fun e => e.rings % 2 ^ 16 != 0) = [] ∧
      s.onlyIn [.host, .axis, .dict] t) ∧
  (∀ s : State, exec .pciePerstNRelease s =
    .next (if s.pw.hostSel then s else { s with host := { s.host with perst := false, wakeN := false } })) ∧
  (∀ s : State, s.pw.hostSel = false →
    exec (.pcieLinkDown false) s = .next { s with host := { s.host with busMaster := false } } ∧
    (s.host.linkUp = false → exec (.pcieLinkDown true) s = .next s) ∧
    (s.host.linkUp = true → Completes (.pcieLinkDown true) s fun t => t.host = { s.host with linkUp := false } ∧ t.pcieWrites = false ∧
      t.rd HOST_LINK_STATE = 0 ∧ Claims.counts HOST_LINK_DOWNS s t ∧ s.frame [HOST_LINK_STATE, HOST_LINK_DOWNS] [.regs, .host] t)) ∧
  (∀ (s : State) (link : Bool), s.pw.hostSel = true → exec (.pcieLinkDown link) s = .next s) ∧
  (∀ (s : State) (x : LinkIn), if s.pw.hostSel = true ∨ s.host.perst = true then exec (.pcieLinkRestored x) s = .next s
    else Completes (.pcieLinkRestored x) s fun t => t.host.linkUp = true ∧ t.host.busMaster = true ∧ t.host.cfg = x.cfg ∧
      t.pcieWrites = !x.cfg.d3hot ∧ t.rd HOST_LINK_STATE = (if x.gen2 then 2 else 1) ∧
      (s.pcieWrites = true → s.host.pba = 0 → t.out = s.out ∧ s.frame [HOST_LINK_STATE] [.regs, .host] t) ∧
      (s.pcieWrites = false → x.cfg.d3hot = false →
        t.host.staging = (s.record 16 1 0 0 (pay 16 (s.rd HOST_STAGING_DROPS) + pay 20 (s.rd HOST_FAULT_DROPS))).host.staging) ∧
      ∀ v : Fin 32, s.host.pba.testBit v = true → (at' s.host.msix v).masked = false →
        if x.cfg.msixEnable = true ∧ x.cfg.msixMask = false ∧ x.cfg.d3hot = false then
          t.host.pba.testBit v = false ∧ .msix v.val (at' s.host.msix v).addr (at' s.host.msix v).data ∈ t.out
        else t.host.pba.testBit v = true)

/-- MBX_SUBMIT while BUSY is rejected (R482); else it sets BUSY, clears DONE and DROPPED and takes the first MBX_REQ_LENGTH bytes
as one request (R483), whose end shows the response, DONE and IRQ_STATUS[16], or DROPPED (R484). Enabling a ring checks its
size, base and mirror block, and starts it at 0 (R487, R494). A CONSUMER write that would leave the ring's size is ignored and
shown (R491). The oldest staged record goes to its slot with its SEQ, bytes 0 to 7 last (R488, R490), or is dropped or
overwrites under the policy (R489), and the ring signals at MOD_COUNT, MOD_TIME or FLUSH (R492). Each of these completes here,
under conditions on the state and the operands alone: mbxSubmit, mbxComplete, flush, ringEnable, consumer, recordDelivery,
ringSignalTimeout. -/
def Obligations.MailboxAndRings : Prop :=
  (∀ (s : State) (macOk : Bool) (vd : Verdict), let b := s.host.mbxRequest.readAll 0 s.host.mbxReqLength
    if s.host.mbxStatus.testBit 0 then
      exec (.mbxSubmit macOk vd) s = .next { s with host := { s.host with mbxStatus := orBit s.host.mbxStatus 2 } }
    else Completes (.mbxSubmit macOk vd) s fun t => t.host.mbxStatus.testBit 0 = true ∧ t.host.mbxStatus.testBit 1 = false ∧
      t.host.mbxStatus.testBit 3 = false ∧ t.host.mbxRequest = s.host.mbxRequest ∧
      (let u : State := State.acceptFresh { s.bump HOST_MBX_REQUESTS with
          host := { s.host with mbxStatus := Sys2Proof.clrBit (Sys2Proof.clrBit (orBit s.host.mbxStatus 0) 1) 3, mbxReply := none, mbxDropped := false } } 0 (leAt b 4 2) (leAt b 8 4)
        let i := leAt b 12 2
        let j := leAt b 14 1
        let c : Ctx := ⟨.mailbox, {}, 0, leAt b 4 2, leAt b 8 4, 1, i, j, leAt b 15 1 % 2, leAt b 16 4, s.respKey 0⟩
        s.served = true → b.take 3 = [0x71, 0x51, 1] → leAt b 3 1 = 1 → leAt b 6 2 = 0 → leAt b 20 2 = 0 → b.length = 28 →
          s.held .mailbox < 8 → u.readAccess (u.readRole 0) i j = 0 → t = (u.readClears i j).answer c 0 (u.readBytes (u.readRole 0) i j)) ∧
      (s.served = true → leAt b 0 2 ≠ 0x5171 → Claims.counts HOST_MBX_REQUESTS s t ∧ t.host.mbxDropped = true ∧
        Claims.counts NETC_FORMAT_DROPS s t ∧ s.frame [HOST_MBX_REQUESTS, NETC_FORMAT_DROPS] [.regs, .host] t)) ∧
  (∀ s : State, (s.host.mbxStatus.testBit 0 = false ∨ (s.host.mbxDropped = false ∧ s.host.mbxReply = none) → exec .mbxComplete s = .next s) ∧
    (s.host.mbxStatus.testBit 0 = true → s.host.mbxDropped = true → Completes .mbxComplete s fun t => t.host.mbxStatus.testBit 0 = false ∧
      t.host.mbxStatus.testBit 1 = true ∧ t.host.mbxStatus.testBit 3 = true ∧ t.host.mbxRespLength = 0 ∧ t.host.irqStatus.testBit 16 = true ∧
      t.host.mbxResponse = s.host.mbxResponse ∧ s.onlyIn [.host, .out] t) ∧
    (s.host.mbxStatus.testBit 0 = true → s.host.mbxDropped = false → ∀ b ∈ s.host.mbxReply, Completes .mbxComplete s fun t =>
      t.host.mbxStatus.testBit 0 = false ∧ t.host.mbxStatus.testBit 1 = true ∧ t.host.mbxStatus.testBit 3 = s.host.mbxStatus.testBit 3 ∧
      t.host.mbxRespLength = b.length ∧ t.host.mbxResponse = s.host.mbxResponse.writeAll 0 b ∧ t.host.irqStatus.testBit 16 = true ∧
      t.host.mbxReply = none ∧ s.onlyIn [.host, .out] t ∧
      (s.host.mbxVector.testBit 8 = true → s.pcieWrites = true → s.msixOn = true → (at' s.host.msix (fld s.host.mbxVector 0 5)).masked = false →
        t.out = s.out ++ (let v := fld s.host.mbxVector 0 5; [.msix v (at' s.host.msix v).addr (at' s.host.msix v).data])) ∧
      (s.host.mbxVector.testBit 8 = false ∨ s.pw.hostSel = true → t.out = s.out))) ∧
  (∀ s : State, Completes .flush s fun t => s.onlyIn [.host, .out] t ∧ ∀ n : Fin 16, (t.ring n).unsignalled = 0 ∧
    t.host.irqStatus.testBit n = (s.host.irqStatus.testBit n || decide ((s.ring n).unsignalled ≠ 0))) ∧
  (∀ (s : State) (n : Fin 16), s.clock < (s.ring n).firstAt + (((s.ring n).modTime * 1000 * 2 ^ 32 : Nat) : Int) →
    exec (.ringSignalTimeout n) s = .next s) ∧
  (∀ (s : State) (n : Fin 16), (s.ring n).firstAt + (((s.ring n).modTime * 1000 * 2 ^ 32 : Nat) : Int) ≤ s.clock →
    Completes (.ringSignalTimeout n) s fun t => s.onlyIn [.host, .out] t ∧ (t.ring n).unsignalled = 0 ∧
    t.host.irqStatus = (if (s.ring n).unsignalled = 0 then s.host.irqStatus else orBit s.host.irqStatus n) ∧
    (∀ m : Fin 16, m ≠ n → t.ring m = s.ring m) ∧
    ((s.ring n).unsignalled ≠ 0 → (s.ring n).ctrl.testBit 2 = true → s.pw.hostSel = false →
      let v := fld (s.ring n).ctrl 16 5
      if (at' s.host.msix v).masked = true ∨ s.msixOn = false ∨ s.pcieWrites = false then t.host.pba.testBit v = true ∧ t.out = s.out
      else t.out = s.out ++ [.msix v (at' s.host.msix v).addr (at' s.host.msix v).data])) ∧
  (∀ (s : State) (n : Fin 16) (v : BitVec 32), (s.ring n).enabled = false →
    let size := fld (v.toNat &&& 0x001f1f0f) 8 5
    if size < 6 ∨ 16 < size ∨ (s.ring n).base % 4096 ≠ 0 ∨ (s.pw.hostSel = true ∧ s.mirrorBlock n (32 * 2 ^ size) = none) then
      Completes (.ringEnable n v) s fun t => (t.ring n).enabled = false ∧ (t.ring n).status.testBit 3 = true ∧ (t.ring n).base = (s.ring n).base ∧
        s.onlyIn [.host] t
    else Completes (.ringEnable n v) s fun t => (t.ring n).enabled = true ∧ (t.ring n).size = 2 ^ size ∧ (t.ring n).producer = 0 ∧
      (t.ring n).consumer = 0 ∧ (t.ring n).overflows = 0 ∧ (t.ring n).base = (s.ring n).base ∧ (∀ m : Fin 16, m ≠ n → t.ring m = s.ring m) ∧
      (s.pw.hostSel = true → ∀ o ∈ s.mirrorBlock n (32 * 2 ^ size), (t.ring n).mirrorOffset = 0x040000 + o ∧ o % (32 * 2 ^ size) = 0 ∧
        o + 32 * 2 ^ size ≤ 262144) ∧ s.onlyIn [.host] t) ∧
  (∀ (s : State) (n : Fin 16) (v : BitVec 32), (s.ring n).enabled = true → Completes (.ringEnable n v) s fun t =>
    (t.ring n).enabled = true ∧ (t.ring n).size = (s.ring n).size ∧ (t.ring n).ctrl.testBit 1 = (s.ring n).ctrl.testBit 1 ∧
    (t.ring n).producer = (s.ring n).producer ∧ (t.ring n).consumer = (s.ring n).consumer) ∧
  (∀ (s : State) (n : Fin 16) (v : BitVec 32), Completes (.consumer n v) s fun t => s.onlyIn [.host] t ∧
    (∀ m : Fin 16, m ≠ n → t.ring m = s.ring m) ∧
    if (s.ring n).size < ((s.ring n).producer + 2 ^ 32 - v.toNat) % 2 ^ 32 then t.ring n = { s.ring n with status := orBit (s.ring n).status 2 }
    else t.ring n = { s.ring n with consumer := v.toNat }) ∧
  (∀ (s : State) (n : Fin 16), let g := s.ring n
    let full := decide (g.size ≤ (g.producer + 2 ^ 32 - g.consumer) % 2 ^ 32)
    (s.host.staging = [] → exec (.recordDelivery n) s = .next s) ∧
    ∀ e ∈ s.host.staging.head?,
      (e.rings.testBit n = false ∨ (s.pw.hostSel = false ∧ s.pcieWrites = false) → exec (.recordDelivery n) s = .next s) ∧
      (e.rings.testBit n = true → s.pw.hostSel = true ∨ s.pcieWrites = true →
        (full = true → g.ctrl.testBit 1 = false → Completes (.recordDelivery n) s fun t => t.out = s.out ∧ t.host.mirror = s.host.mirror ∧
          (t.ring n).producer = g.producer ∧ (t.ring n).overflows = (g.overflows + 1) % 2 ^ 32 ∧ (t.ring n).status.testBit 1 = true ∧
          (t.ring n).overflowNext = true ∧ t.host.staging = (HostSt.taken s.host n).staging ∧ s.onlyIn [.host] t) ∧
        (full = false ∨ g.ctrl.testBit 1 = true → Completes (.recordDelivery n) s fun t =>
          let b := e.rcd.bytes (g.producer % 65535 + 1) (full || g.overflowNext)
          let slot := 32 * (g.producer % g.size)
          let writes : List Output := (if g.ctrl.testBit 1 then [.pcieWrite (g.base + slot) (leBytes 8 0)] else []) ++
            [.pcieWrite (g.base + slot + 8) (b.drop 8), .pcieWrite (g.base + slot) (b.take 8)]
          (t.ring n).producer = (g.producer + 1) % 2 ^ 32 ∧ (t.ring n).overflowNext = false ∧ t.host.staging = (HostSt.taken s.host n).staging ∧
          (if s.pw.hostSel then t.out = s.out ∧ t.host.mirror = s.host.mirror.writeAll (g.mirrorOffset - 0x040000 + slot) b
           else t.host.mirror = s.host.mirror ∧ t.out.take (s.out ++ writes).length = s.out ++ writes) ∧
          (g.modCount ≤ g.unsignalled + 1 ∨ g.modTime = 0 ∨ (g.ctrl.testBit 3 = true ∧ e.rcd.fault = true) →
            t.host.irqStatus.testBit n = true ∧ (t.ring n).unsignalled = 0) ∧
          (g.unsignalled + 1 < g.modCount → g.modTime ≠ 0 → g.ctrl.testBit 3 = false → t.host.irqStatus = s.host.irqStatus ∧
            (t.ring n).unsignalled = g.unsignalled + 1) ∧ s.onlyIn [.host, .out] t)))

/-- TWL comes UP with the taps of training (R536), and is lost on a missing clock, four bad bursts in a row or symbol errors
(R535, R537), which sets LINK_FAULT and makes a bench stale. The last lease core that renews reloads the lease timer (R547).
When it runs out the ball is lost: the dribble stops, every leg is fenced, keepers hold and the unit is FENCED (R550), from
which a warm reset with cause TWIN_FENCE leads. Keepers are released whole after 6 us and the longest carrier period, or at a
trip on the legs of its mask (R545). HANDOVER is accepted only on a PLAYING unit with its partner in BENCH, LINK_UP and no
mismatch (R551), and its burst ends with the ball given up. Each of these completes here, under conditions on the state and
the operands alone: twlTrainingComplete, twlLinkLoss, twlBurstReceive, leaseRenewal, leaseExpiry, fenceReset, keeperRelease,
handover, handoverRelease, twlReceiveClockReturn. -/
def Obligations.TwinLinkAndBall : Prop :=
  (∀ (s : State) (taps : Vector (BitVec 7) 4) (ns : BitVec 32),
    let lane (i : Nat) : Nat := if s.pw.twinRole then TWL_LANE_DELAY_MD i else TWL_LANE_DELAY_SD i
    if s.twlRuns = true ∧ s.rd TWL_LINK_STATE = 1 then Completes (.twlTrainingComplete taps ns) s fun t => t.rd TWL_LINK_STATE = 2 ∧
      (∀ i : Fin 4, t.rd (lane i) = min 79 (at' taps i).toNat) ∧ s.recorded t 12 4 0 2 (pay 16 ns.toNat) ∧
      t.twin = { s.twin with hbDue := s.clock, laneFree := s.clock, copyEnd := s.clock } ∧
      s.frame ([TWL_LINK_STATE, lane 0, lane 1, lane 2, lane 3] ++ dropCounters) [.regs, .twin, .host] t
    else exec (.twlTrainingComplete taps ns) s = .next s) ∧
  (∀ s : State, if s.twlRuns = true ∧ s.rd TWL_LINK_STATE = 0 then Completes .twlReceiveClockReturn s fun t =>
      t.rd TWL_LINK_STATE = 1 ∧ s.frame [TWL_LINK_STATE] [.regs] t
    else exec .twlReceiveClockReturn s = .next s) ∧
  (∀ (s : State) (len : BitVec 16) (crcOk : Bool), (s.rd TWL_LINK_STATE ≠ 2 → exec (.twlBurstReceive crcOk len) s = .next s) ∧
    (s.rd TWL_LINK_STATE = 2 →
      Completes (.twlBurstReceive true len) s (fun t => Claims.counts TWL_BURSTS_RX s t ∧ t.twin = { s.twin with crcRun := 0 } ∧
        s.frame [TWL_BURSTS_RX] [.regs, .twin] t) ∧
      (s.twin.crcRun < 3 → Completes (.twlBurstReceive false len) s (fun t => Claims.counts TWL_CRC_ERRORS s t ∧
        t.twin = { s.twin with crcRun := s.twin.crcRun + 1 } ∧
        (s.twin.crcRun = 0 → s.recorded t 12 6 0 2 (pay 16 len.toNat)) ∧ (s.twin.crcRun ≠ 0 → t.host = s.host) ∧
        s.frame (TWL_CRC_ERRORS :: dropCounters) [.regs, .twin, .host] t)) ∧
      (s.twin.crcRun = 3 → s.twlRuns = true → Completes (.twlBurstReceive false len) s (fun t => Claims.counts TWL_CRC_ERRORS s t ∧
        Claims.counts TWL_LINK_LOSSES s t ∧ t.rd TWL_LINK_STATE = 1 ∧ t.twin.crcRun = 0 ∧ t.twin.sending = none ∧
        t.bitOf TW_TWIN_STATUS 5 = true)))) ∧
  (∀ (s : State) (cause : Fin 3) (symbols : BitVec 32), let up := s.twlRuns = true ∧ s.rd TWL_LINK_STATE = 2
    Completes (.twlLinkLoss cause symbols) s fun t =>
    t.rd TWL_SYMBOL_ERRORS = (if up then (s.rd TWL_SYMBOL_ERRORS + symbols.toNat) % 2 ^ 32 else s.rd TWL_SYMBOL_ERRORS) ∧
    if (cause = 0 ∧ s.twlRuns = true ∧ s.rd TWL_LINK_STATE ≠ 0) ∨ (cause = 2 ∧ up ∧ 8 ≤ symbols.toNat) then
      t.rd TWL_LINK_STATE = (if cause = 0 then 0 else 1) ∧ Claims.counts TWL_LINK_LOSSES s t ∧ t.twin.sending = none ∧ t.twin.waiting = none ∧
      t.bitOf TW_TWIN_STATUS 5 = true ∧ t.rd TW_HOLDS_BALL = s.rd TW_HOLDS_BALL ∧
      (s.twState = twBench → s.twin.dribbleIn = true → t.twState = twStale) ∧
      (s.twState = twPlaying → t.twState = twPlaying ∧ t.leg = s.leg)
    else s.frame [TWL_SYMBOL_ERRORS] [.regs] t) ∧
  (∀ (s : State) (core : Fin 6), if s.rd TW_HOLDS_BALL = 0 ∨ s.twin.leaseEnd + ((s.cf TW_LEASE_TIME * 20 * 2 ^ 32 : Nat) : Int) < s.clock then
      exec (.leaseRenewal core) s = .next s
    else Completes (.leaseRenewal core) s fun t => s.onlyIn [.twin] t ∧
      if clrMask s.leaseCores (orBit s.twin.renewed core) = 0 then t.twin.renewed = 0 ∧
        t.twin.leaseEnd = s.time.free.units + (s.cf TW_LEASE_TIME * 1000 * 2 ^ 32 : Nat)
      else t.twin.renewed = orBit s.twin.renewed core ∧ t.twin.leaseEnd = s.twin.leaseEnd) ∧
  (∀ s : State, if s.rd TW_HOLDS_BALL = 0 ∨ s.clock < s.twin.leaseEnd - ((s.cf TW_LEASE_TIME * 20 * 2 ^ 32 : Nat) : Int) then
      exec .leaseExpiry s = .next s
    else Completes .leaseExpiry s fun t => t.rd TW_HOLDS_BALL = 0 ∧ t.twState = twFenced ∧ t.rd TWL_LINK_STATE = 0 ∧
      t.twin.dribble = false ∧ t.twin.keepers = 2 ^ 80 - 1 ∧ t.twin.fencedAt = s.clock ∧ t.twin.sending = none ∧ t.twin.waiting = none ∧
      (∀ l : Fin 48, t.leg.driven.testBit l = false) ∧ t.dev = s.dev ∧ t.force = s.force) ∧
  (∀ s : State, if s.twState = twFenced ∧ s.twin.fencedAt + ((1000000 * 2 ^ 32 : Nat) : Int) ≤ s.clock then Completes .fenceReset s fun t => t.dev = .boot ∧ t.pw.cause = 6 ∧ t.twState = twSingle ∧
      t.twin.keepers = s.twin.keepers ∧ t.dict.stored = s.dict.stored ∧ t.sec.ownerKey = s.sec.ownerKey ∧ t.pending = s.pending
    else exec .fenceReset s = .next s) ∧
  (∀ s : State, exec (.keeperRelease none) s = .next (
    if s.twin.fencedAt + ((6000 * 2 ^ 32 + s.longestPeriod : Nat) : Int) ≤ s.clock then { s with twin := { s.twin with keepers := 0 } } else s)) ∧
  (∀ (s : State) (i : Fin 8), exec (.keeperRelease (some i)) s = .next (if s.bitOf TRIP_FLAGS i then
    { s with twin := { s.twin with keepers := clrMask s.twin.keepers (s.cf (TRIP_MASK i) % 2 ^ 48) } } else s)) ∧
  (∀ (s : State) (w : Wr), let a := s.arrived w
    s.admits w TW_HANDOVER → (w.data = [0] → exec (.handover w) s = .next (a.done w TW_HANDOVER)) ∧
    (w.data = [1] →
      if a.twState = twPlaying ∧ a.rd TWL_LINK_STATE = 2 ∧ a.twin.partnerState = twBench ∧ a.bitOf TW_TWIN_STATUS 4 = false then
        exec (.handover w) s = .next (State.done { a with twin := { a.twin with handover := true } } w TW_HANDOVER)
      else exec (.handover w) s = .next (a.denied w TW_HANDOVER cState))) ∧
  (∀ s : State, (s.twin.sending = none ∨ s.rd TW_HOLDS_BALL ≠ 1 → exec .handoverRelease s = .next s) ∧
    ∀ c ∈ s.twin.sending, (c.handover = false ∨ s.clock < s.twin.copyEnd → exec .handoverRelease s = .next s) ∧
      (c.handover = true → s.twin.copyEnd ≤ s.clock → s.rd TW_HOLDS_BALL = 1 → Completes .handoverRelease s fun t => t.rd TW_HOLDS_BALL = 0 ∧ t.twState = twFenced ∧
        t.twin.keepers = 2 ^ 80 - 1 ∧ t.twin.dribble = false ∧ ∀ l : Fin 48, t.leg.driven.testBit l = false))

/-- At a twin instant a PLAYING unit with its link up captures its state and sends it, or, while the last copy is on the lanes,
lets it wait and counts the one that it replaces (R553). A payload whose tag fails or whose COUNTER is not new is dropped and
counted (R554). A bench keeps a newer copy whole and mirrors its axes (R557), and returns from BENCH_STALE when nothing of
R555 stands; a missing heartbeat or copy makes it stale. Dribble silence with a link fault starts a claim (R559), without one
it is a dribble fault (R560). A contest check that finds activity raises the partition fault and returns the unit to the bench
(R562); one that finds none takes the ball, and without a copy every axis is OFF (R561). The boot check claims, or becomes a
bench (R564). Each of these completes here, under conditions on the state and the operands alone: twinInstant, copyReceive,
heartbeatSend, heartbeatReceive, heartbeatTimeout, copyStaleTimeout, dribbleSilence, contestCheckEnd, partitionFault,
twinCheckDecision, twinCheckTimeout, dribbleSeen. -/
def Obligations.TwinCopiesAndClaims : Prop :=
  (∀ (s : State) (lag : BitVec 11), let seq := (s.rd TW_COPY_SEQ + 1) % 2 ^ 32
    let c := s.capCopy seq
    let stop := max s.twin.laneFree (s.clock + ((min lag.toNat 2000 * 2 ^ 32 : Nat) : Int)) + burstTime c.bytes
    (s.twState ≠ twPlaying ∨ s.rd TWL_LINK_STATE ≠ 2 ∨ s.twinDue = false → exec (.twinInstant lag) s = .next s) ∧
    (s.twState = twPlaying → s.rd TWL_LINK_STATE = 2 → s.twinDue = true →
      if s.clock < s.twin.copyEnd then
        Completes (.twinInstant lag) s fun t => t.rd TW_COPY_SEQ = seq ∧ t.out = s.out ∧ t.twinDue = false ∧
          t.twin = { s.twin with waiting := some c, handover := false, instantAt := some s.twinAt } ∧
          (if s.twin.waiting.isSome then Claims.counts TW_COPIES_REPLACED s t else t.rd TW_COPIES_REPLACED = s.rd TW_COPIES_REPLACED)
      else Completes (.twinInstant lag) s fun t => t.rd TW_COPY_SEQ = seq ∧ t.twinDue = false ∧ t.twin = { s.twin with
            sending := some c, waiting := none, handover := false, instantAt := some s.twinAt, copyEnd := stop, laneFree := stop
            bursts := (s.twin.bursts + 1) % 2 ^ 32 } ∧
          t.out = s.out ++ [.twlCopy s.burstCounter c] ∧ Claims.counts TWL_BURSTS_TX s t ∧
          t.rd TW_COPY_BYTES = c.bytes ∧ s.frame [TW_COPY_SEQ, TWL_BURSTS_TX, TW_COPY_BYTES] [.regs, .twin, .out] t)) ∧
  (∀ (s : State) (counter : BitVec 64) (tagOk : Bool) (c : TwinCopy),
    (s.twinOn = false ∨ s.rd TWL_LINK_STATE ≠ 2 → exec (.copyReceive counter tagOk c) s = .next s) ∧
    (s.twinOn = true → s.rd TWL_LINK_STATE = 2 → tagOk = false ∨ counter.toNat ≤ s.twin.partnerCounter → Completes (.copyReceive counter tagOk c) s fun t =>
      Claims.counts TW_COPIES_REJECTED s t ∧ t.twin = { s.twin with rejectRun := true } ∧
      (s.twin.rejectRun = false → s.recorded t 13 9 0 0 (pay 16 1)) ∧ (s.twin.rejectRun = true → t.host = s.host) ∧
      s.frame (TW_COPIES_REJECTED :: dropCounters) [.regs, .twin, .host] t) ∧
    (s.twinOn = true → s.rd TWL_LINK_STATE = 2 → tagOk = true → s.twin.partnerCounter < counter.toNat → s.isBench = true → s.pw.bootWait = false →
      (∀ h ∈ s.twin.held, h.seq < c.seq) → Completes (.copyReceive counter tagOk c) s fun t =>
        t.twin.held = some c ∧ t.twin.copyLate = false ∧ t.twin.copyAt = s.clock ∧ t.twin.partnerCounter = counter.toNat ∧ t.axis = c.axis ∧ t.casc = c.casc ∧
        t.sub = c.sub ∧ t.pub = c.pub ∧ t.rd TW_COPY_SEQ = c.seq ∧ t.rd TW_COPY_BYTES = c.bytes ∧ t.force = s.force ∧ t.leg = s.leg ∧
        (s.twState = twStale → c.hash = s.configHash → s.twin.hbLost = false → t.twState = twBench) ∧
        (s.twState = twBench → c.hash ≠ s.configHash → s.bitOf TW_TWIN_STATUS 4 = false → t.twState = twStale ∧ t.bitOf TW_TWIN_STATUS 4 = true)) ∧
    (s.twinOn = true → s.rd TWL_LINK_STATE = 2 → tagOk = true → s.twin.partnerCounter < counter.toNat → ∀ h ∈ s.twin.held, c.seq ≤ h.seq →
      exec (.copyReceive counter tagOk c) s =
        .next { s with twin := { s.twin with partnerCounter := counter.toNat, rejectRun := false } })) ∧
  (∀ s : State, if s.twlRuns = true ∧ s.rd TWL_LINK_STATE = 2 ∧ s.twin.hbDue ≤ s.clock ∧ s.twin.laneFree ≤ s.clock then
      Completes .heartbeatSend s fun t =>
        t.out = s.out ++ [.heartbeat s.burstCounter s.twState s.twin.dribbleIn ((s.twin.held.map (·.seq)).getD 0) (s.stamp 0) s.configHash] ∧
        Claims.counts TWL_BURSTS_TX s t ∧ s.clock < t.twin.hbDue ∧ t.twin.hbDue ≤ s.clock + heartbeatU ∧
        t.twin = { s.twin with bursts := (s.twin.bursts + 1) % 2 ^ 32, hbDue := t.twin.hbDue, laneFree := s.clock + burstTime 60 } ∧
        s.frame [TWL_BURSTS_TX] [.regs, .twin, .out] t
    else exec .heartbeatSend s = .next s) ∧
  (∀ (s : State) (counter : BitVec 64) (tagOk seen : Bool) (st : BitVec 8) (hash : BitVec 128),
    (s.twinOn = false ∨ s.rd TWL_LINK_STATE ≠ 2 → exec (.heartbeatReceive counter tagOk st seen hash) s = .next s) ∧
    (s.twinOn = true → s.rd TWL_LINK_STATE = 2 → tagOk = false ∨ counter.toNat ≤ s.twin.partnerCounter → Completes (.heartbeatReceive counter tagOk st seen hash) s fun t =>
      Claims.counts TW_COPIES_REJECTED s t ∧ t.twin = { s.twin with rejectRun := true }) ∧
    (s.twinOn = true → s.rd TWL_LINK_STATE = 2 → tagOk = true → s.twin.partnerCounter < counter.toNat → s.pw.bootWait = false →
      Completes (.heartbeatReceive counter tagOk st seen hash) s fun t =>
        t.twin.hbLost = false ∧ t.twin.hbAt = s.clock ∧ t.twin.partnerState = st.toNat ∧ t.twin.partnerCounter = counter.toNat ∧
        t.bitOf TW_TWIN_STATUS 4 = decide (hash.toNat ≠ s.configHash) ∧ (s.rd TW_HOLDS_BALL = 1 → seen = false → t.bitOf TW_TWIN_STATUS 6 = true) ∧
        (s.rd TW_HOLDS_BALL ≠ 1 ∨ seen = true → t.bitOf TW_TWIN_STATUS 6 = s.bitOf TW_TWIN_STATUS 6) ∧ t.leg = s.leg ∧ t.axis = s.axis)) ∧
  (∀ s : State, if s.twinOn = true ∧ s.twin.hbLost = false ∧ s.twin.hbAt + ((100000 * 2 ^ 32 : Nat) : Int) ≤ s.clock then Completes .heartbeatTimeout s fun t =>
      t.twin.hbLost = true ∧ Claims.counts TW_HB_TIMEOUTS s t ∧ (s.twState ≠ twFenced → t.bitOf TW_TWIN_STATUS 5 = true) ∧
      (s.twState = twBench → s.twin.dribbleIn = true → t.twState = twStale) ∧
      (s.twState = twBench → s.twin.dribbleIn = false → s.twin.claimed = false → t.twState = twClaiming) ∧
      (s.twState = twPlaying → t.twState = twPlaying ∧ t.leg = s.leg)
    else exec .heartbeatTimeout s = .next s) ∧
  (∀ s : State, if s.isBench = true ∧ s.twin.copyAt + ((4 * s.cf TW_TWIN_PERIOD * tickU : Nat) : Int) ≤ s.clock then Completes .copyStaleTimeout s fun t => t.twin.copyLate = true ∧
      t.twState = (if s.twState = twBench then twStale else s.twState) ∧ (s.pw.bootWait = false → t.leg = s.leg)
    else exec .copyStaleTimeout s = .next s) ∧
  (∀ s : State, Completes .dribbleSilence s fun t => t.twin.dribbleIn = false ∧ t.rd TW_HOLDS_BALL = s.rd TW_HOLDS_BALL ∧ t.leg = s.leg ∧
    (s.twinOn = false ∨ s.onBench = false → t.regs = s.regs ∧ s.onlyIn [.twin] t) ∧
    (s.twinOn = true → s.onBench = true →
      (s.linkFault = true → s.twin.claimed = false → t.twState = twClaiming ∧ t.twin.dribble = true ∧ t.twin.claimFrom = s.twState) ∧
      (s.linkFault = true → s.twin.claimed = true → t.regs = s.regs) ∧
      (s.linkFault = false → t.twState = s.twState ∧ t.bitOf TW_TWIN_STATUS 6 = true ∧ t.twin.dribble = s.twin.dribble))) ∧
  (∀ s : State, (s.twinOn = false → exec .dribbleSeen s = .next s) ∧ (s.twinOn = true → Completes .dribbleSeen s fun t =>
    t.twin.dribbleIn = true ∧ t.twin.claimed = false ∧ t.twState = (if s.twState = twCheck then twStale else s.twState))) ∧
  (∀ (s : State) (clocks : BitVec 4) (legs : BitVec 48), let active := clocks ≠ 0 ∨ legs.toNat &&& s.contestLegs ≠ 0 ∨ s.twin.dribbleIn = true
    (s.twState ≠ twClaiming ∨ s.clock < s.twin.claimAt + ((1000 * 2 ^ 32 : Nat) : Int) → exec (.contestCheckEnd clocks legs) s = .next s) ∧
    (s.twState = twClaiming → s.twin.claimAt + ((1000 * 2 ^ 32 : Nat) : Int) ≤ s.clock → s.pw.bootWait = false →
      (active → s.rd TW_HOLDS_BALL = 0 → s.twin.claimFrom < 4 → Completes (.contestCheckEnd clocks legs) s fun t => t.twState = s.twin.claimFrom ∧
        t.twin.dribble = false ∧ t.rd TW_HOLDS_BALL = 0 ∧ t.bitOf TW_TWIN_STATUS 7 = true ∧
        t.twin.decideAt = s.clock + ((s.retryNs * 2 ^ 32 : Nat) : Int) ∧ t.dev = s.dev ∧ t.leg = s.leg ∧ t.axis = s.axis) ∧
      (¬active → Completes (.contestCheckEnd clocks legs) s fun t => t.twState = twPlaying ∧ t.rd TW_HOLDS_BALL = 1 ∧ t.twin.dribble = true ∧
        t.rd TW_LAST_GAP = (((s.time.free.units / (tickU : Int) - s.twin.lastEdge) / 8).toNat + s.toReload) % 2 ^ 32 ∧
        t.bitOf TW_TWIN_STATUS 8 = true ∧ Claims.counts TW_TAKEOVERS s t ∧ t.rd TW_LAST_TAKEOVER = s.stamp 0 ∧ t.twin.renewed = 0 ∧
        (∀ n : Fin 32, s.twin.held = none → s.axState n ≠ axSetup → n.val < 16 → s.legSet n &&& s.tripped ≠ 0 → t.axState n = axFault) ∧
        (∀ n : Fin 32, s.twin.held = none → 16 ≤ n.val ∨ s.legSet n &&& s.tripped = 0 → t.axState n = axOff) ∧
        (∀ c ∈ s.twin.held, s.twin.claimFrom = twBench ∨ s.on TW_COLD_TAKEOVER = true → t.twin.resume = some s.nowT ∧ t.twin.held = some c)))) ∧
  (∀ (s : State) (why : Fin 3), if s.twinOn = true ∧ s.rd TW_HOLDS_BALL = 1 ∧
        (why = 2 → s.twin.dribbleIn = true ∧ s.twin.dribbleFrom + ((2000 * 2 ^ 32 : Nat) : Int) ≤ s.clock) then
      Completes (.partitionFault why) s fun t => t.bitOf TW_TWIN_STATUS 7 = true ∧ t.rd TW_HOLDS_BALL = 1 ∧ t.twState = s.twState ∧
        (s.dev = .op ∨ s.dev = .preop → t.dev = .safe ∧ t.bitOf DEV_SAFE_CAUSES 1 = true)
    else exec (.partitionFault why) s = .next s) ∧
  (∀ s : State, if s.twState = twCheck ∧ s.twin.dribbleIn = false ∧ s.twin.decideAt ≤ s.clock then Completes .twinCheckDecision s fun t =>
      t.twState = twClaiming ∧ t.twin.claimFrom = twCheck ∧ t.twin.dribble = true ∧ t.rd TW_HOLDS_BALL = s.rd TW_HOLDS_BALL ∧ t.leg = s.leg
    else exec .twinCheckDecision s = .next s) ∧
  (∀ s : State, if s.twState = twCheck ∧ s.twin.checkAt + ((400000000 * 2 ^ 32 : Nat) : Int) ≤ s.clock then Completes .twinCheckTimeout s fun t => t.twState = twStale ∧ t.bitOf TW_TWIN_STATUS 6 = true ∧
      t.rd TW_HOLDS_BALL = s.rd TW_HOLDS_BALL ∧ t.leg.driven &&& s.leg.driven = t.leg.driven
    else exec .twinCheckTimeout s = .next s)

/-- What resets the device, with the scope and cause of Table PS-4 (R589, R590): the release of PORST_N, which wakes a device in
STANDBY (R597), WARMRST_N (R591), RESET_REQUEST after 1 ms (R592), loss of REF25_IN and of SYS_PLL (Table AR-7). The straps
are sampled at the release after a cold reset only (R615), with the end of every extension (R573). Boot shows the cause and
counts the reset (R589); a boot that fails counts, and at the third failure the other slot is next (R430). What a reset
empties beside R590's words, the power-on resets, the entry of a lost rail and boot as one command are readings of the model
(log entries 11, 50, 51, 58, 59, 62). Each of these completes here, under conditions on the state and the operands alone:
porstNRelease, bootComplete, bootFailure, ref25InAbsent, sysPllLoss, warmrstN, resetRequest, softwareReset, ref25InReturn,
sysPllRelock, internalResetRelease, resetHoldTimeout. -/
def Obligations.ResetsAndBoot : Prop :=
  (∀ s : State, let ms : Int := ((1000000 * 2 ^ 32 : Nat) : Int)
    (s.dev = .standby → s.pw.railsUp = true → Completes .porstNRelease s fun t => Claims.wasReset true 1 [] s t ∧
      t.rd STBY_LAST_STANDBY_TIME = s.pw.standbyUs / 1000000 % 2 ^ 32 ∧ t.host.wakeN = s.host.perst ∧ t.pw.held = true ∧
      t.pw.strapDue = true ∧ t.pw.porstLow = false ∧ t.pw.releaseAt = s.aonClock + ms) ∧
    ((if s.dev = .standby then s.pw.railsUp = false else s.pw.held = true ∧ s.pw.cause = 8) → Completes .porstNRelease s fun t =>
      t.pw = { s.pw with porstLow := false, warmLow := false, porstAt := s.aonClock, releaseAt := s.aonClock + ms } ∧
      t.bitOf FIELD_STATUS 0 = false ∧ t.field = { s.field with since := s.clock, first := 0 } ∧ s.frame [FIELD_STATUS] [.regs, .pw, .field] t)) ∧
  (∀ s : State, s.dev ≠ .standby → s.pw.held = false ∨ s.pw.cause ≠ 8 → Completes .porstNRelease s fun t => Claims.wasReset true 0 [] s t ∧
      t.pw.held = true ∧ t.pw.strapDue = true ∧ t.pw.porstLow = false ∧ t.sec.windowOpen = true ∧ t.pending = s.pending) ∧
  (∀ (s : State) (hostSel twinRole : Bool),
    (s.dev ≠ .standby → s.pw.held = true → s.pw.porstLow = false → s.pw.warmLow = false → s.pw.refAbsent = false →
      s.pw.sysPllLost = false → s.pw.railsUp = true → s.pw.releaseAt ≤ s.aonClock →
      exec (.internalResetRelease hostSel twinRole) s = .next { s with pw := { s.pw with
        held := false, holdTimeout := false, strapDue := false
        hostSel := if s.pw.strapDue then hostSel else s.pw.hostSel
        twinRole := if s.pw.strapDue then twinRole else s.pw.twinRole } }) ∧
    (s.dev ≠ .standby → s.pw.held = false ∨ s.pw.porstLow = true ∨ s.pw.warmLow = true ∨ s.pw.refAbsent = true ∨
      s.pw.sysPllLost = true ∨ s.pw.railsUp = false ∨ s.aonClock < s.pw.releaseAt → exec (.internalResetRelease hostSel twinRole) s = .next s) ∧
    (s.dev = .standby → s.pw.railsUp = false ∨ s.pw.porstLow = true → exec (.internalResetRelease hostSel twinRole) s = .next s) ∧
    (s.dev = .standby → s.pw.railsUp = true → s.pw.porstLow = false → Completes (.internalResetRelease hostSel twinRole) s fun t =>
      Claims.wasReset true 1 [] s t ∧ t.pw.held = (s.pw.warmLow || s.pw.refAbsent || decide (s.aonClock < s.pw.releaseAt)) ∧
      (t.pw.held = false → t.pw.hostSel = hostSel ∧ t.pw.twinRole = twinRole ∧ t.pw.strapDue = false))) ∧
  (∀ s : State, if s.pw.porstLow = false ∧ s.pw.held = true ∧ s.pw.railsUp = false ∧ s.pw.porstAt + ((100000000 * 2 ^ 32 : Nat) : Int) ≤ s.aonClock then
      Completes .resetHoldTimeout s fun t =>
        t = { s with pw := { s.pw with holdTimeout := true } } ∧ (s.pw.aonUp = true → s.dev = .boot → t.faultN = true)
    else exec .resetHoldTimeout s = .next s) ∧
  (∀ (s : State) (low : Bool), (s.dev = .standby ∨ s.pw.porstLow = true → exec (.warmrstN low) s = .next s) ∧
    (s.dev ≠ .standby → s.pw.porstLow = false →
      (low = true → Completes (.warmrstN low) s fun t => Claims.wasReset false 2 [] s t ∧ t.pw.held = true ∧ t.pw.warmLow = true ∧
        t.pw.strapDue = s.pw.strapDue) ∧
      (low = false → Completes (.warmrstN low) s fun t => s.onlyIn [.pw] t ∧ t.pw.warmLow = false ∧ t.pw.hostSel = s.pw.hostSel ∧
        t.pw.twinRole = s.pw.twinRole ∧
        t.pw.held = (s.pw.held && (s.pw.strapDue || s.pw.refAbsent || s.pw.sysPllLost || !s.pw.railsUp || decide (s.aonClock < s.pw.releaseAt)))))) ∧
  (∀ (s : State) (w : Wr), let a := s.arrived w
    (s.admits w DEV_RESET_REQUEST → w.data.length = 4 →
      (leNat w.data = 0x74657372 → exec (.resetRequest w) s = .next (({ a with pw := { a.pw with swReset := true, swAt := a.clock } }).done w DEV_RESET_REQUEST)) ∧
      (leNat w.data ≠ 0x74657372 → exec (.resetRequest w) s = .next (a.denied w DEV_RESET_REQUEST cRange))) ∧
    (s.served = true → s.gate w.chan w.session w.reqId w.fresh true = .go → a.held w.chan < 8 → 2 ≤ Role.level (a.writeRole w.session) →
      a.dict.storing.isSome = true ∨ a.axState 0 ∉ [axOff, axReady, axFault] ∨ a.axState 31 ∉ [axOff, axReady, axFault] →
      exec (.resetRequest w) s = .next (a.denied w DEV_RESET_REQUEST cState))) ∧
  (∀ s : State, if s.pw.swReset = true ∧ s.pw.swAt + ((1000000 * 2 ^ 32 : Nat) : Int) ≤ s.clock then Completes .softwareReset s fun t => Claims.wasReset false 3 [] s t ∧ t.pw.swReset = false ∧
      t.pw.hostSel = s.pw.hostSel ∧ t.pw.twinRole = s.pw.twinRole ∧
      t.pw.held = (s.pw.strapDue || s.pw.porstLow || s.pw.warmLow || s.pw.refAbsent || s.pw.sysPllLost || !s.pw.railsUp ||
        decide (s.aonClock < s.pw.releaseAt))
    else exec .softwareReset s = .next s) ∧
  (∀ s : State, if s.dev = .standby ∨ s.pw.railsUp = false then exec .ref25InAbsent s = .next s
    else Completes .ref25InAbsent s fun t => Claims.wasReset true 4 [] s t ∧ t.pw.refAbsent = true ∧ t.pw.held = true ∧ t.pw.strapDue = true) ∧
  (∀ (s : State) (hostSel twinRole : Bool), if s.pw.refAbsent = false then exec (.ref25InReturn hostSel twinRole) s = .next s
    else Completes (.ref25InReturn hostSel twinRole) s fun t => s.onlyIn [.pw] t ∧ t.pw.refAbsent = false ∧
      t.pw.held = (s.pw.held && (s.pw.porstLow || s.pw.warmLow || s.pw.sysPllLost || !s.pw.railsUp || s.dev == .standby ||
        decide (s.aonClock < s.pw.releaseAt))) ∧
      (s.pw.held = true → t.pw.held = false → s.pw.strapDue = true → t.pw.hostSel = hostSel ∧ t.pw.twinRole = twinRole)) ∧
  (∀ s : State, if s.dev = .standby ∨ s.pw.porstLow = true ∨ s.pw.refAbsent = true ∨ s.pw.railsUp = false then exec .sysPllLoss s = .next s
    else Completes .sysPllLoss s fun t => (∀ l : Fin 48, t.leg.driven.testBit l = false) ∧ t.bitOf CLKS_CLOCK_STATUS 1 = false ∧
      t.pw.sysPllLost = true ∧ t.dev = s.dev ∧ s.frame [CLKS_CLOCK_STATUS] [.regs, .leg, .pw] t) ∧
  (∀ s : State, if s.pw.sysPllLost = true then Completes .sysPllRelock s fun t => Claims.wasReset false 5 [] s t ∧ t.pw.sysPllLost = false ∧
      t.pw.held = (s.pw.strapDue || s.pw.porstLow || s.pw.warmLow || s.pw.refAbsent || !s.pw.railsUp || decide (s.aonClock < s.pw.releaseAt))
    else exec .sysPllRelock s = .next s) ∧
  (∀ (s : State) (reporting : BitVec 5) (storedOk calOk : Bool), if s.booting = false ∨ s.slotRefused = true then exec (.bootComplete reporting storedOk calOk) s = .next s
    else Completes (.bootComplete reporting storedOk calOk) s fun t => t.rd DEV_RESET_CAUSE = s.pw.cause ∧ Claims.counts DEV_RESET_COUNT s t ∧
      t.leg.driven = s.leg.driven ∧ t.pending = s.pending ∧ ((∀ n : Fin 32, s.axState n = axOff) → ∀ n : Fin 32, t.axState n = axOff) ∧
      (t.twState = twCheck → t.dev = .boot ∧ t.pw.bootWait = true ∧ t.served = false) ∧
      (t.twinOn = false → t.twState = twSingle) ∧
      (t.twState ≠ twCheck → t.pw.bootWait = false ∧ t.rd FW_BOOT_FAILS = 0 ∧ t.sec.booted = true ∧ t.served = true ∧
        t.dev = (if s.pw.lockKept = true ∨ reporting ≠ 0 then .locked else if t.rd DEV_SAFE_CAUSES = 0 then .preop else .safe))) ∧
  (∀ s : State, let fails := (s.rd FW_BOOT_FAILS + 1) % 2 ^ 32
    if s.booting = false ∨ (s.slotRefused = false ∧ s.clock < (secU : Int)) then exec .bootFailure s = .next s
    else Completes .bootFailure s fun t => t.dev = .boot ∧ t.pw.bootFailed = true ∧ t.leg.driven &&& s.leg.driven = t.leg.driven ∧
      (if fails < 3 then t.rd FW_BOOT_FAILS = fails ∧ t.rd FW_NEXT_SLOT = s.rd FW_NEXT_SLOT ∧ t.pw.cause = 7 ∧ t.rd FW_ACTIVE_SLOT = s.rd FW_NEXT_SLOT
       else t.rd FW_BOOT_FAILS = 0 ∧ t.rd FW_NEXT_SLOT = 1 - s.rd FW_NEXT_SLOT ∧ t.sec.audit.any (fun r => r.code == 0x0c) = true ∧
         (s.pw.slotFails = 0 → t.pw.cause = 7 ∧ t.rd FW_ACTIVE_SLOT = t.rd FW_NEXT_SLOT) ∧
         (s.pw.slotFails = 1 → t.booting = false ∧ (s.pw.aonUp = true → t.faultN = true) ∧ t.leg = s.leg)))

/-- A lost rail resets the device and holds the reset (R568, R573); its return changes no reset. The end of its span with HV there
is the entry to STANDBY (R594); STANDBY_REQUEST copies the wake settings, releases WAKE_OUT and lapses after 1 s (R595); the
first enabled wake source whose condition holds asserts WAKE_OUT and shows its code (R597). A brownout counts and makes SAFE,
or is the voltage tamper below 0.70 V (R572). The always-on domain starts from reset with MAINS_STATE ABSENT and WAKE_OUT
asserted (R574, R581, R596), and a change of its source resets nothing. Junction temperature is recorded once until it has
fallen below 115 °C (Table PS-8). PORST_N low from a lost rail on, and the refusal of MRAM writes with the state-error code,
are the model's (log entries 59, 52). Each of these completes here, under conditions on the state and the operands alone:
railLoss, standbyEntry, brownout, vaonLoss, standbyRequest, standbyRequestLapse, wake, tjWarning, controlRailUp,
alwaysOnDomainStart, vaonSourceChange, tjWarnClear. -/
def Obligations.RailsAndStandby : Prop :=
  (∀ (s : State) (rail : Fin 5) (volts : BitVec 32) (row : Option (Fin 10)), Completes (.railLoss rail volts row) s fun t =>
    let seen := (row.toList.map (·.val)).filter (fun r => 1 ≤ r && r ≤ 4)
    let fell := if s.pw.fallRow rail = 0 then [] else [s.pw.fallRow rail]
    t.rd (railVolts rail) = volts.toNat ∧
    if at' s.pw.railUp rail = false ∨ railBelow rail volts.toNat = false then
      t.pw = { s.pw with seqRows := if s.pw.aonUp then s.pw.seqRows ++ seen else s.pw.seqRows } ∧ s.frame [railVolts rail] [.regs, .pw] t
    else at' t.pw.railUp rail = false ∧ at' t.pw.railStable rail = false ∧ t.pw.porstLow = true ∧ t.pw.railsUp = false ∧
      (rail = 0 → t.twin.keepers = 0) ∧ (rail ≠ 0 → t.twin.keepers = s.twin.keepers) ∧
      t.pw.seqRows = (if s.pw.aonUp then s.pw.seqRows ++ fell ++ seen else s.pw.seqRows) ∧
      (if s.dev ≠ .standby ∧ s.pw.railsUp = true then Claims.wasReset true 8 [railVolts rail] s t ∧ t.pw.held = true ∧ t.sec.windowOpen = true
       else t.dev = s.dev ∧ t.pw.held = s.pw.held ∧ t.pw.cause = s.pw.cause ∧ s.frame [railVolts rail] [.regs, .pw, .twin] t)) ∧
  (∀ (s : State) (rail : Fin 5) (volts : BitVec 32) (row : Option (Fin 10)), Completes (.controlRailUp rail volts row) s fun t =>
    t.rd (railVolts rail) = volts.toNat ∧
    if railAbove rail volts.toNat = false then t.pw = { s.pw with seqRows := t.pw.seqRows } ∧ s.frame [railVolts rail] [.regs, .pw] t
    else (∀ j : Fin 5, at' t.pw.railUp j = (j == rail || at' s.pw.railUp j)) ∧ at' t.pw.railStable rail = railWithin rail volts.toNat ∧
      t.pw.coreLow = (s.pw.coreLow && rail != 0) ∧ t.pw.ioLow = (s.pw.ioLow && rail != 3) ∧ t.pw.held = s.pw.held ∧ t.pw.porstLow = s.pw.porstLow ∧
      t.pw.releaseAt = (if s.pw.railsUp = false ∧ t.pw.railsUp = true then s.aonClock + ((1000000 * 2 ^ 32 : Nat) : Int) else s.pw.releaseAt) ∧
      Claims.outputsFollow t ∧ s.frame [railVolts rail, DO_STATE] [.regs, .pw, .field] t) ∧
  (∀ s : State, if s.pw.hv = true ∧ s.pw.aonUp = true ∧ s.pw.railsUp = false ∧ s.dev ≠ .standby then Completes .standbyEntry s fun t =>
      t.dev = .standby ∧ t.served = false ∧ Claims.counts STBY_STANDBY_ENTRIES s t ∧ t.rd STBY_LAST_WAKE = 0 ∧ t.pw.standbyUs = 0 ∧
      (∀ p : Fin 4, at' t.pw.entryCount p = toS 32 (s.rd (TRK_TRACK_COUNT p))) ∧ t.faultN = false ∧
      s.frame [DEV_DEVICE_STATE, STBY_STANDBY_ENTRIES, STBY_LAST_WAKE] [.regs, .pw] t
    else exec .standbyEntry s = .next s) ∧
  (∀ (s : State) (rail : Fin 5) (low : BitVec 32), s.dev = .standby ∨ at' s.pw.railUp rail = false ∨ railBelow rail low.toNat = false →
    exec (.brownout rail low) s = .next s) ∧
  (∀ (s : State) (rail : Fin 5) (low : BitVec 32), s.dev ≠ .standby → at' s.pw.railUp rail = true → railBelow rail low.toNat = true →
    (rail = 0 → F.lt low.toNat 0x3f333333 = true → Completes (.brownout rail low) s fun t => t.bitOf TAMP_TAMPER_CAUSES 0 = true ∧
      Claims.counts TAMP_TAMPER_COUNT s t ∧ t.rd RAIL_BROWNOUTS = s.rd RAIL_BROWNOUTS ∧ t.rd DEV_SAFE_CAUSES = s.rd DEV_SAFE_CAUSES ∧
      t.dev = .locked) ∧
    (rail ≠ 0 ∨ F.lt low.toNat 0x3f333333 = false → Completes (.brownout rail low) s fun t => t.bitOf RAIL_STATUS 1 = true ∧
      Claims.counts RAIL_BROWNOUTS s t ∧ t.bitOf DEV_SAFE_CAUSES 2 = true ∧ t.rd TAMP_TAMPER_COUNT = s.rd TAMP_TAMPER_COUNT ∧
      t.dev = (if s.dev = .preop ∨ s.dev = .op then .safe else s.dev) ∧
      (s.dev = .safe ∨ s.dev = .locked → s.recorded t 15 3 rail 0 (pay 16 low.toNat)) ∧
      (s.dev ≠ .preop → s.dev ≠ .op → s.frame ([RAIL_STATUS, RAIL_BROWNOUTS, DEV_SAFE_CAUSES] ++ dropCounters) [.regs, .host] t) ∧
      (s.dev = .boot → t.host = s.host))) ∧
  (∀ (s : State) (w : Wr), let a := s.arrived w
    (s.admits w STBY_STANDBY_REQUEST → w.data.length = 4 →
      (leNat w.data = 0x70656C73 → Written (.standbyRequest w) s w STBY_STANDBY_REQUEST fun u => u.pw.stbyPrep = true ∧ u.pw.wakeOut = false ∧ u.pw.stbyAt = a.clock ∧
        (∀ k ∈ wakeKeys, u.pw.wakeCfg.get k = a.cf k) ∧ u.writeState CAL_SAVE = false ∧ u.writeState FW_IMAGE = false ∧ a.onlyIn [.pw] u) ∧
      (leNat w.data ≠ 0x70656C73 → exec (.standbyRequest w) s = .next (a.denied w STBY_STANDBY_REQUEST cRange))) ∧
    (s.served = true → s.gate w.chan w.session w.reqId w.fresh true = .go → a.held w.chan < 8 → 2 ≤ Role.level (a.writeRole w.session) →
      (a.dev ≠ .preop ∧ a.dev ≠ .safe) ∨ a.dict.storing.isSome = true ∨ a.segWriteOpen = true →
      exec (.standbyRequest w) s = .next (a.denied w STBY_STANDBY_REQUEST cState))) ∧
  (∀ s : State, if s.pw.stbyPrep = true ∧ s.pw.railsUp = true ∧ s.pw.stbyAt + (secU : Int) ≤ s.clock then Completes .standbyRequestLapse s fun t => t.pw.stbyPrep = false ∧
      t.pw.wakeOut = true ∧ s.recorded t 15 0xa 0 0 0 ∧ s.frame dropCounters [.regs, .pw, .host] t
    else exec .standbyRequestLapse s = .next s) ∧
  (∀ (s : State) (source port : Fin 4) (rising : Bool) (us : Nat), let en := s.pw.wakeCfg.get STBY_WAKE_ENABLE
    let win := s.pw.wakeCfg.get (STBY_WAKE_WINDOW port)
    let met : Bool :=
      if source = 0 then rising == (s.pw.wakeCfg.get STBY_WAKE_IN_POLARITY == 0) && decide (10 ≤ us)
      else if source = 1 then
        win != 0 && (at' s.track port).on && (win : Int) ≤ absI (toS 32 (s.rd (TRK_TRACK_COUNT port)) - at' s.pw.entryCount port)
      else if source = 2 then lt96Units (s.pw.wakeCfg.get STBY_ALARM) / crystalU ≤ s.aonUnits / crystalU
      else s.rd TRK_TRACK_LOST != 0
    (s.dev = .standby → s.rd STBY_LAST_WAKE = 0 → en.testBit source = true → met = true → Completes (.wake source ⟨port, rising, us⟩) s fun t =>
      t.rd STBY_LAST_WAKE = source.val + 1 ∧ t.pw.wakeOut = true ∧ t.pw.wakePort = port.val ∧ t.dev = .standby ∧
      s.frame [STBY_LAST_WAKE] [.regs, .pw] t) ∧
    (s.dev ≠ .standby ∨ s.rd STBY_LAST_WAKE ≠ 0 ∨ en.testBit source = false ∨ met = false → exec (.wake source ⟨port, rising, us⟩) s = .next s)) ∧
  (∀ (s : State) (hv crystal : Bool), Completes (.alwaysOnDomainStart hv crystal) s fun t => t.rd MAINS_STATE = 0 ∧ t.pw.wakeOut = true ∧
    t.pw.aonUp = true ∧ t.pw.aonLost = true ∧ t.bitOf RAIL_STATUS 6 = hv ∧ t.bitOf CLKS_CLOCK_STATUS 4 = crystal ∧ t.bitOf CLKS_CLOCK_STATUS 6 = false ∧
    t.rd MAINS_FREQ = 0 ∧ t.rd MAINS_LOSSES = 0 ∧ (∀ p : Fin 4, (at' t.track p).on = false ∧ t.rd (TRK_TRACK_COUNT p) = 0) ∧
    (∀ k, aonObject k = false → t.rd k = s.rd k) ∧ s.onlyIn [.regs, .pw, .track] t) ∧
  (∀ s : State, Completes .vaonLoss s fun t => t.pw.aonUp = false ∧ t.pw.aonLost = true ∧ t.pw.wakeOut = false ∧ t.faultN = false ∧
    t.dev = (if s.dev = .standby then .boot else s.dev) ∧ t.rd MAINS_STATE = 0 ∧ t.rd CLKS_AON_TIME = 0 ∧
    (∀ k, aonObject k = false → k ≠ DEV_DEVICE_STATE → t.rd k = s.rd k) ∧ s.onlyIn [.regs, .pw, .track] t) ∧
  (∀ (s : State) (hv : Bool), Completes (.vaonSourceChange hv) s fun t => t.pw.hv = hv ∧ t.bitOf RAIL_STATUS 6 = hv ∧ t.bitOf MAINS_HV_STATUS 0 = hv ∧
    t.bitOf MAINS_HV_STATUS 3 = (hv && s.on STBY_VSTBY_ENABLE && !s.pw.vstbyOff) ∧ (hv = false → t.rd MAINS_DC_LINK = 0) ∧ t.dev = s.dev ∧
    t.rd MAINS_STATE = s.rd MAINS_STATE ∧ s.frame ([RAIL_STATUS, MAINS_HV_STATUS] ++ if hv then [] else [MAINS_DC_LINK]) [.regs, .pw] t) ∧
  (∀ (s : State) (tj : BitVec 32), Completes (.tjWarning tj) s fun t => let hot := F.lt 0x42f00000 tj.toNat
    t.rd RAIL_TJ = tj.toNat ∧ t.bitOf RAIL_STATUS 5 = (s.bitOf RAIL_STATUS 5 || hot) ∧
    t.rd RAIL_TJ_MAX = (if F.lt (s.rd RAIL_TJ_MAX) tj.toNat then tj.toNat else s.rd RAIL_TJ_MAX) ∧
    (if s.bitOf RAIL_STATUS 5 || !hot || !s.awake then t.host = s.host else s.recorded t 15 8 0 0 (pay 16 tj.toNat)) ∧
    s.frame ([RAIL_TJ, RAIL_TJ_MAX, RAIL_STATUS] ++ dropCounters) [.regs, .host] t) ∧
  (∀ (s : State) (tj : BitVec 32), Completes (.tjWarnClear tj) s fun t => t.rd RAIL_TJ = tj.toNat ∧
    t.bitOf RAIL_STATUS 5 = (s.bitOf RAIL_STATUS 5 && !F.lt tj.toNat 0x42e60000) ∧
    t.rd RAIL_TJ_MAX = (if F.lt (s.rd RAIL_TJ_MAX) tj.toNat then tj.toNat else s.rd RAIL_TJ_MAX) ∧
    s.frame [RAIL_TJ, RAIL_TJ_MAX, RAIL_STATUS] [.regs] t)

/-- A sample of the mains section completes the envelope of the sample before it: the mean of the last 100, each limited to the
largest amplitude of the last 12 ms (R578), MAINS_FREQ from 8 periods (R579), DC_LINK from 5 samples (R580). OK to LOST and
back after the spans of R581, reported to the publishers. VSTBY_5V turns off at an overload and tries again (R583); tracking
is lost while it is low (R584). The crystal is measured, the holdover clock set once per second, and a stopped crystal
recorded at once or at the next boot (R586, R587). That the samples before the first count as zeros is the model's choice.
Each of these completes here, under conditions on the state and the operands alone: mainsSample, mainsLoss, mainsReturn,
vstbyOverload, vstbyRetry, vstbyLow, xt32Window, aonTimeSet, crystalStop. -/
def Obligations.MainsAndClocks : Prop :=
  (∀ (s : State) (raw : BitVec 32), let v := F.add (F.mul (s.calv CALV_MAINS_GAIN) raw.toNat) (s.calv CALV_MAINS_OFFSET)
    let l := s.pw.vLast
    if s.pw.aonUp = false then exec (.mainsSample raw) s = .next s
    else Completes (.mainsSample raw) s fun t => t.pw.vLast = (v :: l).take 1202 ∧
      (l = [] → t.rd MAINS_ENVELOPE = s.rd MAINS_ENVELOPE ∧ t.pw.samples = s.pw.samples) ∧
      (l ≠ [] → t.pw.samples = s.pw.samples + 1 ∧ t.pw.eLast = (t.envelopeOf v l :: s.pw.eLast).take 100 ∧ t.rd MAINS_ENVELOPE = meanF t.pw.eLast 100 ∧
        t.pw.belowRun = (if F.lt (t.rd MAINS_ENVELOPE) (F.mul (s.cf MAINS_LOSS_LEVEL) s.vRef) then s.pw.belowRun + 1 else 0) ∧
        t.pw.aboveRun = (if F.le (F.mul (s.cf MAINS_RETURN_LEVEL) s.vRef) (t.rd MAINS_ENVELOPE) then s.pw.aboveRun + 1 else 0) ∧
        t.pw.lossSpan = (if spans t.pw.belowRun (s.cf MAINS_LOSS_CONFIRM) then
          s.pw.lossSpan.or (some (s.mainsInstant, t.pw.samples, t.rd MAINS_ENVELOPE)) else none) ∧
        t.pw.backSpan = (if spans t.pw.aboveRun (1000 * s.cf MAINS_RETURN_TIME) then s.pw.backSpan.or (some t.pw.samples) else none)) ∧
      t.rd MAINS_DC_LINK = (if s.pw.hv then F.mul (s.cf MAINS_DCLINK_SCALE) (meanF ((t.pw.vLast.take 5).map F.abs) 5) else 0) ∧
      (s.cf MAINS_SUPPLY_KIND = 1 → t.rd MAINS_FREQ = 0) ∧ (t.rd MAINS_FREQ = 0 → t.bitOf MAINS_HV_STATUS 2 = false) ∧
      (s.cf MAINS_SUPPLY_KIND = 0 →
        t.bitOf MAINS_HV_STATUS 2 = (t.rd MAINS_FREQ != 0 && (F.lt (t.rd MAINS_FREQ) 0x42340000 || F.lt 0x42820000 (t.rd MAINS_FREQ))) ∧
        (t.pw.sinceCross = 10000 → t.rd MAINS_FREQ = 0) ∧
        (t.pw.halfPeriods.length = 16 → t.rd MAINS_FREQ = F.rat 800000 t.pw.halfPeriods.sum)) ∧
      t.rd MAINS_STATE = s.rd MAINS_STATE ∧ s.frame [MAINS_ENVELOPE, MAINS_FREQ, MAINS_HV_STATUS, MAINS_DC_LINK] [.regs, .pw] t) ∧
  (∀ (s : State) (report : Bool),
    let told (t : State) : Prop := ∀ q : Fin 4,
      (t.pb q).mainsDue = ((s.pb q).mainsDue || (s.on (PUB_ENABLE q) && s.on (PUB_MAINS_STOP_ENABLE q) && (s.pb q).stop.isNone))
    (s.rd MAINS_STATE ≠ 1 ∨ s.pw.lossSpan = none → if report = true ∧ s.pw.lossDue = true then
        Completes (.mainsLoss report) s fun t => t.pw = { s.pw with lossDue := false } ∧ told t ∧ s.onlyIn [.pw, .pub] t
      else exec (.mainsLoss report) s = .next s) ∧
    ∀ x ∈ s.pw.lossSpan, s.rd MAINS_STATE = 1 → Completes (.mainsLoss report) s fun t =>
      t.rd MAINS_STATE = 2 ∧ Claims.counts MAINS_LOSSES s t ∧ t.rd MAINS_LAST_MAINS_LOSS = s.stampOf x.1 ∧ t.bitOf MAINS_HV_STATUS 5 = true ∧
      t.bitOf MAINS_HV_STATUS 1 = false ∧ t.pw = { s.pw with lostAt := x.2.1, lossDue := !report } ∧
      (if report then told t else t.pub = s.pub) ∧
      (s.awake = true → t.host = (s.recordAt (s.stampOf x.1) 15 1 (s.cf MAINS_SUPPLY_KIND) 0 (pay 16 x.2.2)).host) ∧
      (s.awake = false → t.host = s.host) ∧
      s.frame ([MAINS_STATE, MAINS_LOSSES, MAINS_LAST_MAINS_LOSS, MAINS_HV_STATUS] ++ dropCounters) [.regs, .pw, .host, .pub] t) ∧
  (∀ s : State, (s.rd MAINS_STATE = 1 ∨ s.pw.backSpan = none → exec .mainsReturn s = .next s) ∧
    ∀ n ∈ s.pw.backSpan, s.rd MAINS_STATE ≠ 1 → Completes .mainsReturn s fun t =>
      t.rd MAINS_STATE = 1 ∧ t.bitOf MAINS_HV_STATUS 1 = true ∧ t.rd MAINS_LOSSES = s.rd MAINS_LOSSES ∧
      (s.rd MAINS_STATE = 2 → s.awake = true → s.recorded t 15 2 0 0 (pay 16 ((n - s.pw.lostAt) / 100 % 2 ^ 32))) ∧
      (s.rd MAINS_STATE ≠ 2 ∨ s.awake = false → t.host = s.host) ∧
      s.frame ([MAINS_STATE, MAINS_HV_STATUS] ++ dropCounters) [.regs, .host] t) ∧
  (∀ (s : State) (current : BitVec 32), Completes (.vstbyOverload current) s fun t => t.rd STBY_VSTBY_CURRENT = current.toNat ∧
    if s.bitOf MAINS_HV_STATUS 3 = true ∧ overVstby current.toNat = true then t.bitOf MAINS_HV_STATUS 3 = false ∧ t.bitOf MAINS_HV_STATUS 4 = true ∧ t.pw = { s.pw with vstbyOff := true, vstbyAt := s.aonClock } ∧
      (s.awake = true → s.recorded t 15 5 0 0 (pay 16 current.toNat)) ∧ (s.awake = false → t.host = s.host) ∧
      s.frame ([STBY_VSTBY_CURRENT, MAINS_HV_STATUS] ++ dropCounters) [.regs, .pw, .host] t
    else s.frame [STBY_VSTBY_CURRENT] [.regs] t) ∧
  (∀ a : Nat, (F.lt 0x3f19999a a = true → overVstby a = true) ∧ (F.lt 0x3ee66666 a = false → F.lt 0x3f19999a a = false → overVstby a = false)) ∧
  (∀ s : State, if s.pw.vstbyOff = true ∧ s.pw.vstbyAt + (secU : Int) ≤ s.aonClock then Completes .vstbyRetry s fun t =>
      t.pw = { s.pw with vstbyOff := false } ∧ t.bitOf MAINS_HV_STATUS 3 = (s.pw.hv && s.on STBY_VSTBY_ENABLE) ∧
      s.frame [MAINS_HV_STATUS] [.regs, .pw] t
    else exec .vstbyRetry s = .next s) ∧
  (∀ (s : State) (volts : BitVec 32), Completes (.vstbyLow volts) s fun t => t.rd STBY_VSTBY_VOLTAGE = volts.toNat ∧
    s.frame [STBY_VSTBY_VOLTAGE, TRK_TRACK_LOST] [.regs] t ∧
    ∀ p : Fin 4, t.bitOf TRK_TRACK_LOST p =
      (s.bitOf TRK_TRACK_LOST p || (!s.pw.railsUp && F.lt volts.toNat 0x40900000 && (at' s.track p).on))) ∧
  (∀ (s : State) (rate : BitVec 32), if s.pw.timePllLost = true ∨ s.pw.railsUp = false ∨ s.aonClock < s.pw.xtAt + ((60 * secU : Nat) : Int) then
      exec (.xt32Window rate) s = .next s
    else Completes (.xt32Window rate) s fun t => t.rd CLKS_XT32_RATE = rate.toNat ∧ t.pw = { s.pw with xtAt := s.aonClock } ∧
      t.bitOf CLKS_CLOCK_STATUS 5 = (s.bitOf CLKS_CLOCK_STATUS 5 || s.ltSt == .coarse || s.ltSt == .fine) ∧
      s.frame [CLKS_XT32_RATE, CLKS_CLOCK_STATUS] [.regs, .pw] t) ∧
  (∀ s : State, if s.pw.railsUp = false ∨ s.awake = false ∨ s.aonClock < s.pw.aonAt + (secU : Int) then exec .aonTimeSet s = .next s
    else Completes .aonTimeSet s fun t => t.rd CLKS_AON_TIME = s.time.line.lt96 ∧ t.pw = { s.pw with aonAt := s.aonClock } ∧
      t.bitOf CLKS_CLOCK_STATUS 6 = (s.bitOf CLKS_CLOCK_STATUS 4 || s.bitOf CLKS_CLOCK_STATUS 6) ∧
      s.frame [CLKS_AON_TIME, CLKS_CLOCK_STATUS] [.regs, .pw] t) ∧
  (∀ s : State, Completes .crystalStop s fun t => t.bitOf CLKS_CLOCK_STATUS 4 = false ∧ t.bitOf CLKS_CLOCK_STATUS 6 = false ∧
    (s.awake = true → s.recorded t 15 7 0 0 0 ∧ t.pw = s.pw) ∧
    (s.awake = false → t.host = s.host ∧ t.pw.crystalRec = true) ∧
    s.frame (CLKS_CLOCK_STATUS :: dropCounters) [.regs, .pw, .host] t)

/-- CAL_SAVE snapshots the working copy unless the state or the content forbids it (R604, R605), and CAL_RESULT says why; the set
is in force when its slot is complete (R605). An image is checked in the order of Table NV-5, the first failure refusing it
with nothing written (R608). CAL_DISCARD loads the set in force into the working copy (R606). CAL_EXPORT returns the image of
Table NV-3 (R607). Boot takes the set that verifies, or the defaults with CAL_STATE INVALID (R603). The code of a CAL_SAVE
with a bad entry and CAL_STATE after a save are readings of the model (log entry 46). Each of these completes here, under
conditions on the state and the operands alone: bootComplete, calSave, calSaveComplete, calImport, calDiscard, calExport. -/
def Obligations.CalibrationSet : Prop :=
  (∀ (s : State) (w : Wr), let a := s.arrived w
    (s.served = true → s.gate w.chan w.session w.reqId w.fresh true = .go → a.held w.chan < 8 → 3 ≤ Role.level (a.writeRole w.session) →
      a.dev ≠ .preop ∨ a.dict.storing.isSome = true ∨ a.dict.calSaving.isSome = true ∨ a.axState 0 ∉ [axOff, axReady, axFault] ∨ a.pw.stbyPrep = true →
      exec (.calSave w) s = .next ((a.wr CAL_RESULT 5).denied w CAL_SAVE cState)) ∧
    (s.admits w CAL_SAVE → w.data.length = 4 →
      (leNat w.data ≠ 0x6C616373 → exec (.calSave w) s = .next (a.denied w CAL_SAVE cRange)) ∧
      (leNat w.data = 0x6C616373 → (∃ k ∈ calKeys, calRange k (a.calWork.get k) = false) →
        exec (.calSave w) s = .next ((a.wr CAL_RESULT 4).denied w CAL_SAVE cRange)) ∧
      (leNat w.data = 0x6C616373 → (∀ k ∈ calKeys, calRange k (a.calWork.get k) = true) → Written (.calSave w) s w CAL_SAVE fun u =>
        u.dict = { a.dict with calSaving := some (a.calWork, 1) } ∧ (∀ k ∈ calKeys, a.calWork.get k = a.rd k) ∧
        u.rd CAL_RESULT = 0 ∧ a.frame [CAL_RESULT] [.regs, .dict] u))) ∧
  (∀ s : State, (s.dict.calSaving = none → exec .calSaveComplete s = .next s) ∧
    ∀ x ∈ s.dict.calSaving, Completes .calSaveComplete s fun t =>
      t.dict = { s.dict with calSaving := none, calInForce := x.1, calSlot := 1 - s.dict.calSlot } ∧ t.rd CAL_SOURCE = x.2 ∧
      Claims.counts CAL_WRITES s t ∧ t.rd CAL_STATE = 0 ∧ t.calWork = s.calWork ∧
      s.frame [CAL_SOURCE, CAL_WRITES, CAL_STATE, NV_WORD_WRITES 4, NV_MAX_CYCLES 4, NV_WEAR_WARN] [.regs, .dict] t) ∧
  (∀ (s : State) (w : Wr), let a := s.arrived w
    let b := w.data
    let set := (b.drop 128).take 16384
    let own := (Config.sha384 (leBytes 96 Config.devicePubkey.toNat)).toNat
    let signer := leAt b 24 48
    let no (result code : Nat) : Prop := exec (.calImport w) s = .next ((a.wr CAL_RESULT result).denied w CAL_IMPORT code)
    s.admits w CAL_IMPORT →
      (b.length ≠ 16608 ∨ leAt b 0 4 ≠ 0x4C41434A ∨ leAt b 4 1 ≠ 1 → no 1 cRange) ∧
      (b.length = 16608 → leAt b 0 4 = 0x4C41434A → leAt b 4 1 = 1 →
        (a.calState = false → no 5 cState) ∧
        (a.calState = true →
          (leAt b 8 8 ≠ a.rd ID_SERIAL_64 → no 2 cRange) ∧
          (leAt b 8 8 = a.rd ID_SERIAL_64 →
            (w.vd.sig = false ∨ (signer ≠ own ∧ signer ≠ Config.vendorCaKey.toNat) → no 3 cDenied) ∧
            (w.vd.sig = true → signer = own ∨ signer = Config.vendorCaKey.toNat →
              (leAt set 16380 4 ≠ crc32 (set.take 16380) ∨ calAllIn (calParse set) = false → no 4 cRange) ∧
              (leAt set 16380 4 = crc32 (set.take 16380) → calAllIn (calParse set) = true → Written (.calImport w) s w CAL_IMPORT fun u =>
                u.dict = { a.dict with calSaving := some (calParse set, if signer = own then 3 else 2) } ∧ u.rd CAL_RESULT = 0 ∧
                a.frame [CAL_RESULT] [.regs, .dict] u)))))) ∧
  (∀ (s : State) (w : Wr), let a := s.arrived w
    (s.served = true → s.gate w.chan w.session w.reqId w.fresh true = .go → a.held w.chan < 8 → 3 ≤ Role.level (a.writeRole w.session) → a.dict.calSaving.isSome = true →
      exec (.calDiscard w) s = .next (a.denied w CAL_DISCARD cState)) ∧
    (s.admits w CAL_DISCARD → (w.data = [0] → exec (.calDiscard w) s = .next (a.done w CAL_DISCARD)) ∧
      (w.data = [1] → Written (.calDiscard w) s w CAL_DISCARD fun u => (∀ k ∈ calKeys, u.rd k = a.calv k) ∧ a.frame calKeys [.regs] u))) ∧
  (∀ (s : State) (w : Wr), let a := s.arrived w
    let c : Ctx := { s.ctxOf w (CAL_EXPORT / 256) (CAL_EXPORT % 256) with op := 1 }
    let image := a.calExport
    (s.served = false → exec (.calExport w) s = .next s) ∧
    (s.served = true → s.gate w.chan w.session w.reqId w.fresh true = .go → (8 ≤ a.held w.chan → exec (.calExport w) s = .next ((Claims.busied a).answer c cBusy [])) ∧
      (a.held w.chan < 8 → Role.level (a.readRole w.session) < 1 → exec (.calExport w) s = .next (a.answer c cDenied [])) ∧
      (a.held w.chan < 8 → 1 ≤ Role.level (a.readRole w.session) → exec (.calExport w) s = .next (a.answer c 0 image) ∧
        image.length = 16608 ∧ leAt image 0 4 = 0x4C41434A ∧ (image.drop 128).take 16384 = calBytes a.dict.calInForce (a.rd CAL_WRITES) ∧
        image.drop 16512 = leBytes 96 (Config.deviceSign (image.take 16512)).toNat))) ∧
  (∀ (s : State) (reporting : BitVec 5) (storedOk calOk : Bool), s.booting = true → s.slotRefused = false → Completes (.bootComplete reporting storedOk calOk) s fun t =>
    t.rd CAL_STATE = (if calOk then 0 else 1) ∧ t.dict.calInForce = (if calOk then s.dict.calInForce else []) ∧
    ∀ k ∈ calKeys, t.rd k = t.calv k)
end

