-- ==== Sys2Proof/Laws/Clock.lean ====
section
/-! SUPPORT. The laws of the two clocks: a tick and a count of units show a time in its ranges, and a tick advances a clock by
its increment. -/
namespace Sys2Proof.Machine

theorem Clock.wf_iff (c : Clock) : c.wf = true ↔ c.ns < nsPerSec ∧ c.frac < 2 ^ 32 ∧ c.sec < 2 ^ 48 := by
  simp [Clock.wf, and_assoc]

/-- A clock made from a count of units is in its ranges. -/
theorem Clock.wf_ofUnits (n : Nat) : (Clock.ofUnits n).wf = true := by
  refine (Clock.wf_iff _).mpr ⟨?_, ?_, ?_⟩ <;> exact Nat.mod_lt _ (by decide)

/-- Other seconds leave a clock in its ranges. -/
theorem Clock.wf_withSec {c : Clock} (n : Nat) (h : c.wf = true) : (c.withSec n).wf = true :=
  (Clock.wf_iff _).mpr ⟨((Clock.wf_iff _).mp h).1, ((Clock.wf_iff _).mp h).2.1, Nat.mod_lt _ (by decide)⟩

/-- A tick of less than 64 ns keeps a clock in its ranges. -/
theorem Clock.wf_tick {c : Clock} {inc : Nat} (h : c.wf = true) (hi : inc < 2 ^ 38) : (c.tick inc).wf = true := by
  obtain ⟨h1, h2, h3⟩ := (Clock.wf_iff c).mp h
  simp only [nsPerSec] at h1
  unfold Clock.tick
  dsimp only
  split
  · refine (Clock.wf_iff _).mpr ⟨?_, ?_, ?_⟩ <;> simp only [nsPerSec] at * <;> omega
  · refine (Clock.wf_iff _).mpr ⟨?_, ?_, ?_⟩ <;> simp only [nsPerSec] at * <;> omega

/-- A tick shows less than 64 ns, in line time and free-running. -/
theorem State.tickInc_lt (s : State) : s.tickInc < 2 ^ 38 := by
  unfold State.tickInc
  split
  · decide
  · exact Nat.lt_trans (Nat.mod_lt _ (by decide)) (by decide)

theorem State.tickNs_lt (s : State) : s.tickNs * 2 ^ 32 < 2 ^ 38 := by
  unfold State.tickNs
  split <;> decide

end Sys2Proof.Machine
end

