-- ==== Sys2Proof/Laws/Store.lean ====
section
/-! SUPPORT. The laws of object stores and of memories: a read after a write, every other place left alone, and the canonical
form that every operation keeps. -/
namespace Sys2Proof.Machine

/-! ### Stores -/

theorem Store.find_erase_self (m : Store) (k : Nat) : (m.erase k).find k = none := by
  induction m with
  | nil => rfl
  | cons e t ih =>
    obtain ⟨a, v⟩ := e
    unfold Store.erase
    split
    · exact ih
    · rw [Store.find, if_neg ‹_›, ih]

theorem Store.find_erase_ne (m : Store) {k j : Nat} (h : j ≠ k) : (m.erase k).find j = m.find j := by
  induction m with
  | nil => rfl
  | cons e t ih =>
    obtain ⟨a, v⟩ := e
    unfold Store.erase
    split
    · rw [ih, Store.find, if_neg (by omega)]
    · rw [Store.find, Store.find, ih]

theorem Store.find_put_self (m : Store) (k v : Nat) : (m.put k v).find k = some v := by
  induction m with
  | nil => simp [Store.put, Store.find]
  | cons e t ih =>
    obtain ⟨a, w⟩ := e
    unfold Store.put
    split
    · simp [Store.find]
    · split
      · simp [Store.find, *]
      · rw [Store.find, if_neg ‹_›, ih]

theorem Store.find_put_ne (m : Store) {k j : Nat} (v : Nat) (h : j ≠ k) : (m.put k v).find j = m.find j := by
  induction m with
  | nil => simp [Store.put, Store.find, Ne.symm h]
  | cons e t ih =>
    obtain ⟨a, w⟩ := e
    unfold Store.put
    split
    · rw [Store.find, if_neg (Ne.symm h)]
    · split
      · have : a ≠ j := by omega
        simp [Store.find, this]
      · simp [Store.find, ih]

/-- A store read where it was just set. -/
@[simp] theorem Store.get_set_self (m : Store) (k v : Nat) : (m.set k v).get k = v := by
  unfold Store.set Store.get
  by_cases h : v = dflt k
  · rw [if_pos h, Store.find_erase_self]; exact h.symm
  · rw [if_neg h, Store.find_put_self]

/-- Setting one key leaves the others. -/
theorem Store.get_set_ne (m : Store) {k j : Nat} (v : Nat) (h : j ≠ k) : (m.set k v).get j = m.get j := by
  unfold Store.set Store.get
  by_cases hv : v = dflt k
  · rw [if_pos hv, Store.find_erase_ne m h]
  · rw [if_neg hv, Store.find_put_ne m v h]

theorem Store.get_set (m : Store) (k j v : Nat) : (m.set k v).get j = if j = k then v else m.get j := by
  split
  · subst j; exact Store.get_set_self ..
  · exact Store.get_set_ne m v ‹_›

theorem Store.wfFrom_mono {m : Store} {lo lo' : Nat} (h : lo' ≤ lo) (hm : m.wfFrom lo = true) : m.wfFrom lo' = true := by
  cases m with
  | nil => rfl
  | cons e t =>
    obtain ⟨a, v⟩ := e
    simp [Store.wfFrom] at hm ⊢
    exact ⟨⟨by omega, hm.1.2⟩, hm.2⟩

theorem Store.wfFrom_erase {m : Store} {lo : Nat} (k : Nat) (hm : m.wfFrom lo = true) : (m.erase k).wfFrom lo = true := by
  induction m generalizing lo with
  | nil => rfl
  | cons e t ih =>
    obtain ⟨a, v⟩ := e
    simp [Store.wfFrom] at hm
    unfold Store.erase
    split
    · exact ih (Store.wfFrom_mono (by omega) hm.2)
    · simp [Store.wfFrom, hm.1, ih hm.2]

theorem Store.wfFrom_put {m : Store} {lo k v : Nat} (hk : lo ≤ k) (hv : v ≠ dflt k) (hm : m.wfFrom lo = true) :
    (m.put k v).wfFrom lo = true := by
  induction m generalizing lo with
  | nil => simp [Store.put, Store.wfFrom, hk, hv]
  | cons e t ih =>
    obtain ⟨a, w⟩ := e
    simp [Store.wfFrom] at hm
    unfold Store.put
    split
    · simp [Store.wfFrom, hk, hv, hm]; omega
    · split
      · subst a; simp [Store.wfFrom, hk, hv, hm.2]
      · simp only [Store.wfFrom, hm.1.1, hm.1.2, ne_eq, not_false_eq_true, decide_true, Bool.and_self, Bool.true_and]
        exact ih (by omega) hm.2

/-- Setting a key keeps the canonical form. -/
theorem Store.wf_set {m : Store} (k v : Nat) (h : m.wf = true) : (m.set k v).wf = true := by
  unfold Store.set Store.wf
  split
  · exact Store.wfFrom_erase k h
  · exact Store.wfFrom_put (Nat.zero_le k) ‹_› h

theorem Store.wf_erase {m : Store} (k : Nat) (h : m.wf = true) : (m.erase k).wf = true := Store.wfFrom_erase k h

theorem Store.wfFrom_filter {m : Store} {lo : Nat} (f : Nat × Nat → Bool) (h : m.wfFrom lo = true) :
    Store.wfFrom lo (m.filter f) = true := by
  induction m generalizing lo with
  | nil => rfl
  | cons e t ih =>
    obtain ⟨a, v⟩ := e
    simp [Store.wfFrom] at h
    rw [List.filter_cons]
    split
    · simp [Store.wfFrom, h.1, ih h.2]
    · exact ih (Store.wfFrom_mono (by omega) h.2)

/-- Keeping some of the entries keeps the canonical form. -/
theorem Store.wf_filter {m : Store} (f : Nat × Nat → Bool) (h : m.wf = true) : Store.wf (m.filter f) = true :=
  Store.wfFrom_filter f h

theorem Store.wf_foldl_set {α : Type} (l : List α) (k v : α → Nat) {m : Store} (h : m.wf = true) :
    Store.wf (l.foldl (fun (m : Store) e => m.set (k e) (v e)) m) = true := by
  induction l generalizing m with
  | nil => exact h
  | cons e t ih => exact ih (Store.wf_set _ _ h)

theorem Store.wf_foldl_erase (l : List Nat) {m : Store} (h : m.wf = true) :
    Store.wf (l.foldl (fun (m : Store) k => m.erase k) m) = true := by
  induction l generalizing m with
  | nil => exact h
  | cons e t ih => exact ih (Store.wf_erase _ h)

/-- Merging keeps the canonical form of the store merged into. -/
theorem Store.wf_merge {m : Store} (l : Store) (h : m.wf = true) : (m.merge l).wf = true :=
  Store.wf_foldl_set l (·.1) (·.2) h

/-! ### Memories -/

theorem Memory.read_erase (m : Memory) (k j : Nat) : (m.erase k).read j = if j = k then 0 else m.read j := by
  induction m with
  | nil => simp [Memory.erase, Memory.read]
  | cons e t ih =>
    obtain ⟨a, v⟩ := e
    by_cases ha : a = k <;> by_cases hj : a = j <;> simp_all [Memory.erase, Memory.read] <;> omega

theorem Memory.read_put (m : Memory) (k j : Nat) (v : Byte) : (m.put k v).read j = if j = k then v else m.read j := by
  induction m with
  | nil => simp [Memory.put, Memory.read, eq_comm]
  | cons e t ih =>
    obtain ⟨a, w⟩ := e
    unfold Memory.put
    split
    · simp [Memory.read, eq_comm]
    · by_cases ha : a = k <;> by_cases hj : a = j <;> simp_all [Memory.read] <;> omega

/-- A byte read after a byte was written: the byte written at its address, every other as before. -/
theorem Memory.read_write (m : Memory) (k j : Nat) (v : Byte) : (m.write k v).read j = if j = k then v else m.read j := by
  unfold Memory.write
  split
  · rw [Memory.read_erase, ‹v = 0›]
  · exact Memory.read_put m k j v

/-- Bytes written from `k` on: each is read back at its address, and every byte outside is as before. -/
theorem Memory.read_writeAll (m : Memory) (k j : Nat) (b : Bytes) :
    (m.writeAll k b).read j = if k ≤ j ∧ j < k + b.length then b.getD (j - k) 0 else m.read j := by
  induction b generalizing m k with
  | nil =>
    have h : ¬ (k ≤ j ∧ j < k + ([] : Bytes).length) := by rw [List.length_nil]; omega
    rw [if_neg h, Memory.writeAll]
  | cons x t ih =>
    rw [Memory.writeAll, ih, Memory.read_write, List.length_cons]
    by_cases h : j = k
    · subst h
      have h1 : ¬ (j + 1 ≤ j ∧ j < j + 1 + t.length) := by omega
      have h2 : j ≤ j ∧ j < j + (t.length + 1) := by omega
      rw [if_neg h1, if_pos rfl, if_pos h2, Nat.sub_self]; rfl
    · rw [if_neg h]
      by_cases h2 : k + 1 ≤ j ∧ j < k + 1 + t.length
      · obtain ⟨d, rfl⟩ : ∃ d, j = k + 1 + d := ⟨j - (k + 1), by omega⟩
        have h3 : k ≤ k + 1 + d ∧ k + 1 + d < k + (t.length + 1) := by omega
        have e : k + 1 + d - k = d + 1 := by omega
        have e' : k + 1 + d - (k + 1) = d := by omega
        rw [if_pos h2, if_pos h3, e, e']; rfl
      · have h3 : ¬ (k ≤ j ∧ j < k + (t.length + 1)) := by omega
        rw [if_neg h2, if_neg h3]

theorem Memory.wfFrom_mono {m : Memory} {lo lo' : Nat} (h : lo' ≤ lo) (hm : m.wfFrom lo = true) : m.wfFrom lo' = true := by
  cases m with
  | nil => rfl
  | cons e t =>
    obtain ⟨a, v⟩ := e
    simp [Memory.wfFrom] at hm ⊢
    exact ⟨⟨by omega, hm.1.2⟩, hm.2⟩

theorem Memory.wfFrom_erase {m : Memory} {lo : Nat} (k : Nat) (hm : m.wfFrom lo = true) : (m.erase k).wfFrom lo = true := by
  induction m generalizing lo with
  | nil => rfl
  | cons e t ih =>
    obtain ⟨a, v⟩ := e
    simp [Memory.wfFrom] at hm
    unfold Memory.erase
    split
    · exact ih (Memory.wfFrom_mono (by omega) hm.2)
    · simp [Memory.wfFrom, hm.1, ih hm.2]

theorem Memory.wfFrom_put {m : Memory} {lo k : Nat} {v : Byte} (hk : lo ≤ k) (hv : ¬ v = 0#8) (hm : m.wfFrom lo = true) :
    (m.put k v).wfFrom lo = true := by
  induction m generalizing lo with
  | nil => simp [Memory.put, Memory.wfFrom, hk, hv]
  | cons e t ih =>
    obtain ⟨a, w⟩ := e
    simp [Memory.wfFrom] at hm
    unfold Memory.put
    split
    · simp [Memory.wfFrom, hk, hv, hm]; omega
    · split
      · subst a; simp [Memory.wfFrom, hk, hv, hm.2]
      · simpa [Memory.wfFrom, hm.1] using ih (by omega) hm.2

/-- Writing a byte keeps the canonical form. -/
theorem Memory.wf_write {m : Memory} (k : Nat) (v : Byte) (h : m.wf = true) : (m.write k v).wf = true := by
  unfold Memory.write Memory.wf
  split
  · exact Memory.wfFrom_erase k h
  · exact Memory.wfFrom_put (Nat.zero_le k) ‹_› h

/-- Writing bytes keeps the canonical form. -/
theorem Memory.wf_writeAll {m : Memory} (k : Nat) (b : Bytes) (h : m.wf = true) : (m.writeAll k b).wf = true := by
  induction b generalizing m k with
  | nil => exact h
  | cons x t ih => exact ih _ (Memory.wf_write k x h)

end Sys2Proof.Machine
end

