-- ==== Sys2Proof/Laws/Parts.lean ====
section
/-! SUPPORT. What an operation may change: `Keeps m s t` says that from `s` to `t` only the parts of the mask `m` change, that
the queue stays, and that the canonical forms and the clocks' ranges are kept. One lemma for each operation follows in Ops. -/
namespace Sys2Proof.Machine

/-- The bit of a part in a mask. -/
def Part.idx : Part → Nat
  | .regs => 0
  | .force => 1
  | .blobs => 2
  | .time => 3
  | .net => 4
  | .pw => 5
  | .sec => 6
  | .dict => 7
  | .host => 8
  | .leg => 9
  | .cell => 10
  | .axis => 11
  | .port => 12
  | .latch => 13
  | .emu => 14
  | .track => 15
  | .field => 16
  | .casc => 17
  | .sub => 18
  | .pub => 19
  | .tableRam => 20
  | .tableLen => 21
  | .acq => 22
  | .sp => 23
  | .twin => 24
  | .can => 25
  | .acqRam => 26
  | .out => 27
  | .pending => 28

/-- Only parts of the mask change, and the invariants are kept. -/
structure Keeps (m : Nat) (s t : State) : Prop where
  same : ∀ p : Part, m.testBit p.idx = false → p.same s t
  canonical : s.canonical = true → t.canonical = true
  clocks : s.clocksWf = true → t.clocksWf = true

theorem Part.same_trans {p : Part} {s t u : State} (h : p.same s t) (k : p.same t u) : p.same s u := by
  cases p <;> exact Eq.trans k h

theorem Keeps.refl (m : Nat) (s : State) : Keeps m s s :=
  ⟨fun p _ => by cases p <;> rfl, id, id⟩

/-- An operation after others. -/
theorem Keeps.lift {m n : Nat} {s t u : State} (h : Keeps n t u) (hm : n ||| m = m) (k : Keeps m s t) : Keeps m s u where
  same p hp := by
    refine Part.same_trans (k.same p hp) (h.same p ?_)
    rw [← hm, Nat.testBit_or, Bool.or_eq_false_iff] at hp
    exact hp.1
  canonical hs := h.canonical (k.canonical hs)
  clocks hs := h.clocks (k.clocks hs)

theorem Keeps.ite {m : Nat} {s a b : State} {c : Prop} [Decidable c] (ha : Keeps m s a) (hb : Keeps m s b) :
    Keeps m s (if c then a else b) := by
  split
  · exact ha
  · exact hb

theorem Keeps.of_eq {m : Nat} {s a b : State} (e : a = b) (h : Keeps m s a) : Keeps m s b := e ▸ h

/-- A loop keeps what each turn keeps. -/
theorem Keeps.each {α : Type} {m : Nat} {s t : State} {l : List α} {f : State → α → State} (h : Keeps m s t)
    (hf : ∀ t a, Keeps m s t → Keeps m s (f t a)) : Keeps m s (each l t f) := by
  unfold Machine.each
  induction l generalizing t with
  | nil => exact h
  | cons a l ih => exact ih (hf t a h)

theorem Keeps.foldl {α : Type} {m : Nat} {s t : State} {l : List α} {f : State → α → State} (h : Keeps m s t)
    (hf : ∀ t a, Keeps m s t → Keeps m s (f t a)) : Keeps m s (l.foldl f t) := Keeps.each h hf

/-- A loop that carries a state first. -/
theorem Keeps.foldlFst {α β : Type} {m : Nat} {s : State} {l : List α} {f : State × β → α → State × β} {x : State × β}
    (h : Keeps m s x.1) (hf : ∀ x a, Keeps m s x.1 → Keeps m s (f x a).1) : Keeps m s (l.foldl f x).1 := by
  induction l generalizing x with
  | nil => exact h
  | cons a l ih => exact ih (hf x a h)

/-- A command's outcome is a next state, and what the command keeps. -/
def Runs (m : Nat) (s : State) (o : Host.Outcome State Fault Refusal) : Prop := ∃ t, o = .next t ∧ Keeps m s t

theorem Runs.next {m : Nat} {s t : State} (h : Keeps m s t) : Runs m s (.next t) := ⟨t, rfl, h⟩

theorem Runs.ite {m : Nat} {s : State} {a b : Host.Outcome State Fault Refusal} {c : Prop} [Decidable c] (ha : Runs m s a)
    (hb : Runs m s b) : Runs m s (if c then a else b) := by
  split
  · exact ha
  · exact hb

theorem State.canonical_iff (s : State) : s.canonical = true ↔ Store.wf s.regs = true ∧ Store.wf s.force = true ∧
    Memory.wf s.tableRam = true ∧ Memory.wf s.acqRam = true ∧
    (Memory.wf s.host.mbxRequest = true ∧ Memory.wf s.host.mbxResponse = true ∧ Memory.wf s.host.mirror = true) ∧
    (∀ m, s.dict.committing = some m → Store.wf m = true) := by
  unfold State.canonical
  cases s.dict.committing <;> simp [and_assoc]

theorem State.clocksWf_iff (s : State) : s.clocksWf = true ↔ s.time.line.wf = true ∧ s.time.free.wf = true := by
  simp [State.clocksWf]

/-! ### One part replaced -/

theorem Keeps.setRegs (x : State) (v : Store) (hv : x.canonical = true → Store.wf v = true) :
    Keeps 1 x { x with regs := v } where
  same p hp := by cases p <;> first | rfl | exact absurd hp (by decide)
  canonical hs := by
    have h := (State.canonical_iff _).mp hs
    have k := hv hs
    refine (State.canonical_iff _).mpr ?_
    simp_all
  clocks hs := hs

theorem Keeps.setForce (x : State) (v : Store) (hv : x.canonical = true → Store.wf v = true) :
    Keeps 2 x { x with force := v } where
  same p hp := by cases p <;> first | rfl | exact absurd hp (by decide)
  canonical hs := by
    have h := (State.canonical_iff _).mp hs
    have k := hv hs
    refine (State.canonical_iff _).mpr ?_
    simp_all
  clocks hs := hs

theorem Keeps.setBlobs (x : State) (v : List (Nat × Bytes)) : Keeps 4 x { x with blobs := v } where
  same p hp := by cases p <;> first | rfl | exact absurd hp (by decide)
  canonical hs := hs
  clocks hs := hs

theorem Keeps.setTime (x : State) (v : TimeSt) (hv : x.clocksWf = true → v.line.wf = true ∧ v.free.wf = true) :
    Keeps 8 x { x with time := v } where
  same p hp := by cases p <;> first | rfl | exact absurd hp (by decide)
  canonical hs := hs
  clocks hs := (State.clocksWf_iff _).mpr (hv hs)

theorem Keeps.setNet (x : State) (v : Switch) : Keeps 16 x { x with net := v } where
  same p hp := by cases p <;> first | rfl | exact absurd hp (by decide)
  canonical hs := hs
  clocks hs := hs

theorem Keeps.setPw (x : State) (v : Power) : Keeps 32 x { x with pw := v } where
  same p hp := by cases p <;> first | rfl | exact absurd hp (by decide)
  canonical hs := hs
  clocks hs := hs

theorem Keeps.setSec (x : State) (v : Secure) : Keeps 64 x { x with sec := v } where
  same p hp := by cases p <;> first | rfl | exact absurd hp (by decide)
  canonical hs := hs
  clocks hs := hs

theorem Keeps.setDict (x : State) (v : Dict) (hv : x.canonical = true → ∀ m, v.committing = some m → Store.wf m = true) :
    Keeps 128 x { x with dict := v } where
  same p hp := by cases p <;> first | rfl | exact absurd hp (by decide)
  canonical hs := by
    have h := (State.canonical_iff _).mp hs
    have k := hv hs
    refine (State.canonical_iff _).mpr ?_
    simp_all
  clocks hs := hs

theorem Keeps.setHost (x : State) (v : HostSt) (hv : x.canonical = true → Memory.wf v.mbxRequest = true ∧ Memory.wf v.mbxResponse = true ∧ Memory.wf v.mirror = true) :
    Keeps 256 x { x with host := v } where
  same p hp := by cases p <;> first | rfl | exact absurd hp (by decide)
  canonical hs := by
    have h := (State.canonical_iff _).mp hs
    have k := hv hs
    refine (State.canonical_iff _).mpr ?_
    simp_all
  clocks hs := hs

theorem Keeps.setLeg (x : State) (v : LegSt) : Keeps 512 x { x with leg := v } where
  same p hp := by cases p <;> first | rfl | exact absurd hp (by decide)
  canonical hs := hs
  clocks hs := hs

theorem Keeps.setCell (x : State) (v : Vector CellSt 16) : Keeps 1024 x { x with cell := v } where
  same p hp := by cases p <;> first | rfl | exact absurd hp (by decide)
  canonical hs := hs
  clocks hs := hs

theorem Keeps.setAxis (x : State) (v : Vector AxisSt 32) : Keeps 2048 x { x with axis := v } where
  same p hp := by cases p <;> first | rfl | exact absurd hp (by decide)
  canonical hs := hs
  clocks hs := hs

theorem Keeps.setPort (x : State) (v : Vector PortSt 16) : Keeps 4096 x { x with port := v } where
  same p hp := by cases p <;> first | rfl | exact absurd hp (by decide)
  canonical hs := hs
  clocks hs := hs

theorem Keeps.setLatch (x : State) (v : Vector LatchSt 16) : Keeps 8192 x { x with latch := v } where
  same p hp := by cases p <;> first | rfl | exact absurd hp (by decide)
  canonical hs := hs
  clocks hs := hs

theorem Keeps.setEmu (x : State) (v : Vector EmuSt 4) : Keeps 16384 x { x with emu := v } where
  same p hp := by cases p <;> first | rfl | exact absurd hp (by decide)
  canonical hs := hs
  clocks hs := hs

theorem Keeps.setTrack (x : State) (v : Vector TrackSt 4) : Keeps 32768 x { x with track := v } where
  same p hp := by cases p <;> first | rfl | exact absurd hp (by decide)
  canonical hs := hs
  clocks hs := hs

theorem Keeps.setField (x : State) (v : FieldSt) : Keeps 65536 x { x with field := v } where
  same p hp := by cases p <;> first | rfl | exact absurd hp (by decide)
  canonical hs := hs
  clocks hs := hs

theorem Keeps.setCasc (x : State) (v : Vector CascSt 16) : Keeps 131072 x { x with casc := v } where
  same p hp := by cases p <;> first | rfl | exact absurd hp (by decide)
  canonical hs := hs
  clocks hs := hs

theorem Keeps.setSub (x : State) (v : Vector SubSt 8) : Keeps 262144 x { x with sub := v } where
  same p hp := by cases p <;> first | rfl | exact absurd hp (by decide)
  canonical hs := hs
  clocks hs := hs

theorem Keeps.setPub (x : State) (v : Vector PubSt 4) : Keeps 524288 x { x with pub := v } where
  same p hp := by cases p <;> first | rfl | exact absurd hp (by decide)
  canonical hs := hs
  clocks hs := hs

theorem Keeps.setTableRam (x : State) (v : Memory) (hv : x.canonical = true → Memory.wf v = true) :
    Keeps 1048576 x { x with tableRam := v } where
  same p hp := by cases p <;> first | rfl | exact absurd hp (by decide)
  canonical hs := by
    have h := (State.canonical_iff _).mp hs
    have k := hv hs
    refine (State.canonical_iff _).mpr ?_
    simp_all
  clocks hs := hs

theorem Keeps.setTableLen (x : State) (v : Vector (Option Nat) 80) : Keeps 2097152 x { x with tableLen := v } where
  same p hp := by cases p <;> first | rfl | exact absurd hp (by decide)
  canonical hs := hs
  clocks hs := hs

theorem Keeps.setAcq (x : State) (v : AcqSt) : Keeps 4194304 x { x with acq := v } where
  same p hp := by cases p <;> first | rfl | exact absurd hp (by decide)
  canonical hs := hs
  clocks hs := hs

theorem Keeps.setSp (x : State) (v : Vector SpSt 2) : Keeps 8388608 x { x with sp := v } where
  same p hp := by cases p <;> first | rfl | exact absurd hp (by decide)
  canonical hs := hs
  clocks hs := hs

theorem Keeps.setTwin (x : State) (v : TwinSt) : Keeps 16777216 x { x with twin := v } where
  same p hp := by cases p <;> first | rfl | exact absurd hp (by decide)
  canonical hs := hs
  clocks hs := hs

theorem Keeps.setCan (x : State) (v : Vector CanSt 4) : Keeps 33554432 x { x with can := v } where
  same p hp := by cases p <;> first | rfl | exact absurd hp (by decide)
  canonical hs := hs
  clocks hs := hs

theorem Keeps.setAcqRam (x : State) (v : Memory) (hv : x.canonical = true → Memory.wf v = true) :
    Keeps 67108864 x { x with acqRam := v } where
  same p hp := by cases p <;> first | rfl | exact absurd hp (by decide)
  canonical hs := by
    have h := (State.canonical_iff _).mp hs
    have k := hv hs
    refine (State.canonical_iff _).mpr ?_
    simp_all
  clocks hs := hs

theorem Keeps.setOut (x : State) (v : List Output) : Keeps 134217728 x { x with out := v } where
  same p hp := by cases p <;> first | rfl | exact absurd hp (by decide)
  canonical hs := hs
  clocks hs := hs

end Sys2Proof.Machine
end

