-- ==== Sys2Proof/Laws/KeepsField.lean ====
section
/-! SUPPORT. What the operations of the shared operations, legs, feedback, homing, latches, the field section and device states keep: one lemma for each, with the mask of the parts that the
operation may change. -/
namespace Sys2Proof.Machine
open Sys2Proof Obj

theorem State.wr_keeps (s) (k) (v) : Keeps 1 s (State.wr s k v) := by
  have h0 := Keeps.refl 1 s
  unfold State.wr
  refine (Keeps.setRegs _ _ ?_).lift rfl ?_
  · exact fun h => Store.wf_set _ _ ((State.canonical_iff _).mp h).1
  · assumption

theorem State.wrForce_keeps (s) (k) (v) : Keeps 2 s (State.wrForce s k v) := by
  have h0 := Keeps.refl 2 s
  unfold State.wrForce
  refine (Keeps.setForce _ _ ?_).lift rfl ?_
  · exact fun h => Store.wf_set _ _ ((State.canonical_iff _).mp h).2.1
  · assumption

theorem State.bump_keeps (s) (k) : Keeps 1 s (State.bump s k) := by
  have h0 := Keeps.refl 1 s
  unfold State.bump
  refine (State.wr_keeps _ _ _).lift rfl ?_
  assumption

theorem State.setBit_keeps (s) (k) (i) : Keeps 1 s (State.setBit s k i) := by
  have h0 := Keeps.refl 1 s
  unfold State.setBit
  refine (State.wr_keeps _ _ _).lift rfl ?_
  assumption

theorem State.clrBit_keeps (s) (k) (i) : Keeps 1 s (State.clrBit s k i) := by
  have h0 := Keeps.refl 1 s
  unfold State.clrBit
  refine (State.wr_keeps _ _ _).lift rfl ?_
  assumption

theorem State.putBit_keeps (s) (k) (i) (b) : Keeps 1 s (State.putBit s k i b) := by
  have h0 := Keeps.refl 1 s
  unfold State.putBit
  refine (State.wr_keeps _ _ _).lift rfl ?_
  assumption

theorem State.wrPos_keeps (s) (k) (v) : Keeps 1 s (State.wrPos s k v) := by
  have h0 := Keeps.refl 1 s
  unfold State.wrPos
  refine (State.wr_keeps _ _ _).lift rfl ?_
  assumption

theorem State.wrSat_keeps (s) (k) (v) : Keeps 1 s (State.wrSat s k v) := by
  have h0 := Keeps.refl 1 s
  unfold State.wrSat
  refine (State.wr_keeps _ _ _).lift rfl ?_
  assumption

theorem State.wrBlob_keeps (s) (k) (b) : Keeps 4 s (State.wrBlob s k b) := by
  have h0 := Keeps.refl 4 s
  unfold State.wrBlob
  lift_lets -underBinder
  intro v1
  refine Keeps.ite ?_ ?_
  · refine (Keeps.setBlobs _ _).lift rfl ?_
    assumption
  · refine (Keeps.setBlobs _ _).lift rfl ?_
    assumption

theorem State.modAx_keeps (s) (n) (f) : Keeps 2048 s (State.modAx s n f) := by
  have h0 := Keeps.refl 2048 s
  unfold State.modAx
  refine (Keeps.setAxis _ _).lift rfl ?_
  assumption

theorem State.modCl_keeps (s) (n) (f) : Keeps 1024 s (State.modCl s n f) := by
  have h0 := Keeps.refl 1024 s
  unfold State.modCl
  refine (Keeps.setCell _ _).lift rfl ?_
  assumption

theorem State.modPt_keeps (s) (n) (f) : Keeps 4096 s (State.modPt s n f) := by
  have h0 := Keeps.refl 4096 s
  unfold State.modPt
  refine (Keeps.setPort _ _).lift rfl ?_
  assumption

theorem State.modLu_keeps (s) (n) (f) : Keeps 8192 s (State.modLu s n f) := by
  have h0 := Keeps.refl 8192 s
  unfold State.modLu
  refine (Keeps.setLatch _ _).lift rfl ?_
  assumption

theorem State.modEm_keeps (s) (n) (f) : Keeps 16384 s (State.modEm s n f) := by
  have h0 := Keeps.refl 16384 s
  unfold State.modEm
  refine (Keeps.setEmu _ _).lift rfl ?_
  assumption

theorem State.emit_keeps (s) (o) : Keeps 134217728 s (State.emit s o) := by
  have h0 := Keeps.refl 134217728 s
  unfold State.emit
  refine (Keeps.setOut _ _).lift rfl ?_
  assumption

theorem State.stage_keeps (s) (r) : Keeps 257 s (State.stage s r) := by
  have h0 := Keeps.refl 257 s
  unfold State.stage
  lift_lets -underBinder
  intro v1
  intro v2
  intro v3
  have h4 : Keeps 257 s v3 := by
    subst v3
    refine (State.bump_keeps _ _).lift rfl ?_
    assumption
  clear_value v3
  refine Keeps.ite ?_ ?_
  · assumption
  · refine Keeps.ite ?_ ?_
    · refine (Keeps.setHost _ _ ?_).lift rfl ?_
      · exact fun h => ((State.canonical_iff _).mp h).2.2.2.2.1
      · assumption
    · refine Keeps.ite ?_ ?_
      · refine (Keeps.setHost _ _ ?_).lift rfl ?_
        · exact fun h => ((State.canonical_iff _).mp h).2.2.2.2.1
        · assumption
      · refine (Keeps.setHost _ _ ?_).lift rfl ?_
        · exact fun h => ((State.canonical_iff _).mp h).2.2.2.2.1
        · assumption

theorem State.recordAt_keeps (s) (stamp) (cls) (code) (detail) (index) (payload) : Keeps 257 s (State.recordAt s stamp cls code detail index payload) := by
  have h0 := Keeps.refl 257 s
  unfold State.recordAt
  refine (State.stage_keeps _ _).lift rfl ?_
  assumption

theorem State.record_keeps (s) (cls) (code) (detail) (index) (payload) : Keeps 257 s (State.record s cls code detail index payload) := by
  have h0 := Keeps.refl 257 s
  unfold State.record
  refine (State.recordAt_keeps _ _ _ _ _ _ _).lift rfl ?_
  assumption

theorem State.wear_keeps (s) (r) (w) : Keeps 1 s (State.wear s r w) := by
  have h0 := Keeps.refl 1 s
  unfold State.wear
  lift_lets -underBinder
  intro v1
  have h2 : Keeps 1 s v1 := by
    subst v1
    refine (State.wr_keeps _ _ _).lift rfl ?_
    assumption
  clear_value v1
  intro v3
  have h4 : Keeps 1 s v3 := by
    subst v3
    refine (State.bump_keeps _ _).lift rfl ?_
    assumption
  clear_value v3
  refine Keeps.ite ?_ ?_
  · refine (State.setBit_keeps _ _ _).lift rfl ?_
    assumption
  · assumption

theorem State.audit_keeps (s) (code) (typ) (result) (session) : Keeps 321 s (State.audit s code typ result session) := by
  have h0 := Keeps.refl 321 s
  unfold State.audit
  lift_lets -underBinder
  intro v1
  intro v2
  intro v3
  intro v4
  intro v5
  intro v6
  have h7 : Keeps 321 s v6 := by
    subst v6
    refine (Keeps.setSec _ _).lift rfl ?_
    assumption
  clear_value v6
  refine (State.stage_keeps _ _).lift rfl ?_
  refine (State.wear_keeps _ _ _).lift rfl ?_
  refine (State.bump_keeps _ _).lift rfl ?_
  assumption

theorem State.acqEvent_keeps (s) (typ) (src) (pol) (t) : Keeps 4194304 s (State.acqEvent s typ src pol t) := by
  have h0 := Keeps.refl 4194304 s
  unfold State.acqEvent
  lift_lets -underBinder
  intro v1
  intro v2
  refine Keeps.ite ?_ ?_
  · assumption
  · refine (Keeps.setAcq _ _).lift rfl ?_
    assumption

theorem okRes_keeps (s) : Keeps 0 s (Res.st (okRes s)) := by
  have h0 := Keeps.refl 0 s
  unfold okRes
  dsimp -zeta only
  assumption

theorem refuse_keeps (s) (c) : Keeps 0 s (Res.st (refuse s c)) := by
  have h0 := Keeps.refl 0 s
  unfold refuse
  dsimp -zeta only
  assumption

theorem State.leaveLegs_keeps (s) (n) : Keeps 512 s (State.leaveLegs s n) := by
  have h0 := Keeps.refl 512 s
  unfold State.leaveLegs
  lift_lets -underBinder
  intro v1
  intro v2
  refine (Keeps.setLeg _ _).lift rfl ?_
  assumption

theorem State.fenceNow_keeps (s) (m) : Keeps 512 s (State.fenceNow s m) := by
  have h0 := Keeps.refl 512 s
  unfold State.fenceNow
  refine (Keeps.setLeg _ _).lift rfl ?_
  assumption

theorem State.fenceAll_keeps (s) : Keeps 512 s (State.fenceAll s) := by
  have h0 := Keeps.refl 512 s
  unfold State.fenceAll
  refine (State.fenceNow_keeps _ _).lift rfl ?_
  assumption

theorem State.fenceAtReload_keeps (s) (m) : Keeps 512 s (State.fenceAtReload s m) := by
  have h0 := Keeps.refl 512 s
  unfold State.fenceAtReload
  refine (Keeps.setLeg _ _).lift rfl ?_
  assumption

theorem State.unfence_keeps (s) (m) : Keeps 512 s (State.unfence s m) := by
  have h0 := Keeps.refl 512 s
  unfold State.unfence
  refine (Keeps.setLeg _ _).lift rfl ?_
  assumption

theorem State.reloadLeg_keeps (s) (peak) (l) : Keeps 513 s (State.reloadLeg s peak l) := by
  have h0 := Keeps.refl 513 s
  unfold State.reloadLeg
  lift_lets -underBinder
  intro v1
  have h2 : Keeps 513 s v1 := by
    subst v1
    split
    · lift_lets -underBinder
      intro v6
      have h7 : Keeps 513 s v6 := by
        subst v6
        refine (State.wr_keeps _ _ _).lift rfl ?_
        assumption
      clear_value v6
      intro v8
      refine (Keeps.setLeg _ _).lift rfl ?_
      assumption
    · assumption
  clear_value v1
  intro v11
  intro v12
  intro v13
  refine (Keeps.setLeg _ _).lift rfl ?_
  assumption

theorem State.waveOn_keeps (s) (peak) (l) : Keeps 512 s (State.waveOn s peak l) := by
  have h0 := Keeps.refl 512 s
  unfold State.waveOn
  refine (Keeps.setLeg _ _).lift rfl ?_
  assumption

theorem State.takeTaps_keeps (s) (g) : Keeps 512 s (State.takeTaps s g) := by
  have h0 := Keeps.refl 512 s
  unfold State.takeTaps
  refine Keeps.ite ?_ ?_
  · refine (Keeps.setLeg _ _).lift rfl ?_
    assumption
  · assumption

theorem State.reload_keeps (s) (g) (peak) : Keeps 513 s (State.reload s g peak) := by
  have h0 := Keeps.refl 513 s
  unfold State.reload
  lift_lets -underBinder
  intro v1
  have h2 : Keeps 513 s v1 := by
    subst v1
    refine Keeps.ite ?_ ?_
    · assumption
    · refine (State.takeTaps_keeps _ _).lift rfl ?_
      assumption
  clear_value v1
  intro v3
  intro v4
  intro v5
  have h6 : Keeps 513 s v5 := by
    subst v5
    refine Keeps.each ?_ (fun t7 a8 h9 => ?_)
    · assumption
    · refine (State.reloadLeg_keeps _ _ _).lift rfl ?_
      assumption
  clear_value v5
  refine Keeps.each ?_ (fun t10 a11 h12 => ?_)
  · assumption
  · refine (State.waveOn_keeps _ _ _).lift rfl ?_
    assumption

theorem execReload_keeps (g) (peak) (s) : Runs 513 s (execReload g peak s) := by
  have h0 := Keeps.refl 513 s
  unfold execReload
  refine Runs.next ?_
  refine Keeps.ite ?_ ?_
  · refine (State.reload_keeps _ _ _).lift rfl ?_
    assumption
  · assumption

theorem State.loadAll_keeps (s) : Keeps 513 s (State.loadAll s) := by
  have h0 := Keeps.refl 513 s
  unfold State.loadAll
  lift_lets -underBinder
  intro v1
  intro v2
  intro v3
  have h4 : Keeps 513 s v3 := by
    subst v3
    refine Keeps.each ?_ (fun t5 a6 h7 => ?_)
    · assumption
    · refine (State.bump_keeps _ _).lift rfl ?_
      assumption
  clear_value v3
  intro v8
  have h9 : Keeps 513 s v8 := by
    subst v8
    refine Keeps.each ?_ (fun t10 a11 h12 => ?_)
    · assumption
    · refine (State.bump_keeps _ _).lift rfl ?_
      assumption
  clear_value v8
  intro v13
  intro v14
  intro v15
  have h16 : Keeps 513 s v15 := by
    subst v15
    refine (State.wr_keeps _ _ _).lift rfl ?_
    assumption
  clear_value v15
  intro v17
  refine (Keeps.setLeg _ _).lift rfl ?_
  assumption

theorem State.loadTransfer_keeps (s) (g) (valley) : Keeps 513 s (State.loadTransfer s g valley) := by
  have h0 := Keeps.refl 513 s
  unfold State.loadTransfer
  lift_lets -underBinder
  intro v1
  intro v2
  intro v3
  intro v4
  have h5 : Keeps 513 s v4 := by
    subst v4
    refine Keeps.ite ?_ ?_
    · assumption
    · refine (Keeps.setLeg _ _).lift rfl ?_
      assumption
  clear_value v4
  intro v6
  have h7 : Keeps 513 s v6 := by
    subst v6
    refine Keeps.each ?_ (fun t8 a9 h10 => ?_)
    · assumption
    · refine (State.wr_keeps _ _ _).lift rfl ?_
      assumption
  clear_value v6
  intro v11
  have h12 : Keeps 513 s v11 := by
    subst v11
    refine (State.clrBit_keeps _ _ _).lift rfl ?_
    refine (State.wr_keeps _ _ _).lift rfl ?_
    assumption
  clear_value v11
  refine Keeps.ite ?_ ?_
  · assumption
  · refine Keeps.ite ?_ ?_
    · assumption
    · refine Keeps.each ?_ (fun t13 a14 h15 => ?_)
      · assumption
      · refine (State.waveOn_keeps _ _ _).lift rfl ?_
        assumption

theorem execLoadTransfer_keeps (g) (valley) (s) : Runs 513 s (execLoadTransfer g valley s) := by
  have h0 := Keeps.refl 513 s
  unfold execLoadTransfer
  refine Runs.next ?_
  refine (State.loadTransfer_keeps _ _ _).lift rfl ?_
  assumption

theorem State.directEnable_keeps (s) (l) (v) : Keeps 513 s (Res.st (State.directEnable s l v)) := by
  have h0 := Keeps.refl 513 s
  unfold State.directEnable
  split
  · dsimp -zeta only [refuse]
    assumption
  · lift_lets -underBinder
    intro v3
    have h4 : Keeps 513 s v3 := by
      subst v3
      refine (State.wr_keeps _ _ _).lift rfl ?_
      assumption
    clear_value v3
    dsimp -zeta only [okRes]
    refine Keeps.ite ?_ ?_
    · refine (State.unfence_keeps _ _).lift rfl ?_
      assumption
    · assumption

theorem State.tripLevels_keeps (s) : Keeps 1 s (State.tripLevels s) := by
  have h0 := Keeps.refl 1 s
  unfold State.tripLevels
  refine (State.wr_keeps _ _ _).lift rfl ?_
  assumption

theorem State.clearTrips_keeps (s) (m) : Keeps 1 s (State.clearTrips s m) := by
  have h0 := Keeps.refl 1 s
  unfold State.clearTrips
  refine (State.wr_keeps _ _ _).lift rfl ?_
  assumption

theorem State.clearOc_keeps (s) (m) : Keeps 1 s (State.clearOc s m) := by
  have h0 := Keeps.refl 1 s
  unfold State.clearOc
  refine (State.wr_keeps _ _ _).lift rfl ?_
  assumption

theorem State.clearMod_keeps (s) (m) : Keeps 1 s (State.clearMod s m) := by
  have h0 := Keeps.refl 1 s
  unfold State.clearMod
  refine (State.wr_keeps _ _ _).lift rfl ?_
  assumption

theorem State.delayLine_keeps (s) (spans) (tap) : Keeps 769 s (State.delayLine s spans tap) := by
  have h0 := Keeps.refl 769 s
  unfold State.delayLine
  lift_lets -underBinder
  intro v1
  intro v2
  have h3 : Keeps 769 s v2 := by
    subst v2
    refine (State.wr_keeps _ _ _).lift rfl ?_
    refine (State.bump_keeps _ _).lift rfl ?_
    refine (State.wr_keeps _ _ _).lift rfl ?_
    assumption
  clear_value v2
  intro v4
  have h5 : Keeps 769 s v4 := by
    subst v4
    refine Keeps.ite ?_ ?_
    · refine (State.record_keeps _ _ _ _ _ _).lift rfl ?_
      assumption
    · assumption
  clear_value v4
  intro v6
  refine (Keeps.setLeg _ _).lift rfl ?_
  assumption

theorem execDelayLineCalibration_keeps (spans) (tap) (s) : Runs 769 s (execDelayLineCalibration spans tap s) := by
  have h0 := Keeps.refl 769 s
  unfold execDelayLineCalibration
  refine Runs.next ?_
  refine (State.delayLine_keeps _ _ _).lift rfl ?_
  assumption

theorem State.modCn_keeps (s) (c) (f) : Keeps 33554432 s (State.modCn s c f) := by
  have h0 := Keeps.refl 33554432 s
  unfold State.modCn
  refine (Keeps.setCan _ _).lift rfl ?_
  assumption

theorem State.canSend_keeps (s) (c) (id) (data) : Keeps 33554433 s (State.canSend s c id data) := by
  have h0 := Keeps.refl 33554433 s
  unfold State.canSend
  refine Keeps.ite ?_ ?_
  · assumption
  · refine Keeps.ite ?_ ?_
    · refine (State.bump_keeps _ _).lift rfl ?_
      assumption
    · refine (State.modCn_keeps _ _ _).lift rfl ?_
      assumption

theorem State.canFresh_keeps (s) (c) (id) (t) : Keeps 33554432 s (Prod.fst (State.canFresh s c id t)) := by
  have h0 := Keeps.refl 33554432 s
  unfold State.canFresh
  lift_lets -underBinder
  intro v1
  intro v2
  intro v3
  dsimp -zeta only
  refine (State.modCn_keeps _ _ _).lift rfl ?_
  assumption

theorem State.setPoint_keeps (s) (n) (x) : Keeps 1 s (State.setPoint s n x) := by
  have h0 := Keeps.refl 1 s
  unfold State.setPoint
  refine (State.wrSat_keeps _ _ _).lift rfl ?_
  refine (State.wrSat_keeps _ _ _).lift rfl ?_
  refine (State.wrPos_keeps _ _ _).lift rfl ?_
  assumption

theorem State.setAx_keeps (s) (n) (st) : Keeps 515 s (State.setAx s n st) := by
  have h0 := Keeps.refl 515 s
  unfold State.setAx
  lift_lets -underBinder
  intro v1
  have h2 : Keeps 515 s v1 := by
    subst v1
    refine Keeps.ite ?_ ?_
    · refine (State.wrForce_keeps _ _ _).lift rfl ?_
      refine (State.wr_keeps _ _ _).lift rfl ?_
      refine (State.leaveLegs_keeps _ _).lift rfl ?_
      assumption
    · assumption
  clear_value v1
  refine (State.wr_keeps _ _ _).lift rfl ?_
  assumption

theorem State.setMode_keeps (s) (n) (m) : Keeps 1 s (State.setMode s n m) := by
  have h0 := Keeps.refl 1 s
  unfold State.setMode
  refine (State.wr_keeps _ _ _).lift rfl ?_
  assumption

theorem State.takeType_keeps (s) (n) : Keeps 2048 s (State.takeType s n) := by
  have h0 := Keeps.refl 2048 s
  unfold State.takeType
  lift_lets -underBinder
  intro v1
  refine (State.modAx_keeps _ _ _).lift rfl ?_
  assumption

theorem State.endHoming_keeps (s) (n) (res) : Keeps 2305 s (State.endHoming s n res) := by
  have h0 := Keeps.refl 2305 s
  unfold State.endHoming
  refine Keeps.ite ?_ ?_
  · lift_lets -underBinder
    intro v1
    have h2 : Keeps 2305 s v1 := by
      subst v1
      refine (State.wr_keeps _ _ _).lift rfl ?_
      refine (State.wr_keeps _ _ _).lift rfl ?_
      assumption
    clear_value v1
    intro v3
    have h4 : Keeps 2305 s v3 := by
      subst v3
      refine (State.modAx_keeps _ _ _).lift rfl ?_
      assumption
    clear_value v3
    refine (State.record_keeps _ _ _ _ _ _).lift rfl ?_
    assumption
  · assumption

theorem State.flushQueue_keeps (s) (n) : Keeps 2049 s (State.flushQueue s n) := by
  have h0 := Keeps.refl 2049 s
  unfold State.flushQueue
  refine (State.wr_keeps _ _ _).lift rfl ?_
  refine (State.modAx_keeps _ _ _).lift rfl ?_
  assumption

theorem State.endFollow_keeps (s) (n) : Keeps 2049 s (State.endFollow s n) := by
  have h0 := Keeps.refl 2049 s
  unfold State.endFollow
  refine Keeps.ite ?_ ?_
  · refine (State.modAx_keeps _ _ _).lift rfl ?_
    refine (State.wr_keeps _ _ _).lift rfl ?_
    refine (State.wr_keeps _ _ _).lift rfl ?_
    assumption
  · assumption

theorem State.dropMotion_keeps (s) (n) : Keeps 2305 s (State.dropMotion s n) := by
  have h0 := Keeps.refl 2305 s
  unfold State.dropMotion
  refine (State.endFollow_keeps _ _).lift rfl ?_
  refine (State.endHoming_keeps _ _ _).lift rfl ?_
  refine (State.flushQueue_keeps _ _).lift rfl ?_
  assumption

theorem State.startStop_keeps (s) (n) (dec) (after) (kind) : Keeps 2563 s (State.startStop s n dec after kind) := by
  have h0 := Keeps.refl 2563 s
  unfold State.startStop
  lift_lets -underBinder
  intro v1
  intro v2
  intro v3
  have h4 : Keeps 2563 s v3 := by
    subst v3
    refine (State.modAx_keeps _ _ _).lift rfl ?_
    assumption
  clear_value v3
  intro v5
  have h6 : Keeps 2563 s v5 := by
    subst v5
    refine (State.setMode_keeps _ _ _).lift rfl ?_
    assumption
  clear_value v5
  refine Keeps.ite ?_ ?_
  · assumption
  · refine (State.setAx_keeps _ _ _).lift rfl ?_
    assumption

theorem State.afterStop_keeps (s) (n) (after) : Keeps 2048 s (State.afterStop s n after) := by
  have h0 := Keeps.refl 2048 s
  unfold State.afterStop
  refine (State.modAx_keeps _ _ _).lift rfl ?_
  assumption

theorem State.rest_keeps (s) (n) : Keeps 2049 s (State.rest s n) := by
  have h0 := Keeps.refl 2049 s
  unfold State.rest
  lift_lets -underBinder
  intro v1
  refine (State.modAx_keeps _ _ _).lift rfl ?_
  refine (State.setPoint_keeps _ _ _).lift rfl ?_
  refine (State.setMode_keeps _ _ _).lift rfl ?_
  assumption

theorem State.arise_keeps (s) (n) (c) : Keeps 2049 s (State.arise s n c) := by
  have h0 := Keeps.refl 2049 s
  unfold State.arise
  lift_lets -underBinder
  intro v1
  intro v2
  intro v3
  have h4 : Keeps 2049 s v3 := by
    subst v3
    refine (State.setBit_keeps _ _ _).lift rfl ?_
    assumption
  clear_value v3
  refine Keeps.ite ?_ ?_
  · refine (State.modAx_keeps _ _ _).lift rfl ?_
    refine (State.wr_keeps _ _ _).lift rfl ?_
    assumption
  · refine Keeps.ite ?_ ?_
    · refine (State.wr_keeps _ _ _).lift rfl ?_
      assumption
    · assumption

theorem State.clearCauses_keeps (s) (n) : Keeps 1 s (State.clearCauses s n) := by
  have h0 := Keeps.refl 1 s
  unfold State.clearCauses
  refine Keeps.ite ?_ ?_
  · refine (State.wr_keeps _ _ _).lift rfl ?_
    refine (State.wr_keeps _ _ _).lift rfl ?_
    assumption
  · assumption

theorem State.enterFault_keeps (s) (n) : Keeps 4197123 s (State.enterFault s n) := by
  have h0 := Keeps.refl 4197123 s
  unfold State.enterFault
  lift_lets -underBinder
  intro v1
  have h2 : Keeps 4197123 s v1 := by
    subst v1
    refine (State.dropMotion_keeps _ _).lift rfl ?_
    assumption
  clear_value v1
  intro v3
  have h4 : Keeps 4197123 s v3 := by
    subst v3
    refine (State.setAx_keeps _ _ _).lift rfl ?_
    refine (State.rest_keeps _ _).lift rfl ?_
    assumption
  clear_value v3
  intro v5
  have h6 : Keeps 4197123 s v5 := by
    subst v5
    refine (State.bump_keeps _ _).lift rfl ?_
    refine (State.modAx_keeps _ _ _).lift rfl ?_
    assumption
  clear_value v5
  refine (State.acqEvent_keeps _ _ _ _ _).lift rfl ?_
  refine (State.record_keeps _ _ _ _ _ _).lift rfl ?_
  assumption

theorem State.faultA_keeps (s) (n) (c) : Keeps 4197123 s (State.faultA s n c) := by
  have h0 := Keeps.refl 4197123 s
  unfold State.faultA
  refine Keeps.ite ?_ ?_
  · refine (State.arise_keeps _ _ _).lift rfl ?_
    assumption
  · refine (State.enterFault_keeps _ _).lift rfl ?_
    refine (State.arise_keeps _ _ _).lift rfl ?_
    assumption

theorem State.raiseB_keeps (s) (n) (c) : Keeps 2049 s (State.raiseB s n c) := by
  have h0 := Keeps.refl 2049 s
  unfold State.raiseB
  refine Keeps.ite ?_ ?_
  · assumption
  · refine (State.modAx_keeps _ _ _).lift rfl ?_
    refine (State.arise_keeps _ _ _).lift rfl ?_
    assumption

theorem State.takeB_keeps (s) (n) : Keeps 4197123 s (State.takeB s n) := by
  have h0 := Keeps.refl 4197123 s
  unfold State.takeB
  lift_lets -underBinder
  intro v1
  intro v2
  have h3 : Keeps 4197123 s v2 := by
    subst v2
    refine (State.modAx_keeps _ _ _).lift rfl ?_
    assumption
  clear_value v2
  intro v4
  have h5 : Keeps 4197123 s v4 := by
    subst v4
    refine (State.setAx_keeps _ _ _).lift rfl ?_
    refine (State.dropMotion_keeps _ _).lift rfl ?_
    assumption
  clear_value v4
  refine Keeps.ite ?_ ?_
  · assumption
  · refine Keeps.ite ?_ ?_
    · refine (State.enterFault_keeps _ _).lift rfl ?_
      assumption
    · refine (State.startStop_keeps _ _ _ _ _).lift rfl ?_
      assumption

theorem State.toReady_keeps (s) (n) : Keeps 2819 s (State.toReady s n) := by
  have h0 := Keeps.refl 2819 s
  unfold State.toReady
  refine (State.clearCauses_keeps _ _).lift rfl ?_
  refine (State.setAx_keeps _ _ _).lift rfl ?_
  refine (State.rest_keeps _ _).lift rfl ?_
  refine (State.dropMotion_keeps _ _).lift rfl ?_
  assumption

theorem State.toOff_keeps (s) (n) : Keeps 2819 s (State.toOff s n) := by
  have h0 := Keeps.refl 2819 s
  unfold State.toOff
  refine (State.clearCauses_keeps _ _).lift rfl ?_
  refine (State.modAx_keeps _ _ _).lift rfl ?_
  refine (State.setAx_keeps _ _ _).lift rfl ?_
  refine (State.rest_keeps _ _).lift rfl ?_
  refine (State.dropMotion_keeps _ _).lift rfl ?_
  assumption

theorem State.axesSafe_keeps (s) : Keeps 4197123 s (State.axesSafe s) := by
  have h0 := Keeps.refl 4197123 s
  unfold State.axesSafe
  refine Keeps.each ?_ (fun t1 a2 h3 => ?_)
  · assumption
  · refine Keeps.ite ?_ ?_
    · refine (State.faultA_keeps _ _ _).lift rfl ?_
      assumption
    · assumption

theorem State.controlledStop_keeps (s) (n) : Keeps 2819 s (State.controlledStop s n) := by
  have h0 := Keeps.refl 2819 s
  unfold State.controlledStop
  refine Keeps.ite ?_ ?_
  · assumption
  · refine Keeps.ite ?_ ?_
    · refine (State.setAx_keeps _ _ _).lift rfl ?_
      assumption
    · lift_lets -underBinder
      intro v1
      intro v2
      intro v3
      have h4 : Keeps 2819 s v3 := by
        subst v3
        refine (State.setAx_keeps _ _ _).lift rfl ?_
        refine (State.dropMotion_keeps _ _).lift rfl ?_
        assumption
      clear_value v3
      refine Keeps.ite ?_ ?_
      · refine (State.afterStop_keeps _ _ _).lift rfl ?_
        assumption
      · refine (State.startStop_keeps _ _ _ _ _).lift rfl ?_
        assumption

theorem State.holdBack_keeps (s) (n) (c) : Keeps 2048 s (State.holdBack s n c) := by
  have h0 := Keeps.refl 2048 s
  unfold State.holdBack
  lift_lets -underBinder
  intro v1
  refine (State.modAx_keeps _ _ _).lift rfl ?_
  assumption

theorem State.axisLocked_keeps (s) (n) : Keeps 2819 s (State.axisLocked s n) := by
  have h0 := Keeps.refl 2819 s
  unfold State.axisLocked
  refine Keeps.ite ?_ ?_
  · refine (State.toOff_keeps _ _).lift rfl ?_
    assumption
  · refine Keeps.ite ?_ ?_
    · refine (State.holdBack_keeps _ _ _).lift rfl ?_
      assumption
    · refine (State.controlledStop_keeps _ _).lift rfl ?_
      assumption

theorem State.axesLocked_keeps (s) : Keeps 2819 s (State.axesLocked s) := by
  have h0 := Keeps.refl 2819 s
  unfold State.axesLocked
  refine Keeps.each ?_ (fun t1 a2 h3 => ?_)
  · assumption
  · refine (State.axisLocked_keeps _ _).lift rfl ?_
    assumption

theorem State.axesReleased_keeps (s) : Keeps 2819 s (State.axesReleased s) := by
  have h0 := Keeps.refl 2819 s
  unfold State.axesReleased
  refine Keeps.each ?_ (fun t1 a2 h3 => ?_)
  · assumption
  · refine Keeps.ite ?_ ?_
    · refine (State.toReady_keeps _ _).lift rfl ?_
      assumption
    · assumption

theorem State.trackCopy_keeps (s) (p) : Keeps 1 s (State.trackCopy s p) := by
  have h0 := Keeps.refl 1 s
  unfold State.trackCopy
  refine Keeps.ite ?_ ?_
  · refine (State.wr_keeps _ _ _).lift rfl ?_
    assumption
  · assumption

theorem State.shiftPort_keeps (s) (p) (t) (d) : Keeps 4097 s (State.shiftPort s p t d) := by
  have h0 := Keeps.refl 4097 s
  unfold State.shiftPort
  refine (State.trackCopy_keeps _ _).lift rfl ?_
  refine (State.modPt_keeps _ _ _).lift rfl ?_
  assumption

theorem State.shiftAxis_keeps (s) (n) (t) (d) : Keeps 4097 s (State.shiftAxis s n t d) := by
  have h0 := Keeps.refl 4097 s
  unfold State.shiftAxis
  split
  · refine (State.wrPos_keeps _ _ _).lift rfl ?_
    refine (State.shiftPort_keeps _ _ _ _).lift rfl ?_
    assumption
  · assumption

theorem State.setReferenced_keeps (s) (p) : Keeps 1 s (State.setReferenced s p) := by
  have h0 := Keeps.refl 1 s
  unfold State.setReferenced
  lift_lets -underBinder
  intro v1
  have h2 : Keeps 1 s v1 := by
    subst v1
    refine (State.clrBit_keeps _ _ _).lift rfl ?_
    refine (State.setBit_keeps _ _ _).lift rfl ?_
    assumption
  clear_value v1
  refine Keeps.ite ?_ ?_
  · refine (State.clrBit_keeps _ _ _).lift rfl ?_
    assumption
  · assumption

theorem State.quadEdge_keeps (s) (p) (isB) (level) (t) : Keeps 4097 s (State.quadEdge s p isB level t) := by
  have h0 := Keeps.refl 4097 s
  unfold State.quadEdge
  lift_lets -underBinder
  intro v1
  intro v2
  intro v3
  have h4 : Keeps 4097 s v3 := by
    subst v3
    refine (State.modPt_keeps _ _ _).lift rfl ?_
    assumption
  clear_value v3
  intro v5
  intro v6
  intro v7
  have h8 : Keeps 4097 s v7 := by
    subst v7
    refine (State.modPt_keeps _ _ _).lift rfl ?_
    assumption
  clear_value v7
  intro v9
  refine Keeps.ite ?_ ?_
  · assumption
  · refine Keeps.ite ?_ ?_
    · assumption
    · refine Keeps.ite ?_ ?_
      · refine (State.trackCopy_keeps _ _).lift rfl ?_
        refine (State.bump_keeps _ _).lift rfl ?_
        refine (State.setBit_keeps _ _ _).lift rfl ?_
        assumption
      · refine (State.trackCopy_keeps _ _).lift rfl ?_
        refine (State.modPt_keeps _ _ _).lift rfl ?_
        assumption

theorem execQuadTransition_keeps (p) (isB) (l) (off) (s) : Runs 4097 s (execQuadTransition p isB l off s) := by
  have h0 := Keeps.refl 4097 s
  unfold execQuadTransition
  refine Runs.next ?_
  split
  · refine (State.quadEdge_keeps _ _ _ _ _).lift rfl ?_
    assumption
  · assumption

theorem State.takeSample_keeps (s) (p) (ts) (x) (v) : Keeps 4097 s (State.takeSample s p ts x v) := by
  have h0 := Keeps.refl 4097 s
  unfold State.takeSample
  lift_lets -underBinder
  intro v1
  have h2 : Keeps 4097 s v1 := by
    subst v1
    refine (State.modPt_keeps _ _ _).lift rfl ?_
    assumption
  clear_value v1
  intro v3
  have h4 : Keeps 4097 s v3 := by
    subst v3
    refine (State.wrPos_keeps _ _ _).lift rfl ?_
    assumption
  clear_value v3
  split
  · refine (State.wr_keeps _ _ _).lift rfl ?_
    refine (State.wrSat_keeps _ _ _).lift rfl ?_
    refine (State.wrPos_keeps _ _ _).lift rfl ?_
    assumption
  · assumption

theorem State.sampleQuad_keeps (s) (p) (ts) : Keeps 4097 s (State.sampleQuad s p ts) := by
  have h0 := Keeps.refl 4097 s
  unfold State.sampleQuad
  lift_lets -underBinder
  intro v1
  split
  · lift_lets -underBinder
    intro v5
    refine (State.takeSample_keeps _ _ _ _ _).lift rfl ?_
    assumption
  · assumption

theorem State.sampleAxis_keeps (s) (n) (ts) : Keeps 6145 s (State.sampleAxis s n ts) := by
  have h0 := Keeps.refl 6145 s
  unfold State.sampleAxis
  lift_lets -underBinder
  intro v1
  have h2 : Keeps 6145 s v1 := by
    subst v1
    refine (State.modAx_keeps _ _ _).lift rfl ?_
    assumption
  clear_value v1
  split
  · refine Keeps.ite ?_ ?_
    · refine (State.sampleQuad_keeps _ _ _).lift rfl ?_
      assumption
    · assumption
  · assumption

theorem State.deviate_keeps (s) (p) (n) (idx) (t) (dev) (tol) : Keeps 6401 s (State.deviate s p n idx t dev tol) := by
  have h0 := Keeps.refl 6401 s
  unfold State.deviate
  lift_lets -underBinder
  intro v1
  intro v2
  intro v3
  have h4 : Keeps 6401 s v3 := by
    subst v3
    refine Keeps.ite ?_ ?_
    · refine (State.wrPos_keeps _ _ _).lift rfl ?_
      assumption
    · assumption
  clear_value v3
  intro v5
  intro v6
  have h7 : Keeps 6401 s v6 := by
    subst v6
    refine (State.bump_keeps _ _).lift rfl ?_
    refine (State.setBit_keeps _ _ _).lift rfl ?_
    assumption
  clear_value v6
  intro v8
  have h9 : Keeps 6401 s v8 := by
    subst v8
    subst v5
    dsimp -zeta only
    refine (State.recordAt_keeps _ _ _ _ _ _ _).lift rfl ?_
    assumption
  clear_value v8
  refine Keeps.ite ?_ ?_
  · subst v5
    dsimp -zeta only
    refine (State.recordAt_keeps _ _ _ _ _ _ _).lift rfl ?_
    refine (State.bump_keeps _ _).lift rfl ?_
    refine (State.shiftPort_keeps _ _ _ _).lift rfl ?_
    refine (State.modPt_keeps _ _ _).lift rfl ?_
    assumption
  · refine Keeps.ite ?_ ?_
    · subst v5
      dsimp -zeta only
      refine (State.recordAt_keeps _ _ _ _ _ _ _).lift rfl ?_
      assumption
    · refine Keeps.ite ?_ ?_
      · refine (State.raiseB_keeps _ _ _).lift rfl ?_
        assumption
      · assumption

theorem State.ssiError_keeps (s) (p) : Keeps 1 s (State.ssiError s p) := by
  have h0 := Keeps.refl 1 s
  unfold State.ssiError
  refine (State.bump_keeps _ _).lift rfl ?_
  refine (State.setBit_keeps _ _ _).lift rfl ?_
  assumption

theorem State.ssiSample_keeps (s) (p) (high) (bits) (ts) : Keeps 4097 s (State.ssiSample s p high bits ts) := by
  have h0 := Keeps.refl 4097 s
  unfold State.ssiSample
  lift_lets -underBinder
  intro v1
  intro v2
  intro v3
  split
  · lift_lets -underBinder
    intro v6
    intro v7
    have h8 : Keeps 4097 s v7 := by
      subst v7
      refine (State.modPt_keeps _ _ _).lift rfl ?_
      refine (State.ssiError_keeps _ _).lift rfl ?_
      assumption
    clear_value v7
    intro v9
    have h10 : Keeps 4097 s v9 := by
      subst v9
      refine Keeps.ite ?_ ?_
      · refine (State.clrBit_keeps _ _ _).lift rfl ?_
        assumption
      · assumption
    clear_value v9
    refine (State.takeSample_keeps _ _ _ _ _).lift rfl ?_
    assumption
  · lift_lets -underBinder
    intro v14
    intro v15
    intro v16
    have h17 : Keeps 4097 s v16 := by
      subst v16
      refine (State.modPt_keeps _ _ _).lift rfl ?_
      assumption
    clear_value v16
    intro v18
    refine (State.takeSample_keeps _ _ _ _ _).lift rfl ?_
    refine (State.setReferenced_keeps _ _).lift rfl ?_
    refine (State.setBit_keeps _ _ _).lift rfl ?_
    assumption

theorem State.hybridRef_keeps (s) (p) (high) (bits) : Keeps 4097 s (State.hybridRef s p high bits) := by
  have h0 := Keeps.refl 4097 s
  unfold State.hybridRef
  lift_lets -underBinder
  intro v1
  split
  · refine (State.ssiError_keeps _ _).lift rfl ?_
    assumption
  · lift_lets -underBinder
    intro v7
    intro v8
    have h9 : Keeps 4097 s v8 := by
      subst v8
      refine (State.modPt_keeps _ _ _).lift rfl ?_
      assumption
    clear_value v8
    refine (State.setReferenced_keeps _ _).lift rfl ?_
    refine (State.setBit_keeps _ _ _).lift rfl ?_
    refine (State.shiftPort_keeps _ _ _ _).lift rfl ?_
    assumption

theorem execHybridReference_keeps (p) (w) (clock) (s) : Runs 4097 s (execHybridReference p w clock s) := by
  have h0 := Keeps.refl 4097 s
  unfold execHybridReference
  refine Runs.next ?_
  refine Keeps.ite ?_ ?_
  · refine (State.hybridRef_keeps _ _ _ _).lift rfl ?_
    assumption
  · assumption

theorem State.hybridCheck_keeps (s) (p) (high) (bits) : Keeps 6401 s (State.hybridCheck s p high bits) := by
  have h0 := Keeps.refl 6401 s
  unfold State.hybridCheck
  split
  · refine (State.ssiError_keeps _ _).lift rfl ?_
    assumption
  · lift_lets -underBinder
    intro v6
    intro v7
    intro v8
    intro v9
    split
    · refine (State.deviate_keeps _ _ _ _ _ _ _).lift rfl ?_
      assumption
    · assumption

theorem execHybridCheck_keeps (p) (w) (clock) (s) : Runs 6401 s (execHybridCheck p w clock s) := by
  have h0 := Keeps.refl 6401 s
  unfold execHybridCheck
  refine Runs.next ?_
  refine Keeps.ite ?_ ?_
  · refine (State.hybridCheck_keeps _ _ _ _).lift rfl ?_
    assumption
  · assumption

theorem State.scEstimate_keeps (s) (p) (dq) (a) (b) : Keeps 4097 s (State.scEstimate s p dq a b) := by
  have h0 := Keeps.refl 4097 s
  unfold State.scEstimate
  refine Keeps.ite ?_ ?_
  · refine (State.modPt_keeps _ _ _).lift rfl ?_
    refine (State.wr_keeps _ _ _).lift rfl ?_
    assumption
  · lift_lets -underBinder
    intro v1
    intro v2
    intro v3
    intro v4
    intro v5
    have h6 : Keeps 4097 s v5 := by
      subst v5
      refine (State.modPt_keeps _ _ _).lift rfl ?_
      assumption
    clear_value v5
    intro v7
    have h8 : Keeps 4097 s v7 := by
      subst v7
      refine Keeps.ite ?_ ?_
      · refine (State.wr_keeps _ _ _).lift rfl ?_
        refine (State.wr_keeps _ _ _).lift rfl ?_
        refine (State.wr_keeps _ _ _).lift rfl ?_
        refine (State.wr_keeps _ _ _).lift rfl ?_
        assumption
      · assumption
    clear_value v7
    intro v9
    intro v10
    have h11 : Keeps 4097 s v10 := by
      subst v10
      refine (State.modPt_keeps _ _ _).lift rfl ?_
      assumption
    clear_value v10
    refine (State.wr_keeps _ _ _).lift rfl ?_
    assumption

theorem State.scConvert_keeps (s) (p) (c) : Keeps 4097 s (State.scConvert s p c) := by
  have h0 := Keeps.refl 4097 s
  unfold State.scConvert
  split
  split
  lift_lets -underBinder
  intro v9
  intro v10
  intro v11
  intro v12
  intro v13
  intro v14
  intro v15
  intro v16
  intro v17
  intro v18
  intro v19
  have h20 : Keeps 4097 s v19 := by
    subst v19
    refine (State.modPt_keeps _ _ _).lift rfl ?_
    assumption
  clear_value v19
  intro v21
  have h22 : Keeps 4097 s v21 := by
    subst v21
    refine Keeps.ite ?_ ?_
    · refine (State.clrBit_keeps _ _ _).lift rfl ?_
      refine (State.setBit_keeps _ _ _).lift rfl ?_
      assumption
    · assumption
  clear_value v21
  intro v23
  have h24 : Keeps 4097 s v23 := by
    subst v23
    refine Keeps.ite ?_ ?_
    · assumption
    · refine (State.clrBit_keeps _ _ _).lift rfl ?_
      refine (State.setBit_keeps _ _ _).lift rfl ?_
      assumption
  clear_value v23
  intro v25
  have h26 : Keeps 4097 s v25 := by
    subst v25
    refine Keeps.ite ?_ ?_
    · refine (State.setBit_keeps _ _ _).lift rfl ?_
      assumption
    · assumption
  clear_value v25
  intro v27
  have h28 : Keeps 4097 s v27 := by
    subst v27
    refine (State.scEstimate_keeps _ _ _ _ _).lift rfl ?_
    assumption
  clear_value v27
  intro v29
  intro v30
  refine Keeps.ite ?_ ?_
  · refine (State.takeSample_keeps _ _ _ _ _).lift rfl ?_
    assumption
  · assumption

theorem State.indexEvent_keeps (s) (p) (t) : Keeps 6401 s (State.indexEvent s p t) := by
  have h0 := Keeps.refl 6401 s
  unfold State.indexEvent
  lift_lets -underBinder
  intro v1
  have h2 : Keeps 6401 s v1 := by
    subst v1
    refine (State.wr_keeps _ _ _).lift rfl ?_
    assumption
  clear_value v1
  split
  · assumption
  · lift_lets -underBinder
    intro v8
    have h9 : Keeps 6401 s v8 := by
      subst v8
      refine (State.bump_keeps _ _).lift rfl ?_
      assumption
    clear_value v8
    intro v10
    intro v11
    have h12 : Keeps 6401 s v11 := by
      subst v11
      refine (State.modPt_keeps _ _ _).lift rfl ?_
      assumption
    clear_value v11
    intro v13
    intro v14
    have h15 : Keeps 6401 s v14 := by
      subst v14
      refine (State.shiftPort_keeps _ _ _ _).lift rfl ?_
      assumption
    clear_value v14
    intro v16
    refine Keeps.ite ?_ ?_
    · refine Keeps.ite ?_ ?_
      · refine (State.recordAt_keeps _ _ _ _ _ _ _).lift rfl ?_
        refine (State.setReferenced_keeps _ _).lift rfl ?_
        assumption
      · assumption
    · refine Keeps.ite ?_ ?_
      · split
        · refine (State.modPt_keeps _ _ _).lift rfl ?_
          assumption
        · lift_lets -underBinder
          intro v22
          intro v23
          intro v24
          refine (State.deviate_keeps _ _ _ _ _ _ _).lift rfl ?_
          assumption
      · assumption

theorem State.indexArm_keeps (s) (n) : Keeps 4096 s (State.indexArm s n) := by
  have h0 := Keeps.refl 4096 s
  unfold State.indexArm
  split
  · refine (State.modPt_keeps _ _ _).lift rfl ?_
    assumption
  · assumption

theorem State.trackLost_keeps (s) (p) : Keeps 1 s (State.trackLost s p) := by
  have h0 := Keeps.refl 1 s
  unfold State.trackLost
  refine (State.setBit_keeps _ _ _).lift rfl ?_
  assumption

theorem State.trackOne_keeps (s) (a) (b) (p) : Keeps 32769 s (State.trackOne s a b p) := by
  have h0 := Keeps.refl 32769 s
  unfold State.trackOne
  lift_lets -underBinder
  intro v1
  intro v2
  intro v3
  intro v4
  intro v5
  intro v6
  intro v7
  intro v8
  have h9 : Keeps 32769 s v8 := by
    subst v8
    refine Keeps.ite ?_ ?_
    · refine (State.wr_keeps _ _ _).lift rfl ?_
      assumption
    · assumption
  clear_value v8
  intro v10
  have h11 : Keeps 32769 s v10 := by
    subst v10
    refine (Keeps.setTrack _ _).lift rfl ?_
    assumption
  clear_value v10
  refine Keeps.ite ?_ ?_
  · refine (State.trackLost_keeps _ _).lift rfl ?_
    assumption
  · assumption

theorem State.aonTick_keeps (s) : Keeps 32 s (State.aonTick s) := by
  have h0 := Keeps.refl 32 s
  unfold State.aonTick
  refine (Keeps.setPw _ _).lift rfl ?_
  assumption

theorem execTrackerSample_keeps (a) (b) (s) : Runs 32801 s (execTrackerSample a b s) := by
  have h0 := Keeps.refl 32801 s
  unfold execTrackerSample
  refine Runs.next ?_
  refine Keeps.ite ?_ ?_
  · refine Keeps.ite ?_ ?_
    · refine Keeps.each ?_ (fun t1 a2 h3 => ?_)
      · assumption
      · refine (State.trackCopy_keeps _ _).lift rfl ?_
        assumption
    · assumption
  · lift_lets -underBinder
    intro v4
    have h5 : Keeps 32801 s v4 := by
      subst v4
      refine (State.aonTick_keeps _).lift rfl ?_
      assumption
    clear_value v4
    refine Keeps.each ?_ (fun t6 a7 h8 => ?_)
    · assumption
    · refine Keeps.ite ?_ ?_
      · refine (State.trackOne_keeps _ _ _ _).lift rfl ?_
        assumption
      · assumption

theorem State.trackStart_keeps (s) : Keeps 32769 s (State.trackStart s) := by
  have h0 := Keeps.refl 32769 s
  unfold State.trackStart
  lift_lets -underBinder
  intro v1
  intro v2
  have h3 : Keeps 32769 s v2 := by
    subst v2
    refine Keeps.ite ?_ ?_
    · refine Keeps.each ?_ (fun t4 a5 h6 => ?_)
      · assumption
      · refine (State.trackCopy_keeps _ _).lift rfl ?_
        assumption
    · assumption
  clear_value v2
  refine (Keeps.setTrack _ _).lift rfl ?_
  assumption

theorem State.trackRestore_keeps (s) : Keeps 4353 s (State.trackRestore s) := by
  have h0 := Keeps.refl 4353 s
  unfold State.trackRestore
  refine Keeps.each ?_ (fun t1 a2 h3 => ?_)
  · assumption
  · refine Keeps.ite ?_ ?_
    · lift_lets -underBinder
      intro v4
      intro v5
      have h6 : Keeps 4353 s v5 := by
        subst v5
        refine (State.modPt_keeps _ _ _).lift rfl ?_
        assumption
      clear_value v5
      refine Keeps.ite ?_ ?_
      · refine (State.record_keeps _ _ _ _ _ _).lift rfl ?_
        refine (State.clrBit_keeps _ _ _).lift rfl ?_
        refine (State.setBit_keeps _ _ _).lift rfl ?_
        assumption
      · refine Keeps.ite ?_ ?_
        · refine (State.setBit_keeps _ _ _).lift rfl ?_
          assumption
        · refine (State.clrBit_keeps _ _ _).lift rfl ?_
          assumption
    · assumption

theorem State.portCommit_keeps (s) (p) (was) : Keeps 4097 s (State.portCommit s p was) := by
  have h0 := Keeps.refl 4097 s
  unfold State.portCommit
  lift_lets -underBinder
  intro v1
  intro v2
  intro v3
  have h4 : Keeps 4097 s v3 := by
    subst v3
    refine (State.modPt_keeps _ _ _).lift rfl ?_
    assumption
  clear_value v3
  intro v5
  have h6 : Keeps 4097 s v5 := by
    subst v5
    refine (State.putBit_keeps _ _ _ _).lift rfl ?_
    refine (State.putBit_keeps _ _ _ _).lift rfl ?_
    assumption
  clear_value v5
  intro v7
  intro v8
  have h9 : Keeps 4097 s v8 := by
    subst v8
    refine (State.putBit_keeps _ _ _ _).lift rfl ?_
    assumption
  clear_value v8
  refine (State.trackCopy_keeps _ _).lift rfl ?_
  refine Keeps.ite ?_ ?_
  · refine (State.clrBit_keeps _ _ _).lift rfl ?_
    assumption
  · assumption

theorem State.startPhase_keeps (s) (n) (p) : Keeps 2049 s (State.startPhase s n p) := by
  have h0 := Keeps.refl 2049 s
  unfold State.startPhase
  lift_lets -underBinder
  intro v1
  intro v2
  intro v3
  intro v4
  refine (State.modAx_keeps _ _ _).lift rfl ?_
  refine (State.setMode_keeps _ _ _).lift rfl ?_
  refine (State.wr_keeps _ _ _).lift rfl ?_
  assumption

theorem State.latchEdge_keeps (s) (n) (t) (x) : Keeps 2048 s (State.latchEdge s n t x) := by
  have h0 := Keeps.refl 2048 s
  unfold State.latchEdge
  refine (State.modAx_keeps _ _ _).lift rfl ?_
  assumption

theorem State.latchFirst_keeps (s) (n) (x) : Keeps 2048 s (State.latchFirst s n x) := by
  have h0 := Keeps.refl 2048 s
  unfold State.latchFirst
  refine (State.modAx_keeps _ _ _).lift rfl ?_
  assumption

theorem State.homeEdge_keeps (s) (n) (w) (t) : Keeps 2048 s (State.homeEdge s n w t) := by
  have h0 := Keeps.refl 2048 s
  unfold State.homeEdge
  lift_lets -underBinder
  intro v1
  intro v2
  split
  · refine Keeps.ite ?_ ?_
    · refine (State.latchEdge_keeps _ _ _ _).lift rfl ?_
      assumption
    · assumption
  · refine Keeps.ite ?_ ?_
    · assumption
    · refine (State.latchEdge_keeps _ _ _ _).lift rfl ?_
      assumption
  · refine Keeps.ite ?_ ?_
    · refine (State.latchFirst_keeps _ _ _).lift rfl ?_
      assumption
    · refine Keeps.ite ?_ ?_
      · refine (State.latchEdge_keeps _ _ _ _).lift rfl ?_
        assumption
      · assumption
  · assumption

theorem State.homeInput_keeps (s) (c) (t) : Keeps 2048 s (State.homeInput s c t) := by
  have h0 := Keeps.refl 2048 s
  unfold State.homeInput
  refine Keeps.each ?_ (fun t1 a2 h3 => ?_)
  · assumption
  · split
    · refine Keeps.ite ?_ ?_
      · refine (State.homeEdge_keeps _ _ _ _).lift rfl ?_
        assumption
      · assumption
    · assumption

theorem State.homeBreak_keeps (s) (was) (c) : Keeps 2048 s (State.homeBreak s was c) := by
  have h0 := Keeps.refl 2048 s
  unfold State.homeBreak
  refine Keeps.each ?_ (fun t1 a2 h3 => ?_)
  · assumption
  · split
    · refine Keeps.ite ?_ ?_
      · refine (State.homeEdge_keeps _ _ _ _).lift rfl ?_
        assumption
      · assumption
    · assumption

theorem State.homeIndex_keeps (s) (p) (t) : Keeps 2048 s (State.homeIndex s p t) := by
  have h0 := Keeps.refl 2048 s
  unfold State.homeIndex
  split
  · refine Keeps.ite ?_ ?_
    · split
      · refine (State.latchEdge_keeps _ _ _ _).lift rfl ?_
        assumption
      · refine Keeps.ite ?_ ?_
        · refine (State.latchEdge_keeps _ _ _ _).lift rfl ?_
          assumption
        · assumption
      · assumption
    · assumption
  · assumption

theorem State.homeProbe_keeps (s) (u) (c) : Keeps 2048 s (State.homeProbe s u c) := by
  have h0 := Keeps.refl 2048 s
  unfold State.homeProbe
  refine Keeps.each ?_ (fun t1 a2 h3 => ?_)
  · assumption
  · refine Keeps.ite ?_ ?_
    · refine (State.latchEdge_keeps _ _ _ _).lift rfl ?_
      assumption
    · assumption

theorem State.homeReference_keeps (s) (n) (t) (x) : Keeps 6915 s (State.homeReference s n t x) := by
  have h0 := Keeps.refl 6915 s
  unfold State.homeReference
  lift_lets -underBinder
  intro v1
  intro v2
  have h3 : Keeps 6915 s v2 := by
    subst v2
    refine (State.wrPos_keeps _ _ _).lift rfl ?_
    refine (State.shiftAxis_keeps _ _ _ _).lift rfl ?_
    assumption
  clear_value v2
  intro v4
  have h5 : Keeps 6915 s v4 := by
    subst v4
    split
    · refine (State.setReferenced_keeps _ _).lift rfl ?_
      assumption
    · assumption
  clear_value v4
  intro v11
  have h12 : Keeps 6915 s v11 := by
    subst v11
    refine (State.endHoming_keeps _ _ _).lift rfl ?_
    refine (State.wrPos_keeps _ _ _).lift rfl ?_
    assumption
  clear_value v11
  intro v13
  intro v14
  have h15 : Keeps 6915 s v14 := by
    subst v14
    refine (State.rest_keeps _ _).lift rfl ?_
    assumption
  clear_value v14
  refine Keeps.ite ?_ ?_
  · refine Keeps.ite ?_ ?_
    · assumption
    · refine (State.setAx_keeps _ _ _).lift rfl ?_
      assumption
  · refine (State.startStop_keeps _ _ _ _ _).lift rfl ?_
    assumption

theorem State.homeFail_keeps (s) (n) (res) (dec) (kind) : Keeps 2819 s (State.homeFail s n res dec kind) := by
  have h0 := Keeps.refl 2819 s
  unfold State.homeFail
  refine (State.startStop_keeps _ _ _ _ _).lift rfl ?_
  refine (State.endHoming_keeps _ _ _).lift rfl ?_
  assumption

theorem State.phaseEdge_keeps (s) (n) (t) (x) : Keeps 6915 s (State.phaseEdge s n t x) := by
  have h0 := Keeps.refl 6915 s
  unfold State.phaseEdge
  lift_lets -underBinder
  intro v1
  intro v2
  split
  · lift_lets -underBinder
    intro v5
    refine (State.homeReference_keeps _ _ _ _).lift rfl ?_
    assumption
  · refine Keeps.ite ?_ ?_
    · refine (State.startPhase_keeps _ _ _).lift rfl ?_
      assumption
    · lift_lets -underBinder
      intro v9
      intro v10
      have h11 : Keeps 6915 s v10 := by
        subst v10
        refine (State.startStop_keeps _ _ _ _ _).lift rfl ?_
        assumption
      clear_value v10
      intro v12
      have h13 : Keeps 6915 s v12 := by
        subst v12
        refine (State.modAx_keeps _ _ _).lift rfl ?_
        refine (State.setMode_keeps _ _ _).lift rfl ?_
        assumption
      clear_value v12
      refine Keeps.ite ?_ ?_
      · assumption
      · refine (State.setAx_keeps _ _ _).lift rfl ?_
        assumption

theorem State.homeStep_keeps (s) (n) : Keeps 6915 s (State.homeStep s n) := by
  have h0 := Keeps.refl 6915 s
  unfold State.homeStep
  refine Keeps.ite ?_ ?_
  · assumption
  · refine Keeps.ite ?_ ?_
    · refine (State.homeFail_keeps _ _ _ _ _).lift rfl ?_
      assumption
    · refine Keeps.ite ?_ ?_
      · refine Keeps.ite ?_ ?_
        · refine (State.homeReference_keeps _ _ _ _).lift rfl ?_
          assumption
        · assumption
      · lift_lets -underBinder
        intro v1
        refine Keeps.ite ?_ ?_
        · refine Keeps.ite ?_ ?_
          · refine (State.startPhase_keeps _ _ _).lift rfl ?_
            assumption
          · assumption
        · split
          · refine (State.phaseEdge_keeps _ _ _ _).lift rfl ?_
            assumption
          · assumption

theorem State.startHoming_keeps (s) (n) : Keeps 6915 s (State.startHoming s n) := by
  have h0 := Keeps.refl 6915 s
  unfold State.startHoming
  lift_lets -underBinder
  intro v1
  intro v2
  intro v3
  have h4 : Keeps 6915 s v3 := by
    subst v3
    refine (State.takeType_keeps _ _).lift rfl ?_
    refine (State.dropMotion_keeps _ _).lift rfl ?_
    assumption
  clear_value v3
  intro v5
  have h6 : Keeps 6915 s v5 := by
    subst v5
    refine (State.wr_keeps _ _ _).lift rfl ?_
    refine (State.wr_keeps _ _ _).lift rfl ?_
    assumption
  clear_value v5
  intro v7
  have h8 : Keeps 6915 s v7 := by
    subst v7
    refine (State.modAx_keeps _ _ _).lift rfl ?_
    assumption
  clear_value v7
  intro v9
  intro v10
  intro v11
  intro v12
  have h13 : Keeps 6915 s v12 := by
    subst v12
    refine (State.wrPos_keeps _ _ _).lift rfl ?_
    refine (State.shiftAxis_keeps _ _ _ _).lift rfl ?_
    assumption
  clear_value v12
  intro v14
  have h15 : Keeps 6915 s v14 := by
    subst v14
    split
    · refine (State.setReferenced_keeps _ _).lift rfl ?_
      assumption
    · assumption
  clear_value v14
  intro v21
  have h22 : Keeps 6915 s v21 := by
    subst v21
    subst v9
    dsimp -zeta only
    split
    · refine (State.clrBit_keeps _ _ _).lift rfl ?_
      assumption
    · assumption
  clear_value v21
  intro v28
  have h29 : Keeps 6915 s v28 := by
    subst v28
    refine Keeps.ite ?_ ?_
    · assumption
    · refine (State.setAx_keeps _ _ _).lift rfl ?_
      assumption
  clear_value v28
  refine Keeps.ite ?_ ?_
  · refine (State.rest_keeps _ _).lift rfl ?_
    refine (State.endHoming_keeps _ _ _).lift rfl ?_
    refine (State.wrPos_keeps _ _ _).lift rfl ?_
    assumption
  · split
    · refine (State.startPhase_keeps _ _ _).lift rfl ?_
      assumption
    · refine (State.modAx_keeps _ _ _).lift rfl ?_
      refine (State.setMode_keeps _ _ _).lift rfl ?_
      assumption

theorem execHomingTimeout_keeps (n) (s) : Runs 2819 s (execHomingTimeout n s) := by
  have h0 := Keeps.refl 2819 s
  unfold execHomingTimeout
  refine Runs.next ?_
  refine Keeps.ite ?_ ?_
  · refine (State.homeFail_keeps _ _ _ _ _).lift rfl ?_
    assumption
  · assumption

theorem State.showCaps_keeps (s) (u) : Keeps 1 s (State.showCaps s u) := by
  have h0 := Keeps.refl 1 s
  unfold State.showCaps
  lift_lets -underBinder
  intro v1
  intro v2
  intro v3
  have h4 : Keeps 1 s v3 := by
    subst v3
    refine (State.wr_keeps _ _ _).lift rfl ?_
    refine (State.wr_keeps _ _ _).lift rfl ?_
    refine (State.wr_keeps _ _ _).lift rfl ?_
    assumption
  clear_value v3
  refine Keeps.each ?_ (fun t5 a6 h7 => ?_)
  · assumption
  · refine (State.wrPos_keeps _ _ _).lift rfl ?_
    assumption

theorem State.deliver_keeps (s) (u) (c) : Keeps 4204801 s (State.deliver s u c) := by
  have h0 := Keeps.refl 4204801 s
  unfold State.deliver
  lift_lets -underBinder
  intro v1
  intro v2
  intro v3
  have h4 : Keeps 4204801 s v3 := by
    subst v3
    refine (State.modLu_keeps _ _ _).lift rfl ?_
    assumption
  clear_value v3
  intro v5
  have h6 : Keeps 4204801 s v5 := by
    subst v5
    refine (State.acqEvent_keeps _ _ _ _ _).lift rfl ?_
    refine (State.homeProbe_keeps _ _ _).lift rfl ?_
    assumption
  clear_value v5
  intro v7
  have h8 : Keeps 4204801 s v7 := by
    subst v7
    refine Keeps.ite ?_ ?_
    · refine (State.recordAt_keeps _ _ _ _ _ _ _).lift rfl ?_
      assumption
    · assumption
  clear_value v7
  intro v9
  have h10 : Keeps 4204801 s v9 := by
    subst v9
    refine Keeps.ite ?_ ?_
    · refine (State.modLu_keeps _ _ _).lift rfl ?_
      assumption
    · refine (State.bump_keeps _ _).lift rfl ?_
      assumption
  clear_value v9
  intro v11
  have h12 : Keeps 4204801 s v11 := by
    subst v11
    refine Keeps.ite ?_ ?_
    · refine (State.wr_keeps _ _ _).lift rfl ?_
      assumption
    · assumption
  clear_value v11
  refine (State.showCaps_keeps _ _).lift rfl ?_
  assumption

theorem State.unitTake_keeps (s) (u) (code) (rising) (t) : Keeps 4204801 s (State.unitTake s u code rising t) := by
  have h0 := Keeps.refl 4204801 s
  unfold State.unitTake
  refine Keeps.ite ?_ ?_
  · assumption
  · lift_lets -underBinder
    intro v1
    intro v2
    intro v3
    have h4 : Keeps 4204801 s v3 := by
      subst v3
      refine (State.modLu_keeps _ _ _).lift rfl ?_
      assumption
    clear_value v3
    intro v5
    intro v6
    refine Keeps.ite ?_ ?_
    · refine (State.bump_keeps _ _).lift rfl ?_
      assumption
    · refine Keeps.ite ?_ ?_
      · refine (State.bump_keeps _ _).lift rfl ?_
        assumption
      · refine (State.deliver_keeps _ _ _).lift rfl ?_
        assumption

theorem State.latchEvent_keeps (s) (code) (rising) (t) : Keeps 4204801 s (State.latchEvent s code rising t) := by
  have h0 := Keeps.refl 4204801 s
  unfold State.latchEvent
  refine Keeps.each ?_ (fun t1 a2 h3 => ?_)
  · assumption
  · refine (State.unitTake_keeps _ _ _ _ _).lift rfl ?_
    assumption

theorem State.latEdge_keeps (s) (i) (level) (t) : Keeps 4270337 s (State.latEdge s i level t) := by
  have h0 := Keeps.refl 4270337 s
  unfold State.latEdge
  refine Keeps.ite ?_ ?_
  · assumption
  · lift_lets -underBinder
    intro v1
    intro v2
    have h3 : Keeps 4270337 s v2 := by
      subst v2
      refine (Keeps.setField _ _).lift rfl ?_
      assumption
    clear_value v2
    intro v4
    refine (State.latchEvent_keeps _ _ _ _).lift rfl ?_
    refine (State.homeInput_keeps _ _ _).lift rfl ?_
    refine (State.putBit_keeps _ _ _ _).lift rfl ?_
    assumption

theorem execLatchEvent_keeps (i) (l) (off) (s) : Runs 4270337 s (execLatchEvent i l off s) := by
  have h0 := Keeps.refl 4270337 s
  unfold execLatchEvent
  refine Runs.next ?_
  split
  · refine (State.latEdge_keeps _ _ _ _).lift rfl ?_
    assumption
  · assumption

theorem State.latchPasses_keeps (s) (n) : Keeps 8192 s (State.latchPasses s n) := by
  have h0 := Keeps.refl 8192 s
  unfold State.latchPasses
  refine Keeps.each ?_ (fun t1 a2 h3 => ?_)
  · assumption
  · refine Keeps.ite ?_ ?_
    · refine (State.modLu_keeps _ _ _).lift rfl ?_
      assumption
    · assumption

theorem State.sampleSeen_keeps (s) (n) : Keeps 14337 s (State.sampleSeen s n) := by
  have h0 := Keeps.refl 14337 s
  unfold State.sampleSeen
  split
  · refine Keeps.ite ?_ ?_
    · refine (State.latchPasses_keeps _ _).lift rfl ?_
      refine (State.sampleAxis_keeps _ _ _).lift rfl ?_
      assumption
    · refine (State.sampleAxis_keeps _ _ _).lift rfl ?_
      assumption
  · refine (State.sampleAxis_keeps _ _ _).lift rfl ?_
    assumption

theorem State.portSeen_keeps (s) (p) : Keeps 8192 s (State.portSeen s p) := by
  have h0 := Keeps.refl 8192 s
  unfold State.portSeen
  split
  · refine (State.latchPasses_keeps _ _).lift rfl ?_
    assumption
  · assumption

theorem execSsiTransfer_keeps (p) (w) (clock) (s) : Runs 12289 s (execSsiTransfer p w clock s) := by
  have h0 := Keeps.refl 12289 s
  unfold execSsiTransfer
  refine Runs.next ?_
  refine Keeps.ite ?_ ?_
  · refine (State.portSeen_keeps _ _).lift rfl ?_
    refine (State.ssiSample_keeps _ _ _ _ _).lift rfl ?_
    assumption
  · assumption

theorem execSincosConversion_keeps (p) (c) (s) : Runs 12289 s (execSincosConversion p c s) := by
  have h0 := Keeps.refl 12289 s
  unfold execSincosConversion
  refine Runs.next ?_
  refine Keeps.ite ?_ ?_
  · refine Keeps.ite ?_ ?_
    · refine (State.portSeen_keeps _ _).lift rfl ?_
      refine (State.scConvert_keeps _ _ _).lift rfl ?_
      assumption
    · refine (State.scConvert_keeps _ _ _).lift rfl ?_
      assumption
  · assumption

theorem State.armUnit_keeps (s) (u) : Keeps 1 s (State.armUnit s u) := by
  have h0 := Keeps.refl 1 s
  unfold State.armUnit
  refine Keeps.ite ?_ ?_
  · assumption
  · refine (State.wr_keeps _ _ _).lift rfl ?_
    assumption

theorem State.nextCapture_keeps (s) (u) : Keeps 8193 s (State.nextCapture s u) := by
  have h0 := Keeps.refl 8193 s
  unfold State.nextCapture
  refine (State.showCaps_keeps _ _).lift rfl ?_
  refine (State.modLu_keeps _ _ _).lift rfl ?_
  assumption

theorem State.latchCommit_keeps (s) : Keeps 8193 s (State.latchCommit s) := by
  have h0 := Keeps.refl 8193 s
  unfold State.latchCommit
  refine (State.wr_keeps _ _ _).lift rfl ?_
  refine Keeps.each ?_ (fun t1 a2 h3 => ?_)
  · assumption
  · refine (State.modLu_keeps _ _ _).lift rfl ?_
    refine (State.wr_keeps _ _ _).lift rfl ?_
    assumption

theorem State.zEdge_keeps (s) (q) (level) (t) : Keeps 4208897 s (State.zEdge s q level t) := by
  have h0 := Keeps.refl 4208897 s
  unfold State.zEdge
  refine Keeps.ite ?_ ?_
  · assumption
  · lift_lets -underBinder
    intro v1
    have h2 : Keeps 4208897 s v1 := by
      subst v1
      refine (State.modPt_keeps _ _ _).lift rfl ?_
      assumption
    clear_value v1
    intro v3
    intro v4
    refine Keeps.ite ?_ ?_
    · assumption
    · refine (State.latchEvent_keeps _ _ _ _).lift rfl ?_
      refine (State.indexEvent_keeps _ _ _).lift rfl ?_
      refine (State.homeIndex_keeps _ _ _).lift rfl ?_
      assumption

theorem execIndexEvent_keeps (p) (l) (off) (s) : Runs 4208897 s (execIndexEvent p l off s) := by
  have h0 := Keeps.refl 4208897 s
  unfold execIndexEvent
  refine Runs.next ?_
  split
  · refine (State.zEdge_keeps _ _ _ _).lift rfl ?_
    assumption
  · assumption

theorem State.emuSample_keeps (s) (e) : Keeps 16385 s (State.emuSample s e) := by
  have h0 := Keeps.refl 16385 s
  unfold State.emuSample
  lift_lets -underBinder
  intro v1
  intro v2
  have h3 : Keeps 16385 s v2 := by
    subst v2
    refine (State.clrBit_keeps _ _ _).lift rfl ?_
    assumption
  clear_value v2
  intro v4
  intro v5
  intro v6
  intro v7
  have h8 : Keeps 16385 s v7 := by
    subst v7
    refine (State.modEm_keeps _ _ _).lift rfl ?_
    assumption
  clear_value v7
  intro v9
  intro v10
  intro v11
  intro v12
  intro v13
  intro v14
  have h15 : Keeps 16385 s v14 := by
    subst v14
    refine (State.wr_keeps _ _ _).lift rfl ?_
    assumption
  clear_value v14
  intro v16
  have h17 : Keeps 16385 s v16 := by
    subst v16
    refine (State.modEm_keeps _ _ _).lift rfl ?_
    assumption
  clear_value v16
  intro v18
  have h19 : Keeps 16385 s v18 := by
    subst v18
    refine (State.wr_keeps _ _ _).lift rfl ?_
    assumption
  clear_value v18
  refine Keeps.ite ?_ ?_
  · assumption
  · refine Keeps.ite ?_ ?_
    · refine (State.setBit_keeps _ _ _).lift rfl ?_
      assumption
    · refine Keeps.ite ?_ ?_
      · refine (State.wr_keeps _ _ _).lift rfl ?_
        refine (State.wr_keeps _ _ _).lift rfl ?_
        refine (State.modEm_keeps _ _ _).lift rfl ?_
        assumption
      · refine Keeps.ite ?_ ?_
        · assumption
        · refine (State.setBit_keeps _ _ _).lift rfl ?_
          assumption

theorem execEmuSourceSample_keeps (e) (s) : Runs 16385 s (execEmuSourceSample e s) := by
  have h0 := Keeps.refl 16385 s
  unfold execEmuSourceSample
  refine Runs.next ?_
  refine (State.emuSample_keeps _ _).lift rfl ?_
  assumption

theorem State.ssiTarget_keeps (s) (e) (edges) (t) : Keeps 16384 s (State.ssiTarget s e edges t) := by
  have h0 := Keeps.refl 16384 s
  unfold State.ssiTarget
  refine Keeps.ite ?_ ?_
  · assumption
  · lift_lets -underBinder
    intro v1
    have h2 : Keeps 16384 s v1 := by
      subst v1
      refine Keeps.ite ?_ ?_
      · assumption
      · refine (State.modEm_keeps _ _ _).lift rfl ?_
        assumption
    clear_value v1
    refine (State.modEm_keeps _ _ _).lift rfl ?_
    assumption

theorem execSsiTargetTransfer_keeps (e) (edges) (off) (s) : Runs 16384 s (execSsiTargetTransfer e edges off s) := by
  have h0 := Keeps.refl 16384 s
  unfold execSsiTargetTransfer
  refine Runs.next ?_
  refine (State.ssiTarget_keeps _ _ _ _).lift rfl ?_
  assumption

theorem execSsiMonoflop_keeps (g) (s) : Runs 16384 s (execSsiMonoflop g s) := by
  have h0 := Keeps.refl 16384 s
  unfold execSsiMonoflop
  refine Runs.next ?_
  refine Keeps.ite ?_ ?_
  · refine (State.modEm_keeps _ _ _).lift rfl ?_
    assumption
  · assumption

theorem State.doRefresh_keeps (s) : Keeps 1 s (State.doRefresh s) := by
  have h0 := Keeps.refl 1 s
  unfold State.doRefresh
  lift_lets -underBinder
  intro v1
  refine (State.wr_keeps _ _ _).lift rfl ?_
  assumption

theorem State.modField_keeps (s) (f) : Keeps 65536 s (State.modField s f) := by
  have h0 := Keeps.refl 65536 s
  unfold State.modField
  refine (Keeps.setField _ _).lift rfl ?_
  assumption

theorem State.writeDoSet_keeps (s) (v) : Keeps 65537 s (State.writeDoSet s v) := by
  have h0 := Keeps.refl 65537 s
  unfold State.writeDoSet
  lift_lets -underBinder
  intro v1
  intro v2
  refine (State.doRefresh_keeps _).lift rfl ?_
  refine (State.wr_keeps _ _ _).lift rfl ?_
  refine (State.modField_keeps _ _).lift rfl ?_
  assumption

theorem State.clearShort_keeps (s) (m) : Keeps 1 s (State.clearShort s m) := by
  have h0 := Keeps.refl 1 s
  unfold State.clearShort
  lift_lets -underBinder
  intro v1
  refine (State.doRefresh_keeps _).lift rfl ?_
  refine (State.wr_keeps _ _ _).lift rfl ?_
  assumption

theorem State.clearField_keeps (s) (m) : Keeps 1 s (State.clearField s m) := by
  have h0 := Keeps.refl 1 s
  unfold State.clearField
  lift_lets -underBinder
  intro v1
  refine (State.doRefresh_keeps _).lift rfl ?_
  refine (State.wr_keeps _ _ _).lift rfl ?_
  assumption

theorem execDoShort_keeps (i) (current) (s) : Runs 65793 s (execDoShort i current s) := by
  have h0 := Keeps.refl 65793 s
  unfold execDoShort
  lift_lets -underBinder
  intro v1
  intro v2
  have h3 : Keeps 65793 s v2 := by
    subst v2
    refine (State.wr_keeps _ _ _).lift rfl ?_
    assumption
  clear_value v2
  refine Runs.next ?_
  refine Keeps.ite ?_ ?_
  · refine (State.doRefresh_keeps _).lift rfl ?_
    refine (State.record_keeps _ _ _ _ _ _).lift rfl ?_
    refine (State.bump_keeps _ _).lift rfl ?_
    refine (State.setBit_keeps _ _ _).lift rfl ?_
    refine (State.modField_keeps _ _).lift rfl ?_
    assumption
  · assumption

theorem execTotalOverload_keeps (s) : Runs 65793 s (execTotalOverload s) := by
  have h0 := Keeps.refl 65793 s
  unfold execTotalOverload
  lift_lets -underBinder
  intro v1
  refine Runs.next ?_
  refine (State.doRefresh_keeps _).lift rfl ?_
  refine (State.record_keeps _ _ _ _ _ _).lift rfl ?_
  refine (State.setBit_keeps _ _ _).lift rfl ?_
  refine (State.modField_keeps _ _).lift rfl ?_
  assumption

theorem execOpenLoad_keeps (i) (x) (s) : Runs 257 s (execOpenLoad i x s) := by
  have h0 := Keeps.refl 257 s
  unfold execOpenLoad
  lift_lets -underBinder
  intro v1
  have h2 : Keeps 257 s v1 := by
    subst v1
    refine (State.wr_keeps _ _ _).lift rfl ?_
    assumption
  clear_value v1
  refine Runs.next ?_
  refine Keeps.ite ?_ ?_
  · refine (State.record_keeps _ _ _ _ _ _).lift rfl ?_
    refine (State.setBit_keeps _ _ _).lift rfl ?_
    assumption
  · assumption

theorem execVddCoreLow_keeps (core) (s) : Runs 16777761 s (execVddCoreLow core s) := by
  have h0 := Keeps.refl 16777761 s
  unfold execVddCoreLow
  lift_lets -underBinder
  intro v1
  intro v2
  have h3 : Keeps 16777761 s v2 := by
    subst v2
    refine Keeps.ite ?_ ?_
    · refine (Keeps.setTwin _ _).lift rfl ?_
      assumption
    · assumption
  clear_value v2
  intro v4
  have h5 : Keeps 16777761 s v4 := by
    subst v4
    refine (State.fenceAll_keeps _).lift rfl ?_
    assumption
  clear_value v4
  intro v6
  refine Runs.next ?_
  refine (State.doRefresh_keeps _).lift rfl ?_
  refine (Keeps.setPw _ _).lift rfl ?_
  assumption

theorem State.diFirst_keeps (s) (i) (on) : Keeps 65537 s (State.diFirst s i on) := by
  have h0 := Keeps.refl 65537 s
  unfold State.diFirst
  lift_lets -underBinder
  intro v1
  have h2 : Keeps 65537 s v1 := by
    subst v1
    refine (State.modField_keeps _ _).lift rfl ?_
    assumption
  clear_value v1
  refine Keeps.ite ?_ ?_
  · refine (State.putBit_keeps _ _ _ _).lift rfl ?_
    assumption
  · assumption

theorem State.diFirsts_keeps (s) : Keeps 65537 s (State.diFirsts s) := by
  have h0 := Keeps.refl 65537 s
  unfold State.diFirsts
  refine Keeps.ite ?_ ?_
  · assumption
  · refine Keeps.each ?_ (fun t1 a2 h3 => ?_)
    · assumption
    · refine Keeps.ite ?_ ?_
      · refine (State.diFirst_keeps _ _ _).lift rfl ?_
        assumption
      · assumption

theorem State.fieldStart_keeps (s) (lands) : Keeps 65537 s (State.fieldStart s lands) := by
  have h0 := Keeps.refl 65537 s
  unfold State.fieldStart
  lift_lets -underBinder
  intro v1
  intro v2
  have h3 : Keeps 65537 s v2 := by
    subst v2
    refine (State.modField_keeps _ _).lift rfl ?_
    assumption
  clear_value v2
  refine (State.doRefresh_keeps _).lift rfl ?_
  refine (State.wr_keeps _ _ _).lift rfl ?_
  refine (State.setBit_keeps _ _ _).lift rfl ?_
  assumption

theorem execV24Ok_keeps (x) (volts) (s) : Runs 65537 s (execV24Ok x volts s) := by
  have h0 := Keeps.refl 65537 s
  unfold execV24Ok
  refine Runs.next ?_
  refine Keeps.ite ?_ ?_
  · assumption
  · lift_lets -underBinder
    intro v1
    have h2 : Keeps 65537 s v1 := by
      subst v1
      refine (State.wr_keeps _ _ _).lift rfl ?_
      assumption
    clear_value v1
    intro v3
    refine Keeps.ite ?_ ?_
    · refine (State.fieldStart_keeps _ _).lift rfl ?_
      assumption
    · assumption

theorem execV24Lost_keeps (volts) (s) : Runs 65793 s (execV24Lost volts s) := by
  have h0 := Keeps.refl 65793 s
  unfold execV24Lost
  refine Runs.next ?_
  refine Keeps.ite ?_ ?_
  · assumption
  · lift_lets -underBinder
    intro v1
    have h2 : Keeps 65793 s v1 := by
      subst v1
      refine (State.wr_keeps _ _ _).lift rfl ?_
      assumption
    clear_value v1
    intro v3
    have h4 : Keeps 65793 s v3 := by
      subst v3
      refine (State.wr_keeps _ _ _).lift rfl ?_
      refine (State.clrBit_keeps _ _ _).lift rfl ?_
      refine (State.modField_keeps _ _).lift rfl ?_
      assumption
    clear_value v3
    refine Keeps.ite ?_ ?_
    · refine (State.doRefresh_keeps _).lift rfl ?_
      refine Keeps.ite ?_ ?_
      · refine (State.record_keeps _ _ _ _ _ _).lift rfl ?_
        refine (State.setBit_keeps _ _ _).lift rfl ?_
        assumption
      · assumption
    · assumption

theorem State.diEdge_keeps (s) (i) (v) (t) : Keeps 4204801 s (State.diEdge s i v t) := by
  have h0 := Keeps.refl 4204801 s
  unfold State.diEdge
  refine Keeps.ite ?_ ?_
  · assumption
  · refine (State.latchEvent_keeps _ _ _ _).lift rfl ?_
    refine (State.acqEvent_keeps _ _ _ _ _).lift rfl ?_
    refine (State.homeInput_keeps _ _ _).lift rfl ?_
    refine (State.wr_keeps _ _ _).lift rfl ?_
    refine (State.putBit_keeps _ _ _ _).lift rfl ?_
    assumption

theorem State.breakEnds_keeps (s) (i) : Keeps 2049 s (State.breakEnds s i) := by
  have h0 := Keeps.refl 2049 s
  unfold State.breakEnds
  refine Keeps.ite ?_ ?_
  · refine (State.homeBreak_keeps _ _ _).lift rfl ?_
    refine (State.clrBit_keeps _ _ _).lift rfl ?_
    assumption
  · assumption

theorem execDiTransition_keeps (i) (l) (off) (s) : Runs 4270337 s (execDiTransition i l off s) := by
  have h0 := Keeps.refl 4270337 s
  unfold execDiTransition
  lift_lets -underBinder
  intro v1
  intro v2
  have h3 : Keeps 4270337 s v2 := by
    subst v2
    refine Keeps.ite ?_ ?_
    · refine (State.breakEnds_keeps _ _).lift rfl ?_
      assumption
    · assumption
  clear_value v2
  refine Runs.next ?_
  split
  · lift_lets -underBinder
    intro v7
    intro v8
    have h9 : Keeps 4270337 s v8 := by
      subst v8
      refine (State.modField_keeps _ _).lift rfl ?_
      assumption
    clear_value v8
    refine Keeps.ite ?_ ?_
    · refine (State.diFirst_keeps _ _ _).lift rfl ?_
      assumption
    · refine Keeps.ite ?_ ?_
      · refine (State.diEdge_keeps _ _ _ _).lift rfl ?_
        assumption
      · assumption
  · assumption

theorem execWireBreak_keeps (x) (s) : Runs 2305 s (execWireBreak x s) := by
  have h0 := Keeps.refl 2305 s
  unfold execWireBreak
  lift_lets -underBinder
  intro v1
  refine Runs.next ?_
  refine Keeps.ite ?_ ?_
  · refine (State.homeBreak_keeps _ _ _).lift rfl ?_
    refine (State.record_keeps _ _ _ _ _ _).lift rfl ?_
    refine (State.setBit_keeps _ _ _).lift rfl ?_
    refine (State.setBit_keeps _ _ _).lift rfl ?_
    assumption
  · assumption

theorem execWireBreakClear_keeps (i) (s) : Runs 2049 s (execWireBreakClear i s) := by
  have h0 := Keeps.refl 2049 s
  unfold execWireBreakClear
  refine Runs.next ?_
  refine (State.breakEnds_keeps _ _).lift rfl ?_
  assumption

theorem State.ainConvert_keeps (s) (a) (u) (aref) : Keeps 257 s (State.ainConvert s a u aref) := by
  have h0 := Keeps.refl 257 s
  unfold State.ainConvert
  lift_lets -underBinder
  intro v1
  intro v2
  intro v3
  intro v4
  intro v5
  intro v6
  have h7 : Keeps 257 s v6 := by
    subst v6
    refine (State.setBit_keeps _ _ _).lift rfl ?_
    assumption
  clear_value v6
  intro v8
  intro v9
  have h10 : Keeps 257 s v9 := by
    subst v9
    refine (State.setBit_keeps _ _ _).lift rfl ?_
    assumption
  clear_value v9
  intro v11
  have h12 : Keeps 257 s v11 := by
    subst v11
    refine Keeps.ite ?_ ?_
    · refine (State.setBit_keeps _ _ _).lift rfl ?_
      assumption
    · assumption
  clear_value v11
  intro v13
  have h14 : Keeps 257 s v13 := by
    subst v13
    refine Keeps.ite ?_ ?_
    · refine (State.setBit_keeps _ _ _).lift rfl ?_
      assumption
    · assumption
  clear_value v13
  intro v15
  intro v16
  refine Keeps.ite ?_ ?_
  · assumption
  · refine Keeps.ite ?_ ?_
    · refine Keeps.ite ?_ ?_
      · assumption
      · refine (State.record_keeps _ _ _ _ _ _).lift rfl ?_
        assumption
    · refine (State.wr_keeps _ _ _).lift rfl ?_
      refine (State.wr_keeps _ _ _).lift rfl ?_
      refine (State.wr_keeps _ _ _).lift rfl ?_
      refine (State.clrBit_keeps _ _ _).lift rfl ?_
      assumption

theorem execAinConversion_keeps (a) (u) (aref) (s) : Runs 257 s (execAinConversion a u aref s) := by
  have h0 := Keeps.refl 257 s
  unfold execAinConversion
  refine Runs.next ?_
  refine (State.ainConvert_keeps _ _ _ _).lift rfl ?_
  assumption

theorem State.fieldCommit_keeps (s) (wasOn) : Keeps 4204801 s (State.fieldCommit s wasOn) := by
  have h0 := Keeps.refl 4204801 s
  unfold State.fieldCommit
  lift_lets -underBinder
  intro v1
  intro v2
  have h3 : Keeps 4204801 s v2 := by
    subst v2
    refine Keeps.ite ?_ ?_
    · refine (State.wr_keeps _ _ _).lift rfl ?_
      assumption
    · refine Keeps.ite ?_ ?_
      · refine (State.wr_keeps _ _ _).lift rfl ?_
        assumption
      · refine Keeps.each ?_ (fun t4 a5 h6 => ?_)
        · assumption
        · refine (State.diEdge_keeps _ _ _ _).lift rfl ?_
          assumption
  clear_value v2
  intro v7
  have h8 : Keeps 4204801 s v7 := by
    subst v7
    refine Keeps.each ?_ (fun t9 a10 h11 => ?_)
    · assumption
    · lift_lets -underBinder
      intro v12
      have h13 : Keeps 4204801 s v12 := by
        subst v12
        refine (State.wr_keeps _ _ _).lift rfl ?_
        assumption
      clear_value v12
      refine Keeps.ite ?_ ?_
      · refine (State.wr_keeps _ _ _).lift rfl ?_
        refine (State.wr_keeps _ _ _).lift rfl ?_
        refine (State.wr_keeps _ _ _).lift rfl ?_
        refine (State.clrBit_keeps _ _ _).lift rfl ?_
        assumption
      · refine (State.setBit_keeps _ _ _).lift rfl ?_
        assumption
  clear_value v7
  refine (State.doRefresh_keeps _).lift rfl ?_
  assumption

theorem State.setDev_keeps (s) (d) (row) : Keeps 257 s (State.setDev s d row) := by
  have h0 := Keeps.refl 257 s
  unfold State.setDev
  lift_lets -underBinder
  intro v1
  intro v2
  have h3 : Keeps 257 s v2 := by
    subst v2
    refine (State.wr_keeps _ _ _).lift rfl ?_
    assumption
  clear_value v2
  intro v4
  have h5 : Keeps 257 s v4 := by
    subst v4
    refine Keeps.ite ?_ ?_
    · refine Keeps.each ?_ (fun t6 a7 h8 => ?_)
      · assumption
      · refine (State.wr_keeps _ _ _).lift rfl ?_
        assumption
    · assumption
  clear_value v4
  refine (State.doRefresh_keeps _).lift rfl ?_
  refine (State.record_keeps _ _ _ _ _ _).lift rfl ?_
  assumption

theorem State.enterSafe_keeps (s) (cause) : Keeps 4197123 s (State.enterSafe s cause) := by
  have h0 := Keeps.refl 4197123 s
  unfold State.enterSafe
  lift_lets -underBinder
  intro v1
  have h2 : Keeps 4197123 s v1 := by
    subst v1
    refine (State.setBit_keeps _ _ _).lift rfl ?_
    assumption
  clear_value v1
  split
  · refine (State.axesSafe_keeps _).lift rfl ?_
    refine (State.setDev_keeps _ _ _).lift rfl ?_
    assumption
  · refine (State.axesSafe_keeps _).lift rfl ?_
    refine (State.setDev_keeps _ _ _).lift rfl ?_
    assumption
  · assumption

theorem State.enterLocked_keeps (s) : Keeps 2819 s (State.enterLocked s) := by
  have h0 := Keeps.refl 2819 s
  unfold State.enterLocked
  split
  · assumption
  · assumption
  · refine (State.axesLocked_keeps _).lift rfl ?_
    refine (State.setDev_keeps _ _ _).lift rfl ?_
    assumption

theorem State.tamper_keeps (s) (t) : Keeps 2883 s (State.tamper s t) := by
  have h0 := Keeps.refl 2883 s
  unfold State.tamper
  lift_lets -underBinder
  intro v1
  have h2 : Keeps 2883 s v1 := by
    subst v1
    refine (State.bump_keeps _ _).lift rfl ?_
    refine (State.setBit_keeps _ _ _).lift rfl ?_
    assumption
  clear_value v1
  refine (State.enterLocked_keeps _).lift rfl ?_
  refine (State.audit_keeps _ _ _ _ _).lift rfl ?_
  assumption

theorem execTamperReport_keeps (t) (s) : Runs 2883 s (execTamperReport t s) := by
  have h0 := Keeps.refl 2883 s
  unfold execTamperReport
  refine Runs.next ?_
  refine (State.tamper_keeps _ _).lift rfl ?_
  assumption

theorem execTimePllLoss_keeps (s) : Runs 4197155 s (execTimePllLoss s) := by
  have h0 := Keeps.refl 4197155 s
  unfold execTimePllLoss
  lift_lets -underBinder
  intro v1
  have h2 : Keeps 4197155 s v1 := by
    subst v1
    refine (State.clrBit_keeps _ _ _).lift rfl ?_
    refine (State.fenceAll_keeps _).lift rfl ?_
    assumption
  clear_value v1
  intro v3
  refine Runs.next ?_
  refine (State.enterSafe_keeps _ _).lift rfl ?_
  refine (Keeps.setPw _ _).lift rfl ?_
  assumption

theorem execTimePllRelock_keeps (s) : Runs 33 s (execTimePllRelock s) := by
  have h0 := Keeps.refl 33 s
  unfold execTimePllRelock
  lift_lets -underBinder
  intro v1
  have h2 : Keeps 33 s v1 := by
    subst v1
    refine (State.setBit_keeps _ _ _).lift rfl ?_
    refine (State.clrBit_keeps _ _ _).lift rfl ?_
    assumption
  clear_value v1
  intro v3
  refine Runs.next ?_
  refine (Keeps.setPw _ _).lift rfl ?_
  assumption

theorem State.bootFinish_keeps (s) : Keeps 4197227 s (State.bootFinish s) := by
  have h0 := Keeps.refl 4197227 s
  unfold State.bootFinish
  refine Keeps.ite ?_ ?_
  · assumption
  · lift_lets -underBinder
    intro v1
    intro v2
    intro v3
    have h4 : Keeps 4197227 s v3 := by
      subst v3
      refine (Keeps.setPw _ _).lift rfl ?_
      assumption
    intro v5
    intro v6
    have h7 : Keeps 4197227 s v6 := by
      subst v6
      refine (Keeps.setSec _ _).lift rfl ?_
      assumption
    intro v8
    have h9 : Keeps 4197227 s v8 := by
      subst v8
      refine (State.wr_keeps _ _ _).lift rfl ?_
      assumption
    intro v10
    have h11 : Keeps 4197227 s v10 := by
      subst v10
      refine Keeps.ite ?_ ?_
      · refine (State.setDev_keeps _ _ _).lift rfl ?_
        assumption
      · assumption
    clear_value v10
    intro v12
    have h13 : Keeps 4197227 s v12 := by
      subst v12
      refine (State.record_keeps _ _ _ _ _ _).lift rfl ?_
      assumption
    clear_value v12
    intro v14
    have h15 : Keeps 4197227 s v14 := by
      subst v14
      refine Keeps.ite ?_ ?_
      · refine (State.record_keeps _ _ _ _ _ _).lift rfl ?_
        assumption
      · assumption
    clear_value v14
    intro v16
    have h17 : Keeps 4197227 s v16 := by
      subst v16
      refine Keeps.ite ?_ ?_
      · refine (State.record_keeps _ _ _ _ _ _).lift rfl ?_
        refine (State.setBit_keeps _ _ _).lift rfl ?_
        assumption
      · assumption
    clear_value v16
    intro v18
    have h19 : Keeps 4197227 s v18 := by
      subst v18
      refine Keeps.ite ?_ ?_
      · refine (State.record_keeps _ _ _ _ _ _).lift rfl ?_
        assumption
      · assumption
    clear_value v18
    intro v20
    have h21 : Keeps 4197227 s v20 := by
      subst v20
      refine Keeps.each ?_ (fun t22 a23 h24 => ?_)
      · assumption
      · lift_lets -underBinder
        intro v25
        have h26 : Keeps 4197227 s v25 := by
          subst v25
          refine (State.setBit_keeps _ _ _).lift rfl ?_
          assumption
        clear_value v25
        refine (State.record_keeps _ _ _ _ _ _).lift rfl ?_
        refine Keeps.ite ?_ ?_
        · refine (State.setBit_keeps _ _ _).lift rfl ?_
          assumption
        · assumption
    clear_value v20
    intro v27
    intro v28
    have h29 : Keeps 4197227 s v28 := by
      subst v28
      refine Keeps.ite ?_ ?_
      · refine (Keeps.setTime _ _ ?_).lift rfl ?_
        · exact fun h => ⟨Clock.wf_withSec _ ((State.clocksWf_iff _).mp h).1, ((State.clocksWf_iff _).mp h).2⟩
        · assumption
      · assumption
    clear_value v28
    refine Keeps.ite ?_ ?_
    · refine (State.enterLocked_keeps _).lift rfl ?_
      assumption
    · refine Keeps.ite ?_ ?_
      · refine (State.axesSafe_keeps _).lift rfl ?_
        refine (State.setDev_keeps _ _ _).lift rfl ?_
        assumption
      · assumption

theorem State.start_keeps (s) : Keeps 257 s (Res.st (State.start s)) := by
  have h0 := Keeps.refl 257 s
  unfold State.start
  split
  · dsimp -zeta only [okRes]
    refine (State.setDev_keeps _ _ _).lift rfl ?_
    assumption
  · dsimp -zeta only [refuse]
    assumption

theorem State.stopRequest_keeps (s) : Keeps 2819 s (Res.st (State.stopRequest s)) := by
  have h0 := Keeps.refl 2819 s
  unfold State.stopRequest
  split
  · dsimp -zeta only [okRes]
    refine (State.axesReleased_keeps _).lift rfl ?_
    refine (State.setDev_keeps _ _ _).lift rfl ?_
    assumption
  · dsimp -zeta only [refuse]
    assumption

theorem State.resetSafe_keeps (s) : Keeps 257 s (Res.st (State.resetSafe s)) := by
  have h0 := Keeps.refl 257 s
  unfold State.resetSafe
  split
  · lift_lets -underBinder
    intro v2
    have h3 : Keeps 257 s v2 := by
      subst v2
      refine Keeps.ite ?_ ?_
      · refine (State.clrBit_keeps _ _ _).lift rfl ?_
        assumption
      · assumption
    clear_value v2
    split
    · dsimp -zeta only [okRes]
      refine (State.setDev_keeps _ _ _).lift rfl ?_
      assumption
    · dsimp -zeta only [refuse]
      assumption
  · dsimp -zeta only [refuse]
    assumption

theorem State.deviceRequest_keeps (s) (v) : Keeps 2819 s (Res.st (State.deviceRequest s v)) := by
  have h0 := Keeps.refl 2819 s
  unfold State.deviceRequest
  split
  · refine (State.start_keeps _).lift rfl ?_
    assumption
  · refine (State.stopRequest_keeps _).lift rfl ?_
    assumption
  · refine (State.resetSafe_keeps _).lift rfl ?_
    assumption
  · dsimp -zeta only [refuse]
    assumption

end Sys2Proof.Machine
end

