-- ==== Sys2Proof/Laws/KeepsTime.lean ====
section
/-! SUPPORT. What the operations of frames on the wire, line time, the switch, tables, passes, answers and the cascade keep: one lemma for each, with the mask of the parts that the
operation may change. -/
namespace Sys2Proof.Machine
open Sys2Proof Obj

theorem State.enqueue_keeps (s) (q) (f) : Keeps 17 s (State.enqueue s q f) := by
  have h0 := Keeps.refl 17 s
  unfold State.enqueue
  lift_lets -underBinder
  intro v1
  intro v2
  refine Keeps.ite ?_ ?_
  · refine (State.bump_keeps _ _).lift rfl ?_
    assumption
  · refine (Keeps.setNet _ _).lift rfl ?_
    assumption

theorem State.forward_keeps (s) (p) (bs) (fcsOk) (icv) (stamp) (dest) : Keeps 17 s (State.forward s p bs fcsOk icv stamp dest) := by
  have h0 := Keeps.refl 17 s
  unfold State.forward
  lift_lets -underBinder
  intro v1
  refine Keeps.ite ?_ ?_
  · refine (State.bump_keeps _ _).lift rfl ?_
    assumption
  · refine Keeps.each ?_ (fun t2 a3 h4 => ?_)
    · assumption
    · lift_lets -underBinder
      intro v5
      refine Keeps.ite ?_ ?_
      · assumption
      · refine (State.enqueue_keeps _ _ _).lift rfl ?_
        assumption

theorem State.sendFrame_keeps (s) (b) : Keeps 17 s (State.sendFrame s b) := by
  have h0 := Keeps.refl 17 s
  unfold State.sendFrame
  lift_lets -underBinder
  intro v1
  refine (State.forward_keeps _ _ _ _ _ _ _).lift rfl ?_
  assumption

theorem State.sendOn_keeps (s) (p) (b) (icv) (stamp) : Keeps 17 s (State.sendOn s p b icv stamp) := by
  have h0 := Keeps.refl 17 s
  unfold State.sendOn
  refine (State.forward_keeps _ _ _ _ _ _ _).lift rfl ?_
  assumption

theorem State.sendUdp_keeps (s) (p) (b) : Keeps 17 s (State.sendUdp s p b) := by
  have h0 := Keeps.refl 17 s
  unfold State.sendUdp
  refine (State.sendFrame_keeps _ _).lift rfl ?_
  assumption

theorem State.newAddress_keeps (s) : Keeps 17 s (State.newAddress s) := by
  have h0 := Keeps.refl 17 s
  unfold State.newAddress
  lift_lets -underBinder
  intro v1
  intro v2
  have h3 : Keeps 17 s v2 := by
    subst v2
    refine (Keeps.setNet _ _).lift rfl ?_
    assumption
  clear_value v2
  refine (State.sendFrame_keeps _ _).lift rfl ?_
  assumption

theorem execEchoOrArpRequest_keeps (p) (bytes) (s) : Runs 17 s (execEchoOrArpRequest p bytes s) := by
  have h0 := Keeps.refl 17 s
  unfold execEchoOrArpRequest
  refine Runs.next ?_
  refine Keeps.ite ?_ ?_
  · assumption
  · refine Keeps.ite ?_ ?_
    · refine (State.newAddress_keeps _).lift rfl ?_
      assumption
    · split
      · refine (State.sendFrame_keeps _ _).lift rfl ?_
        assumption
      · assumption

theorem State.ptpSend_keeps (s) (d) (p) (h) (body) (stamp) : Keeps 17 s (State.ptpSend s d p h body stamp) := by
  have h0 := Keeps.refl 17 s
  unfold State.ptpSend
  lift_lets -underBinder
  intro v1
  intro v2
  refine (State.sendOn_keeps _ _ _ _ _).lift rfl ?_
  assumption

theorem State.fireAlarm_keeps (s) (a) : Keeps 4194569 s (State.fireAlarm s a) := by
  have h0 := Keeps.refl 4194569 s
  unfold State.fireAlarm
  lift_lets -underBinder
  intro v1
  have h2 : Keeps 4194569 s v1 := by
    subst v1
    refine (State.clrBit_keeps _ _ _).lift rfl ?_
    refine (State.setBit_keeps _ _ _).lift rfl ?_
    assumption
  clear_value v1
  intro v3
  have h4 : Keeps 4194569 s v3 := by
    subst v3
    refine (State.acqEvent_keeps _ _ _ _ _).lift rfl ?_
    refine (State.record_keeps _ _ _ _ _ _).lift rfl ?_
    assumption
  clear_value v3
  intro v5
  refine (Keeps.setTime _ _ ?_).lift rfl ?_
  · exact fun h => (State.clocksWf_iff _).mp h
  · assumption

theorem State.alarmLatches_keeps (s) : Keeps 4204809 s (State.alarmLatches s) := by
  have h0 := Keeps.refl 4204809 s
  unfold State.alarmLatches
  lift_lets -underBinder
  intro v1
  intro v2
  refine Keeps.each ?_ (fun t3 a4 h5 => ?_)
  · refine (Keeps.setTime _ _ ?_).lift rfl ?_
    · exact fun h => (State.clocksWf_iff _).mp h
    · assumption
  · refine (State.latchEvent_keeps _ _ _ _).lift rfl ?_
    assumption

theorem State.checkAlarm_keeps (s) (a) : Keeps 4194569 s (State.checkAlarm s a) := by
  have h0 := Keeps.refl 4194569 s
  unfold State.checkAlarm
  refine Keeps.ite ?_ ?_
  · refine (State.fireAlarm_keeps _ _).lift rfl ?_
    assumption
  · assumption

theorem State.checkAlarms_keeps (s) : Keeps 4194569 s (State.checkAlarms s) := by
  have h0 := Keeps.refl 4194569 s
  unfold State.checkAlarms
  refine Keeps.each ?_ (fun t1 a2 h3 => ?_)
  · assumption
  · refine (State.checkAlarm_keeps _ _).lift rfl ?_
    assumption

theorem execLineTimeAlarm_keeps (a) (s) : Runs 4194569 s (execLineTimeAlarm a s) := by
  have h0 := Keeps.refl 4194569 s
  unfold execLineTimeAlarm
  refine Runs.next ?_
  refine (State.checkAlarm_keeps _ _).lift rfl ?_
  assumption

theorem State.alarmEnable_keeps (s) (v) : Keeps 4194569 s (State.alarmEnable s v) := by
  have h0 := Keeps.refl 4194569 s
  unfold State.alarmEnable
  refine (State.checkAlarms_keeps _).lift rfl ?_
  refine (State.wr_keeps _ _ _).lift rfl ?_
  assumption

theorem State.scheduleStep_keeps (s) (x) : Keeps 265 s (State.scheduleStep s x) := by
  have h0 := Keeps.refl 265 s
  unfold State.scheduleStep
  refine Keeps.ite ?_ ?_
  · assumption
  · lift_lets -underBinder
    intro v1
    intro v2
    intro v3
    have h4 : Keeps 265 s v3 := by
      subst v3
      refine (Keeps.setTime _ _ ?_).lift rfl ?_
      · exact fun h => (State.clocksWf_iff _).mp h
      · assumption
    clear_value v3
    refine Keeps.ite ?_ ?_
    · refine (State.record_keeps _ _ _ _ _ _).lift rfl ?_
      assumption
    · assumption

theorem State.applyOffset_keeps (s : State) (inc : Nat) (hi : inc < 2 ^ 38) : Keeps 265 s (State.applyOffset s inc) := by
  have h0 := Keeps.refl 265 s
  unfold State.applyOffset
  split
  · refine (Keeps.setTime _ _ ?_).lift rfl ?_
    · exact fun h => ⟨Clock.wf_tick ((State.clocksWf_iff _).mp h).1 ‹_›, ((State.clocksWf_iff _).mp h).2⟩
    · assumption
  · lift_lets -underBinder
    intro v6
    intro v7
    intro v8
    intro v9
    have h10 : Keeps 265 s v9 := by
      subst v9
      refine (Keeps.setTime _ _ ?_).lift rfl ?_
      · exact fun h => (State.clocksWf_iff _).mp h
      · assumption
    clear_value v9
    intro v11
    intro v12
    have h13 : Keeps 265 s v12 := by
      subst v12
      refine (Keeps.setTime _ _ ?_).lift rfl ?_
      · exact fun h => ⟨Clock.wf_ofUnits _, ((State.clocksWf_iff _).mp h).2⟩
      · assumption
    clear_value v12
    refine Keeps.ite ?_ ?_
    · refine (State.record_keeps _ _ _ _ _ _).lift rfl ?_
      refine (Keeps.setTime _ _ ?_).lift rfl ?_
      · exact fun h => ⟨Clock.wf_tick ((State.clocksWf_iff _).mp h).1 ‹_›, ((State.clocksWf_iff _).mp h).2⟩
      · assumption
    · refine (State.scheduleStep_keeps _ _).lift rfl ?_
      refine (State.bump_keeps _ _).lift rfl ?_
      assumption

theorem State.scheduleSlew_keeps (s) (ns) : Keeps 8 s (State.scheduleSlew s ns) := by
  have h0 := Keeps.refl 8 s
  unfold State.scheduleSlew
  lift_lets -underBinder
  intro v1
  intro v2
  intro v3
  refine (Keeps.setTime _ _ ?_).lift rfl ?_
  · exact fun h => (State.clocksWf_iff _).mp h
  · assumption

theorem State.ppsRise_keeps (s) (before) : Keeps 134217736 s (State.ppsRise s before) := by
  have h0 := Keeps.refl 134217736 s
  unfold State.ppsRise
  lift_lets -underBinder
  intro v1
  intro v2
  intro v3
  intro v4
  refine Keeps.ite ?_ ?_
  · refine (State.emit_keeps _ _).lift rfl ?_
    refine (Keeps.setTime _ _ ?_).lift rfl ?_
    · exact fun h => (State.clocksWf_iff _).mp h
    · assumption
  · assumption

theorem State.ppsFall_keeps (s) : Keeps 134217736 s (State.ppsFall s) := by
  have h0 := Keeps.refl 134217736 s
  unfold State.ppsFall
  split
  · lift_lets -underBinder
    intro v4
    intro v5
    refine Keeps.ite ?_ ?_
    · refine (State.emit_keeps _ _).lift rfl ?_
      refine (Keeps.setTime _ _ ?_).lift rfl ?_
      · exact fun h => (State.clocksWf_iff _).mp h
      · assumption
    · assumption
  · assumption

theorem State.tick_keeps (s) : Keeps 138422537 s (State.tick s) := by
  have h0 := Keeps.refl 138422537 s
  unfold State.tick
  lift_lets -underBinder
  intro v1
  have h2 : Keeps 138422537 s v1 := by
    subst v1
    refine (State.alarmLatches_keeps _).lift rfl ?_
    assumption
  clear_value v1
  intro v3
  intro v4
  intro v5
  intro v6
  intro v7
  have h8 : Keeps 138422537 s v7 := by
    subst v7
    refine (Keeps.setTime _ _ ?_).lift rfl ?_
    · exact fun h => ⟨((State.clocksWf_iff _).mp h).1, Clock.wf_tick ((State.clocksWf_iff _).mp h).2 (State.tickNs_lt _)⟩
    · assumption
  clear_value v7
  refine (State.ppsRise_keeps _ _).lift rfl ?_
  refine (State.ppsFall_keeps _).lift rfl ?_
  refine (State.checkAlarms_keeps _).lift rfl ?_
  refine (State.scheduleSlew_keeps _ _).lift rfl ?_
  refine (State.applyOffset_keeps _ _ ?_).lift rfl ?_
  · exact State.tickInc_lt _
  · assumption

theorem State.increment_keeps (s) (v) : Keeps 1 s (State.increment s v) := by
  have h0 := Keeps.refl 1 s
  unfold State.increment
  lift_lets -underBinder
  intro v1
  refine (State.wr_keeps _ _ _).lift rfl ?_
  refine (State.wr_keeps _ _ _).lift rfl ?_
  assumption

theorem execTuIncrement_keeps (v) (s) : Runs 1 s (execTuIncrement v s) := by
  have h0 := Keeps.refl 1 s
  unfold execTuIncrement
  refine Runs.next ?_
  refine (State.increment_keeps _ _).lift rfl ?_
  assumption

theorem State.offsetAdd_keeps (s) (o) : Keeps 8 s (State.offsetAdd s o) := by
  have h0 := Keeps.refl 8 s
  unfold State.offsetAdd
  refine (Keeps.setTime _ _ ?_).lift rfl ?_
  · exact fun h => (State.clocksWf_iff _).mp h
  · assumption

theorem execTuOffsetAdd_keeps (v) (s) : Runs 8 s (execTuOffsetAdd v s) := by
  have h0 := Keeps.refl 8 s
  unfold execTuOffsetAdd
  refine Runs.next ?_
  refine (State.offsetAdd_keeps _ _).lift rfl ?_
  assumption

theorem execScheduleSlewEnd_keeps (s) : Runs 265 s (execScheduleSlewEnd s) := by
  have h0 := Keeps.refl 265 s
  unfold execScheduleSlewEnd
  refine Runs.next ?_
  refine Keeps.ite ?_ ?_
  · refine (State.record_keeps _ _ _ _ _ _).lift rfl ?_
    refine (Keeps.setTime _ _ ?_).lift rfl ?_
    · exact fun h => (State.clocksWf_iff _).mp h
    · assumption
  · assumption

theorem State.modDm_keeps (s) (d) (f) : Keeps 8 s (State.modDm s d f) := by
  have h0 := Keeps.refl 8 s
  unfold State.modDm
  refine (Keeps.setTime _ _ ?_).lift rfl ?_
  · exact fun h => (State.clocksWf_iff _).mp h
  · assumption

theorem State.setDom_keeps (s) (d) (x) : Keeps 265 s (State.setDom s d x) := by
  have h0 := Keeps.refl 265 s
  unfold State.setDom
  lift_lets -underBinder
  intro v1
  intro v2
  have h3 : Keeps 265 s v2 := by
    subst v2
    refine (State.wr_keeps _ _ _).lift rfl ?_
    assumption
  clear_value v2
  intro v4
  intro v5
  have h6 : Keeps 265 s v5 := by
    subst v5
    refine (State.modDm_keeps _ _ _).lift rfl ?_
    assumption
  clear_value v5
  refine Keeps.ite ?_ ?_
  · assumption
  · refine (State.record_keeps _ _ _ _ _ _).lift rfl ?_
    assumption

theorem State.showLt_keeps (s) (d) : Keeps 9 s (State.showLt s d) := by
  have h0 := Keeps.refl 9 s
  unfold State.showLt
  lift_lets -underBinder
  intro v1
  intro v2
  intro v3
  have h4 : Keeps 9 s v3 := by
    subst v3
    refine Keeps.ite ?_ ?_
    · assumption
    · refine (Keeps.setTime _ _ ?_).lift rfl ?_
      · exact fun h => (State.clocksWf_iff _).mp h
      · assumption
  clear_value v3
  refine Keeps.ite ?_ ?_
  · assumption
  · refine (State.wr_keeps _ _ _).lift rfl ?_
    assumption

theorem State.takeDomain_keeps (s) (d) : Keeps 9 s (State.takeDomain s d) := by
  have h0 := Keeps.refl 9 s
  unfold State.takeDomain
  lift_lets -underBinder
  intro v1
  have h2 : Keeps 9 s v1 := by
    subst v1
    refine (State.bump_keeps _ _).lift rfl ?_
    refine (State.wr_keeps _ _ _).lift rfl ?_
    assumption
  clear_value v1
  intro v3
  have h4 : Keeps 9 s v3 := by
    subst v3
    refine (State.modDm_keeps _ _ _).lift rfl ?_
    assumption
  clear_value v3
  intro v5
  refine (Keeps.setTime _ _ ?_).lift rfl ?_
  · exact fun h => (State.clocksWf_iff _).mp h
  · assumption

theorem State.ltMove_keeps (s) (d) : Keeps 265 s (State.ltMove s d) := by
  have h0 := Keeps.refl 265 s
  unfold State.ltMove
  lift_lets -underBinder
  intro v1
  intro v2
  intro v3
  intro v4
  have h5 : Keeps 265 s v4 := by
    subst v4
    refine (State.takeDomain_keeps _ _).lift rfl ?_
    assumption
  clear_value v4
  intro v6
  have h7 : Keeps 265 s v6 := by
    subst v6
    refine (State.record_keeps _ _ _ _ _ _).lift rfl ?_
    assumption
  clear_value v6
  refine Keeps.ite ?_ ?_
  · refine Keeps.ite ?_ ?_
    · refine (State.showLt_keeps _ _).lift rfl ?_
      refine (State.wr_keeps _ _ _).lift rfl ?_
      refine (State.offsetAdd_keeps _ _).lift rfl ?_
      assumption
    · refine (State.wr_keeps _ _ _).lift rfl ?_
      assumption
  · refine (State.showLt_keeps _ _).lift rfl ?_
    refine Keeps.ite ?_ ?_
    · assumption
    · refine (State.offsetAdd_keeps _ _).lift rfl ?_
      assumption

theorem State.ltDrop_keeps (s) : Keeps 1 s (State.ltDrop s) := by
  have h0 := Keeps.refl 1 s
  unfold State.ltDrop
  lift_lets -underBinder
  intro v1
  refine (State.wr_keeps _ _ _).lift rfl ?_
  refine (State.wr_keeps _ _ _).lift rfl ?_
  refine (State.wr_keeps _ _ _).lift rfl ?_
  assumption

theorem State.ltPick_keeps (s) : Keeps 265 s (State.ltPick s) := by
  have h0 := Keeps.refl 265 s
  unfold State.ltPick
  lift_lets -underBinder
  intro v1
  intro v2
  refine Keeps.ite ?_ ?_
  · refine (State.ltMove_keeps _ _).lift rfl ?_
    assumption
  · refine Keeps.ite ?_ ?_
    · refine (State.ltMove_keeps _ _).lift rfl ?_
      assumption
    · refine Keeps.ite ?_ ?_
      · refine (State.ltMove_keeps _ _).lift rfl ?_
        assumption
      · refine Keeps.ite ?_ ?_
        · refine (State.ltMove_keeps _ _).lift rfl ?_
          assumption
        · assumption

theorem State.ppsHold_keeps (s) : Keeps 134217736 s (State.ppsHold s) := by
  have h0 := Keeps.refl 134217736 s
  unfold State.ppsHold
  refine Keeps.ite ?_ ?_
  · refine (State.emit_keeps _ _).lift rfl ?_
    refine (Keeps.setTime _ _ ?_).lift rfl ?_
    · exact fun h => (State.clocksWf_iff _).mp h
    · assumption
  · assumption

theorem State.syntEval_keeps (s) : Keeps 1 s (State.syntEval s) := by
  have h0 := Keeps.refl 1 s
  unfold State.syntEval
  lift_lets -underBinder
  intro v1
  refine Keeps.ite ?_ ?_
  · refine Keeps.ite ?_ ?_
    · refine (State.wr_keeps _ _ _).lift rfl ?_
      assumption
    · assumption
  · refine (State.wr_keeps _ _ _).lift rfl ?_
    refine (State.wr_keeps _ _ _).lift rfl ?_
    assumption

theorem State.syntSync_keeps (s) (d) (rec) : Keeps 265 s (State.syntSync s d rec) := by
  have h0 := Keeps.refl 265 s
  unfold State.syntSync
  lift_lets -underBinder
  intro v1
  have h2 : Keeps 265 s v1 := by
    subst v1
    refine (State.wr_keeps _ _ _).lift rfl ?_
    assumption
  clear_value v1
  intro v3
  have h4 : Keeps 265 s v3 := by
    subst v3
    refine (State.modDm_keeps _ _ _).lift rfl ?_
    assumption
  clear_value v3
  refine Keeps.ite ?_ ?_
  · assumption
  · refine Keeps.ite ?_ ?_
    · refine (State.record_keeps _ _ _ _ _ _).lift rfl ?_
      refine (State.syntEval_keeps _).lift rfl ?_
      assumption
    · refine (State.wr_keeps _ _ _).lift rfl ?_
      assumption

theorem State.evalLt_keeps (s) : Keeps 134217993 s (State.evalLt s) := by
  have h0 := Keeps.refl 134217993 s
  unfold State.evalLt
  lift_lets -underBinder
  intro v1
  intro v2
  have h3 : Keeps 134217993 s v2 := by
    subst v2
    refine Keeps.ite ?_ ?_
    · refine (State.ltPick_keeps _).lift rfl ?_
      assumption
    · refine Keeps.ite ?_ ?_
      · refine (State.showLt_keeps _ _).lift rfl ?_
        assumption
      · refine Keeps.ite ?_ ?_
        · refine Keeps.ite ?_ ?_
          · refine (State.ltMove_keeps _ _).lift rfl ?_
            assumption
          · refine (State.showLt_keeps _ _).lift rfl ?_
            assumption
        · refine Keeps.ite ?_ ?_
          · refine (State.ltMove_keeps _ _).lift rfl ?_
            assumption
          · refine (State.ltPick_keeps _).lift rfl ?_
            refine (State.ltDrop_keeps _).lift rfl ?_
            assumption
  clear_value v2
  refine (State.ppsHold_keeps _).lift rfl ?_
  refine (State.syntEval_keeps _).lift rfl ?_
  assumption

theorem State.breach_keeps (s) (d) (detail) (resid) (rate) : Keeps 265 s (State.breach s d detail resid rate) := by
  have h0 := Keeps.refl 265 s
  unfold State.breach
  lift_lets -underBinder
  intro v1
  have h2 : Keeps 265 s v1 := by
    subst v1
    refine (State.record_keeps _ _ _ _ _ _).lift rfl ?_
    refine (State.bump_keeps _ _).lift rfl ?_
    assumption
  clear_value v1
  refine (State.setDom_keeps _ _ _).lift rfl ?_
  refine (State.modDm_keeps _ _ _).lift rfl ?_
  assumption

theorem State.domRuns_keeps (s) (d) (resid) (rate) (old) : Keeps 265 s (State.domRuns s d resid rate old) := by
  have h0 := Keeps.refl 265 s
  unfold State.domRuns
  lift_lets -underBinder
  intro v1
  intro v2
  intro v3
  have h4 : Keeps 265 s v3 := by
    subst v3
    refine (State.modDm_keeps _ _ _).lift rfl ?_
    assumption
  clear_value v3
  intro v5
  intro v6
  refine (State.setDom_keeps _ _ _).lift rfl ?_
  assumption

theorem State.domSync_keeps (s) (d) (f) (o) (rate) : Keeps 265 s (State.domSync s d f o rate) := by
  have h0 := Keeps.refl 265 s
  unfold State.domSync
  lift_lets -underBinder
  intro v1
  intro v2
  intro v3
  intro v4
  intro v5
  intro v6
  intro v7
  intro v8
  intro v9
  have h10 : Keeps 265 s v9 := by
    subst v9
    refine (State.modDm_keeps _ _ _).lift rfl ?_
    refine (State.wr_keeps _ _ _).lift rfl ?_
    refine (State.wr_keeps _ _ _).lift rfl ?_
    assumption
  clear_value v9
  clear_value v6
  split
  · assumption
  · refine (State.setDom_keeps _ _ _).lift rfl ?_
    refine (State.modDm_keeps _ _ _).lift rfl ?_
    assumption
  · refine Keeps.ite ?_ ?_
    · refine (State.breach_keeps _ _ _ _ _).lift rfl ?_
      assumption
    · refine Keeps.ite ?_ ?_
      · refine (State.breach_keeps _ _ _ _ _).lift rfl ?_
        assumption
      · refine Keeps.ite ?_ ?_
        · assumption
        · refine (State.domRuns_keeps _ _ _ _ _).lift rfl ?_
          assumption
  · refine Keeps.ite ?_ ?_
    · refine (State.breach_keeps _ _ _ _ _).lift rfl ?_
      assumption
    · refine Keeps.ite ?_ ?_
      · refine (State.breach_keeps _ _ _ _ _).lift rfl ?_
        assumption
      · refine Keeps.ite ?_ ?_
        · assumption
        · refine (State.domRuns_keeps _ _ _ _ _).lift rfl ?_
          assumption
  · refine Keeps.ite ?_ ?_
    · refine (State.breach_keeps _ _ _ _ _).lift rfl ?_
      assumption
    · refine Keeps.ite ?_ ?_
      · refine (State.breach_keeps _ _ _ _ _).lift rfl ?_
        assumption
      · refine Keeps.ite ?_ ?_
        · assumption
        · refine (State.domRuns_keeps _ _ _ _ _).lift rfl ?_
          assumption
  · lift_lets -underBinder
    intro v17
    refine (State.modDm_keeps _ _ _).lift rfl ?_
    assumption

theorem State.servo_keeps (s) (d) (off) (dt) : Keeps 9 s (State.servo s d off dt) := by
  have h0 := Keeps.refl 9 s
  unfold State.servo
  lift_lets -underBinder
  intro v1
  have h2 : Keeps 9 s v1 := by
    subst v1
    refine (State.wr_keeps _ _ _).lift rfl ?_
    assumption
  intro v3
  intro v4
  intro v5
  intro v6
  have h7 : Keeps 9 s v6 := by
    subst v6
    refine (Keeps.setTime _ _ ?_).lift rfl ?_
    · exact fun h => (State.clocksWf_iff _).mp h
    · assumption
  intro v8
  intro v9
  intro v10
  intro v11
  intro v12
  intro v13
  refine Keeps.ite ?_ ?_
  · refine (State.offsetAdd_keeps _ _).lift rfl ?_
    assumption
  · refine (State.increment_keeps _ _).lift rfl ?_
    assumption

theorem State.ptpAuth_keeps (s) (d) (p) (icv) : Keeps 257 s (Prod.snd (State.ptpAuth s d p icv)) := by
  have h0 := Keeps.refl 257 s
  unfold State.ptpAuth
  split
  · split
    · dsimp -zeta only
      refine (State.bump_keeps _ _).lift rfl ?_
      assumption
    · dsimp -zeta only
      assumption
  · split
    · dsimp -zeta only
      assumption
    · dsimp -zeta only
      refine (State.record_keeps _ _ _ _ _ _).lift rfl ?_
      refine (State.bump_keeps _ _).lift rfl ?_
      assumption

theorem State.syncReceive_keeps (s) (d) (m) : Keeps 134217993 s (State.syncReceive s d m) := by
  have h0 := Keeps.refl 134217993 s
  unfold State.syncReceive
  refine Keeps.ite ?_ ?_
  · refine (State.bump_keeps _ _).lift rfl ?_
    assumption
  · refine Keeps.ite ?_ ?_
    · assumption
    · split
      rename_i x1 x2 x3 x4
      have h5 : Keeps 134217993 s x3 := by
        refine Keeps.of_eq (congrArg Prod.snd x4) ?_
        refine (State.ptpAuth_keeps _ _ _ _).lift rfl ?_
        assumption
      refine Keeps.ite ?_ ?_
      · assumption
      · lift_lets -underBinder
        intro v6
        intro v7
        intro v8
        intro v9
        intro v10
        intro v11
        intro v12
        have h13 : Keeps 134217993 s v12 := by
          subst v12
          refine (State.modDm_keeps _ _ _).lift rfl ?_
          assumption
        clear_value v12
        intro v14
        have h15 : Keeps 134217993 s v14 := by
          subst v14
          refine (State.evalLt_keeps _).lift rfl ?_
          refine (State.domSync_keeps _ _ _ _ _).lift rfl ?_
          assumption
        clear_value v14
        refine Keeps.ite ?_ ?_
        · assumption
        · refine Keeps.ite ?_ ?_
          · refine (State.servo_keeps _ _ _ _).lift rfl ?_
            refine (State.syntSync_keeps _ _ _).lift rfl ?_
            assumption
          · refine (State.wr_keeps _ _ _).lift rfl ?_
            refine (State.syntSync_keeps _ _ _).lift rfl ?_
            assumption

theorem execPtpSyncReceive_keeps (d) (m) (s) : Runs 134217993 s (execPtpSyncReceive d m s) := by
  have h0 := Keeps.refl 134217993 s
  unfold execPtpSyncReceive
  refine Runs.next ?_
  refine (State.syncReceive_keeps _ _ _).lift rfl ?_
  assumption

theorem State.bmca_keeps (s) (d) : Keeps 265 s (State.bmca s d) := by
  have h0 := Keeps.refl 265 s
  unfold State.bmca
  lift_lets -underBinder
  intro v1
  intro v2
  intro v3
  intro v4
  intro v5
  intro v6
  have h7 : Keeps 265 s v6 := by
    subst v6
    refine (State.modDm_keeps _ _ _).lift rfl ?_
    assumption
  intro v8
  have h9 : Keeps 265 s v8 := by
    subst v8
    refine Keeps.ite ?_ ?_
    · refine (State.wr_keeps _ _ _).lift rfl ?_
      assumption
    · assumption
  intro v10
  have h11 : Keeps 265 s v10 := by
    subst v10
    refine Keeps.ite ?_ ?_
    · refine (State.wr_keeps _ _ _).lift rfl ?_
      assumption
    · assumption
  intro v12
  have h13 : Keeps 265 s v12 := by
    subst v12
    clear_value v5
    split
    · refine (State.wr_keeps _ _ _).lift rfl ?_
      assumption
    · refine Keeps.ite ?_ ?_
      · refine (State.wr_keeps _ _ _).lift rfl ?_
        assumption
      · assumption
  intro v17
  refine Keeps.ite ?_ ?_
  · assumption
  · refine (State.record_keeps _ _ _ _ _ _).lift rfl ?_
    refine (State.modDm_keeps _ _ _).lift rfl ?_
    refine (State.wr_keeps _ _ _).lift rfl ?_
    assumption

theorem State.announceTimeout_keeps (s) (d) : Keeps 265 s (State.announceTimeout s d) := by
  have h0 := Keeps.refl 265 s
  unfold State.announceTimeout
  refine Keeps.ite ?_ ?_
  · lift_lets -underBinder
    intro v1
    refine (State.syntEval_keeps _).lift rfl ?_
    refine (State.bmca_keeps _ _).lift rfl ?_
    refine (State.modDm_keeps _ _ _).lift rfl ?_
    assumption
  · assumption

theorem State.timeTick_keeps (s) : Keeps 138422537 s (State.timeTick s) := by
  have h0 := Keeps.refl 138422537 s
  unfold State.timeTick
  refine Keeps.each ?_ (fun t1 a2 h3 => ?_)
  · refine (State.tick_keeps _).lift rfl ?_
    assumption
  · refine (State.announceTimeout_keeps _ _).lift rfl ?_
    assumption

theorem State.domainAbsent_keeps (s) (d) : Keeps 134217993 s (State.domainAbsent s d) := by
  have h0 := Keeps.refl 134217993 s
  unfold State.domainAbsent
  split
  · assumption
  · assumption
  · refine (State.modDm_keeps _ _ _).lift rfl ?_
    assumption
  · lift_lets -underBinder
    intro v11
    have h12 : Keeps 134217993 s v11 := by
      subst v11
      refine (State.modDm_keeps _ _ _).lift rfl ?_
      assumption
    clear_value v11
    refine (State.evalLt_keeps _).lift rfl ?_
    refine (State.setDom_keeps _ _ _).lift rfl ?_
    assumption

theorem execDomainAbsent_keeps (d) (s) : Runs 134217993 s (execDomainAbsent d s) := by
  have h0 := Keeps.refl 134217993 s
  unfold execDomainAbsent
  refine Runs.next ?_
  refine (State.domainAbsent_keeps _ _).lift rfl ?_
  assumption

theorem execRequalifyTimeExpiry_keeps (d) (s) : Runs 134217993 s (execRequalifyTimeExpiry d s) := by
  have h0 := Keeps.refl 134217993 s
  unfold execRequalifyTimeExpiry
  refine Runs.next ?_
  refine Keeps.ite ?_ ?_
  · refine (State.evalLt_keeps _).lift rfl ?_
    refine (State.setDom_keeps _ _ _).lift rfl ?_
    assumption
  · assumption

theorem execDomainRevert_keeps (d) (s) : Runs 265 s (execDomainRevert d s) := by
  have h0 := Keeps.refl 265 s
  unfold execDomainRevert
  refine Runs.next ?_
  refine Keeps.ite ?_ ?_
  · refine (State.syntEval_keeps _).lift rfl ?_
    refine (State.ltMove_keeps _ _).lift rfl ?_
    assumption
  · assumption

theorem execLineTimeSlewEnd_keeps (s) : Runs 134217993 s (execLineTimeSlewEnd s) := by
  have h0 := Keeps.refl 134217993 s
  unfold execLineTimeSlewEnd
  refine Runs.next ?_
  refine Keeps.ite ?_ ?_
  · refine (State.evalLt_keeps _).lift rfl ?_
    refine (State.wr_keeps _ _ _).lift rfl ?_
    assumption
  · assumption

theorem State.selectRequest_keeps (s) (v) : Keeps 265 s (Res.st (State.selectRequest s v)) := by
  have h0 := Keeps.refl 265 s
  unfold State.selectRequest
  split
  · dsimp -zeta only [refuse]
    assumption
  · split
    · dsimp -zeta only [refuse]
      assumption
    · split
      · dsimp -zeta only [okRes]
        assumption
      · dsimp -zeta only [okRes]
        refine (State.syntEval_keeps _).lift rfl ?_
        refine (State.ltMove_keeps _ _).lift rfl ?_
        assumption

theorem State.announce_keeps (s) (d) (a) : Keeps 265 s (State.announce s d a) := by
  have h0 := Keeps.refl 265 s
  unfold State.announce
  refine Keeps.ite ?_ ?_
  · assumption
  · lift_lets -underBinder
    intro v1
    refine (State.bmca_keeps _ _).lift rfl ?_
    refine Keeps.ite ?_ ?_
    · refine (State.modDm_keeps _ _ _).lift rfl ?_
      assumption
    · assumption

theorem State.delayAnswer_keeps (s) (d) (p) (peer) (sender) (seq) (corr) (off) : Keeps 17 s (State.delayAnswer s d p peer sender seq corr off) := by
  have h0 := Keeps.refl 17 s
  unfold State.delayAnswer
  lift_lets -underBinder
  intro v1
  intro v2
  intro v3
  intro v4
  refine Keeps.ite ?_ ?_
  · assumption
  · refine Keeps.ite ?_ ?_
    · refine (State.ptpSend_keeps _ _ _ _ _ _).lift rfl ?_
      assumption
    · refine Keeps.ite ?_ ?_
      · refine (State.ptpSend_keeps _ _ _ _ _ _).lift rfl ?_
        assumption
      · assumption

theorem State.ptpMessage_keeps (s) (d) (m) : Keeps 281 s (State.ptpMessage s d m) := by
  have h0 := Keeps.refl 281 s
  unfold State.ptpMessage
  split
  · refine (State.syntEval_keeps _).lift rfl ?_
    refine (State.announce_keeps _ _ _).lift rfl ?_
    assumption
  · lift_lets -underBinder
    intro v8
    have h9 : Keeps 281 s v8 := by
      subst v8
      refine (State.modDm_keeps _ _ _).lift rfl ?_
      assumption
    clear_value v8
    refine Keeps.ite ?_ ?_
    · refine (State.wr_keeps _ _ _).lift rfl ?_
      assumption
    · assumption
  · refine (State.delayAnswer_keeps _ _ _ _ _ _ _ _).lift rfl ?_
    assumption
  · refine Keeps.ite ?_ ?_
    · refine (State.ptpSend_keeps _ _ _ _ _ _).lift rfl ?_
      assumption
    · assumption

theorem execPtpMessageReceive_keeps (d) (x) (s) : Runs 281 s (execPtpMessageReceive d x s) := by
  have h0 := Keeps.refl 281 s
  unfold execPtpMessageReceive
  refine Runs.next ?_
  refine Keeps.ite ?_ ?_
  · assumption
  · split
    rename_i x1 x2 x3 x4
    have h5 : Keeps 281 s x3 := by
      refine Keeps.of_eq (congrArg Prod.snd x4) ?_
      refine (State.ptpAuth_keeps _ _ _ _).lift rfl ?_
      assumption
    refine Keeps.ite ?_ ?_
    · refine (State.ptpMessage_keeps _ _ _).lift rfl ?_
      assumption
    · assumption

theorem State.ptpInterval_keeps (s) (d) (t) (p) : Keeps 25 s (State.ptpInterval s d t p) := by
  have h0 := Keeps.refl 25 s
  unfold State.ptpInterval
  lift_lets -underBinder
  intro v1
  intro v2
  intro v3
  have h4 : Keeps 25 s v3 := by
    subst v3
    refine (State.modDm_keeps _ _ _).lift rfl ?_
    assumption
  clear_value v3
  split
  · refine (State.ptpSend_keeps _ _ _ _ _ _).lift rfl ?_
    assumption
  · split
    refine (State.ptpSend_keeps _ _ _ _ _ _).lift rfl ?_
    assumption
  · refine Keeps.ite ?_ ?_
    · refine (State.ptpSend_keeps _ _ _ _ _ _).lift rfl ?_
      assumption
    · refine (State.ptpSend_keeps _ _ _ _ _ _).lift rfl ?_
      assumption

theorem execPtpMessageInterval_keeps (d) (t) (p) (s) : Runs 25 s (execPtpMessageInterval d t p s) := by
  have h0 := Keeps.refl 25 s
  unfold execPtpMessageInterval
  refine Runs.next ?_
  refine Keeps.ite ?_ ?_
  · refine (State.ptpInterval_keeps _ _ _ _).lift rfl ?_
    assumption
  · assumption

theorem State.ppsEdge_keeps (s) (off) : Keeps 4204809 s (State.ppsEdge s off) := by
  have h0 := Keeps.refl 4204809 s
  unfold State.ppsEdge
  refine Keeps.ite ?_ ?_
  · assumption
  · lift_lets -underBinder
    intro v1
    intro v2
    have h3 : Keeps 4204809 s v2 := by
      subst v2
      refine (State.latchEvent_keeps _ _ _ _).lift rfl ?_
      refine (State.wr_keeps _ _ _).lift rfl ?_
      assumption
    clear_value v2
    intro v4
    intro v5
    have h6 : Keeps 4204809 s v5 := by
      subst v5
      refine (Keeps.setTime _ _ ?_).lift rfl ?_
      · exact fun h => (State.clocksWf_iff _).mp h
      · assumption
    clear_value v5
    intro v7
    intro v8
    intro v9
    have h10 : Keeps 4204809 s v9 := by
      subst v9
      split
      · refine (State.offsetAdd_keeps _ _).lift rfl ?_
        refine (Keeps.setTime _ _ ?_).lift rfl ?_
        · exact fun h => (State.clocksWf_iff _).mp h
        · assumption
      · assumption
    clear_value v9
    refine Keeps.ite ?_ ?_
    · refine (State.servo_keeps _ _ _ _).lift rfl ?_
      assumption
    · assumption

theorem execPpsInEdge_keeps (off) (s) : Runs 4204809 s (execPpsInEdge off s) := by
  have h0 := Keeps.refl 4204809 s
  unfold execPpsInEdge
  refine Runs.next ?_
  refine (State.ppsEdge_keeps _ _).lift rfl ?_
  assumption

theorem State.todWrite_keeps (s) (v) : Keeps 8 s (State.todWrite s v) := by
  have h0 := Keeps.refl 8 s
  unfold State.todWrite
  refine (Keeps.setTime _ _ ?_).lift rfl ?_
  · exact fun h => (State.clocksWf_iff _).mp h
  · assumption

theorem execPpsOutPulse_keeps (rise) (s) : Runs 134217736 s (execPpsOutPulse rise s) := by
  have h0 := Keeps.refl 134217736 s
  unfold execPpsOutPulse
  refine Runs.next ?_
  refine Keeps.ite ?_ ?_
  · refine (State.ppsRise_keeps _ _).lift rfl ?_
    assumption
  · refine (State.ppsFall_keeps _).lift rfl ?_
    assumption

theorem State.ethPllShow_keeps (s) : Keeps 1 s (State.ethPllShow s) := by
  have h0 := Keeps.refl 1 s
  unfold State.ethPllShow
  refine (State.putBit_keeps _ _ _ _).lift rfl ?_
  assumption

theorem execEthPllLoss_keeps (s) : Runs 134217769 s (execEthPllLoss s) := by
  have h0 := Keeps.refl 134217769 s
  unfold execEthPllLoss
  lift_lets -underBinder
  intro v1
  have h2 : Keeps 134217769 s v1 := by
    subst v1
    refine (State.wr_keeps _ _ _).lift rfl ?_
    refine (State.clrBit_keeps _ _ _).lift rfl ?_
    assumption
  clear_value v1
  intro v3
  intro v4
  have h5 : Keeps 134217769 s v4 := by
    subst v4
    refine (Keeps.setPw _ _).lift rfl ?_
    assumption
  clear_value v4
  refine Runs.next ?_
  refine (State.ppsHold_keeps _).lift rfl ?_
  refine (State.syntEval_keeps _).lift rfl ?_
  refine (State.ltDrop_keeps _).lift rfl ?_
  assumption

theorem execEthPllRelock_keeps (s) : Runs 134218025 s (execEthPllRelock s) := by
  have h0 := Keeps.refl 134218025 s
  unfold execEthPllRelock
  lift_lets -underBinder
  intro v1
  have h2 : Keeps 134218025 s v1 := by
    subst v1
    refine (State.ethPllShow_keeps _).lift rfl ?_
    assumption
  clear_value v1
  intro v3
  refine Runs.next ?_
  refine (State.evalLt_keeps _).lift rfl ?_
  refine (Keeps.setPw _ _).lift rfl ?_
  assumption

theorem State.linkChange_keeps (s) (p) (up) : Keeps 265 s (State.linkChange s p up) := by
  have h0 := Keeps.refl 265 s
  unfold State.linkChange
  lift_lets -underBinder
  intro v1
  intro v2
  have h3 : Keeps 265 s v2 := by
    subst v2
    refine (State.putBit_keeps _ _ _ _).lift rfl ?_
    assumption
  clear_value v2
  refine Keeps.ite ?_ ?_
  · assumption
  · refine (State.syntEval_keeps _).lift rfl ?_
    refine Keeps.each ?_ (fun t4 a5 h6 => ?_)
    · assumption
    · refine (State.bmca_keeps _ _).lift rfl ?_
      refine (State.modDm_keeps _ _ _).lift rfl ?_
      assumption

theorem execEthLinkChange_keeps (p) (up) (s) : Runs 265 s (execEthLinkChange p up s) := by
  have h0 := Keeps.refl 265 s
  unfold execEthLinkChange
  refine Runs.next ?_
  refine Keeps.ite ?_ ?_
  · assumption
  · refine (State.linkChange_keeps _ _ _).lift rfl ?_
    assumption

theorem State.timeCommit_keeps (s) (was) : Keeps 134217993 s (State.timeCommit s was) := by
  have h0 := Keeps.refl 134217993 s
  unfold State.timeCommit
  lift_lets -underBinder
  intro v1
  have h2 : Keeps 134217993 s v1 := by
    subst v1
    refine Keeps.each ?_ (fun t3 a4 h5 => ?_)
    · assumption
    · lift_lets -underBinder
      intro v6
      refine Keeps.ite ?_ ?_
      · refine (State.setDom_keeps _ _ _).lift rfl ?_
        refine (State.modDm_keeps _ _ _).lift rfl ?_
        assumption
      · refine Keeps.ite ?_ ?_
        · refine (State.setDom_keeps _ _ _).lift rfl ?_
          refine (State.bmca_keeps _ _).lift rfl ?_
          refine (State.modDm_keeps _ _ _).lift rfl ?_
          assumption
        · refine (State.bmca_keeps _ _).lift rfl ?_
          assumption
  clear_value v1
  intro v7
  have h8 : Keeps 134217993 s v7 := by
    subst v7
    refine Keeps.each ?_ (fun t9 a10 h11 => ?_)
    · assumption
    · refine Keeps.ite ?_ ?_
      · assumption
      · refine (State.clrBit_keeps _ _ _).lift rfl ?_
        assumption
  clear_value v7
  intro v12
  have h13 : Keeps 134217993 s v12 := by
    subst v12
    refine Keeps.ite ?_ ?_
    · assumption
    · refine (State.ethPllShow_keeps _).lift rfl ?_
      assumption
  clear_value v12
  refine (State.evalLt_keeps _).lift rfl ?_
  assumption

theorem State.frameReceive_keeps (s) (p) (bs) (fcsOk) (icv) (stampLost) (off) : Keeps 17 s (State.frameReceive s p bs fcsOk icv stampLost off) := by
  have h0 := Keeps.refl 17 s
  unfold State.frameReceive
  lift_lets -underBinder
  intro v1
  intro v2
  intro v3
  intro v4
  intro v5
  intro v6
  refine Keeps.ite ?_ ?_
  · assumption
  · refine Keeps.ite ?_ ?_
    · subst v3
      dsimp -zeta only
      refine (State.bump_keeps _ _).lift rfl ?_
      assumption
    · refine Keeps.ite ?_ ?_
      · subst v3
        dsimp -zeta only
        refine (State.bump_keeps _ _).lift rfl ?_
        assumption
      · refine Keeps.ite ?_ ?_
        · refine (State.bump_keeps _ _).lift rfl ?_
          assumption
        · refine Keeps.ite ?_ ?_
          · subst v3
            dsimp -zeta only
            refine (State.bump_keeps _ _).lift rfl ?_
            assumption
          · refine (State.forward_keeps _ _ _ _ _ _ _).lift rfl ?_
            refine Keeps.ite ?_ ?_
            · refine (Keeps.setNet _ _).lift rfl ?_
              assumption
            · assumption

theorem execFrameReceive_keeps (p) (bytes) (fcsOk) (icv) (stampLost) (off) (s) : Runs 17 s (execFrameReceive p bytes fcsOk icv stampLost off s) := by
  have h0 := Keeps.refl 17 s
  unfold execFrameReceive
  refine Runs.next ?_
  refine (State.frameReceive_keeps _ _ _ _ _ _ _).lift rfl ?_
  assumption

theorem State.tcFrame_keeps (s) (f) (o) (eg) : Keeps 1 s (Prod.fst (State.tcFrame s f o eg)) := by
  have h0 := Keeps.refl 1 s
  unfold State.tcFrame
  lift_lets -underBinder
  intro v1
  intro v2
  intro v3
  intro v4
  split
  · dsimp -zeta only
    assumption
  · split
    · dsimp -zeta only
      refine (State.bump_keeps _ _).lift rfl ?_
      assumption
    · split
      · dsimp -zeta only
        assumption
      · split
        dsimp -zeta only
        refine Keeps.ite ?_ ?_
        · refine (State.bump_keeps _ _).lift rfl ?_
          assumption
        · assumption

theorem State.frameTransmit_keeps (s) (q) (off) : Keeps 134217745 s (State.frameTransmit s q off) := by
  have h0 := Keeps.refl 134217745 s
  unfold State.frameTransmit
  lift_lets -underBinder
  intro v1
  refine Keeps.ite ?_ ?_
  · assumption
  · split
    · assumption
    · lift_lets -underBinder
      intro v7
      intro v8
      have h9 : Keeps 134217745 s v8 := by
        subst v8
        refine (Keeps.setNet _ _).lift rfl ?_
        assumption
      clear_value v8
      intro v10
      intro v11
      have h12 : Keeps 134217745 s v11 := by
        subst v11
        refine (Keeps.setNet _ _).lift rfl ?_
        assumption
      clear_value v11
      intro v13
      intro v14
      have h15 : Keeps 134217745 s (Prod.fst v14) := by
        subst v14
        split
        · split
          · dsimp -zeta only
            assumption
          · split
            · dsimp -zeta only
              assumption
            · refine (State.tcFrame_keeps _ _ _ _).lift rfl ?_
              assumption
        · dsimp -zeta only
          assumption
      clear_value v14
      split
      rename_i x25 x26 x27 x28
      refine Keeps.ite ?_ ?_
      · lift_lets -underBinder
        intro v29
        intro v30
        refine (State.emit_keeps _ _).lift rfl ?_
        refine (State.bump_keeps _ _).lift rfl ?_
        assumption
      · refine (State.emit_keeps _ _).lift rfl ?_
        assumption

theorem execFrameTransmit_keeps (p) (off) (s) : Runs 134217745 s (execFrameTransmit p off s) := by
  have h0 := Keeps.refl 134217745 s
  unfold execFrameTransmit
  refine Runs.next ?_
  refine (State.frameTransmit_keeps _ _ _).lift rfl ?_
  assumption

theorem execAddressAgeing_keeps (mac) (s) : Runs 16 s (execAddressAgeing mac s) := by
  have h0 := Keeps.refl 16 s
  unfold execAddressAgeing
  refine Runs.next ?_
  refine (Keeps.setNet _ _).lift rfl ?_
  assumption

theorem State.tableLoading_keeps (s) (t) : Keeps 2097153 s (State.tableLoading s t) := by
  have h0 := Keeps.refl 2097153 s
  unfold State.tableLoading
  refine Keeps.ite ?_ ?_
  · assumption
  · lift_lets -underBinder
    intro v1
    have h2 : Keeps 2097153 s v1 := by
      subst v1
      refine (State.wr_keeps _ _ _).lift rfl ?_
      assumption
    clear_value v1
    refine (Keeps.setTableLen _ _).lift rfl ?_
    assumption

theorem State.tableHeader_keeps (s) (t) (key) (v) : Keeps 2097153 s (Res.st (State.tableHeader s t key v)) := by
  have h0 := Keeps.refl 2097153 s
  unfold State.tableHeader
  split
  · dsimp -zeta only [refuse]
    assumption
  · dsimp -zeta only [okRes]
    refine (State.wr_keeps _ _ _).lift rfl ?_
    refine (State.tableLoading_keeps _ _).lift rfl ?_
    assumption

theorem State.tableData_keeps (s) (t) (bs) : Keeps 3145729 s (Res.st (State.tableData s t bs)) := by
  have h0 := Keeps.refl 3145729 s
  unfold State.tableData
  lift_lets -underBinder
  intro v1
  intro v2
  have h3 : Keeps 3145729 s v2 := by
    subst v2
    refine (State.tableLoading_keeps _ _).lift rfl ?_
    assumption
  clear_value v2
  intro v4
  have h5 : Keeps 3145729 s v4 := by
    subst v4
    refine (Keeps.setTableLen _ _).lift rfl ?_
    assumption
  clear_value v4
  split
  · dsimp -zeta only [refuse]
    assumption
  · split
    · dsimp -zeta only [refuse]
      assumption
    · dsimp -zeta only [okRes]
      refine (Keeps.setTableRam _ _ ?_).lift rfl ?_
      · exact fun h => Memory.wf_writeAll _ _ ((State.canonical_iff _).mp h).2.2.1
      · assumption

theorem State.tableFinish_keeps (s) (t) : Keeps 1 s (Res.st (State.tableFinish s t)) := by
  have h0 := Keeps.refl 1 s
  unfold State.tableFinish
  lift_lets -underBinder
  intro v1
  intro v2
  split
  · dsimp -zeta only [refuse]
    assumption
  · split
    · split
      · dsimp -zeta only [refuse]
        assumption
      · dsimp -zeta only [okRes]
        refine (State.wr_keeps _ _ _).lift rfl ?_
        refine (State.wr_keeps _ _ _).lift rfl ?_
        assumption
    · split
      · dsimp -zeta only [refuse]
        assumption
      · dsimp -zeta only [okRes]
        refine (State.wr_keeps _ _ _).lift rfl ?_
        refine (State.wr_keeps _ _ _).lift rfl ?_
        assumption

theorem State.modSb_keeps (s) (i) (f) : Keeps 262144 s (State.modSb s i f) := by
  have h0 := Keeps.refl 262144 s
  unfold State.modSb
  refine (Keeps.setSub _ _).lift rfl ?_
  assumption

theorem State.setSub_keeps (s) (i) (st) : Keeps 257 s (State.setSub s i st) := by
  have h0 := Keeps.refl 257 s
  unfold State.setSub
  lift_lets -underBinder
  intro v1
  refine Keeps.ite ?_ ?_
  · assumption
  · refine (State.record_keeps _ _ _ _ _ _).lift rfl ?_
    refine (State.wr_keeps _ _ _).lift rfl ?_
    assumption

theorem State.passReject_keeps (s) (i) (counter) (order) (seq) : Keeps 257 s (State.passReject s i counter order seq) := by
  have h0 := Keeps.refl 257 s
  unfold State.passReject
  lift_lets -underBinder
  intro v1
  have h2 : Keeps 257 s v1 := by
    subst v1
    refine (State.record_keeps _ _ _ _ _ _).lift rfl ?_
    refine (State.bump_keeps _ _).lift rfl ?_
    assumption
  clear_value v1
  refine Keeps.each ?_ (fun t3 a4 h5 => ?_)
  · assumption
  · refine (State.setBit_keeps _ _ _).lift rfl ?_
    assumption

theorem State.passForce_keeps (s) (i) : Keeps 262401 s (State.passForce s i) := by
  have h0 := Keeps.refl 262401 s
  unfold State.passForce
  split
  · assumption
  · refine Keeps.ite ?_ ?_
    · assumption
    · lift_lets -underBinder
      intro v6
      have h7 : Keeps 262401 s v6 := by
        subst v6
        refine (State.modSb_keeps _ _ _).lift rfl ?_
        assumption
      clear_value v6
      refine (State.setSub_keeps _ _ _).lift rfl ?_
      refine (State.wr_keeps _ _ _).lift rfl ?_
      refine (State.wr_keeps _ _ _).lift rfl ?_
      assumption

theorem execPassComesIntoForce_keeps (i) (s) : Runs 262401 s (execPassComesIntoForce i s) := by
  have h0 := Keeps.refl 262401 s
  unfold execPassComesIntoForce
  refine Runs.next ?_
  split
  · refine Keeps.ite ?_ ?_
    · refine (State.passForce_keeps _ _).lift rfl ?_
      assumption
    · assumption
  · assumption

theorem execPassValidityEnd_keeps (i) (s) : Runs 257 s (execPassValidityEnd i s) := by
  have h0 := Keeps.refl 257 s
  unfold execPassValidityEnd
  refine Runs.next ?_
  split
  · refine Keeps.ite ?_ ?_
    · assumption
    · refine Keeps.ite ?_ ?_
      · refine (State.setSub_keeps _ _ _).lift rfl ?_
        assumption
      · refine (State.setSub_keeps _ _ _).lift rfl ?_
        refine (State.wr_keeps _ _ _).lift rfl ?_
        refine (State.bump_keeps _ _).lift rfl ?_
        assumption
  · assumption

theorem State.graceExpiry_keeps (s) (i) : Keeps 262401 s (State.graceExpiry s i) := by
  have h0 := Keeps.refl 262401 s
  unfold State.graceExpiry
  split
  · lift_lets -underBinder
    intro v4
    intro v5
    intro v6
    have h7 : Keeps 262401 s v6 := by
      subst v6
      split
      · refine (State.passReject_keeps _ _ _ _ _).lift rfl ?_
        assumption
      · assumption
    clear_value v6
    refine Keeps.ite ?_ ?_
    · assumption
    · refine (State.setSub_keeps _ _ _).lift rfl ?_
      refine (State.modSb_keeps _ _ _).lift rfl ?_
      assumption
  · assumption

theorem execGraceTimeExpiry_keeps (i) (s) : Runs 262401 s (execGraceTimeExpiry i s) := by
  have h0 := Keeps.refl 262401 s
  unfold execGraceTimeExpiry
  refine Runs.next ?_
  refine (State.graceExpiry_keeps _ _).lift rfl ?_
  assumption

theorem execCommonStopEnd_keeps (i) (s) : Runs 257 s (execCommonStopEnd i s) := by
  have h0 := Keeps.refl 257 s
  unfold execCommonStopEnd
  refine Runs.next ?_
  refine Keeps.ite ?_ ?_
  · refine (State.setSub_keeps _ _ _).lift rfl ?_
    assumption
  · assumption

theorem State.passOffer_keeps (s) (i) (p) (rcv) : Keeps 262401 s (State.passOffer s i p rcv) := by
  have h0 := Keeps.refl 262401 s
  unfold State.passOffer
  lift_lets -underBinder
  intro v1
  intro v2
  intro v3
  intro v4
  intro v5
  intro v6
  intro v7
  have h8 : Keeps 262401 s v7 := by
    subst v7
    refine (State.bump_keeps _ _).lift rfl ?_
    assumption
  clear_value v7
  intro v9
  intro v10
  have h11 : Keeps 262401 s v10 := by
    subst v10
    refine Keeps.ite ?_ ?_
    · refine (State.bump_keeps _ _).lift rfl ?_
      assumption
    · assumption
  clear_value v10
  intro v12
  have h13 : Keeps 262401 s v12 := by
    subst v12
    refine Keeps.ite ?_ ?_
    · refine (State.bump_keeps _ _).lift rfl ?_
      assumption
    · assumption
  clear_value v12
  intro v14
  intro v15
  have h16 : Keeps 262401 s v15 := by
    subst v15
    refine Keeps.ite ?_ ?_
    · refine (State.record_keeps _ _ _ _ _ _).lift rfl ?_
      assumption
    · assumption
  clear_value v15
  intro v17
  have h18 : Keeps 262401 s v17 := by
    subst v17
    refine Keeps.ite ?_ ?_
    · refine Keeps.each ?_ (fun t19 a20 h21 => ?_)
      · assumption
      · refine (State.setBit_keeps _ _ _).lift rfl ?_
        assumption
    · assumption
  clear_value v17
  intro v22
  intro v23
  intro v24
  have h25 : Keeps 262401 s v24 := by
    subst v24
    refine (State.modSb_keeps _ _ _).lift rfl ?_
    assumption
  clear_value v24
  refine Keeps.ite ?_ ?_
  · refine (State.bump_keeps _ _).lift rfl ?_
    assumption
  · refine Keeps.ite ?_ ?_
    · refine (State.passReject_keeps _ _ _ _ _).lift rfl ?_
      assumption
    · refine Keeps.ite ?_ ?_
      · refine (State.passReject_keeps _ _ _ _ _).lift rfl ?_
        assumption
      · refine Keeps.ite ?_ ?_
        · refine (State.passReject_keeps _ _ _ _ _).lift rfl ?_
          assumption
        · refine Keeps.ite ?_ ?_
          · refine (State.passReject_keeps _ _ _ _ _).lift rfl ?_
            assumption
          · refine Keeps.ite ?_ ?_
            · refine (State.passForce_keeps _ _).lift rfl ?_
              assumption
            · assumption

theorem State.passTake_keeps (s) (l) (port) (p) (macOk) (rcv) : Keeps 262529 s (State.passTake s l port p macOk rcv) := by
  have h0 := Keeps.refl 262529 s
  unfold State.passTake
  refine Keeps.ite ?_ ?_
  · refine (State.bump_keeps _ _).lift rfl ?_
    assumption
  · refine Keeps.ite ?_ ?_
    · refine (State.record_keeps _ _ _ _ _ _).lift rfl ?_
      refine (Keeps.setDict _ _ ?_).lift rfl ?_
      · exact fun h => ((State.canonical_iff _).mp h).2.2.2.2.2
      · assumption
    · refine Keeps.ite ?_ ?_
      · refine (State.bump_keeps _ _).lift rfl ?_
        assumption
      · refine Keeps.each ?_ (fun t1 a2 h3 => ?_)
        · assumption
        · refine (State.passOffer_keeps _ _ _ _).lift rfl ?_
          assumption

theorem execPassFrameReceive_keeps (port) (p) (len) (macOk) (stampLost) (off) (s) : Runs 262529 s (execPassFrameReceive port p len macOk stampLost off s) := by
  have h0 := Keeps.refl 262529 s
  unfold execPassFrameReceive
  refine Runs.next ?_
  refine Keeps.ite ?_ ?_
  · assumption
  · refine Keeps.ite ?_ ?_
    · refine (State.bump_keeps _ _).lift rfl ?_
      assumption
    · refine Keeps.ite ?_ ?_
      · refine (State.bump_keeps _ _).lift rfl ?_
        assumption
      · refine (State.passTake_keeps _ _ _ _ _ _).lift rfl ?_
        assumption

theorem State.canHalf_keeps (s) (i) (c) (isA) (bs) (macOk) (rcv) : Keeps 262529 s (State.canHalf s i c isA bs macOk rcv) := by
  have h0 := Keeps.refl 262529 s
  unfold State.canHalf
  lift_lets -underBinder
  intro v1
  split
  · refine Keeps.ite ?_ ?_
    · lift_lets -underBinder
      intro v5
      intro v6
      have h7 : Keeps 262529 s v6 := by
        subst v6
        refine (State.modSb_keeps _ _ _).lift rfl ?_
        assumption
      clear_value v6
      refine (State.passTake_keeps _ _ _ _ _ _).lift rfl ?_
      assumption
    · refine (State.modSb_keeps _ _ _).lift rfl ?_
      refine (State.bump_keeps _ _).lift rfl ?_
      assumption
  · refine (State.modSb_keeps _ _ _).lift rfl ?_
    assumption

theorem execCanPassFrame_keeps (c) (id) (bytes) (macOk) (off) (s) : Runs 262529 s (execCanPassFrame c id bytes macOk off s) := by
  have h0 := Keeps.refl 262529 s
  unfold execCanPassFrame
  refine Runs.next ?_
  refine Keeps.ite ?_ ?_
  · assumption
  · refine Keeps.each ?_ (fun t1 a2 h3 => ?_)
    · assumption
    · refine Keeps.ite ?_ ?_
      · refine (State.canHalf_keeps _ _ _ _ _ _ _).lift rfl ?_
        assumption
      · refine Keeps.ite ?_ ?_
        · refine (State.canHalf_keeps _ _ _ _ _ _ _).lift rfl ?_
          assumption
        · assumption

theorem execPassPartnerTimeout_keeps (i) (s) : Runs 262145 s (execPassPartnerTimeout i s) := by
  have h0 := Keeps.refl 262145 s
  unfold execPassPartnerTimeout
  refine Runs.next ?_
  refine Keeps.ite ?_ ?_
  · refine (State.modSb_keeps _ _ _).lift rfl ?_
    refine (State.bump_keeps _ _).lift rfl ?_
    assumption
  · assumption

theorem State.subCommit_keeps (s) (changed) : Keeps 262401 s (State.subCommit s changed) := by
  have h0 := Keeps.refl 262401 s
  unfold State.subCommit
  refine Keeps.each ?_ (fun t1 a2 h3 => ?_)
  · assumption
  · refine Keeps.ite ?_ ?_
    · refine (State.setSub_keeps _ _ _).lift rfl ?_
      refine (State.modSb_keeps _ _ _).lift rfl ?_
      assumption
    · refine Keeps.ite ?_ ?_
      · refine (State.setSub_keeps _ _ _).lift rfl ?_
        refine (State.modSb_keeps _ _ _).lift rfl ?_
        assumption
      · assumption

theorem State.subShow_keeps (s) : Keeps 1 s (State.subShow s) := by
  have h0 := Keeps.refl 1 s
  unfold State.subShow
  refine Keeps.each ?_ (fun t1 a2 h3 => ?_)
  · assumption
  · lift_lets -underBinder
    intro v4
    refine (State.wrSat_keeps _ _ _).lift rfl ?_
    refine (State.wrPos_keeps _ _ _).lift rfl ?_
    assumption

theorem State.modSession_keeps (s) (id) (f) : Keeps 64 s (State.modSession s id f) := by
  have h0 := Keeps.refl 64 s
  unfold State.modSession
  refine (Keeps.setSec _ _).lift rfl ?_
  assumption

theorem State.cache_keeps (s) (c) (b) : Keeps 64 s (State.cache s c b) := by
  have h0 := Keeps.refl 64 s
  unfold State.cache
  refine (State.modSession_keeps _ _ _).lift rfl ?_
  assumption

theorem State.answer_keeps (s) (c) (status) (data) : Keeps 33554769 s (State.answer s c status data) := by
  have h0 := Keeps.refl 33554769 s
  unfold State.answer
  split
  · lift_lets -underBinder
    intro v4
    refine (State.canSend_keeps _ _ _ _).lift rfl ?_
    assumption
  · lift_lets -underBinder
    intro v7
    refine (State.sendUdp_keeps _ _ _).lift rfl ?_
    refine (State.cache_keeps _ _ _).lift rfl ?_
    assumption
  · lift_lets -underBinder
    intro v10
    intro v11
    have h12 : Keeps 33554769 s v11 := by
      subst v11
      refine (State.cache_keeps _ _ _).lift rfl ?_
      assumption
    clear_value v11
    intro v13
    refine (Keeps.setHost _ _ ?_).lift rfl ?_
    · exact fun h => ((State.canonical_iff _).mp h).2.2.2.2.1
    · assumption

theorem State.answerTo_keeps (s) (c) (status) : Keeps 33554769 s (State.answerTo s c status) := by
  have h0 := Keeps.refl 33554769 s
  unfold State.answerTo
  split
  · refine (State.answer_keeps _ _ _ _).lift rfl ?_
    assumption
  · assumption

theorem State.busy_keeps (s) (c) : Keeps 33554897 s (State.busy s c) := by
  have h0 := Keeps.refl 33554897 s
  unfold State.busy
  refine (State.answer_keeps _ _ _ _).lift rfl ?_
  refine (Keeps.setDict _ _ ?_).lift rfl ?_
  · exact fun h => ((State.canonical_iff _).mp h).2.2.2.2.2
  · assumption

theorem Res.reply_keeps {m : Nat} {s : State} (r : Res) (c : Ctx) (hm : 33554769 ||| m = m) (h : Keeps m s r.st) :
    Keeps m s (r.reply c) := (State.answer_keeps ..).lift hm h

theorem State.sessionFail_keeps (s) (ch) (port) (id) : Keeps 321 s (State.sessionFail s ch port id) := by
  have h0 := Keeps.refl 321 s
  unfold State.sessionFail
  lift_lets -underBinder
  intro v1
  have h2 : Keeps 321 s v1 := by
    subst v1
    refine (State.bump_keeps _ _).lift rfl ?_
    assumption
  clear_value v1
  intro v3
  have h4 : Keeps 321 s v3 := by
    subst v3
    split
    · refine (State.record_keeps _ _ _ _ _ _).lift rfl ?_
      assumption
    · refine (State.record_keeps _ _ _ _ _ _).lift rfl ?_
      assumption
    · refine (State.record_keeps _ _ _ _ _ _).lift rfl ?_
      assumption
  clear_value v3
  split
  · refine Keeps.ite ?_ ?_
    · assumption
    · refine (State.audit_keeps _ _ _ _ _).lift rfl ?_
      refine (State.modSession_keeps _ _ _).lift rfl ?_
      assumption
  · assumption

theorem State.acceptFresh_keeps (s) (session) (reqId) (fresh) : Keeps 64 s (State.acceptFresh s session reqId fresh) := by
  have h0 := Keeps.refl 64 s
  unfold State.acceptFresh
  refine Keeps.ite ?_ ?_
  · assumption
  · refine (State.modSession_keeps _ _ _).lift rfl ?_
    assumption

theorem State.dropRequest_keeps (s) (ch) : Keeps 256 s (State.dropRequest s ch) := by
  have h0 := Keeps.refl 256 s
  unfold State.dropRequest
  refine Keeps.ite ?_ ?_
  · refine (Keeps.setHost _ _ ?_).lift rfl ?_
    · exact fun h => ((State.canonical_iff _).mp h).2.2.2.2.1
    · assumption
  · assumption

theorem State.resend_keeps (s) (ch) (peer) (b) : Keeps 273 s (State.resend s ch peer b) := by
  have h0 := Keeps.refl 273 s
  unfold State.resend
  split
  · refine (Keeps.setHost _ _ ?_).lift rfl ?_
    · exact fun h => ((State.canonical_iff _).mp h).2.2.2.2.1
    · assumption
  · refine (State.sendUdp_keeps _ _ _).lift rfl ?_
    assumption
  · assumption

theorem State.gated_keeps {m : Nat} {s0 s : State} (c : Ctx) (macOk : Bool) (f : State → State) (hm : 337 ||| m = m)
    (h : Keeps m s0 s) (hf : ∀ t, Keeps m s0 t → Keeps m s0 (f t)) : Keeps m s0 (s.gated c macOk f) := by
  have low (a : Nat) (ha : a ||| 337 = 337) : a ||| m = m := by rw [← hm, ← Nat.or_assoc, ha]
  unfold State.gated
  split
  · exact hf _ ((State.acceptFresh_keeps ..).lift (low _ (by rfl)) h)
  · exact (State.resend_keeps ..).lift (low _ (by rfl)) h
  · exact (State.dropRequest_keeps ..).lift (low _ (by rfl)) h
  · exact (State.dropRequest_keeps ..).lift (low _ (by rfl)) ((State.sessionFail_keeps ..).lift (low _ (by rfl)) h)

theorem State.modCs_keeps (s) (n) (f) : Keeps 131072 s (State.modCs s n f) := by
  have h0 := Keeps.refl 131072 s
  unfold State.modCs
  refine (Keeps.setCasc _ _).lift rfl ?_
  assumption

theorem State.modPage_keeps (s) (n) (f) : Keeps 256 s (State.modPage s n f) := by
  have h0 := Keeps.refl 256 s
  unfold State.modPage
  refine (Keeps.setHost _ _ ?_).lift rfl ?_
  · exact fun h => ((State.canonical_iff _).mp h).2.2.2.2.1
  · assumption

theorem State.pageSwap_keeps (s) (n) : Keeps 256 s (State.pageSwap s n) := by
  have h0 := Keeps.refl 256 s
  unfold State.pageSwap
  refine (State.modPage_keeps _ _ _).lift rfl ?_
  assumption

theorem State.pageFill_keeps (s) (n) : Keeps 256 s (State.pageFill s n) := by
  have h0 := Keeps.refl 256 s
  unfold State.pageFill
  refine (State.modPage_keeps _ _ _).lift rfl ?_
  assumption

theorem State.pageMore_keeps (s) (n) : Keeps 256 s (State.pageMore s n) := by
  have h0 := Keeps.refl 256 s
  unfold State.pageMore
  refine Keeps.ite ?_ ?_
  · refine (State.pageFill_keeps _ _).lift rfl ?_
    assumption
  · assumption

theorem State.swapRequest_keeps (s) (n) (m) : Keeps 131073 s (Res.st (State.swapRequest s n m)) := by
  have h0 := Keeps.refl 131073 s
  unfold State.swapRequest
  lift_lets -underBinder
  intro v1
  intro v2
  split
  · dsimp -zeta only [okRes]
    refine Keeps.each ?_ (fun t4 a5 h6 => ?_)
    · refine (State.modCs_keeps _ _ _).lift rfl ?_
      assumption
    · refine (State.setBit_keeps _ _ _).lift rfl ?_
      assumption
  · dsimp -zeta only [refuse]
    assumption

theorem State.bankSwap_keeps (s) (n) (lv) : Keeps 1 s (State.bankSwap s n lv) := by
  have h0 := Keeps.refl 1 s
  unfold State.bankSwap
  refine Keeps.ite ?_ ?_
  · refine (State.bump_keeps _ _).lift rfl ?_
    refine (State.clrBit_keeps _ _ _).lift rfl ?_
    refine (State.putBit_keeps _ _ _ _).lift rfl ?_
    assumption
  · assumption

theorem execBankSwap_keeps (n) (lv) (s) : Runs 1 s (execBankSwap n lv s) := by
  have h0 := Keeps.refl 1 s
  unfold execBankSwap
  refine Runs.next ?_
  refine (State.bankSwap_keeps _ _ _).lift rfl ?_
  assumption

theorem State.idle2_keeps (s) (n) : Keeps 131073 s (State.idle2 s n) := by
  have h0 := Keeps.refl 131073 s
  unfold State.idle2
  lift_lets -underBinder
  intro v1
  have h2 : Keeps 131073 s v1 := by
    subst v1
    refine (State.modCs_keeps _ _ _).lift rfl ?_
    assumption
  clear_value v1
  refine (State.wr_keeps _ _ _).lift rfl ?_
  refine (State.wrSat_keeps _ _ _).lift rfl ?_
  refine (State.wr_keeps _ _ _).lift rfl ?_
  assumption

theorem State.idle3_keeps (s) (n) : Keeps 131073 s (State.idle3 s n) := by
  have h0 := Keeps.refl 131073 s
  unfold State.idle3
  lift_lets -underBinder
  intro v1
  have h2 : Keeps 131073 s v1 := by
    subst v1
    refine (State.modCs_keeps _ _ _).lift rfl ?_
    assumption
  clear_value v1
  refine (State.wrSat_keeps _ _ _).lift rfl ?_
  refine (State.wr_keeps _ _ _).lift rfl ?_
  refine (State.wrSat_keeps _ _ _).lift rfl ?_
  assumption

theorem State.idle4_keeps (s) (n) : Keeps 131073 s (State.idle4 s n) := by
  have h0 := Keeps.refl 131073 s
  unfold State.idle4
  refine (State.wr_keeps _ _ _).lift rfl ?_
  refine (State.modCs_keeps _ _ _).lift rfl ?_
  assumption

theorem State.handOn_keeps (s) (n) (p) (v) : Keeps 131072 s (State.handOn s n p v) := by
  have h0 := Keeps.refl 131072 s
  unfold State.handOn
  refine (State.modCs_keeps _ _ _).lift rfl ?_
  assumption

theorem State.completed_keeps (s) (n) (i) : Keeps 2049 s (State.completed s n i) := by
  have h0 := Keeps.refl 2049 s
  unfold State.completed
  lift_lets -underBinder
  intro v1
  have h2 : Keeps 2049 s v1 := by
    subst v1
    refine (State.modAx_keeps _ _ _).lift rfl ?_
    assumption
  clear_value v1
  refine Keeps.ite ?_ ?_
  · refine (State.wr_keeps _ _ _).lift rfl ?_
    assumption
  · assumption

theorem State.observe_keeps (s) (n) : Keeps 131073 s (State.observe s n) := by
  have h0 := Keeps.refl 131073 s
  unfold State.observe
  lift_lets -underBinder
  intro v1
  intro v2
  intro v3
  intro v4
  intro v5
  intro v6
  intro v7
  intro v8
  intro v9
  intro v10
  intro v11
  intro v12
  intro v13
  intro v14
  intro v15
  intro v16
  have h17 : Keeps 131073 s v16 := by
    subst v16
    refine (State.modCs_keeps _ _ _).lift rfl ?_
    assumption
  clear_value v16
  refine (State.wr_keeps _ _ _).lift rfl ?_
  refine (State.wrSat_keeps _ _ _).lift rfl ?_
  assumption

theorem State.hardStopStep_keeps (s) (n) (limited) : Keeps 2048 s (State.hardStopStep s n limited) := by
  have h0 := Keeps.refl 2048 s
  unfold State.hardStopStep
  refine Keeps.ite ?_ ?_
  · refine Keeps.ite ?_ ?_
    · lift_lets -underBinder
      intro v1
      intro v2
      have h3 : Keeps 2048 s v2 := by
        subst v2
        refine (State.modAx_keeps _ _ _).lift rfl ?_
        assumption
      clear_value v2
      refine Keeps.ite ?_ ?_
      · refine (State.latchEdge_keeps _ _ _ _).lift rfl ?_
        assumption
      · assumption
    · refine (State.modAx_keeps _ _ _).lift rfl ?_
      assumption
  · assumption

theorem State.l2Law_keeps (s) (n) : Keeps 133121 s (State.l2Law s n) := by
  have h0 := Keeps.refl 133121 s
  unfold State.l2Law
  lift_lets -underBinder
  intro v1
  intro v2
  have h3 : Keeps 133121 s v2 := by
    subst v2
    refine Keeps.ite ?_ ?_
    · assumption
    · refine (State.wr_keeps _ _ _).lift rfl ?_
      refine (State.wrSat_keeps _ _ _).lift rfl ?_
      refine (State.modCs_keeps _ _ _).lift rfl ?_
      assumption
  clear_value v2
  intro v4
  have h5 : Keeps 133121 s v4 := by
    subst v4
    refine Keeps.ite ?_ ?_
    · refine (State.observe_keeps _ _).lift rfl ?_
      assumption
    · assumption
  clear_value v4
  intro v6
  intro v7
  intro v8
  intro v9
  intro v10
  split
  split
  lift_lets -underBinder
  intro v21
  intro v22
  intro v23
  intro v24
  intro v25
  intro v26
  intro v27
  have h28 : Keeps 133121 s v27 := by
    subst v27
    refine (State.modCs_keeps _ _ _).lift rfl ?_
    assumption
  clear_value v27
  refine (State.completed_keeps _ _ _).lift rfl ?_
  refine (State.hardStopStep_keeps _ _ _).lift rfl ?_
  refine (State.putBit_keeps _ _ _ _).lift rfl ?_
  refine (State.wr_keeps _ _ _).lift rfl ?_
  assumption

theorem execL2Sample_keeps (n) (s) : Runs 133377 s (execL2Sample n s) := by
  have h0 := Keeps.refl 133377 s
  unfold execL2Sample
  lift_lets -underBinder
  intro v1
  have h2 : Keeps 133377 s v1 := by
    subst v1
    refine (State.bankSwap_keeps _ _ _).lift rfl ?_
    assumption
  clear_value v1
  refine Runs.next ?_
  refine (State.pageMore_keeps _ _).lift rfl ?_
  refine Keeps.ite ?_ ?_
  · assumption
  · refine Keeps.ite ?_ ?_
    · refine (State.l2Law_keeps _ _).lift rfl ?_
      assumption
    · refine (State.idle2_keeps _ _).lift rfl ?_
      assumption

theorem State.l3Law_keeps (s) (n) : Keeps 131073 s (State.l3Law s n) := by
  have h0 := Keeps.refl 131073 s
  unfold State.l3Law
  split
  lift_lets -underBinder
  intro v6
  have h7 : Keeps 131073 s v6 := by
    subst v6
    refine (State.putBit_keeps _ _ _ _).lift rfl ?_
    refine (State.wrPos_keeps _ _ _).lift rfl ?_
    assumption
  clear_value v6
  intro v8
  have h9 : Keeps 131073 s v8 := by
    subst v8
    refine (State.handOn_keeps _ _ _ _).lift rfl ?_
    assumption
  clear_value v8
  intro v10
  have h11 : Keeps 131073 s v10 := by
    subst v10
    refine Keeps.ite ?_ ?_
    · assumption
    · refine (State.modCs_keeps _ _ _).lift rfl ?_
      refine (State.wrSat_keeps _ _ _).lift rfl ?_
      assumption
  clear_value v10
  intro v12
  intro v13
  intro v14
  intro v15
  intro v16
  intro v17
  intro v18
  intro v19
  intro v20
  intro v21
  intro v22
  have h23 : Keeps 131073 s v22 := by
    subst v22
    refine Keeps.ite ?_ ?_
    · refine (State.wrSat_keeps _ _ _).lift rfl ?_
      assumption
    · assumption
  clear_value v22
  intro v24
  intro v25
  intro v26
  intro v27
  intro v28
  intro v29
  intro v30
  intro v31
  have h32 : Keeps 131073 s v31 := by
    subst v31
    refine (State.modCs_keeps _ _ _).lift rfl ?_
    assumption
  clear_value v31
  intro v33
  have h34 : Keeps 131073 s v33 := by
    subst v33
    refine (State.wrPos_keeps _ _ _).lift rfl ?_
    refine (State.wr_keeps _ _ _).lift rfl ?_
    refine (State.wrSat_keeps _ _ _).lift rfl ?_
    assumption
  clear_value v33
  refine Keeps.ite ?_ ?_
  · assumption
  · refine Keeps.ite ?_ ?_
    · refine (State.idle3_keeps _ _).lift rfl ?_
      assumption
    · refine (State.putBit_keeps _ _ _ _).lift rfl ?_
      refine (State.putBit_keeps _ _ _ _).lift rfl ?_
      assumption

theorem State.l4Fresh_keeps (s) (n) (pv) : Keeps 131073 s (State.l4Fresh s n pv) := by
  have h0 := Keeps.refl 131073 s
  unfold State.l4Fresh
  lift_lets -underBinder
  intro v1
  intro v2
  have h3 : Keeps 131073 s v2 := by
    subst v2
    refine Keeps.ite ?_ ?_
    · assumption
    · refine (State.modCs_keeps _ _ _).lift rfl ?_
      assumption
  clear_value v2
  intro v4
  intro v5
  split
  lift_lets -underBinder
  intro v10
  intro v11
  intro v12
  intro v13
  intro v14
  intro v15
  intro v16
  intro v17
  intro v18
  intro v19
  intro v20
  intro v21
  intro v22
  intro v23
  intro v24
  have h25 : Keeps 131073 s v24 := by
    subst v24
    refine (State.modCs_keeps _ _ _).lift rfl ?_
    assumption
  clear_value v24
  refine (State.clrBit_keeps _ _ _).lift rfl ?_
  refine (State.putBit_keeps _ _ _ _).lift rfl ?_
  refine (State.wr_keeps _ _ _).lift rfl ?_
  refine (State.wr_keeps _ _ _).lift rfl ?_
  refine (State.wr_keeps _ _ _).lift rfl ?_
  assumption

theorem State.l4Stale_keeps (s) (n) : Keeps 133377 s (State.l4Stale s n) := by
  have h0 := Keeps.refl 133377 s
  unfold State.l4Stale
  lift_lets -underBinder
  intro v1
  intro v2
  have h3 : Keeps 133377 s v2 := by
    subst v2
    refine (State.clrBit_keeps _ _ _).lift rfl ?_
    refine (State.setBit_keeps _ _ _).lift rfl ?_
    refine (State.modCs_keeps _ _ _).lift rfl ?_
    assumption
  clear_value v2
  intro v4
  have h5 : Keeps 133377 s v4 := by
    subst v4
    refine Keeps.ite ?_ ?_
    · refine (State.record_keeps _ _ _ _ _ _).lift rfl ?_
      assumption
    · assumption
  clear_value v4
  refine Keeps.ite ?_ ?_
  · refine (State.raiseB_keeps _ _ _).lift rfl ?_
    assumption
  · assumption

theorem State.l4Law_keeps (s) (n) : Keeps 133377 s (State.l4Law s n) := by
  have h0 := Keeps.refl 133377 s
  unfold State.l4Law
  lift_lets -underBinder
  intro v1
  have h2 : Keeps 133377 s v1 := by
    subst v1
    refine Keeps.ite ?_ ?_
    · assumption
    · refine (State.wr_keeps _ _ _).lift rfl ?_
      refine (State.modCs_keeps _ _ _).lift rfl ?_
      assumption
  clear_value v1
  split
  refine (State.completed_keeps _ _ _).lift rfl ?_
  refine Keeps.ite ?_ ?_
  · refine (State.l4Stale_keeps _ _).lift rfl ?_
    assumption
  · refine (State.l4Fresh_keeps _ _ _).lift rfl ?_
    assumption

theorem execL4Sample_keeps (n) (s) : Runs 133377 s (execL4Sample n s) := by
  have h0 := Keeps.refl 133377 s
  unfold execL4Sample
  lift_lets -underBinder
  intro v1
  have h2 : Keeps 133377 s v1 := by
    subst v1
    refine (State.bankSwap_keeps _ _ _).lift rfl ?_
    assumption
  clear_value v1
  refine Runs.next ?_
  refine (State.pageMore_keeps _ _).lift rfl ?_
  refine Keeps.ite ?_ ?_
  · assumption
  · refine Keeps.ite ?_ ?_
    · refine (State.l4Law_keeps _ _).lift rfl ?_
      assumption
    · refine (State.idle4_keeps _ _).lift rfl ?_
      assumption

theorem State.publishLevel_keeps (s) (n) (lv) : Keeps 131072 s (State.publishLevel s n lv) := by
  have h0 := Keeps.refl 131072 s
  unfold State.publishLevel
  split
  · lift_lets -underBinder
    intro v2
    refine (State.modCs_keeps _ _ _).lift rfl ?_
    assumption
  · refine (State.modCs_keeps _ _ _).lift rfl ?_
    assumption
  · refine (State.modCs_keeps _ _ _).lift rfl ?_
    assumption

theorem execOutputInstant_keeps (n) (lv) (s) : Runs 131072 s (execOutputInstant n lv s) := by
  have h0 := Keeps.refl 131072 s
  unfold execOutputInstant
  refine Runs.next ?_
  refine Keeps.ite ?_ ?_
  · assumption
  · refine (State.publishLevel_keeps _ _ _).lift rfl ?_
    assumption

theorem State.miss_keeps (s) (n) (lv) (late) : Keeps 4197123 s (State.miss s n lv late) := by
  have h0 := Keeps.refl 4197123 s
  unfold State.miss
  lift_lets -underBinder
  intro v1
  intro v2
  have h3 : Keeps 4197123 s v2 := by
    subst v2
    refine (State.modAx_keeps _ _ _).lift rfl ?_
    assumption
  clear_value v2
  intro v4
  have h5 : Keeps 4197123 s v4 := by
    subst v4
    refine (State.setBit_keeps _ _ _).lift rfl ?_
    assumption
  clear_value v4
  intro v6
  intro v7
  have h8 : Keeps 4197123 s v7 := by
    subst v7
    refine Keeps.ite ?_ ?_
    · refine (State.bump_keeps _ _).lift rfl ?_
      assumption
    · assumption
  clear_value v7
  intro v9
  intro v10
  have h11 : Keeps 4197123 s v10 := by
    subst v10
    refine Keeps.ite ?_ ?_
    · refine (State.wr_keeps _ _ _).lift rfl ?_
      refine (State.wr_keeps _ _ _).lift rfl ?_
      refine (State.bump_keeps _ _).lift rfl ?_
      assumption
    · refine (State.bump_keeps _ _).lift rfl ?_
      assumption
  clear_value v10
  intro v12
  have h13 : Keeps 4197123 s v12 := by
    subst v12
    refine (State.record_keeps _ _ _ _ _ _).lift rfl ?_
    assumption
  clear_value v12
  refine Keeps.ite ?_ ?_
  · refine (State.faultA_keeps _ _ _).lift rfl ?_
    assumption
  · assumption

theorem execDeadlineMiss_keeps (n) (lv) (late) (s) : Runs 4197123 s (execDeadlineMiss n lv late s) := by
  have h0 := Keeps.refl 4197123 s
  unfold execDeadlineMiss
  refine Runs.next ?_
  refine (State.miss_keeps _ _ _ _).lift rfl ?_
  assumption

end Sys2Proof.Machine
end

