-- ==== Sys2Proof/Laws/KeepsMotion.lean ====
section
/-! SUPPORT. What the operations of following, axis commands, motion, publishers and current cells keep: one lemma for each, with the mask of the parts that the
operation may change. -/
namespace Sys2Proof.Machine
open Sys2Proof Obj

theorem State.camWrap_keeps (s) (n) (ph) (k) : Keeps 1 s (State.camWrap s n ph k) := by
  have h0 := Keeps.refl 1 s
  unfold State.camWrap
  lift_lets -underBinder
  intro v1
  intro v2
  have h3 : Keeps 1 s v2 := by
    subst v2
    refine (State.wrPos_keeps _ _ _).lift rfl ?_
    refine (State.wrPos_keeps _ _ _).lift rfl ?_
    assumption
  clear_value v2
  refine (State.wr_keeps _ _ _).lift rfl ?_
  assumption

theorem State.camSwitch_keeps (s) (n) (ph) (m) : Keeps 257 s (State.camSwitch s n ph m) := by
  have h0 := Keeps.refl 257 s
  unfold State.camSwitch
  lift_lets -underBinder
  intro v1
  intro v2
  intro v3
  intro v4
  intro v5
  have h6 : Keeps 257 s v5 := by
    subst v5
    refine (State.camWrap_keeps _ _ _ _).lift rfl ?_
    assumption
  clear_value v5
  intro v7
  have h8 : Keeps 257 s v7 := by
    subst v7
    refine (State.wrPos_keeps _ _ _).lift rfl ?_
    assumption
  clear_value v7
  intro v9
  have h10 : Keeps 257 s v9 := by
    subst v9
    refine (State.clrBit_keeps _ _ _).lift rfl ?_
    refine (State.bump_keeps _ _).lift rfl ?_
    refine (State.wr_keeps _ _ _).lift rfl ?_
    refine (State.wr_keeps _ _ _).lift rfl ?_
    assumption
  clear_value v9
  refine Keeps.ite ?_ ?_
  · refine (State.record_keeps _ _ _ _ _ _).lift rfl ?_
    refine (State.setBit_keeps _ _ _).lift rfl ?_
    assumption
  · assumption

theorem State.camAdvance_keeps (s) (n) (d) (m) : Keeps 257 s (State.camAdvance s n d m) := by
  have h0 := Keeps.refl 257 s
  unfold State.camAdvance
  lift_lets -underBinder
  intro v1
  intro v2
  intro v3
  have h4 : Keeps 257 s v3 := by
    subst v3
    refine (State.camSwitch_keeps _ _ _ _).lift rfl ?_
    assumption
  clear_value v3
  intro v5
  refine Keeps.ite ?_ ?_
  · refine (State.camWrap_keeps _ _ _ _).lift rfl ?_
    assumption
  · refine (State.camWrap_keeps _ _ _ _).lift rfl ?_
    assumption

theorem State.camNext_keeps (s) (n) (v) : Keeps 2049 s (Res.st (State.camNext s n v)) := by
  have h0 := Keeps.refl 2049 s
  unfold State.camNext
  split
  · dsimp -zeta only [okRes]
    refine Keeps.ite ?_ ?_
    · refine (State.clrBit_keeps _ _ _).lift rfl ?_
      refine (State.wr_keeps _ _ _).lift rfl ?_
      assumption
    · assumption
  · split
    · dsimp -zeta only [refuse]
      assumption
    · lift_lets -underBinder
      intro v5
      dsimp -zeta only [okRes]
      refine (State.modAx_keeps _ _ _).lift rfl ?_
      refine (State.setBit_keeps _ _ _).lift rfl ?_
      refine (State.wr_keeps _ _ _).lift rfl ?_
      assumption

theorem State.gearWrite_keeps (s) (n) (k) (v) : Keeps 2049 s (Res.st (State.gearWrite s n k v)) := by
  have h0 := Keeps.refl 2049 s
  unfold State.gearWrite
  dsimp -zeta only [okRes]
  refine (State.modAx_keeps _ _ _).lift rfl ?_
  refine (State.wr_keeps _ _ _).lift rfl ?_
  assumption

theorem State.regUse_keeps (s) (n) (u) (c) : Keeps 257 s (State.regUse s n u c) := by
  have h0 := Keeps.refl 257 s
  unfold State.regUse
  lift_lets -underBinder
  intro v1
  intro v2
  intro v3
  intro v4
  intro v5
  intro v6
  have h7 : Keeps 257 s v6 := by
    subst v6
    refine (State.wrPos_keeps _ _ _).lift rfl ?_
    assumption
  clear_value v6
  refine Keeps.ite ?_ ?_
  · assumption
  · refine Keeps.ite ?_ ?_
    · refine (State.record_keeps _ _ _ _ _ _).lift rfl ?_
      refine (State.setBit_keeps _ _ _).lift rfl ?_
      refine (State.bump_keeps _ _).lift rfl ?_
      assumption
    · refine (State.bump_keeps _ _).lift rfl ?_
      refine (State.wrPos_keeps _ _ _).lift rfl ?_
      assumption

theorem State.regStep_keeps (s) (n) (follow) : Keeps 2305 s (State.regStep s n follow) := by
  have h0 := Keeps.refl 2305 s
  unfold State.regStep
  lift_lets -underBinder
  intro v1
  intro v2
  refine Keeps.ite ?_ ?_
  · assumption
  · split
    · lift_lets -underBinder
      intro v8
      intro v9
      have h10 : Keeps 2305 s v9 := by
        subst v9
        refine (State.modAx_keeps _ _ _).lift rfl ?_
        assumption
      clear_value v9
      refine Keeps.ite ?_ ?_
      · refine (State.regUse_keeps _ _ _ _).lift rfl ?_
        refine (State.wr_keeps _ _ _).lift rfl ?_
        assumption
      · assumption
    · assumption

theorem State.phaseStep_keeps (s) (n) (dt) : Keeps 1 s (State.phaseStep s n dt) := by
  have h0 := Keeps.refl 1 s
  unfold State.phaseStep
  lift_lets -underBinder
  intro v1
  intro v2
  intro v3
  refine (State.wrPos_keeps _ _ _).lift rfl ?_
  assumption

theorem State.followSet_keeps (s) (n) (f) : Keeps 2049 s (State.followSet s n f) := by
  have h0 := Keeps.refl 2049 s
  unfold State.followSet
  lift_lets -underBinder
  intro v1
  intro v2
  intro v3
  intro v4
  intro v5
  have h6 : Keeps 2049 s v5 := by
    subst v5
    refine (State.putBit_keeps _ _ _ _).lift rfl ?_
    refine (State.setPoint_keeps _ _ _).lift rfl ?_
    assumption
  clear_value v5
  refine Keeps.ite ?_ ?_
  · refine (State.raiseB_keeps _ _ _).lift rfl ?_
    refine (State.wr_keeps _ _ _).lift rfl ?_
    assumption
  · assumption

theorem State.followShow_keeps (s) (n) (m) : Keeps 1 s (State.followShow s n m) := by
  have h0 := Keeps.refl 1 s
  unfold State.followShow
  lift_lets -underBinder
  intro v1
  intro v2
  have h3 : Keeps 1 s v2 := by
    subst v2
    refine (State.putBit_keeps _ _ _ _).lift rfl ?_
    refine (State.putBit_keeps _ _ _ _).lift rfl ?_
    refine (State.putBit_keeps _ _ _ _).lift rfl ?_
    assumption
  clear_value v2
  refine (State.wrSat_keeps _ _ _).lift rfl ?_
  refine (State.wrPos_keeps _ _ _).lift rfl ?_
  assumption

theorem State.engage_keeps (s) (n) : Keeps 2563 s (State.engage s n) := by
  have h0 := Keeps.refl 2563 s
  unfold State.engage
  split
  · assumption
  · lift_lets -underBinder
    intro v6
    intro v7
    have h8 : Keeps 2563 s v7 := by
      subst v7
      refine (State.takeType_keeps _ _).lift rfl ?_
      assumption
    clear_value v7
    intro v9
    intro v10
    intro v11
    have h12 : Keeps 2563 s v11 := by
      subst v11
      refine (State.modAx_keeps _ _ _).lift rfl ?_
      assumption
    clear_value v11
    intro v13
    have h14 : Keeps 2563 s v13 := by
      subst v13
      split
      · refine Keeps.ite ?_ ?_
        · refine (State.modAx_keeps _ _ _).lift rfl ?_
          assumption
        · assumption
      · refine Keeps.ite ?_ ?_
        · refine (State.modAx_keeps _ _ _).lift rfl ?_
          assumption
        · assumption
      · lift_lets -underBinder
        intro v22
        intro v23
        intro v24
        intro v25
        have h26 : Keeps 2563 s v25 := by
          subst v25
          refine (State.wrPos_keeps _ _ _).lift rfl ?_
          refine (State.wr_keeps _ _ _).lift rfl ?_
          assumption
        clear_value v25
        intro v27
        refine (State.wrPos_keeps _ _ _).lift rfl ?_
        assumption
    clear_value v13
    intro v28
    intro v29
    have h30 : Keeps 2563 s v29 := by
      subst v29
      refine (State.modAx_keeps _ _ _).lift rfl ?_
      assumption
    clear_value v29
    intro v31
    have h32 : Keeps 2563 s v31 := by
      subst v31
      refine (State.followShow_keeps _ _ _).lift rfl ?_
      refine (State.setAx_keeps _ _ _).lift rfl ?_
      refine (State.setMode_keeps _ _ _).lift rfl ?_
      assumption
    clear_value v31
    intro v33
    have h34 : Keeps 2563 s v33 := by
      subst v33
      refine Keeps.ite ?_ ?_
      · refine (State.raiseB_keeps _ _ _).lift rfl ?_
        refine (State.wr_keeps _ _ _).lift rfl ?_
        assumption
      · assumption
    clear_value v33
    refine (State.followSet_keeps _ _ _).lift rfl ?_
    assumption

theorem State.followAdvance_keeps (s) (n) (m) : Keeps 2305 s (State.followAdvance s n m) := by
  have h0 := Keeps.refl 2305 s
  unfold State.followAdvance
  lift_lets -underBinder
  intro v1
  intro v2
  intro v3
  intro v4
  have h5 : Keeps 2305 s v4 := by
    subst v4
    refine (State.modAx_keeps _ _ _).lift rfl ?_
    assumption
  clear_value v4
  split
  · refine (State.modAx_keeps _ _ _).lift rfl ?_
    assumption
  · lift_lets -underBinder
    intro v10
    intro v11
    intro v12
    refine (State.modAx_keeps _ _ _).lift rfl ?_
    assumption
  · refine (State.camAdvance_keeps _ _ _ _).lift rfl ?_
    assumption

theorem State.followStep_keeps (s) (n) : Keeps 2819 s (State.followStep s n) := by
  have h0 := Keeps.refl 2819 s
  unfold State.followStep
  lift_lets -underBinder
  intro v1
  intro v2
  have h3 : Keeps 2819 s v2 := by
    subst v2
    refine Keeps.ite ?_ ?_
    · refine (State.raiseB_keeps _ _ _).lift rfl ?_
      refine (State.wr_keeps _ _ _).lift rfl ?_
      assumption
    · assumption
  clear_value v2
  refine Keeps.ite ?_ ?_
  · refine (State.setAx_keeps _ _ _).lift rfl ?_
    refine (State.rest_keeps _ _).lift rfl ?_
    refine (State.endFollow_keeps _ _).lift rfl ?_
    assumption
  · split
    · assumption
    · lift_lets -underBinder
      intro v9
      intro v10
      have h11 : Keeps 2819 s v10 := by
        subst v10
        refine (State.followShow_keeps _ _ _).lift rfl ?_
        refine (State.followAdvance_keeps _ _ _).lift rfl ?_
        assumption
      clear_value v10
      refine (State.followSet_keeps _ _ _).lift rfl ?_
      assumption

theorem State.noteTrunc_keeps (s) (n) (t) (did) : Keeps 257 s (State.noteTrunc s n t did) := by
  have h0 := Keeps.refl 257 s
  unfold State.noteTrunc
  refine Keeps.ite ?_ ?_
  · refine (State.record_keeps _ _ _ _ _ _).lift rfl ?_
    refine (State.bump_keeps _ _).lift rfl ?_
    refine (State.setBit_keeps _ _ _).lift rfl ?_
    assumption
  · assumption

theorem State.startMove_keeps (s) (n) (t) : Keeps 2819 s (State.startMove s n t) := by
  have h0 := Keeps.refl 2819 s
  unfold State.startMove
  split
  lift_lets -underBinder
  intro v5
  have h6 : Keeps 2819 s v5 := by
    subst v5
    refine (State.noteTrunc_keeps _ _ _ _).lift rfl ?_
    assumption
  clear_value v5
  intro v7
  intro v8
  intro v9
  have h10 : Keeps 2819 s v9 := by
    subst v9
    refine (State.modAx_keeps _ _ _).lift rfl ?_
    assumption
  clear_value v9
  refine (State.clrBit_keeps _ _ _).lift rfl ?_
  refine (State.setAx_keeps _ _ _).lift rfl ?_
  refine (State.setMode_keeps _ _ _).lift rfl ?_
  refine (State.takeType_keeps _ _).lift rfl ?_
  assumption

theorem State.planVelocity_keeps (s) (n) : Keeps 2048 s (State.planVelocity s n) := by
  have h0 := Keeps.refl 2048 s
  unfold State.planVelocity
  lift_lets -underBinder
  intro v1
  intro v2
  refine (State.modAx_keeps _ _ _).lift rfl ?_
  assumption

theorem State.startVelocity_keeps (s) (n) : Keeps 2819 s (State.startVelocity s n) := by
  have h0 := Keeps.refl 2819 s
  unfold State.startVelocity
  lift_lets -underBinder
  intro v1
  have h2 : Keeps 2819 s v1 := by
    subst v1
    refine (State.modAx_keeps _ _ _).lift rfl ?_
    refine (State.takeType_keeps _ _).lift rfl ?_
    refine (State.dropMotion_keeps _ _).lift rfl ?_
    assumption
  clear_value v1
  intro v3
  have h4 : Keeps 2819 s v3 := by
    subst v3
    refine (State.clrBit_keeps _ _ _).lift rfl ?_
    refine (State.setMode_keeps _ _ _).lift rfl ?_
    refine (State.planVelocity_keeps _ _).lift rfl ?_
    assumption
  clear_value v3
  refine Keeps.ite ?_ ?_
  · assumption
  · refine (State.setAx_keeps _ _ _).lift rfl ?_
    assumption

theorem State.append_keeps (s) (n) (t) : Keeps 2305 s (State.append s n t) := by
  have h0 := Keeps.refl 2305 s
  unfold State.append
  split
  lift_lets -underBinder
  intro v5
  have h6 : Keeps 2305 s v5 := by
    subst v5
    refine (State.noteTrunc_keeps _ _ _ _).lift rfl ?_
    assumption
  clear_value v5
  intro v7
  intro v8
  intro v9
  have h10 : Keeps 2305 s v9 := by
    subst v9
    refine Keeps.ite ?_ ?_
    · refine (State.takeType_keeps _ _).lift rfl ?_
      assumption
    · assumption
  clear_value v9
  intro v11
  have h12 : Keeps 2305 s v11 := by
    subst v11
    refine (State.modAx_keeps _ _ _).lift rfl ?_
    assumption
  clear_value v11
  refine (State.clrBit_keeps _ _ _).lift rfl ?_
  refine (State.setMode_keeps _ _ _).lift rfl ?_
  refine (State.wr_keeps _ _ _).lift rfl ?_
  assumption

theorem State.lateRefusal_keeps (s) (n) (code) (seq) (r) : Keeps 1 s (State.lateRefusal s n code seq r) := by
  have h0 := Keeps.refl 1 s
  unfold State.lateRefusal
  refine (State.bump_keeps _ _).lift rfl ?_
  refine (State.wr_keeps _ _ _).lift rfl ?_
  assumption

theorem State.replaceStart_keeps (s) (n) (t) (rel) (seq) : Keeps 2819 s (State.replaceStart s n t rel seq) := by
  have h0 := Keeps.refl 2819 s
  unfold State.replaceStart
  refine Keeps.ite ?_ ?_
  · refine Keeps.ite ?_ ?_
    · refine (State.append_keeps _ _ _).lift rfl ?_
      refine (State.flushQueue_keeps _ _).lift rfl ?_
      refine (State.rest_keeps _ _).lift rfl ?_
      assumption
    · refine (State.lateRefusal_keeps _ _ _ _ _).lift rfl ?_
      refine (State.flushQueue_keeps _ _).lift rfl ?_
      refine (State.rest_keeps _ _).lift rfl ?_
      assumption
  · refine (State.startMove_keeps _ _ _).lift rfl ?_
    assumption

theorem State.stopAt_keeps (s) (n) (dec) (want) (kind) : Keeps 2819 s (State.stopAt s n dec want kind) := by
  have h0 := Keeps.refl 2819 s
  unfold State.stopAt
  refine Keeps.ite ?_ ?_
  · lift_lets -underBinder
    intro v1
    intro v2
    refine Keeps.ite ?_ ?_
    · refine (State.startStop_keeps _ _ _ _ _).lift rfl ?_
      assumption
    · refine (State.afterStop_keeps _ _ _).lift rfl ?_
      assumption
  · refine (State.startStop_keeps _ _ _ _ _).lift rfl ?_
    refine (State.dropMotion_keeps _ _).lift rfl ?_
    assumption

theorem State.powerOn_keeps (s) (n) (st) : Keeps 2563 s (State.powerOn s n st) := by
  have h0 := Keeps.refl 2563 s
  unfold State.powerOn
  lift_lets -underBinder
  intro v1
  have h2 : Keeps 2563 s v1 := by
    subst v1
    refine (State.setPoint_keeps _ _ _).lift rfl ?_
    assumption
  clear_value v1
  refine (State.modAx_keeps _ _ _).lift rfl ?_
  refine (State.setAx_keeps _ _ _).lift rfl ?_
  refine (State.rest_keeps _ _).lift rfl ?_
  refine (State.unfence_keeps _ _).lift rfl ?_
  assumption

theorem State.cmdMove_keeps (s) (n) : Keeps 2819 s (Prod.fst (State.cmdMove s n)) := by
  have h0 := Keeps.refl 2819 s
  unfold State.cmdMove
  lift_lets -underBinder
  intro v1
  split
  · dsimp -zeta only
    assumption
  · split
    · dsimp -zeta only
      refine (State.append_keeps _ _ _).lift rfl ?_
      assumption
    · dsimp -zeta only
      refine (State.startMove_keeps _ _ _).lift rfl ?_
      assumption

theorem State.cmdVelocity_keeps (s) (n) : Keeps 2819 s (Prod.fst (State.cmdVelocity s n)) := by
  have h0 := Keeps.refl 2819 s
  unfold State.cmdVelocity
  lift_lets -underBinder
  intro v1
  intro v2
  intro v3
  dsimp -zeta only
  refine Keeps.ite ?_ ?_
  · refine (State.startVelocity_keeps _ _).lift rfl ?_
    assumption
  · assumption

theorem State.cmdReplace_keeps (s) (n) (seq) : Keeps 2819 s (Prod.fst (State.cmdReplace s n seq)) := by
  have h0 := Keeps.refl 2819 s
  unfold State.cmdReplace
  split
  · refine (State.cmdMove_keeps _ _).lift rfl ?_
    assumption
  · lift_lets -underBinder
    intro v3
    intro v4
    intro v5
    intro v6
    intro v7
    intro v8
    intro v9
    intro v10
    intro v11
    split
    · dsimp -zeta only
      assumption
    · split
      · dsimp -zeta only
        refine (State.replaceStart_keeps _ _ _ _ _).lift rfl ?_
        refine (State.rest_keeps _ _).lift rfl ?_
        refine (State.dropMotion_keeps _ _).lift rfl ?_
        assumption
      · split
        · dsimp -zeta only
          assumption
        · split
          · dsimp -zeta only
            refine Keeps.ite ?_ ?_
            · refine (State.afterStop_keeps _ _ _).lift rfl ?_
              assumption
            · refine (State.startStop_keeps _ _ _ _ _).lift rfl ?_
              assumption
          · dsimp -zeta only
            refine (State.startStop_keeps _ _ _ _ _).lift rfl ?_
            refine (State.dropMotion_keeps _ _).lift rfl ?_
            assumption

theorem State.cmdHome_keeps (s) (n) : Keeps 6915 s (Prod.fst (State.cmdHome s n)) := by
  have h0 := Keeps.refl 6915 s
  unfold State.cmdHome
  lift_lets -underBinder
  intro v1
  intro v2
  intro v3
  dsimp -zeta only
  refine Keeps.ite ?_ ?_
  · refine (State.clrBit_keeps _ _ _).lift rfl ?_
    refine (State.startHoming_keeps _ _).lift rfl ?_
    assumption
  · assumption

theorem State.cmdFollow_keeps (s) (n) : Keeps 2563 s (Prod.fst (State.cmdFollow s n)) := by
  have h0 := Keeps.refl 2563 s
  unfold State.cmdFollow
  lift_lets -underBinder
  intro v1
  dsimp -zeta only
  refine Keeps.ite ?_ ?_
  · refine (State.clrBit_keeps _ _ _).lift rfl ?_
    refine (State.engage_keeps _ _).lift rfl ?_
    assumption
  · assumption

theorem State.cmdStop_keeps (s) (n) (dec) (kind) : Keeps 2819 s (Prod.fst (State.cmdStop s n dec kind)) := by
  have h0 := Keeps.refl 2819 s
  unfold State.cmdStop
  split
  · dsimp -zeta only
    assumption
  · split
    · dsimp -zeta only
      assumption
    · split
      · dsimp -zeta only
        refine (State.flushQueue_keeps _ _).lift rfl ?_
        assumption
      · dsimp -zeta only
        refine (State.stopAt_keeps _ _ _ _ _).lift rfl ?_
        assumption

theorem State.cmdDisable_keeps (s) (n) : Keeps 2819 s (Prod.fst (State.cmdDisable s n)) := by
  have h0 := Keeps.refl 2819 s
  unfold State.cmdDisable
  split
  · dsimp -zeta only
    assumption
  · split
    · dsimp -zeta only
      refine (State.toReady_keeps _ _).lift rfl ?_
      assumption
    · lift_lets -underBinder
      intro v5
      intro v6
      split
      · dsimp -zeta only
        refine Keeps.ite ?_ ?_
        · refine (State.startStop_keeps _ _ _ _ _).lift rfl ?_
          assumption
        · refine (State.afterStop_keeps _ _ _).lift rfl ?_
          assumption
      · dsimp -zeta only
        refine (State.startStop_keeps _ _ _ _ _).lift rfl ?_
        refine (State.dropMotion_keeps _ _).lift rfl ?_
        assumption

theorem State.cmdSwitchOn_keeps (s) (n) : Keeps 515 s (Prod.fst (State.cmdSwitchOn s n)) := by
  have h0 := Keeps.refl 515 s
  unfold State.cmdSwitchOn
  lift_lets -underBinder
  intro v1
  dsimp -zeta only
  refine Keeps.ite ?_ ?_
  · refine (State.setAx_keeps _ _ _).lift rfl ?_
    assumption
  · assumption

theorem State.cmdSwitchOff_keeps (s) (n) : Keeps 2819 s (Prod.fst (State.cmdSwitchOff s n)) := by
  have h0 := Keeps.refl 2819 s
  unfold State.cmdSwitchOff
  split
  · dsimp -zeta only
    refine (State.toOff_keeps _ _).lift rfl ?_
    assumption
  · dsimp -zeta only
    assumption

theorem State.cmdEnable_keeps (s) (n) : Keeps 2563 s (Prod.fst (State.cmdEnable s n)) := by
  have h0 := Keeps.refl 2563 s
  unfold State.cmdEnable
  lift_lets -underBinder
  intro v1
  dsimp -zeta only
  refine Keeps.ite ?_ ?_
  · refine (State.powerOn_keeps _ _ _).lift rfl ?_
    assumption
  · assumption

theorem State.cmdSetup_keeps (s) (n) : Keeps 2563 s (Prod.fst (State.cmdSetup s n)) := by
  have h0 := Keeps.refl 2563 s
  unfold State.cmdSetup
  lift_lets -underBinder
  intro v1
  intro v2
  dsimp -zeta only
  refine Keeps.ite ?_ ?_
  · refine (State.powerOn_keeps _ _ _).lift rfl ?_
    assumption
  · assumption

theorem State.cmdResetFault_keeps (s) (n) : Keeps 515 s (Prod.fst (State.cmdResetFault s n)) := by
  have h0 := Keeps.refl 515 s
  unfold State.cmdResetFault
  lift_lets -underBinder
  intro v1
  dsimp -zeta only
  refine Keeps.ite ?_ ?_
  · refine (State.setAx_keeps _ _ _).lift rfl ?_
    refine (State.wr_keeps _ _ _).lift rfl ?_
    refine (State.wr_keeps _ _ _).lift rfl ?_
    assumption
  · assumption

theorem State.commandEffect_keeps (s) (n) (code) (seq) : Keeps 6915 s (Prod.fst (State.commandEffect s n code seq)) := by
  have h0 := Keeps.refl 6915 s
  unfold State.commandEffect
  split
  · refine (State.cmdSwitchOn_keeps _ _).lift rfl ?_
    assumption
  · refine (State.cmdSwitchOff_keeps _ _).lift rfl ?_
    assumption
  · refine (State.cmdEnable_keeps _ _).lift rfl ?_
    assumption
  · refine (State.cmdDisable_keeps _ _).lift rfl ?_
    assumption
  · refine (State.cmdSetup_keeps _ _).lift rfl ?_
    assumption
  · refine (State.cmdMove_keeps _ _).lift rfl ?_
    assumption
  · refine (State.cmdVelocity_keeps _ _).lift rfl ?_
    assumption
  · refine (State.cmdReplace_keeps _ _ _).lift rfl ?_
    assumption
  · refine (State.cmdStop_keeps _ _ _ _).lift rfl ?_
    assumption
  · refine (State.cmdStop_keeps _ _ _ _).lift rfl ?_
    assumption
  · refine (State.cmdHome_keeps _ _).lift rfl ?_
    assumption
  · refine (State.cmdFollow_keeps _ _).lift rfl ?_
    assumption
  · refine (State.cmdResetFault_keeps _ _).lift rfl ?_
    assumption
  · dsimp -zeta only
    assumption

theorem State.commandResult_keeps (s) (n) (c) (r) : Keeps 33554769 s (State.commandResult s n c r) := by
  have h0 := Keeps.refl 33554769 s
  unfold State.commandResult
  lift_lets -underBinder
  intro v1
  have h2 : Keeps 33554769 s v1 := by
    subst v1
    refine (State.wr_keeps _ _ _).lift rfl ?_
    assumption
  clear_value v1
  intro v3
  have h4 : Keeps 33554769 s v3 := by
    subst v3
    refine Keeps.ite ?_ ?_
    · assumption
    · refine (State.bump_keeps _ _).lift rfl ?_
      assumption
  clear_value v3
  refine (State.answerTo_keeps _ _ _).lift rfl ?_
  assumption

theorem State.runCommand_keeps (s) (n) (c) : Keeps 33561427 s (State.runCommand s n c) := by
  have h0 := Keeps.refl 33561427 s
  unfold State.runCommand
  refine Keeps.ite ?_ ?_
  · refine (State.commandResult_keeps _ _ _ _).lift rfl ?_
    assumption
  · split
    rename_i x1 x2 x3 x4
    have h5 : Keeps 33561427 s x2 := by
      refine Keeps.of_eq (congrArg Prod.fst x4) ?_
      refine (State.commandEffect_keeps _ _ _ _).lift rfl ?_
      assumption
    refine (State.commandResult_keeps _ _ _ _).lift rfl ?_
    assumption

theorem State.drainCmds_keeps (s) (n) : Keeps 33561427 s (State.drainCmds s n) := by
  have h0 := Keeps.refl 33561427 s
  unfold State.drainCmds
  lift_lets -underBinder
  intro v1
  intro v2
  refine Keeps.each ?_ (fun t3 a4 h5 => ?_)
  · refine (State.modAx_keeps _ _ _).lift rfl ?_
    assumption
  · refine (State.runCommand_keeps _ _ _).lift rfl ?_
    assumption

theorem State.takeCommand_keeps (s) (n) (v) (ctx) : Keeps 2049 s (Prod.fst (State.takeCommand s n v ctx)) := by
  have h0 := Keeps.refl 2049 s
  unfold State.takeCommand
  lift_lets -underBinder
  intro v1
  intro v2
  have h3 : Keeps 2049 s v2 := by
    subst v2
    refine (State.wr_keeps _ _ _).lift rfl ?_
    assumption
  clear_value v2
  intro v4
  have h5 : Keeps 2049 s v4 := by
    subst v4
    refine (State.modAx_keeps _ _ _).lift rfl ?_
    assumption
  clear_value v4
  split
  · dsimp -zeta only
    assumption
  · dsimp -zeta only
    refine Keeps.ite ?_ ?_
    · refine (State.holdBack_keeps _ _ _).lift rfl ?_
      assumption
    · refine (State.modAx_keeps _ _ _).lift rfl ?_
      assumption

theorem execClassAFault_keeps (n) (cause) (s) : Runs 4197123 s (execClassAFault n cause s) := by
  have h0 := Keeps.refl 4197123 s
  unfold execClassAFault
  refine Runs.next ?_
  refine Keeps.ite ?_ ?_
  · assumption
  · refine (State.faultA_keeps _ _ _).lift rfl ?_
    assumption

theorem execClassBFault_keeps (n) (cause) (s) : Runs 2049 s (execClassBFault n cause s) := by
  have h0 := Keeps.refl 2049 s
  unfold execClassBFault
  refine Runs.next ?_
  refine Keeps.ite ?_ ?_
  · assumption
  · refine (State.raiseB_keeps _ _ _).lift rfl ?_
    assumption

theorem State.genBy_keeps (s) (n) (dt) : Keeps 2819 s (State.genBy s n dt) := by
  have h0 := Keeps.refl 2819 s
  unfold State.genBy
  refine Keeps.ite ?_ ?_
  · refine (State.setPoint_keeps _ _ _).lift rfl ?_
    assumption
  · refine Keeps.ite ?_ ?_
    · assumption
    · refine Keeps.ite ?_ ?_
      · refine (State.followStep_keeps _ _).lift rfl ?_
        assumption
      · lift_lets -underBinder
        intro v1
        have h2 : Keeps 2819 s v1 := by
          subst v1
          refine (State.modAx_keeps _ _ _).lift rfl ?_
          assumption
        clear_value v1
        refine (State.setPoint_keeps _ _ _).lift rfl ?_
        assumption

theorem State.settle_keeps (s) (n) : Keeps 2563 s (State.settle s n) := by
  have h0 := Keeps.refl 2563 s
  unfold State.settle
  lift_lets -underBinder
  intro v1
  have h2 : Keeps 2563 s v1 := by
    subst v1
    refine (State.rest_keeps _ _).lift rfl ?_
    assumption
  clear_value v1
  refine Keeps.ite ?_ ?_
  · assumption
  · refine (State.setAx_keeps _ _ _).lift rfl ?_
    assumption

theorem State.movesDone_keeps (s) (n) (k) : Keeps 1 s (State.movesDone s n k) := by
  have h0 := Keeps.refl 1 s
  unfold State.movesDone
  refine (State.wr_keeps _ _ _).lift rfl ?_
  assumption

theorem State.judge_keeps (s) (n) : Keeps 2048 s (State.judge s n) := by
  have h0 := Keeps.refl 2048 s
  unfold State.judge
  refine (State.modAx_keeps _ _ _).lift rfl ?_
  assumption

theorem State.queueStep_keeps (s) (n) : Keeps 2563 s (State.queueStep s n) := by
  have h0 := Keeps.refl 2563 s
  unfold State.queueStep
  lift_lets -underBinder
  intro v1
  intro v2
  intro v3
  have h4 : Keeps 2563 s v3 := by
    subst v3
    refine Keeps.ite ?_ ?_
    · assumption
    · refine (State.movesDone_keeps _ _ _).lift rfl ?_
      refine (State.modAx_keeps _ _ _).lift rfl ?_
      assumption
  clear_value v3
  intro v5
  have h6 : Keeps 2563 s v5 := by
    subst v5
    refine (State.wr_keeps _ _ _).lift rfl ?_
    assumption
  clear_value v5
  refine Keeps.ite ?_ ?_
  · refine (State.judge_keeps _ _).lift rfl ?_
    refine (State.settle_keeps _ _).lift rfl ?_
    assumption
  · assumption

theorem State.stopEnded_keeps (s) (n) : Keeps 4197123 s (State.stopEnded s n) := by
  have h0 := Keeps.refl 4197123 s
  unfold State.stopEnded
  split
  · refine (State.settle_keeps _ _).lift rfl ?_
    assumption
  · refine (State.toReady_keeps _ _).lift rfl ?_
    assumption
  · refine (State.toOff_keeps _ _).lift rfl ?_
    assumption
  · refine (State.enterFault_keeps _ _).lift rfl ?_
    assumption
  · refine (State.replaceStart_keeps _ _ _ _ _).lift rfl ?_
    refine (State.rest_keeps _ _).lift rfl ?_
    assumption

theorem State.arrive_keeps (s) (n) : Keeps 4197123 s (State.arrive s n) := by
  have h0 := Keeps.refl 4197123 s
  unfold State.arrive
  lift_lets -underBinder
  intro v1
  refine Keeps.ite ?_ ?_
  · assumption
  · refine Keeps.ite ?_ ?_
    · refine Keeps.ite ?_ ?_
      · refine (State.judge_keeps _ _).lift rfl ?_
        refine (State.movesDone_keeps _ _ _).lift rfl ?_
        refine (State.settle_keeps _ _).lift rfl ?_
        assumption
      · assumption
    · refine Keeps.ite ?_ ?_
      · refine (State.queueStep_keeps _ _).lift rfl ?_
        assumption
      · refine Keeps.ite ?_ ?_
        · refine Keeps.ite ?_ ?_
          · refine (State.stopEnded_keeps _ _).lift rfl ?_
            assumption
          · assumption
        · assumption

theorem State.paramKept_keeps (s) (n) : Keeps 257 s (State.paramKept s n) := by
  have h0 := Keeps.refl 257 s
  unfold State.paramKept
  refine (State.record_keeps _ _ _ _ _ _).lift rfl ?_
  refine (State.setBit_keeps _ _ _).lift rfl ?_
  assumption

theorem State.takeQueue_keeps (s) (n) (l) : Keeps 2048 s (State.takeQueue s n l) := by
  have h0 := Keeps.refl 2048 s
  unfold State.takeQueue
  split
  refine (State.modAx_keeps _ _ _).lift rfl ?_
  assumption

theorem State.dropAppended_keeps (s) (n) : Keeps 2049 s (State.dropAppended s n) := by
  have h0 := Keeps.refl 2049 s
  unfold State.dropAppended
  lift_lets -underBinder
  intro v1
  have h2 : Keeps 2049 s v1 := by
    subst v1
    refine (State.modAx_keeps _ _ _).lift rfl ?_
    assumption
  clear_value v1
  intro v3
  have h4 : Keeps 2049 s v3 := by
    subst v3
    refine (State.wr_keeps _ _ _).lift rfl ?_
    assumption
  clear_value v3
  intro v5
  refine (State.lateRefusal_keeps _ _ _ _ _).lift rfl ?_
  assumption

theorem State.queueRebuild_keeps (s) (n) : Keeps 2305 s (State.queueRebuild s n) := by
  have h0 := Keeps.refl 2305 s
  unfold State.queueRebuild
  lift_lets -underBinder
  intro v1
  intro v2
  intro v3
  intro v4
  have h5 : Keeps 2305 s v4 := by
    subst v4
    refine (State.modAx_keeps _ _ _).lift rfl ?_
    assumption
  clear_value v4
  intro v6
  have h7 : Keeps 2305 s v6 := by
    subst v6
    refine Keeps.ite ?_ ?_
    · refine (State.paramKept_keeps _ _).lift rfl ?_
      assumption
    · assumption
  clear_value v6
  refine Keeps.ite ?_ ?_
  · assumption
  · refine Keeps.ite ?_ ?_
    · refine (State.takeQueue_keeps _ _ _).lift rfl ?_
      assumption
    · refine Keeps.ite ?_ ?_
      · assumption
      · refine Keeps.ite ?_ ?_
        · refine (State.takeQueue_keeps _ _ _).lift rfl ?_
          assumption
        · refine (State.dropAppended_keeps _ _).lift rfl ?_
          assumption

theorem State.replan_keeps (s) (n) : Keeps 2305 s (State.replan s n) := by
  have h0 := Keeps.refl 2305 s
  unfold State.replan
  lift_lets -underBinder
  intro v1
  intro v2
  have h3 : Keeps 2305 s v2 := by
    subst v2
    refine (State.modAx_keeps _ _ _).lift rfl ?_
    assumption
  clear_value v2
  intro v4
  intro v5
  intro v6
  intro v7
  intro v8
  refine Keeps.ite ?_ ?_
  · assumption
  · refine Keeps.ite ?_ ?_
    · refine (State.planVelocity_keeps _ _).lift rfl ?_
      assumption
    · refine Keeps.ite ?_ ?_
      · refine Keeps.ite ?_ ?_
        · refine (State.paramKept_keeps _ _).lift rfl ?_
          assumption
        · refine (State.modAx_keeps _ _ _).lift rfl ?_
          assumption
      · assumption

theorem State.limitStop_keeps (s) (n) : Keeps 2819 s (State.limitStop s n) := by
  have h0 := Keeps.refl 2819 s
  unfold State.limitStop
  split
  · assumption
  · refine Keeps.ite ?_ ?_
    · lift_lets -underBinder
      intro v7
      intro v8
      intro v9
      intro v10
      have h11 : Keeps 2819 s v10 := by
        subst v10
        refine (State.startStop_keeps _ _ _ _ _).lift rfl ?_
        refine (State.dropMotion_keeps _ _).lift rfl ?_
        assumption
      clear_value v10
      refine Keeps.ite ?_ ?_
      · refine (State.record_keeps _ _ _ _ _ _).lift rfl ?_
        refine (State.bump_keeps _ _).lift rfl ?_
        refine (State.setBit_keeps _ _ _).lift rfl ?_
        assumption
      · assumption
    · assumption

theorem State.switchStop_keeps (s) (n) : Keeps 2819 s (State.switchStop s n) := by
  have h0 := Keeps.refl 2819 s
  unfold State.switchStop
  lift_lets -underBinder
  intro v1
  refine Keeps.ite ?_ ?_
  · assumption
  · refine Keeps.ite ?_ ?_
    · assumption
    · refine (State.record_keeps _ _ _ _ _ _).lift rfl ?_
      refine (State.stopAt_keeps _ _ _ _ _).lift rfl ?_
      assumption

theorem State.checkFe_keeps (s) (n) : Keeps 2049 s (State.checkFe s n) := by
  have h0 := Keeps.refl 2049 s
  unfold State.checkFe
  lift_lets -underBinder
  intro v1
  intro v2
  intro v3
  have h4 : Keeps 2049 s v3 := by
    subst v3
    refine (State.modAx_keeps _ _ _).lift rfl ?_
    assumption
  clear_value v3
  refine Keeps.ite ?_ ?_
  · refine (State.modAx_keeps _ _ _).lift rfl ?_
    assumption
  · refine Keeps.ite ?_ ?_
    · refine (State.raiseB_keeps _ _ _).lift rfl ?_
      assumption
    · assumption

theorem State.checkInPos_keeps (s) (n) : Keeps 2049 s (State.checkInPos s n) := by
  have h0 := Keeps.refl 2049 s
  unfold State.checkInPos
  lift_lets -underBinder
  intro v1
  refine Keeps.ite ?_ ?_
  · assumption
  · refine Keeps.ite ?_ ?_
    · refine (State.modAx_keeps _ _ _).lift rfl ?_
      assumption
    · refine Keeps.ite ?_ ?_
      · refine (State.modAx_keeps _ _ _).lift rfl ?_
        refine (State.setBit_keeps _ _ _).lift rfl ?_
        assumption
      · refine (State.modAx_keeps _ _ _).lift rfl ?_
        assumption

theorem State.showStatus_keeps (s) (n) : Keeps 1 s (State.showStatus s n) := by
  have h0 := Keeps.refl 1 s
  unfold State.showStatus
  lift_lets -underBinder
  intro v1
  intro v2
  intro v3
  refine Keeps.each ?_ (fun t4 a5 h6 => ?_)
  · assumption
  · refine (State.putBit_keeps _ _ _ _).lift rfl ?_
    assumption

theorem State.checkPosition_keeps (s) (n) : Keeps 2049 s (State.checkPosition s n) := by
  have h0 := Keeps.refl 2049 s
  unfold State.checkPosition
  refine Keeps.ite ?_ ?_
  · refine (State.raiseB_keeps _ _ _).lift rfl ?_
    assumption
  · assumption

theorem State.applyChange_keeps (s) (n) (c) : Keeps 33561427 s (State.applyChange s n c) := by
  have h0 := Keeps.refl 33561427 s
  unfold State.applyChange
  split
  · refine (State.runCommand_keeps _ _ _).lift rfl ?_
    assumption
  · refine (State.queueRebuild_keeps _ _).lift rfl ?_
    refine (State.modAx_keeps _ _ _).lift rfl ?_
    assumption
  · refine (State.controlledStop_keeps _ _).lift rfl ?_
    assumption
  · refine Keeps.ite ?_ ?_
    · assumption
    · refine (State.startStop_keeps _ _ _ _ _).lift rfl ?_
      refine (State.setAx_keeps _ _ _).lift rfl ?_
      refine (State.dropMotion_keeps _ _).lift rfl ?_
      assumption
  · refine Keeps.ite ?_ ?_
    · assumption
    · lift_lets -underBinder
      intro v13
      intro v14
      intro v15
      have h16 : Keeps 33561427 s v15 := by
        subst v15
        refine (State.dropMotion_keeps _ _).lift rfl ?_
        assumption
      clear_value v15
      intro v17
      have h18 : Keeps 33561427 s v17 := by
        subst v17
        refine (State.modAx_keeps _ _ _).lift rfl ?_
        assumption
      clear_value v17
      refine (State.setAx_keeps _ _ _).lift rfl ?_
      refine (State.setMode_keeps _ _ _).lift rfl ?_
      assumption

theorem State.genSpan_keeps (s) (n) (t0) (t1) : Keeps 37755731 s (State.genSpan s n t0 t1) := by
  have h0 := Keeps.refl 37755731 s
  unfold State.genSpan
  lift_lets -underBinder
  intro v1
  intro v2
  have h3 : Keeps 37755731 s v2 := by
    subst v2
    refine (State.modAx_keeps _ _ _).lift rfl ?_
    assumption
  clear_value v2
  intro v4
  have h5 : Keeps 37755731 s (Prod.fst v4) := by
    subst v4
    refine Keeps.foldlFst ?_ (fun t6 a7 h8 => ?_)
    · dsimp -zeta only
      assumption
    · lift_lets -underBinder
      intro v9
      dsimp -zeta only
      refine (State.replan_keeps _ _).lift rfl ?_
      refine (State.applyChange_keeps _ _ _).lift rfl ?_
      refine (State.arrive_keeps _ _).lift rfl ?_
      refine (State.genBy_keeps _ _ _).lift rfl ?_
      assumption
  clear_value v4
  refine (State.genBy_keeps _ _ _).lift rfl ?_
  assumption

theorem State.drainDue_keeps (s) (n) (now) : Keeps 33561427 s (State.drainDue s n now) := by
  have h0 := Keeps.refl 33561427 s
  unfold State.drainDue
  lift_lets -underBinder
  intro v1
  intro v2
  have h3 : Keeps 33561427 s v2 := by
    subst v2
    refine (State.modAx_keeps _ _ _).lift rfl ?_
    assumption
  clear_value v2
  refine Keeps.each ?_ (fun t4 a5 h6 => ?_)
  · assumption
  · refine (State.applyChange_keeps _ _ _).lift rfl ?_
    assumption

theorem State.paramWrite_keeps (s) (n) (k) (v) : Keeps 2049 s (Res.st (State.paramWrite s n k v)) := by
  have h0 := Keeps.refl 2049 s
  unfold State.paramWrite
  split
  · lift_lets -underBinder
    intro v2
    intro v3
    have h4 : Keeps 2049 s v3 := by
      subst v3
      refine (State.wr_keeps _ _ _).lift rfl ?_
      assumption
    clear_value v3
    intro v5
    dsimp -zeta only [okRes]
    refine (State.holdBack_keeps _ _ _).lift rfl ?_
    refine (State.modAx_keeps _ _ _).lift rfl ?_
    assumption
  · dsimp -zeta only [okRes]
    refine (State.modAx_keeps _ _ _).lift rfl ?_
    refine (State.wr_keeps _ _ _).lift rfl ?_
    assumption

theorem State.noteGen_keeps (s) (n) : Keeps 2048 s (State.noteGen s n) := by
  have h0 := Keeps.refl 2048 s
  unfold State.noteGen
  lift_lets -underBinder
  intro v1
  intro v2
  refine (State.modAx_keeps _ _ _).lift rfl ?_
  assumption

theorem State.coldStart_keeps (s) (n) : Keeps 33561427 s (State.coldStart s n) := by
  have h0 := Keeps.refl 33561427 s
  unfold State.coldStart
  lift_lets -underBinder
  intro v1
  have h2 : Keeps 33561427 s v1 := by
    subst v1
    refine (State.modAx_keeps _ _ _).lift rfl ?_
    assumption
  clear_value v1
  intro v3
  have h4 : Keeps 33561427 s v3 := by
    subst v3
    refine Keeps.ite ?_ ?_
    · refine (State.setPoint_keeps _ _ _).lift rfl ?_
      assumption
    · assumption
  clear_value v3
  refine Keeps.ite ?_ ?_
  · assumption
  · refine Keeps.ite ?_ ?_
    · refine (State.holdBack_keeps _ _ _).lift rfl ?_
      assumption
    · refine (State.applyChange_keeps _ _ _).lift rfl ?_
      assumption

theorem State.correct_keeps (s) (n) (dt) : Keeps 2305 s (State.correct s n dt) := by
  have h0 := Keeps.refl 2305 s
  unfold State.correct
  lift_lets -underBinder
  intro v1
  intro v2
  have h3 : Keeps 2305 s v2 := by
    subst v2
    refine (State.regStep_keeps _ _ _).lift rfl ?_
    assumption
  clear_value v2
  refine Keeps.ite ?_ ?_
  · refine (State.phaseStep_keeps _ _ _).lift rfl ?_
    assumption
  · assumption

theorem State.axisInstant_keeps (s) (n) : Keeps 37886803 s (State.axisInstant s n) := by
  have h0 := Keeps.refl 37886803 s
  unfold State.axisInstant
  refine Keeps.ite ?_ ?_
  · refine (State.pageFill_keeps _ _).lift rfl ?_
    refine (State.pageSwap_keeps _ _).lift rfl ?_
    assumption
  · lift_lets -underBinder
    intro v1
    intro v2
    have h3 : Keeps 37886803 s v2 := by
      subst v2
      refine (State.pageSwap_keeps _ _).lift rfl ?_
      assumption
    clear_value v2
    intro v4
    intro v5
    have h6 : Keeps 37886803 s v5 := by
      subst v5
      refine Keeps.ite ?_ ?_
      · refine (State.coldStart_keeps _ _).lift rfl ?_
        assumption
      · refine (State.genSpan_keeps _ _ _ _).lift rfl ?_
        assumption
    clear_value v5
    intro v7
    have h8 : Keeps 37886803 s v7 := by
      subst v7
      refine (State.queueRebuild_keeps _ _).lift rfl ?_
      refine (State.arrive_keeps _ _).lift rfl ?_
      assumption
    clear_value v7
    intro v9
    intro v10
    have h11 : Keeps 37886803 s v10 := by
      subst v10
      refine (State.modAx_keeps _ _ _).lift rfl ?_
      refine (State.takeB_keeps _ _).lift rfl ?_
      refine (State.checkPosition_keeps _ _).lift rfl ?_
      refine (State.modAx_keeps _ _ _).lift rfl ?_
      assumption
    clear_value v10
    intro v12
    have h13 : Keeps 37886803 s v12 := by
      subst v12
      refine (State.drainDue_keeps _ _ _).lift rfl ?_
      refine (State.drainCmds_keeps _ _).lift rfl ?_
      assumption
    clear_value v12
    intro v14
    have h15 : Keeps 37886803 s v14 := by
      subst v14
      refine (State.homeStep_keeps _ _).lift rfl ?_
      refine (State.replan_keeps _ _).lift rfl ?_
      assumption
    clear_value v14
    intro v16
    have h17 : Keeps 37886803 s v16 := by
      subst v16
      refine (State.switchStop_keeps _ _).lift rfl ?_
      refine (State.limitStop_keeps _ _).lift rfl ?_
      refine (State.correct_keeps _ _ _).lift rfl ?_
      assumption
    clear_value v16
    intro v18
    have h19 : Keeps 37886803 s v18 := by
      subst v18
      refine (State.checkFe_keeps _ _).lift rfl ?_
      refine (State.l3Law_keeps _ _).lift rfl ?_
      refine (State.noteGen_keeps _ _).lift rfl ?_
      assumption
    clear_value v18
    intro v20
    have h21 : Keeps 37886803 s v20 := by
      subst v20
      refine (State.showStatus_keeps _ _).lift rfl ?_
      refine (State.checkInPos_keeps _ _).lift rfl ?_
      assumption
    clear_value v20
    refine (State.pageFill_keeps _ _).lift rfl ?_
    refine Keeps.ite ?_ ?_
    · refine (State.completed_keeps _ _ _).lift rfl ?_
      assumption
    · assumption

theorem execL3Sample_keeps (n) (s) : Runs 37886803 s (execL3Sample n s) := by
  have h0 := Keeps.refl 37886803 s
  unfold execL3Sample
  refine Runs.next ?_
  refine (State.axisInstant_keeps _ _).lift rfl ?_
  refine (State.bankSwap_keeps _ _ _).lift rfl ?_
  assumption

theorem execVirtualTick_keeps (n) (s) : Runs 37894995 s (execVirtualTick n s) := by
  have h0 := Keeps.refl 37894995 s
  unfold execVirtualTick
  lift_lets -underBinder
  intro v1
  have h2 : Keeps 37894995 s v1 := by
    subst v1
    refine (State.subShow_keeps _).lift rfl ?_
    assumption
  clear_value v1
  intro v3
  have h4 : Keeps 37894995 s v3 := by
    subst v3
    refine Keeps.ite ?_ ?_
    · refine (State.sampleSeen_keeps _ _).lift rfl ?_
      assumption
    · assumption
  clear_value v3
  intro v5
  have h6 : Keeps 37894995 s v5 := by
    subst v5
    refine (State.axisInstant_keeps _ _).lift rfl ?_
    assumption
  clear_value v5
  refine Runs.next ?_
  refine Keeps.ite ?_ ?_
  · assumption
  · refine (State.latchPasses_keeps _ _).lift rfl ?_
    refine (State.modAx_keeps _ _ _).lift rfl ?_
    assumption

theorem State.modPb_keeps (s) (q) (f) : Keeps 524288 s (State.modPb s q f) := by
  have h0 := Keeps.refl 524288 s
  unfold State.modPb
  refine (Keeps.setPub _ _).lift rfl ?_
  assumption

theorem State.planTick_keeps (s) (n) (t0) (t1) : Keeps 37755731 s (State.planTick s n t0 t1) := by
  have h0 := Keeps.refl 37755731 s
  unfold State.planTick
  refine (State.limitStop_keeps _ _).lift rfl ?_
  refine (State.replan_keeps _ _).lift rfl ?_
  refine (State.drainDue_keeps _ _ _).lift rfl ?_
  refine (State.arrive_keeps _ _).lift rfl ?_
  refine (State.genSpan_keeps _ _ _ _).lift rfl ?_
  assumption

theorem State.sendPass_keeps (s) (q) (flags) (t0) (x) (validity) : Keeps 33816977 s (State.sendPass s q flags t0 x validity) := by
  have h0 := Keeps.refl 33816977 s
  unfold State.sendPass
  lift_lets -underBinder
  intro v1
  intro v2
  have h3 : Keeps 33816977 s v2 := by
    subst v2
    refine (State.bump_keeps _ _).lift rfl ?_
    refine (State.wr_keeps _ _ _).lift rfl ?_
    assumption
  clear_value v2
  intro v4
  intro v5
  intro v6
  intro v7
  have h8 : Keeps 33816977 s v7 := by
    subst v7
    refine Keeps.ite ?_ ?_
    · refine (State.passTake_keeps _ _ _ _ _ _).lift rfl ?_
      refine (State.sendFrame_keeps _ _).lift rfl ?_
      assumption
    · assumption
  clear_value v7
  intro v9
  intro v10
  refine Keeps.ite ?_ ?_
  · refine (State.canSend_keeps _ _ _ _).lift rfl ?_
    refine (State.canSend_keeps _ _ _ _).lift rfl ?_
    assumption
  · assumption

theorem State.refuseDue_keeps (s) (n) (tc) : Keeps 33556817 s (State.refuseDue s n tc) := by
  have h0 := Keeps.refl 33556817 s
  unfold State.refuseDue
  lift_lets -underBinder
  intro v1
  intro v2
  have h3 : Keeps 33556817 s v2 := by
    subst v2
    refine (State.modAx_keeps _ _ _).lift rfl ?_
    assumption
  clear_value v2
  refine Keeps.each ?_ (fun t4 a5 h6 => ?_)
  · assumption
  · split
    · refine (State.commandResult_keeps _ _ _ _).lift rfl ?_
      assumption
    · refine (State.modAx_keeps _ _ _).lift rfl ?_
      assumption

theorem State.beginMains_keeps (s) (q) (t0) (tc) : Keeps 34343377 s (State.beginMains s q t0 tc) := by
  have h0 := Keeps.refl 34343377 s
  unfold State.beginMains
  lift_lets -underBinder
  intro v1
  intro v2
  split
  lift_lets -underBinder
  intro v7
  have h8 : Keeps 34343377 s v7 := by
    subst v7
    refine (State.refuseDue_keeps _ _ _).lift rfl ?_
    assumption
  clear_value v7
  intro v9
  have h10 : Keeps 34343377 s v9 := by
    subst v9
    refine (State.modAx_keeps _ _ _).lift rfl ?_
    assumption
  clear_value v9
  intro v11
  intro v12
  have h13 : Keeps 34343377 s v12 := by
    subst v12
    refine (State.wr_keeps _ _ _).lift rfl ?_
    refine (State.modPb_keeps _ _ _).lift rfl ?_
    assumption
  clear_value v12
  refine (State.record_keeps _ _ _ _ _ _).lift rfl ?_
  refine (State.sendPass_keeps _ _ _ _ _ _).lift rfl ?_
  assumption

theorem State.giveTc_keeps (s) (n) (tc) : Keeps 2048 s (State.giveTc s n tc) := by
  have h0 := Keeps.refl 2048 s
  unfold State.giveTc
  lift_lets -underBinder
  intro v1
  refine (State.modAx_keeps _ _ _).lift rfl ?_
  assumption

theorem State.publish_keeps (s) (q) : Keeps 34343377 s (State.publish s q) := by
  have h0 := Keeps.refl 34343377 s
  unfold State.publish
  refine Keeps.ite ?_ ?_
  · assumption
  · lift_lets -underBinder
    intro v1
    intro v2
    intro v3
    intro v4
    intro v5
    have h6 : Keeps 34343377 s v5 := by
      subst v5
      refine (State.giveTc_keeps _ _ _).lift rfl ?_
      assumption
    clear_value v5
    intro v7
    split
    · refine Keeps.ite ?_ ?_
      · refine (State.sendPass_keeps _ _ _ _ _ _).lift rfl ?_
        assumption
      · assumption
    · refine Keeps.ite ?_ ?_
      · refine (State.wr_keeps _ _ _).lift rfl ?_
        assumption
      · refine Keeps.ite ?_ ?_
        · refine (State.beginMains_keeps _ _ _ _).lift rfl ?_
          assumption
        · lift_lets -underBinder
          intro v13
          refine (State.sendPass_keeps _ _ _ _ _ _).lift rfl ?_
          refine (State.wr_keeps _ _ _).lift rfl ?_
          assumption

theorem execPublishInstant_keeps (q) (s) : Runs 34343377 s (execPublishInstant q s) := by
  have h0 := Keeps.refl 34343377 s
  unfold execPublishInstant
  refine Runs.next ?_
  refine Keeps.ite ?_ ?_
  · assumption
  · refine (State.publish_keeps _ _).lift rfl ?_
    assumption

theorem State.pubCommit_keeps (s) : Keeps 526337 s (State.pubCommit s) := by
  have h0 := Keeps.refl 526337 s
  unfold State.pubCommit
  lift_lets -underBinder
  intro v1
  have h2 : Keeps 526337 s v1 := by
    subst v1
    refine Keeps.each ?_ (fun t3 a4 h5 => ?_)
    · assumption
    · refine Keeps.ite ?_ ?_
      · refine (State.wr_keeps _ _ _).lift rfl ?_
        refine (State.modPb_keeps _ _ _).lift rfl ?_
        assumption
      · refine Keeps.ite ?_ ?_
        · refine (State.wr_keeps _ _ _).lift rfl ?_
          assumption
        · assumption
  clear_value v1
  refine Keeps.each ?_ (fun t6 a7 h8 => ?_)
  · assumption
  · refine Keeps.ite ?_ ?_
    · assumption
    · refine (State.modAx_keeps _ _ _).lift rfl ?_
      assumption

theorem State.dutyStep_keeps (s) (n) : Keeps 1024 s (State.dutyStep s n) := by
  have h0 := Keeps.refl 1024 s
  unfold State.dutyStep
  refine (State.modCl_keeps _ _ _).lift rfl ?_
  assumption

theorem State.commitDuties_keeps (s) (n) (ds) : Keeps 1537 s (State.commitDuties s n ds) := by
  have h0 := Keeps.refl 1537 s
  unfold State.commitDuties
  lift_lets -underBinder
  intro v1
  have h2 : Keeps 1537 s v1 := by
    subst v1
    refine (State.modCl_keeps _ _ _).lift rfl ?_
    assumption
  clear_value v1
  refine Keeps.ite ?_ ?_
  · assumption
  · refine Keeps.each ?_ (fun t3 a4 h5 => ?_)
    · assumption
    · lift_lets -underBinder
      intro v6
      intro v7
      have h8 : Keeps 1537 s v7 := by
        subst v7
        refine (State.wr_keeps _ _ _).lift rfl ?_
        assumption
      clear_value v7
      intro v9
      refine (Keeps.setLeg _ _).lift rfl ?_
      assumption

theorem State.loadStep_keeps (s) (n) (v) : Keeps 1025 s (State.loadStep s n v) := by
  have h0 := Keeps.refl 1025 s
  unfold State.loadStep
  lift_lets -underBinder
  intro v1
  have h2 : Keeps 1025 s v1 := by
    subst v1
    refine (State.modCl_keeps _ _ _).lift rfl ?_
    assumption
  clear_value v1
  intro v3
  refine (State.wr_keeps _ _ _).lift rfl ?_
  assumption

theorem State.adaptCurrent_keeps (s) (n) : Keeps 1 s (State.adaptCurrent s n) := by
  have h0 := Keeps.refl 1 s
  unfold State.adaptCurrent
  lift_lets -underBinder
  intro v1
  intro v2
  intro v3
  intro v4
  intro v5
  intro v6
  refine (State.wr_keeps _ _ _).lift rfl ?_
  assumption

theorem State.stallStep_keeps (s) (n) (cond) : Keeps 3329 s (State.stallStep s n cond) := by
  have h0 := Keeps.refl 3329 s
  unfold State.stallStep
  lift_lets -underBinder
  intro v1
  intro v2
  have h3 : Keeps 3329 s v2 := by
    subst v2
    refine (State.modCl_keeps _ _ _).lift rfl ?_
    assumption
  clear_value v2
  refine Keeps.ite ?_ ?_
  · refine (State.raiseB_keeps _ _ _).lift rfl ?_
    refine (State.record_keeps _ _ _ _ _ _).lift rfl ?_
    refine (State.bump_keeps _ _).lift rfl ?_
    refine (State.setBit_keeps _ _ _).lift rfl ?_
    assumption
  · assumption

theorem State.loadAngle_keeps (s) (n) (ia) (ib) (vdc) : Keeps 1024 s (Prod.fst (State.loadAngle s n ia ib vdc)) := by
  have h0 := Keeps.refl 1024 s
  unfold State.loadAngle
  lift_lets -underBinder
  intro v1
  intro v2
  split
  split
  lift_lets -underBinder
  intro v11
  intro v12
  intro v13
  intro v14
  have h15 : Keeps 1024 s v14 := by
    subst v14
    refine (State.modCl_keeps _ _ _).lift rfl ?_
    assumption
  clear_value v14
  intro v16
  intro v17
  dsimp -zeta only
  assumption

theorem State.stallCheck_keeps (s) (n) (ia) (ib) (vdc) : Keeps 3329 s (State.stallCheck s n ia ib vdc) := by
  have h0 := Keeps.refl 3329 s
  unfold State.stallCheck
  lift_lets -underBinder
  intro v1
  intro v2
  refine Keeps.ite ?_ ?_
  · refine (State.stallStep_keeps _ _ _).lift rfl ?_
    assumption
  · refine Keeps.ite ?_ ?_
    · assumption
    · split
      rename_i x3 x4 x5 x6
      have h7 : Keeps 3329 s x4 := by
        refine Keeps.of_eq (congrArg Prod.fst x6) ?_
        refine (State.loadAngle_keeps _ _ _ _ _).lift rfl ?_
        assumption
      lift_lets -underBinder
      intro v8
      intro v9
      have h10 : Keeps 3329 s v9 := by
        subst v9
        refine (State.wr_keeps _ _ _).lift rfl ?_
        assumption
      clear_value v9
      refine (State.stallStep_keeps _ _ _).lift rfl ?_
      assumption

theorem State.angleCheck_keeps (s) (n) : Keeps 4198147 s (Prod.fst (State.angleCheck s n)) := by
  have h0 := Keeps.refl 4198147 s
  unfold State.angleCheck
  lift_lets -underBinder
  intro v1
  intro v2
  have h3 : Keeps 4198147 s v2 := by
    subst v2
    refine (State.setBit_keeps _ _ _).lift rfl ?_
    refine (State.modCl_keeps _ _ _).lift rfl ?_
    assumption
  clear_value v2
  split
  · dsimp -zeta only
    refine (State.modCl_keeps _ _ _).lift rfl ?_
    assumption
  · split
    · dsimp -zeta only
      assumption
    · dsimp -zeta only
      refine (State.faultA_keeps _ _ _).lift rfl ?_
      refine (State.fenceAtReload_keeps _ _).lift rfl ?_
      assumption

theorem State.cellAngle_keeps (s) (n) : Keeps 1024 s (Prod.fst (State.cellAngle s n)) := by
  have h0 := Keeps.refl 1024 s
  unfold State.cellAngle
  lift_lets -underBinder
  intro v1
  intro v2
  intro v3
  split
  · dsimp -zeta only
    refine Keeps.ite ?_ ?_
    · refine (State.modCl_keeps _ _ _).lift rfl ?_
      assumption
    · assumption
  · dsimp -zeta only
    assumption

theorem State.cellVolts_keeps (s) (n) (ia) (ib) (vdc) (gap) : Keeps 1025 s (Prod.fst (State.cellVolts s n ia ib vdc gap)) := by
  have h0 := Keeps.refl 1025 s
  unfold State.cellVolts
  lift_lets -underBinder
  intro v1
  split
  split
  · lift_lets -underBinder
    intro v8
    split
    split
    lift_lets -underBinder
    intro v18
    split
    dsimp -zeta only
    subst v1
    dsimp -zeta only
    refine (State.wr_keeps _ _ _).lift rfl ?_
    refine (State.wr_keeps _ _ _).lift rfl ?_
    refine (State.wr_keeps _ _ _).lift rfl ?_
    refine (State.wr_keeps _ _ _).lift rfl ?_
    refine (State.wr_keeps _ _ _).lift rfl ?_
    refine (State.wr_keeps _ _ _).lift rfl ?_
    assumption
  · lift_lets -underBinder
    intro v25
    have h26 : Keeps 1025 s v25 := by
      subst v25
      refine (State.adaptCurrent_keeps _ _).lift rfl ?_
      assumption
    clear_value v25
    intro v27
    split
    lift_lets -underBinder
    intro v32
    dsimp -zeta only
    subst v1
    dsimp -zeta only
    refine (State.wr_keeps _ _ _).lift rfl ?_
    refine (State.wr_keeps _ _ _).lift rfl ?_
    refine (State.wr_keeps _ _ _).lift rfl ?_
    refine (State.wr_keeps _ _ _).lift rfl ?_
    refine (State.wr_keeps _ _ _).lift rfl ?_
    refine (State.wr_keeps _ _ _).lift rfl ?_
    assumption
  · split
    rename_i x36 x37 x38 x39 x40
    have h41 : Keeps 1025 s x37 := by
      refine Keeps.of_eq (congrArg Prod.fst x40) ?_
      refine (State.cellAngle_keeps _ _).lift rfl ?_
      assumption
    split
    lift_lets -underBinder
    intro v46
    intro v47
    split
    lift_lets -underBinder
    intro v52
    split
    · dsimp -zeta only
      subst v1
      dsimp -zeta only
      refine (State.wr_keeps _ _ _).lift rfl ?_
      refine (State.wr_keeps _ _ _).lift rfl ?_
      refine (State.wr_keeps _ _ _).lift rfl ?_
      refine (State.wr_keeps _ _ _).lift rfl ?_
      refine (State.wr_keeps _ _ _).lift rfl ?_
      refine (State.wr_keeps _ _ _).lift rfl ?_
      assumption
    · dsimp -zeta only
      subst v1
      dsimp -zeta only
      refine (State.wr_keeps _ _ _).lift rfl ?_
      refine (State.wr_keeps _ _ _).lift rfl ?_
      refine (State.wr_keeps _ _ _).lift rfl ?_
      refine (State.wr_keeps _ _ _).lift rfl ?_
      refine (State.wr_keeps _ _ _).lift rfl ?_
      refine (State.wr_keeps _ _ _).lift rfl ?_
      assumption

theorem State.ocEnded_keeps (s) (k) (i) (moving) : Keeps 512 s (State.ocEnded s k i moving) := by
  have h0 := Keeps.refl 512 s
  unfold State.ocEnded
  lift_lets -underBinder
  intro v1
  intro v2
  refine (Keeps.setLeg _ _).lift rfl ?_
  assumption

theorem State.cellRun_keeps (s) (n) (w0) (w1) (gap) : Keeps 4198147 s (State.cellRun s n w0 w1 gap) := by
  have h0 := Keeps.refl 4198147 s
  unfold State.cellRun
  lift_lets -underBinder
  intro v1
  intro v2
  intro v3
  intro v4
  have h5 : Keeps 4198147 s v4 := by
    subst v4
    refine (State.ocEnded_keeps _ _ _ _).lift rfl ?_
    refine (State.ocEnded_keeps _ _ _ _).lift rfl ?_
    assumption
  clear_value v4
  intro v6
  have h7 : Keeps 4198147 s v6 := by
    subst v6
    refine (State.wr_keeps _ _ _).lift rfl ?_
    refine (State.wr_keeps _ _ _).lift rfl ?_
    assumption
  clear_value v6
  intro v8
  have h9 : Keeps 4198147 s v8 := by
    subst v8
    refine (State.wr_keeps _ _ _).lift rfl ?_
    refine (State.wr_keeps _ _ _).lift rfl ?_
    refine (State.wr_keeps _ _ _).lift rfl ?_
    assumption
  clear_value v8
  intro v10
  intro v11
  have h12 : Keeps 4198147 s v11 := by
    subst v11
    refine (State.wr_keeps _ _ _).lift rfl ?_
    assumption
  clear_value v11
  intro v13
  split
  rename_i x14 x15 x16 x17
  have h18 : Keeps 4198147 s x15 := by
    refine Keeps.of_eq (congrArg Prod.fst x17) ?_
    refine (State.angleCheck_keeps _ _).lift rfl ?_
    assumption
  split
  rename_i x19 x20 x21 x22 x23 x24
  have h25 : Keeps 4198147 s x20 := by
    refine Keeps.of_eq (congrArg Prod.fst x24) ?_
    refine (State.cellVolts_keeps _ _ _ _ _ _).lift rfl ?_
    assumption
  lift_lets -underBinder
  intro v26
  have h27 : Keeps 4198147 s v26 := by
    subst v26
    refine (State.modCl_keeps _ _ _).lift rfl ?_
    assumption
  clear_value v26
  intro v28
  have h29 : Keeps 4198147 s v28 := by
    subst v28
    refine (State.putBit_keeps _ _ _ _).lift rfl ?_
    refine (State.putBit_keeps _ _ _ _).lift rfl ?_
    assumption
  clear_value v28
  intro v30
  have h31 : Keeps 4198147 s v30 := by
    subst v30
    refine Keeps.ite ?_ ?_
    · assumption
    · refine (State.loadStep_keeps _ _ _).lift rfl ?_
      assumption
  clear_value v30
  intro v32
  have h33 : Keeps 4198147 s v32 := by
    subst v32
    refine (State.dutyStep_keeps _ _).lift rfl ?_
    refine (State.stallCheck_keeps _ _ _ _ _).lift rfl ?_
    assumption
  clear_value v32
  intro v34
  intro v35
  have h36 : Keeps 4198147 s v35 := by
    subst v35
    refine Keeps.ite ?_ ?_
    · assumption
    · refine (State.commitDuties_keeps _ _ _).lift rfl ?_
      assumption
  clear_value v35
  refine Keeps.ite ?_ ?_
  · refine (State.faultA_keeps _ _ _).lift rfl ?_
    refine (State.fenceAtReload_keeps _ _).lift rfl ?_
    refine (State.setBit_keeps _ _ _).lift rfl ?_
    assumption
  · assumption

theorem execCurrentCellSample_keeps (n) (w0) (w1) (gap) (s) : Runs 4210435 s (execCurrentCellSample n w0 w1 gap s) := by
  have h0 := Keeps.refl 4210435 s
  unfold execCurrentCellSample
  lift_lets -underBinder
  intro v1
  intro v2
  have h3 : Keeps 4210435 s v2 := by
    subst v2
    refine (State.bankSwap_keeps _ _ _).lift rfl ?_
    refine (State.sampleSeen_keeps _ _).lift rfl ?_
    assumption
  clear_value v2
  intro v4
  have h5 : Keeps 4210435 s v4 := by
    subst v4
    refine Keeps.ite ?_ ?_
    · refine (State.wr_keeps _ _ _).lift rfl ?_
      refine (State.wr_keeps _ _ _).lift rfl ?_
      assumption
    · refine (State.cellRun_keeps _ _ _ _ _).lift rfl ?_
      assumption
  clear_value v4
  refine Runs.ite ?_ ?_
  · refine Runs.next ?_
    assumption
  · refine Runs.next ?_
    refine (State.pageMore_keeps _ _).lift rfl ?_
    assumption

theorem execOvercurrent_keeps (k) (w) (s) : Runs 4197123 s (execOvercurrent k w s) := by
  have h0 := Keeps.refl 4197123 s
  unfold execOvercurrent
  lift_lets -underBinder
  intro v1
  intro v2
  intro v3
  intro v4
  have h5 : Keeps 4197123 s v4 := by
    subst v4
    refine (Keeps.setLeg _ _).lift rfl ?_
    assumption
  clear_value v4
  intro v6
  have h7 : Keeps 4197123 s v6 := by
    subst v6
    refine (State.setBit_keeps _ _ _).lift rfl ?_
    refine (State.setBit_keeps _ _ _).lift rfl ?_
    refine (State.fenceNow_keeps _ _).lift rfl ?_
    assumption
  clear_value v6
  refine Runs.next ?_
  refine Keeps.ite ?_ ?_
  · assumption
  · refine (State.faultA_keeps _ _ _).lift rfl ?_
    refine (State.record_keeps _ _ _ _ _ _).lift rfl ?_
    assumption

theorem execModFault_keeps (b) (s) : Runs 4197123 s (execModFault b s) := by
  have h0 := Keeps.refl 4197123 s
  unfold execModFault
  lift_lets -underBinder
  intro v1
  intro v2
  intro v3
  intro v4
  have h5 : Keeps 4197123 s v4 := by
    subst v4
    refine (Keeps.setLeg _ _).lift rfl ?_
    assumption
  clear_value v4
  intro v6
  have h7 : Keeps 4197123 s v6 := by
    subst v6
    refine (State.setBit_keeps _ _ _).lift rfl ?_
    refine (State.setBit_keeps _ _ _).lift rfl ?_
    refine (State.fenceNow_keeps _ _).lift rfl ?_
    assumption
  clear_value v6
  refine Runs.next ?_
  refine Keeps.ite ?_ ?_
  · assumption
  · refine (State.faultA_keeps _ _ _).lift rfl ?_
    refine (State.record_keeps _ _ _ _ _ _).lift rfl ?_
    assumption

theorem State.trip_keeps (s) (i) (t) : Keeps 20982531 s (State.trip s i t) := by
  have h0 := Keeps.refl 20982531 s
  unfold State.trip
  lift_lets -underBinder
  intro v1
  intro v2
  have h3 : Keeps 20982531 s v2 := by
    subst v2
    refine (State.bump_keeps _ _).lift rfl ?_
    refine (State.setBit_keeps _ _ _).lift rfl ?_
    refine (State.fenceNow_keeps _ _).lift rfl ?_
    assumption
  clear_value v2
  intro v4
  intro v5
  have h6 : Keeps 20982531 s v5 := by
    subst v5
    refine (Keeps.setTwin _ _).lift rfl ?_
    assumption
  clear_value v5
  intro v7
  have h8 : Keeps 20982531 s v7 := by
    subst v7
    refine (State.recordAt_keeps _ _ _ _ _ _ _).lift rfl ?_
    assumption
  clear_value v7
  intro v9
  have h10 : Keeps 20982531 s v9 := by
    subst v9
    refine Keeps.each ?_ (fun t11 a12 h13 => ?_)
    · assumption
    · refine Keeps.ite ?_ ?_
      · refine (State.wr_keeps _ _ _).lift rfl ?_
        assumption
      · assumption
  clear_value v9
  intro v14
  have h15 : Keeps 20982531 s v14 := by
    subst v14
    refine Keeps.each ?_ (fun t16 a17 h18 => ?_)
    · assumption
    · refine Keeps.ite ?_ ?_
      · refine (State.faultA_keeps _ _ _).lift rfl ?_
        assumption
      · assumption
  clear_value v14
  refine (State.latchEvent_keeps _ _ _ _).lift rfl ?_
  assumption

theorem execTrip_keeps (x) (s) : Runs 20982531 s (execTrip x s) := by
  have h0 := Keeps.refl 20982531 s
  unfold execTrip
  lift_lets -underBinder
  intro v1
  intro v2
  intro v3
  intro v4
  intro v5
  have h6 : Keeps 20982531 s v5 := by
    subst v5
    refine (State.tripLevels_keeps _).lift rfl ?_
    refine (Keeps.setLeg _ _).lift rfl ?_
    assumption
  clear_value v5
  refine Runs.next ?_
  refine Keeps.ite ?_ ?_
  · refine (State.trip_keeps _ _ _).lift rfl ?_
    assumption
  · assumption

theorem State.ccModeWrite_keeps (s) (n) (v) : Keeps 3 s (Res.st (State.ccModeWrite s n v)) := by
  have h0 := Keeps.refl 3 s
  unfold State.ccModeWrite
  split
  · split
    · dsimp -zeta only [okRes]
      refine (State.wrForce_keeps _ _ _).lift rfl ?_
      refine (State.wr_keeps _ _ _).lift rfl ?_
      assumption
    · dsimp -zeta only [refuse]
      assumption
  · dsimp -zeta only [okRes]
    refine (State.wr_keeps _ _ _).lift rfl ?_
    assumption

end Sys2Proof.Machine
end

