-- ==== Sys2Proof/Laws/KeepsLinks.lean ====
section
/-! SUPPORT. What the operations of the enclave, CAN, serial ports, the twin and the supplies keep: one lemma for each, with the mask of the parts that the
operation may change. -/
namespace Sys2Proof.Machine
open Sys2Proof Obj

theorem State.modSec_keeps (s) (f) : Keeps 64 s (State.modSec s f) := by
  have h0 := Keeps.refl 64 s
  unfold State.modSec
  refine (Keeps.setSec _ _).lift rfl ?_
  assumption

theorem State.draw_keeps (s) : Keeps 64 s (Prod.fst (State.draw s)) := by
  have h0 := Keeps.refl 64 s
  unfold State.draw
  dsimp -zeta only
  refine (State.modSec_keeps _ _).lift rfl ?_
  assumption

theorem State.drawNonce_keeps (s) : Keeps 321 s (State.drawNonce s) := by
  have h0 := Keeps.refl 321 s
  unfold State.drawNonce
  refine Keeps.ite ?_ ?_
  · refine (State.audit_keeps _ _ _ _ _).lift rfl ?_
    refine (State.modSec_keeps _ _).lift rfl ?_
    assumption
  · split
    rename_i x1 x2 x3 x4
    have h5 : Keeps 321 s x2 := by
      refine Keeps.of_eq (congrArg Prod.fst x4) ?_
      refine (State.draw_keeps _).lift rfl ?_
      assumption
    refine (State.modSec_keeps _ _).lift rfl ?_
    assumption

theorem execTrngFailure_keeps (s) : Runs 321 s (execTrngFailure s) := by
  have h0 := Keeps.refl 321 s
  unfold execTrngFailure
  refine Runs.next ?_
  refine (State.audit_keeps _ _ _ _ _).lift rfl ?_
  refine (State.modSec_keeps _ _).lift rfl ?_
  assumption

theorem State.closeSession_keeps (s) (id) : Keeps 449 s (State.closeSession s id) := by
  have h0 := Keeps.refl 449 s
  unfold State.closeSession
  split
  · lift_lets -underBinder
    intro v4
    have h5 : Keeps 449 s v4 := by
      subst v4
      refine (State.modSec_keeps _ _).lift rfl ?_
      assumption
    clear_value v4
    intro v6
    intro v7
    have h8 : Keeps 449 s v7 := by
      subst v7
      refine (Keeps.setDict _ _ ?_).lift rfl ?_
      · exact fun h => ((State.canonical_iff _).mp h).2.2.2.2.2
      · assumption
    clear_value v7
    refine (State.audit_keeps _ _ _ _ _).lift rfl ?_
    assumption
  · assumption

theorem State.closeThose_keeps (s) (f) : Keeps 449 s (State.closeThose s f) := by
  have h0 := Keeps.refl 449 s
  unfold State.closeThose
  refine Keeps.each ?_ (fun t1 a2 h3 => ?_)
  · assumption
  · refine (State.closeSession_keeps _ _).lift rfl ?_
    assumption

theorem State.closeAll_keeps (s) : Keeps 449 s (State.closeAll s) := by
  have h0 := Keeps.refl 449 s
  unfold State.closeAll
  refine (State.modSec_keeps _ _).lift rfl ?_
  refine (State.closeThose_keeps _ _).lift rfl ?_
  assumption

theorem execSessionIdle_keeps (id) (s) : Runs 449 s (execSessionIdle id s) := by
  have h0 := Keeps.refl 449 s
  unfold execSessionIdle
  refine Runs.next ?_
  split
  · refine Keeps.ite ?_ ?_
    · refine (State.closeSession_keeps _ _).lift rfl ?_
      assumption
    · assumption
  · assumption

theorem State.checkCert_keeps (s) (id) : Keeps 449 s (State.checkCert s id) := by
  have h0 := Keeps.refl 449 s
  unfold State.checkCert
  split
  · refine Keeps.ite ?_ ?_
    · assumption
    · refine Keeps.ite ?_ ?_
      · refine (State.closeSession_keeps _ _).lift rfl ?_
        assumption
      · refine (State.modSession_keeps _ _ _).lift rfl ?_
        assumption
  · assumption

theorem execCertificateExpiry_keeps (id) (s) : Runs 449 s (execCertificateExpiry id s) := by
  have h0 := Keeps.refl 449 s
  unfold execCertificateExpiry
  refine Runs.next ?_
  refine (State.checkCert_keeps _ _).lift rfl ?_
  assumption

theorem State.hello_keeps (s) (chan) (role) (cred) (msg) : Keeps 321 s (Prod.fst (State.hello s chan role cred msg)) := by
  have h0 := Keeps.refl 321 s
  unfold State.hello
  lift_lets -underBinder
  intro v1
  split
  · dsimp -zeta only
    assumption
  · split
    · dsimp -zeta only
      assumption
    · split
      · dsimp -zeta only
        refine (State.audit_keeps _ _ _ _ _).lift rfl ?_
        assumption
      · split
        · dsimp -zeta only
          refine (State.audit_keeps _ _ _ _ _).lift rfl ?_
          assumption
        · lift_lets -underBinder
          intro v15
          split
          rename_i x16 x17 x18 x19
          have h20 : Keeps 321 s x17 := by
            refine Keeps.of_eq (congrArg Prod.fst x19) ?_
            refine (State.draw_keeps _).lift rfl ?_
            assumption
          split
          rename_i x21 x22 x23 x24
          have h25 : Keeps 321 s x22 := by
            refine Keeps.of_eq (congrArg Prod.fst x24) ?_
            refine (State.draw_keeps _).lift rfl ?_
            assumption
          lift_lets -underBinder
          intro v26
          intro v27
          intro v28
          intro v29
          intro v30
          have h31 : Keeps 321 s v30 := by
            subst v30
            refine (State.modSec_keeps _ _).lift rfl ?_
            assumption
          clear_value v30
          intro v32
          dsimp -zeta only
          assumption

theorem State.finish_keeps (s) (chan) (id) (sigOk) : Keeps 449 s (Prod.fst (State.finish s chan id sigOk)) := by
  have h0 := Keeps.refl 449 s
  unfold State.finish
  lift_lets -underBinder
  intro v1
  split
  · dsimp -zeta only
    assumption
  · lift_lets -underBinder
    intro v7
    have h8 : Keeps 449 s v7 := by
      subst v7
      refine (State.modSec_keeps _ _).lift rfl ?_
      assumption
    clear_value v7
    intro v9
    intro v10
    have h11 : Keeps 449 s v10 := by
      subst v10
      refine (State.modSec_keeps _ _).lift rfl ?_
      assumption
    clear_value v10
    intro v12
    have h13 : Keeps 449 s v12 := by
      subst v12
      split
      · refine (Keeps.setDict _ _ ?_).lift rfl ?_
        · exact fun h => ((State.canonical_iff _).mp h).2.2.2.2.2
        · assumption
      · assumption
    clear_value v12
    split
    · dsimp -zeta only
      refine (State.audit_keeps _ _ _ _ _).lift rfl ?_
      assumption
    · split
      · dsimp -zeta only
        assumption
      · dsimp -zeta only
        refine (State.audit_keeps _ _ _ _ _).lift rfl ?_
        assumption

theorem State.closeMsg_keeps (s) (own) (id) : Keeps 449 s (Prod.fst (State.closeMsg s own id)) := by
  have h0 := Keeps.refl 449 s
  unfold State.closeMsg
  split
  · dsimp -zeta only
    refine (State.closeSession_keeps _ _).lift rfl ?_
    assumption
  · dsimp -zeta only
    assumption

theorem State.sessionMessage_keeps (s) (chan) (own) (b) (vd) : Keeps 449 s (Prod.fst (State.sessionMessage s chan own b vd)) := by
  have h0 := Keeps.refl 449 s
  unfold State.sessionMessage
  split
  · lift_lets -underBinder
    intro v3
    split
    · refine (State.hello_keeps _ _ _ _ _).lift rfl ?_
      assumption
    · split
      · refine (State.hello_keeps _ _ _ _ _).lift rfl ?_
        assumption
      · dsimp -zeta only
        assumption
  · split
    · refine (State.finish_keeps _ _ _ _).lift rfl ?_
      assumption
    · dsimp -zeta only
      assumption
  · split
    · refine (State.closeMsg_keeps _ _ _).lift rfl ?_
      assumption
    · dsimp -zeta only
      assumption
  · dsimp -zeta only
    assumption

theorem State.seal_keeps (s) (e) : Keeps 65 s (State.seal s e) := by
  have h0 := Keeps.refl 65 s
  unfold State.seal
  lift_lets -underBinder
  intro v1
  intro v2
  refine (State.modSec_keeps _ _).lift rfl ?_
  refine (State.wr_keeps _ _ _).lift rfl ?_
  assumption

theorem State.axesUnlocked_keeps (s) : Keeps 4197123 s (State.axesUnlocked s) := by
  have h0 := Keeps.refl 4197123 s
  unfold State.axesUnlocked
  refine Keeps.each ?_ (fun t1 a2 h3 => ?_)
  · assumption
  · refine Keeps.ite ?_ ?_
    · assumption
    · refine Keeps.ite ?_ ?_
      · refine (State.enterFault_keeps _ _).lift rfl ?_
        assumption
      · refine (State.toOff_keeps _ _).lift rfl ?_
        assumption

theorem State.packetApply_keeps (s) (p) (b) : Keeps 4197347 s (State.packetApply s p b) := by
  have h0 := Keeps.refl 4197347 s
  unfold State.packetApply
  split
  · lift_lets -underBinder
    intro v3
    have h4 : Keeps 4197347 s v3 := by
      subst v3
      refine (State.wr_keeps _ _ _).lift rfl ?_
      refine (State.modSec_keeps _ _).lift rfl ?_
      assumption
    clear_value v3
    intro v5
    have h6 : Keeps 4197347 s v5 := by
      subst v5
      refine Keeps.each ?_ (fun t7 a8 h9 => ?_)
      · assumption
      · refine Keeps.ite ?_ ?_
        · refine (State.toReady_keeps _ _).lift rfl ?_
          assumption
        · assumption
    clear_value v5
    refine (State.audit_keeps _ _ _ _ _).lift rfl ?_
    refine (State.wear_keeps _ _ _).lift rfl ?_
    refine (State.wr_keeps _ _ _).lift rfl ?_
    assumption
  · lift_lets -underBinder
    intro v12
    have h13 : Keeps 4197347 s v12 := by
      subst v12
      refine (State.wr_keeps _ _ _).lift rfl ?_
      refine (State.modSec_keeps _ _).lift rfl ?_
      refine (State.closeAll_keeps _).lift rfl ?_
      assumption
    clear_value v12
    refine (State.audit_keeps _ _ _ _ _).lift rfl ?_
    refine (State.wear_keeps _ _ _).lift rfl ?_
    assumption
  · refine (State.wr_keeps _ _ _).lift rfl ?_
    refine (State.wear_keeps _ _ _).lift rfl ?_
    refine Keeps.each ?_ (fun t16 a17 h18 => ?_)
    · assumption
    · refine (State.seal_keeps _ _).lift rfl ?_
      assumption
  · lift_lets -underBinder
    intro v21
    have h22 : Keeps 4197347 s v21 := by
      subst v21
      refine (State.modSec_keeps _ _).lift rfl ?_
      assumption
    clear_value v21
    refine (State.audit_keeps _ _ _ _ _).lift rfl ?_
    refine (State.wear_keeps _ _ _).lift rfl ?_
    refine (State.wr_keeps _ _ _).lift rfl ?_
    assumption
  · lift_lets -underBinder
    intro v25
    have h26 : Keeps 4197347 s v25 := by
      subst v25
      refine (State.wr_keeps _ _ _).lift rfl ?_
      refine (State.modSec_keeps _ _).lift rfl ?_
      assumption
    clear_value v25
    intro v27
    have h28 : Keeps 4197347 s v27 := by
      subst v27
      refine (State.modSec_keeps _ _).lift rfl ?_
      assumption
    clear_value v27
    refine (State.closeThose_keeps _ _).lift rfl ?_
    refine (State.wear_keeps _ _ _).lift rfl ?_
    assumption
  · lift_lets -underBinder
    intro v32
    have h33 : Keeps 4197347 s v32 := by
      subst v32
      refine (State.modSec_keeps _ _).lift rfl ?_
      assumption
    clear_value v32
    refine (State.wear_keeps _ _ _).lift rfl ?_
    refine (State.wr_keeps _ _ _).lift rfl ?_
    assumption
  · lift_lets -underBinder
    intro v35
    have h36 : Keeps 4197347 s v35 := by
      subst v35
      refine (State.axesUnlocked_keeps _).lift rfl ?_
      refine (State.setDev_keeps _ _ _).lift rfl ?_
      refine (State.wr_keeps _ _ _).lift rfl ?_
      assumption
    clear_value v35
    intro v37
    refine (State.audit_keeps _ _ _ _ _).lift rfl ?_
    refine (Keeps.setPw _ _).lift rfl ?_
    assumption
  · lift_lets -underBinder
    intro v41
    have h42 : Keeps 4197347 s v41 := by
      subst v41
      refine (State.modSec_keeps _ _).lift rfl ?_
      assumption
    clear_value v41
    refine (State.audit_keeps _ _ _ _ _).lift rfl ?_
    refine (State.wr_keeps _ _ _).lift rfl ?_
    assumption
  · assumption

theorem State.packet_keeps (s) (p) (b) : Keeps 4197347 s (Prod.fst (State.packet s p b)) := by
  have h0 := Keeps.refl 4197347 s
  unfold State.packet
  lift_lets -underBinder
  intro v1
  intro v2
  have h3 : Keeps 4197347 s v2 := by
    subst v2
    refine Keeps.ite ?_ ?_
    · refine (State.packetApply_keeps _ _ _).lift rfl ?_
      assumption
    · assumption
  clear_value v2
  intro v4
  have h5 : Keeps 4197347 s v4 := by
    subst v4
    refine Keeps.ite ?_ ?_
    · refine (State.drawNonce_keeps _).lift rfl ?_
      assumption
    · assumption
  clear_value v4
  intro v6
  have h7 : Keeps 4197347 s v6 := by
    subst v6
    refine (State.bump_keeps _ _).lift rfl ?_
    refine (State.wr_keeps _ _ _).lift rfl ?_
    assumption
  clear_value v6
  dsimp -zeta only
  refine (State.audit_keeps _ _ _ _ _).lift rfl ?_
  assumption

theorem State.packetWrite_keeps (s) (p) (b) : Keeps 4197347 s (Res.st (State.packetWrite s p b)) := by
  have h0 := Keeps.refl 4197347 s
  unfold State.packetWrite
  split
  rename_i x1 x2 x3 x4
  have h5 : Keeps 4197347 s x2 := by
    refine Keeps.of_eq (congrArg Prod.fst x4) ?_
    refine (State.packet_keeps _ _ _).lift rfl ?_
    assumption
  dsimp -zeta only
  assumption

theorem State.packetIn_keeps (s) (b) (vd) : Keeps 4197347 s (Res.st (State.packetIn s b vd)) := by
  have h0 := Keeps.refl 4197347 s
  unfold State.packetIn
  refine (State.packetWrite_keeps _ _ _).lift rfl ?_
  assumption

theorem execClaimWindowExpiry_keeps (s) : Runs 64 s (execClaimWindowExpiry s) := by
  have h0 := Keeps.refl 64 s
  unfold execClaimWindowExpiry
  refine Runs.next ?_
  refine Keeps.ite ?_ ?_
  · refine (State.modSec_keeps _ _).lift rfl ?_
    assumption
  · assumption

theorem State.fwImage_keeps (s) (offset) (b) (vd) : Keeps 321 s (Res.st (State.fwImage s offset b vd)) := by
  have h0 := Keeps.refl 321 s
  unfold State.fwImage
  lift_lets -underBinder
  intro v1
  intro v2
  intro v3
  intro v4
  intro v5
  intro v6
  intro v7
  have h8 : Keeps 321 s v7 := by
    subst v7
    refine (State.modSec_keeps _ _).lift rfl ?_
    assumption
  clear_value v7
  intro v9
  have h10 : Keeps 321 s v9 := by
    subst v9
    refine (State.wear_keeps _ _ _).lift rfl ?_
    refine Keeps.ite ?_ ?_
    · refine (State.wr_keeps _ _ _).lift rfl ?_
      refine (State.wr_keeps _ _ _).lift rfl ?_
      assumption
    · assumption
  clear_value v9
  intro v11
  intro v12
  intro v13
  have h14 : Keeps 321 s v13 := by
    subst v13
    refine (State.wr_keeps _ _ _).lift rfl ?_
    refine (State.wr_keeps _ _ _).lift rfl ?_
    assumption
  clear_value v13
  split
  · dsimp -zeta only [refuse]
    assumption
  · split
    · dsimp -zeta only [refuse]
      assumption
    · split
      · dsimp -zeta only [okRes]
        refine (State.wr_keeps _ _ _).lift rfl ?_
        assumption
      · split
        · dsimp -zeta only [okRes]
          refine (State.audit_keeps _ _ _ _ _).lift rfl ?_
          assumption
        · dsimp -zeta only [okRes]
          assumption

theorem State.nextSlot_keeps (s) (v) : Keeps 321 s (Res.st (State.nextSlot s v)) := by
  have h0 := Keeps.refl 321 s
  unfold State.nextSlot
  split
  · dsimp -zeta only [okRes]
    refine (State.audit_keeps _ _ _ _ _).lift rfl ?_
    refine (State.wear_keeps _ _ _).lift rfl ?_
    refine (State.wr_keeps _ _ _).lift rfl ?_
    assumption
  · dsimp -zeta only [refuse]
    assumption

theorem State.fwConfirm_keeps (s) (v) : Keeps 321 s (Res.st (State.fwConfirm s v)) := by
  have h0 := Keeps.refl 321 s
  unfold State.fwConfirm
  split
  · dsimp -zeta only [okRes]
    assumption
  · split
    · dsimp -zeta only [refuse]
      assumption
    · lift_lets -underBinder
      intro v5
      intro v6
      intro v7
      have h8 : Keeps 321 s v7 := by
        subst v7
        refine (State.modSec_keeps _ _).lift rfl ?_
        assumption
      clear_value v7
      split
      · dsimp -zeta only [okRes]
        refine (State.audit_keeps _ _ _ _ _).lift rfl ?_
        refine (State.wr_keeps _ _ _).lift rfl ?_
        assumption
      · dsimp -zeta only [okRes]
        assumption

theorem State.debugClose_keeps (s) : Keeps 321 s (State.debugClose s) := by
  have h0 := Keeps.refl 321 s
  unfold State.debugClose
  refine Keeps.ite ?_ ?_
  · assumption
  · refine (State.audit_keeps _ _ _ _ _).lift rfl ?_
    refine (State.wr_keeps _ _ _).lift rfl ?_
    assumption

theorem execDebugExpiry_keeps (s) : Runs 321 s (execDebugExpiry s) := by
  have h0 := Keeps.refl 321 s
  unfold execDebugExpiry
  refine Runs.next ?_
  refine Keeps.ite ?_ ?_
  · refine (State.debugClose_keeps _).lift rfl ?_
    assumption
  · assumption

theorem State.txRequest_keeps (s) (c) (n) : Keeps 33554433 s (Res.st (State.txRequest s c n)) := by
  have h0 := Keeps.refl 33554433 s
  unfold State.txRequest
  split
  · dsimp -zeta only [refuse]
    assumption
  · split
    · dsimp -zeta only [okRes]
      assumption
    · lift_lets -underBinder
      intro v5
      intro v6
      intro v7
      have h8 : Keeps 33554433 s v7 := by
        subst v7
        refine Keeps.ite ?_ ?_
        · split
          rename_i x9 x10 x11 x12
          have h13 : Keeps 33554433 s x10 := by
            refine Keeps.of_eq (congrArg Prod.fst x12) ?_
            refine (State.canFresh_keeps _ _ _ _).lift rfl ?_
            assumption
          lift_lets -underBinder
          intro v14
          refine (State.modCn_keeps _ _ _).lift rfl ?_
          assumption
        · refine (State.modCn_keeps _ _ _).lift rfl ?_
          assumption
      clear_value v7
      intro v15
      intro v16
      have h17 : Keeps 33554433 s v16 := by
        subst v16
        refine (State.modCn_keeps _ _ _).lift rfl ?_
        assumption
      clear_value v16
      dsimp -zeta only [okRes]
      refine (State.wr_keeps _ _ _).lift rfl ?_
      assumption

theorem State.moEnd_keeps (s) (c) (n) (flag) : Keeps 33554433 s (State.moEnd s c n flag) := by
  have h0 := Keeps.refl 33554433 s
  unfold State.moEnd
  lift_lets -underBinder
  intro v1
  have h2 : Keeps 33554433 s v1 := by
    subst v1
    refine (State.wr_keeps _ _ _).lift rfl ?_
    assumption
  clear_value v1
  refine (State.modCn_keeps _ _ _).lift rfl ?_
  assumption

theorem State.canCancel_keeps (s) (c) (n) (phase) : Keeps 33554433 s (State.canCancel s c n phase) := by
  have h0 := Keeps.refl 33554433 s
  unfold State.canCancel
  refine Keeps.ite ?_ ?_
  · assumption
  · split
    · refine (State.moEnd_keeps _ _ _ _).lift rfl ?_
      assumption
    · refine (State.modCn_keeps _ _ _).lift rfl ?_
      assumption
    · refine (State.modCn_keeps _ _ _).lift rfl ?_
      assumption

theorem State.moRequest_keeps (s) (c) (n) (v) (phase) : Keeps 33554433 s (Res.st (State.moRequest s c n v phase)) := by
  have h0 := Keeps.refl 33554433 s
  unfold State.moRequest
  lift_lets -underBinder
  intro v1
  have h2 : Keeps 33554433 s (Res.st v1) := by
    subst v1
    split
    · refine (State.txRequest_keeps _ _ _).lift rfl ?_
      assumption
    · dsimp -zeta only [okRes]
      assumption
  clear_value v1
  split
  · assumption
  · split
    · dsimp -zeta only [okRes]
      refine (State.canCancel_keeps _ _ _ _).lift rfl ?_
      assumption
    · assumption

theorem State.moStatusClear_keeps (s) (c) (n) (m) : Keeps 1 s (State.moStatusClear s c n m) := by
  have h0 := Keeps.refl 1 s
  unfold State.moStatusClear
  refine (State.wr_keeps _ _ _).lift rfl ?_
  assumption

theorem State.canErrors_keeps (s) (c) (tec) (rec) : Keeps 33554689 s (State.canErrors s c tec rec) := by
  have h0 := Keeps.refl 33554689 s
  unfold State.canErrors
  lift_lets -underBinder
  intro v1
  intro v2
  intro v3
  have h4 : Keeps 33554689 s v3 := by
    subst v3
    refine (State.wr_keeps _ _ _).lift rfl ?_
    refine (State.wr_keeps _ _ _).lift rfl ?_
    assumption
  clear_value v3
  intro v5
  intro v6
  have h7 : Keeps 33554689 s v6 := by
    subst v6
    refine Keeps.ite ?_ ?_
    · refine (State.record_keeps _ _ _ _ _ _).lift rfl ?_
      refine (State.setBit_keeps _ _ _).lift rfl ?_
      assumption
    · refine Keeps.ite ?_ ?_
      · refine (State.record_keeps _ _ _ _ _ _).lift rfl ?_
        refine (State.clrBit_keeps _ _ _).lift rfl ?_
        assumption
      · assumption
  clear_value v6
  intro v8
  have h9 : Keeps 33554689 s v8 := by
    subst v8
    refine (State.wr_keeps _ _ _).lift rfl ?_
    assumption
  clear_value v8
  intro v10
  have h11 : Keeps 33554689 s v10 := by
    subst v10
    refine (State.record_keeps _ _ _ _ _ _).lift rfl ?_
    refine (State.bump_keeps _ _).lift rfl ?_
    assumption
  clear_value v10
  refine Keeps.ite ?_ ?_
  · refine Keeps.ite ?_ ?_
    · refine (State.modCn_keeps _ _ _).lift rfl ?_
      assumption
    · assumption
  · assumption

theorem State.canRecover_keeps (s) (c) (v) : Keeps 33554432 s (State.canRecover s c v) := by
  have h0 := Keeps.refl 33554432 s
  unfold State.canRecover
  refine Keeps.ite ?_ ?_
  · refine (State.modCn_keeps _ _ _).lift rfl ?_
    assumption
  · assumption

theorem execBusOffRecovered_keeps (c) (s) : Runs 33554689 s (execBusOffRecovered c s) := by
  have h0 := Keeps.refl 33554689 s
  unfold execBusOffRecovered
  refine Runs.next ?_
  refine Keeps.ite ?_ ?_
  · lift_lets -underBinder
    intro v1
    have h2 : Keeps 33554689 s v1 := by
      subst v1
      refine (State.wr_keeps _ _ _).lift rfl ?_
      refine (State.wr_keeps _ _ _).lift rfl ?_
      refine (State.wr_keeps _ _ _).lift rfl ?_
      assumption
    clear_value v1
    refine (State.record_keeps _ _ _ _ _ _).lift rfl ?_
    refine (State.modCn_keeps _ _ _).lift rfl ?_
    assumption
  · assumption

theorem execCanBusJoin_keeps (c) (s) : Runs 1 s (execCanBusJoin c s) := by
  have h0 := Keeps.refl 1 s
  unfold execCanBusJoin
  refine Runs.next ?_
  refine Keeps.ite ?_ ?_
  · refine (State.setBit_keeps _ _ _).lift rfl ?_
    assumption
  · assumption

theorem State.canRxError_keeps (s) (c) (eight) : Keeps 33554689 s (State.canRxError s c eight) := by
  have h0 := Keeps.refl 33554689 s
  unfold State.canRxError
  refine Keeps.ite ?_ ?_
  · assumption
  · lift_lets -underBinder
    intro v1
    have h2 : Keeps 33554689 s v1 := by
      subst v1
      refine (State.bump_keeps _ _).lift rfl ?_
      assumption
    clear_value v1
    refine Keeps.ite ?_ ?_
    · assumption
    · refine (State.canErrors_keeps _ _ _ _).lift rfl ?_
      assumption

theorem execCanReceiveError_keeps (c) (eight) (s) : Runs 33554689 s (execCanReceiveError c eight s) := by
  have h0 := Keeps.refl 33554689 s
  unfold execCanReceiveError
  refine Runs.next ?_
  refine (State.canRxError_keeps _ _ _).lift rfl ?_
  assumption

theorem State.moReceive_keeps (s) (c) (n) (id) (fd) (brs) (b) (stamp) : Keeps 261 s (State.moReceive s c n id fd brs b stamp) := by
  have h0 := Keeps.refl 261 s
  unfold State.moReceive
  lift_lets -underBinder
  intro v1
  intro v2
  intro v3
  intro v4
  intro v5
  have h6 : Keeps 261 s v5 := by
    subst v5
    refine (State.wr_keeps _ _ _).lift rfl ?_
    refine (State.wr_keeps _ _ _).lift rfl ?_
    refine (State.wrBlob_keeps _ _ _).lift rfl ?_
    assumption
  clear_value v5
  intro v7
  have h8 : Keeps 261 s v7 := by
    subst v7
    refine (State.wr_keeps _ _ _).lift rfl ?_
    refine (State.wr_keeps _ _ _).lift rfl ?_
    assumption
  clear_value v7
  intro v9
  have h10 : Keeps 261 s v9 := by
    subst v9
    refine (State.bump_keeps _ _).lift rfl ?_
    assumption
  clear_value v9
  refine Keeps.ite ?_ ?_
  · refine Keeps.ite ?_ ?_
    · assumption
    · refine (State.record_keeps _ _ _ _ _ _).lift rfl ?_
      assumption
  · assumption

theorem State.canReceive_keeps (s) (c) (id) (fd) (brs) (b) (macOk) (off) : Keeps 33554693 s (State.canReceive s c id fd brs b macOk off) := by
  have h0 := Keeps.refl 33554693 s
  unfold State.canReceive
  refine Keeps.ite ?_ ?_
  · assumption
  · refine Keeps.ite ?_ ?_
    · refine (State.canRxError_keeps _ _ _).lift rfl ?_
      assumption
    · lift_lets -underBinder
      intro v1
      have h2 : Keeps 33554693 s v1 := by
        subst v1
        refine (State.bump_keeps _ _).lift rfl ?_
        assumption
      clear_value v1
      intro v3
      intro v4
      have h5 : Keeps 33554693 s v4 := by
        subst v4
        refine Keeps.ite ?_ ?_
        · assumption
        · refine (State.canErrors_keeps _ _ _ _).lift rfl ?_
          assumption
      clear_value v4
      refine Keeps.ite ?_ ?_
      · refine (State.bump_keeps _ _).lift rfl ?_
        assumption
      · refine Keeps.ite ?_ ?_
        · assumption
        · split
          · refine (State.bump_keeps _ _).lift rfl ?_
            assumption
          · lift_lets -underBinder
            intro v11
            intro v12
            intro v13
            refine Keeps.ite ?_ ?_
            · refine Keeps.ite ?_ ?_
              · refine (State.moReceive_keeps _ _ _ _ _ _ _ _).lift rfl ?_
                refine (State.modCn_keeps _ _ _).lift rfl ?_
                assumption
              · refine (State.record_keeps _ _ _ _ _ _).lift rfl ?_
                refine (State.bump_keeps _ _).lift rfl ?_
                assumption
            · refine (State.moReceive_keeps _ _ _ _ _ _ _ _).lift rfl ?_
              assumption

theorem execCanFrameReceive_keeps (c) (id) (fd) (brs) (bytes) (macOk) (off) (s) : Runs 33554693 s (execCanFrameReceive c id fd brs bytes macOk off s) := by
  have h0 := Keeps.refl 33554693 s
  unfold execCanFrameReceive
  refine Runs.next ?_
  refine (State.canReceive_keeps _ _ _ _ _ _ _ _).lift rfl ?_
  assumption

theorem State.canComplete_keeps (s) (c) (off) (tdc) : Keeps 167772417 s (State.canComplete s c off tdc) := by
  have h0 := Keeps.refl 167772417 s
  unfold State.canComplete
  refine Keeps.ite ?_ ?_
  · assumption
  · split
    · assumption
    · lift_lets -underBinder
      intro v6
      intro v7
      have h8 : Keeps 167772417 s v7 := by
        subst v7
        refine (State.bump_keeps _ _).lift rfl ?_
        refine (State.emit_keeps _ _).lift rfl ?_
        assumption
      clear_value v7
      intro v9
      have h10 : Keeps 167772417 s v9 := by
        subst v9
        refine Keeps.ite ?_ ?_
        · refine (State.wr_keeps _ _ _).lift rfl ?_
          assumption
        · assumption
      clear_value v9
      intro v11
      have h12 : Keeps 167772417 s v11 := by
        subst v11
        refine (State.canErrors_keeps _ _ _ _).lift rfl ?_
        assumption
      clear_value v11
      split
      · refine (State.modCn_keeps _ _ _).lift rfl ?_
        assumption
      · lift_lets -underBinder
        intro v19
        have h20 : Keeps 167772417 s v19 := by
          subst v19
          refine (State.wr_keeps _ _ _).lift rfl ?_
          refine (State.moEnd_keeps _ _ _ _).lift rfl ?_
          assumption
        clear_value v19
        refine (State.modCn_keeps _ _ _).lift rfl ?_
        assumption

theorem State.canClash_keeps (s) (c) (o) : Keeps 33554689 s (State.canClash s c o) := by
  have h0 := Keeps.refl 33554689 s
  unfold State.canClash
  lift_lets -underBinder
  intro v1
  intro v2
  have h3 : Keeps 33554689 s v2 := by
    subst v2
    split
    · refine (State.modCn_keeps _ _ _).lift rfl ?_
      assumption
    · refine (State.modCn_keeps _ _ _).lift rfl ?_
      assumption
  intro v8
  have h9 : Keeps 33554689 s v8 := by
    subst v8
    refine (State.setBit_keeps _ _ _).lift rfl ?_
    assumption
  clear_value v8
  refine Keeps.ite ?_ ?_
  · split
    · refine (State.record_keeps _ _ _ _ _ _).lift rfl ?_
      assumption
    · refine (State.record_keeps _ _ _ _ _ _).lift rfl ?_
      refine (State.setBit_keeps _ _ _).lift rfl ?_
      assumption
  · assumption

theorem State.canFailure_keeps (s) (c) (why) : Keeps 33554689 s (State.canFailure s c why) := by
  have h0 := Keeps.refl 33554689 s
  unfold State.canFailure
  refine Keeps.ite ?_ ?_
  · assumption
  · split
    · assumption
    · lift_lets -underBinder
      intro v6
      have h7 : Keeps 33554689 s v6 := by
        subst v6
        split
        · refine Keeps.ite ?_ ?_
          · refine (State.wr_keeps _ _ _).lift rfl ?_
            assumption
          · assumption
        · assumption
      clear_value v6
      intro v13
      have h14 : Keeps 33554689 s v13 := by
        subst v13
        split
        · assumption
        · refine (State.canClash_keeps _ _ _).lift rfl ?_
          refine (State.canErrors_keeps _ _ _ _).lift rfl ?_
          refine (State.bump_keeps _ _).lift rfl ?_
          assumption
        · refine (State.canErrors_keeps _ _ _ _).lift rfl ?_
          refine (State.bump_keeps _ _).lift rfl ?_
          assumption
      clear_value v13
      split
      · assumption
      · refine Keeps.ite ?_ ?_
        · refine (State.moEnd_keeps _ _ _ _).lift rfl ?_
          assumption
        · refine Keeps.ite ?_ ?_
          · refine (State.moEnd_keeps _ _ _ _).lift rfl ?_
            assumption
          · refine (State.modCn_keeps _ _ _).lift rfl ?_
            assumption

theorem execCanTxFailure_keeps (c) (why) (s) : Runs 33554689 s (execCanTxFailure c why s) := by
  have h0 := Keeps.refl 33554689 s
  unfold execCanTxFailure
  refine Runs.next ?_
  refine (State.canFailure_keeps _ _ _).lift rfl ?_
  assumption

theorem execCanTransmitComplete_keeps (c) (off) (tdc) (s) : Runs 167772417 s (execCanTransmitComplete c off tdc s) := by
  have h0 := Keeps.refl 167772417 s
  unfold execCanTransmitComplete
  refine Runs.next ?_
  refine Keeps.ite ?_ ?_
  · refine (State.canFailure_keeps _ _ _).lift rfl ?_
    assumption
  · refine (State.canComplete_keeps _ _ _ _).lift rfl ?_
    assumption

theorem State.canCommit_keeps (s) (changed) : Keeps 33554433 s (State.canCommit s changed) := by
  have h0 := Keeps.refl 33554433 s
  unfold State.canCommit
  refine Keeps.each ?_ (fun t1 a2 h3 => ?_)
  · assumption
  · refine Keeps.ite ?_ ?_
    · refine (State.modCn_keeps _ _ _).lift rfl ?_
      refine (State.clrBit_keeps _ _ _).lift rfl ?_
      assumption
    · assumption

theorem State.modSp_keeps (s) (p) (f) : Keeps 8388608 s (State.modSp s p f) := by
  have h0 := Keeps.refl 8388608 s
  unfold State.modSp
  refine (Keeps.setSp _ _).lift rfl ?_
  assumption

theorem State.mstTx_keeps (s) (p) (b) : Keeps 8388609 s (Res.st (State.mstTx s p b)) := by
  have h0 := Keeps.refl 8388609 s
  unfold State.mstTx
  lift_lets -underBinder
  intro v1
  split
  · dsimp -zeta only [okRes]
    refine (State.wr_keeps _ _ _).lift rfl ?_
    refine (State.modSp_keeps _ _ _).lift rfl ?_
    assumption
  · dsimp -zeta only [refuse]
    assumption

theorem State.mstDone_keeps (s) (p) (rx) : Keeps 142606341 s (State.mstDone s p rx) := by
  have h0 := Keeps.refl 142606341 s
  unfold State.mstDone
  lift_lets -underBinder
  intro v1
  intro v2
  intro v3
  have h4 : Keeps 142606341 s v3 := by
    subst v3
    refine (State.emit_keeps _ _).lift rfl ?_
    assumption
  clear_value v3
  intro v5
  have h6 : Keeps 142606341 s v5 := by
    subst v5
    refine (State.wr_keeps _ _ _).lift rfl ?_
    refine (State.wrBlob_keeps _ _ _).lift rfl ?_
    assumption
  clear_value v5
  refine Keeps.ite ?_ ?_
  · assumption
  · refine (State.modSp_keeps _ _ _).lift rfl ?_
    refine (State.bump_keeps _ _).lift rfl ?_
    assumption

theorem execMasterTransferDone_keeps (p) (rx) (s) : Runs 142606341 s (execMasterTransferDone p rx s) := by
  have h0 := Keeps.refl 142606341 s
  unfold execMasterTransferDone
  refine Runs.next ?_
  refine (State.mstDone_keeps _ _ _).lift rfl ?_
  assumption

theorem State.modeFault_keeps (s) (p) : Keeps 8388869 s (State.modeFault s p) := by
  have h0 := Keeps.refl 8388869 s
  unfold State.modeFault
  refine Keeps.ite ?_ ?_
  · assumption
  · lift_lets -underBinder
    intro v1
    have h2 : Keeps 8388869 s v1 := by
      subst v1
      refine (State.setBit_keeps _ _ _).lift rfl ?_
      refine (State.wr_keeps _ _ _).lift rfl ?_
      refine (State.wrBlob_keeps _ _ _).lift rfl ?_
      assumption
    clear_value v1
    intro v3
    have h4 : Keeps 8388869 s v3 := by
      subst v3
      refine (State.modSp_keeps _ _ _).lift rfl ?_
      refine (State.bump_keeps _ _).lift rfl ?_
      assumption
    clear_value v3
    refine (State.record_keeps _ _ _ _ _ _).lift rfl ?_
    assumption

theorem execModeFault_keeps (p) (s) : Runs 8388869 s (execModeFault p s) := by
  have h0 := Keeps.refl 8388869 s
  unfold execModeFault
  refine Runs.next ?_
  refine (State.modeFault_keeps _ _).lift rfl ?_
  assumption

theorem State.modTw_keeps (s) (f) : Keeps 16777216 s (State.modTw s f) := by
  have h0 := Keeps.refl 16777216 s
  unfold State.modTw
  refine (Keeps.setTwin _ _).lift rfl ?_
  assumption

theorem State.twlUp_keeps (s) (taps) (ns) : Keeps 16777473 s (State.twlUp s taps ns) := by
  have h0 := Keeps.refl 16777473 s
  unfold State.twlUp
  refine Keeps.ite ?_ ?_
  · assumption
  · lift_lets -underBinder
    intro v1
    have h2 : Keeps 16777473 s v1 := by
      subst v1
      refine Keeps.each ?_ (fun t3 a4 h5 => ?_)
      · assumption
      · refine (State.wr_keeps _ _ _).lift rfl ?_
        assumption
    clear_value v1
    intro v6
    refine (State.record_keeps _ _ _ _ _ _).lift rfl ?_
    refine (State.modTw_keeps _ _).lift rfl ?_
    refine (State.wr_keeps _ _ _).lift rfl ?_
    assumption

theorem execTwlTrainingComplete_keeps (taps) (ns) (s) : Runs 16777473 s (execTwlTrainingComplete taps ns s) := by
  have h0 := Keeps.refl 16777473 s
  unfold execTwlTrainingComplete
  refine Runs.next ?_
  refine (State.twlUp_keeps _ _ _).lift rfl ?_
  assumption

theorem execTwlReceiveClockReturn_keeps (s) : Runs 1 s (execTwlReceiveClockReturn s) := by
  have h0 := Keeps.refl 1 s
  unfold execTwlReceiveClockReturn
  refine Runs.next ?_
  refine Keeps.ite ?_ ?_
  · refine (State.wr_keeps _ _ _).lift rfl ?_
    assumption
  · assumption

theorem State.setTwin_keeps (s) (v) : Keeps 4197227 s (State.setTwin s v) := by
  have h0 := Keeps.refl 4197227 s
  unfold State.setTwin
  lift_lets -underBinder
  intro v1
  intro v2
  have h3 : Keeps 4197227 s v2 := by
    subst v2
    refine (State.doRefresh_keeps _).lift rfl ?_
    refine (State.record_keeps _ _ _ _ _ _).lift rfl ?_
    refine (State.wr_keeps _ _ _).lift rfl ?_
    assumption
  clear_value v2
  refine Keeps.ite ?_ ?_
  · assumption
  · refine Keeps.ite ?_ ?_
    · refine (State.bootFinish_keeps _).lift rfl ?_
      assumption
    · assumption

theorem State.staleCheck_keeps (s) : Keeps 4197227 s (State.staleCheck s) := by
  have h0 := Keeps.refl 4197227 s
  unfold State.staleCheck
  refine Keeps.ite ?_ ?_
  · refine (State.setTwin_keeps _ _).lift rfl ?_
    assumption
  · assumption

theorem State.hashSeen_keeps (s) (h) : Keeps 4197227 s (State.hashSeen s h) := by
  have h0 := Keeps.refl 4197227 s
  unfold State.hashSeen
  refine Keeps.ite ?_ ?_
  · refine (State.clrBit_keeps _ _ _).lift rfl ?_
    assumption
  · refine Keeps.ite ?_ ?_
    · assumption
    · refine (State.staleCheck_keeps _).lift rfl ?_
      refine (State.record_keeps _ _ _ _ _ _).lift rfl ?_
      refine (State.setBit_keeps _ _ _).lift rfl ?_
      assumption

theorem State.leaseReload_keeps (s) : Keeps 16777216 s (State.leaseReload s) := by
  have h0 := Keeps.refl 16777216 s
  unfold State.leaseReload
  refine (State.modTw_keeps _ _).lift rfl ?_
  assumption

theorem State.renew_keeps (s) (core) : Keeps 16777216 s (State.renew s core) := by
  have h0 := Keeps.refl 16777216 s
  unfold State.renew
  refine Keeps.ite ?_ ?_
  · assumption
  · lift_lets -underBinder
    intro v1
    have h2 : Keeps 16777216 s v1 := by
      subst v1
      refine (State.modTw_keeps _ _).lift rfl ?_
      assumption
    clear_value v1
    refine Keeps.ite ?_ ?_
    · refine (State.leaseReload_keeps _).lift rfl ?_
      assumption
    · assumption

theorem execLeaseRenewal_keeps (core) (s) : Runs 16777216 s (execLeaseRenewal core s) := by
  have h0 := Keeps.refl 16777216 s
  unfold execLeaseRenewal
  refine Runs.next ?_
  refine (State.renew_keeps _ _).lift rfl ?_
  assumption

theorem State.loseBall_keeps (s) : Keeps 20974443 s (State.loseBall s) := by
  have h0 := Keeps.refl 20974443 s
  unfold State.loseBall
  lift_lets -underBinder
  intro v1
  intro v2
  have h3 : Keeps 20974443 s v2 := by
    subst v2
    refine (State.modTw_keeps _ _).lift rfl ?_
    refine (State.wr_keeps _ _ _).lift rfl ?_
    refine (State.fenceAll_keeps _).lift rfl ?_
    assumption
  clear_value v2
  refine (State.record_keeps _ _ _ _ _ _).lift rfl ?_
  refine (State.setTwin_keeps _ _).lift rfl ?_
  refine (State.wr_keeps _ _ _).lift rfl ?_
  assumption

theorem execLeaseExpiry_keeps (s) : Runs 20974443 s (execLeaseExpiry s) := by
  have h0 := Keeps.refl 20974443 s
  unfold execLeaseExpiry
  refine Runs.next ?_
  refine Keeps.ite ?_ ?_
  · assumption
  · refine (State.loseBall_keeps _).lift rfl ?_
    assumption

theorem State.keeperRelease_keeps (s) (trip) : Keeps 16777216 s (State.keeperRelease s trip) := by
  have h0 := Keeps.refl 16777216 s
  unfold State.keeperRelease
  refine (State.modTw_keeps _ _).lift rfl ?_
  assumption

theorem execKeeperRelease_keeps (trip) (s) : Runs 16777216 s (execKeeperRelease trip s) := by
  have h0 := Keeps.refl 16777216 s
  unfold execKeeperRelease
  refine Runs.next ?_
  split
  · refine Keeps.ite ?_ ?_
    · refine (State.keeperRelease_keeps _ _).lift rfl ?_
      assumption
    · assumption
  · refine Keeps.ite ?_ ?_
    · refine (State.keeperRelease_keeps _ _).lift rfl ?_
      assumption
    · assumption

theorem State.handoverWrite_keeps (s) (v) : Keeps 16777216 s (Res.st (State.handoverWrite s v)) := by
  have h0 := Keeps.refl 16777216 s
  unfold State.handoverWrite
  split
  · dsimp -zeta only [okRes]
    assumption
  · split
    · dsimp -zeta only [okRes]
      refine (State.modTw_keeps _ _).lift rfl ?_
      assumption
    · dsimp -zeta only [refuse]
      assumption

theorem State.handoverEnd_keeps (s) : Keeps 20974443 s (State.handoverEnd s) := by
  have h0 := Keeps.refl 20974443 s
  unfold State.handoverEnd
  split
  · refine Keeps.ite ?_ ?_
    · refine (State.record_keeps _ _ _ _ _ _).lift rfl ?_
      refine (State.loseBall_keeps _).lift rfl ?_
      assumption
    · assumption
  · assumption

theorem execHandoverRelease_keeps (s) : Runs 20974443 s (execHandoverRelease s) := by
  have h0 := Keeps.refl 20974443 s
  unfold execHandoverRelease
  refine Runs.next ?_
  refine (State.handoverEnd_keeps _).lift rfl ?_
  assumption

theorem State.sendCopy_keeps (s) (c) (t) : Keeps 150994945 s (State.sendCopy s c t) := by
  have h0 := Keeps.refl 150994945 s
  unfold State.sendCopy
  lift_lets -underBinder
  intro v1
  have h2 : Keeps 150994945 s v1 := by
    subst v1
    refine (State.wr_keeps _ _ _).lift rfl ?_
    refine (State.bump_keeps _ _).lift rfl ?_
    refine (State.emit_keeps _ _).lift rfl ?_
    assumption
  clear_value v1
  intro v3
  refine (State.modTw_keeps _ _).lift rfl ?_
  assumption

theorem State.sendWaiting_keeps (s) : Keeps 150994945 s (State.sendWaiting s) := by
  have h0 := Keeps.refl 150994945 s
  unfold State.sendWaiting
  split
  · refine Keeps.ite ?_ ?_
    · refine (State.sendCopy_keeps _ _ _).lift rfl ?_
      assumption
    · assumption
  · assumption

theorem State.twinInstant_keeps (s) (lag) : Keeps 150994945 s (State.twinInstant s lag) := by
  have h0 := Keeps.refl 150994945 s
  unfold State.twinInstant
  refine Keeps.ite ?_ ?_
  · assumption
  · lift_lets -underBinder
    intro v1
    intro v2
    intro v3
    intro v4
    have h5 : Keeps 150994945 s v4 := by
      subst v4
      refine (State.modTw_keeps _ _).lift rfl ?_
      refine (State.wr_keeps _ _ _).lift rfl ?_
      assumption
    clear_value v4
    intro v6
    have h7 : Keeps 150994945 s v6 := by
      subst v6
      refine Keeps.ite ?_ ?_
      · refine (State.bump_keeps _ _).lift rfl ?_
        assumption
      · assumption
    clear_value v6
    refine Keeps.ite ?_ ?_
    · refine (State.modTw_keeps _ _).lift rfl ?_
      assumption
    · refine (State.sendCopy_keeps _ _ _).lift rfl ?_
      assumption

theorem execTwinInstant_keeps (lag) (s) : Runs 150994945 s (execTwinInstant lag s) := by
  have h0 := Keeps.refl 150994945 s
  unfold execTwinInstant
  refine Runs.next ?_
  refine (State.twinInstant_keeps _ _).lift rfl ?_
  assumption

theorem State.payloadOk_keeps (s) (typ) (counter) (tagOk) : Keeps 16777473 s (Prod.snd (State.payloadOk s typ counter tagOk)) := by
  have h0 := Keeps.refl 16777473 s
  unfold State.payloadOk
  split
  · dsimp -zeta only
    refine (State.modTw_keeps _ _).lift rfl ?_
    assumption
  · lift_lets -underBinder
    intro v3
    intro v4
    have h5 : Keeps 16777473 s v4 := by
      subst v4
      refine (State.modTw_keeps _ _).lift rfl ?_
      refine (State.bump_keeps _ _).lift rfl ?_
      assumption
    clear_value v4
    dsimp -zeta only
    refine Keeps.ite ?_ ?_
    · refine (State.record_keeps _ _ _ _ _ _).lift rfl ?_
      assumption
    · assumption

theorem State.mirror_keeps (s : State) (c : TwinCopy) : Keeps 919553 s (State.mirror s c) := by
  have h0 := Keeps.refl 919553 s
  unfold State.mirror
  dsimp only
  refine Keeps.lift (m := 919553) (n := 524288) (Keeps.setPub ({ s with regs := _, axis := _, casc := _, sub := _ } : State) _) rfl ?_
  refine Keeps.lift (m := 919553) (n := 262144) (Keeps.setSub ({ s with regs := _, axis := _, casc := _ } : State) _) rfl ?_
  refine Keeps.lift (m := 919553) (n := 131072) (Keeps.setCasc ({ s with regs := _, axis := _ } : State) _) rfl ?_
  refine Keeps.lift (m := 919553) (n := 2048) (Keeps.setAxis ({ s with regs := _ } : State) _) rfl ?_
  refine Keeps.lift (m := 919553) (n := 1) (Keeps.setRegs (s : State) _ ?_) rfl ?_
  · exact fun h => Store.wf_foldl_set (α := Nat × Nat) _ (fun e => e.1) (fun e => e.2) (Store.wf_filter _ ((State.canonical_iff _).mp h).1)
  assumption

theorem State.copyReceive_keeps (s) (counter) (tagOk) (c) : Keeps 21891947 s (State.copyReceive s counter tagOk c) := by
  have h0 := Keeps.refl 21891947 s
  unfold State.copyReceive
  refine Keeps.ite ?_ ?_
  · assumption
  · split
    rename_i x1 x2 x3 x4
    have h5 : Keeps 21891947 s x3 := by
      refine Keeps.of_eq (congrArg Prod.snd x4) ?_
      refine (State.payloadOk_keeps _ _ _ _).lift rfl ?_
      assumption
    lift_lets -underBinder
    intro v6
    intro v7
    have h8 : Keeps 21891947 s v7 := by
      subst v7
      refine (State.modTw_keeps _ _).lift rfl ?_
      refine (State.hashSeen_keeps _ _).lift rfl ?_
      assumption
    clear_value v7
    intro v9
    have h10 : Keeps 21891947 s v9 := by
      subst v9
      refine (State.wr_keeps _ _ _).lift rfl ?_
      refine (State.wr_keeps _ _ _).lift rfl ?_
      refine (State.mirror_keeps _ _).lift rfl ?_
      assumption
    clear_value v9
    refine Keeps.ite ?_ ?_
    · assumption
    · refine Keeps.ite ?_ ?_
      · refine (State.setTwin_keeps _ _).lift rfl ?_
        assumption
      · assumption

theorem execCopyReceive_keeps (counter) (tagOk) (copy) (s) : Runs 21891947 s (execCopyReceive counter tagOk copy s) := by
  have h0 := Keeps.refl 21891947 s
  unfold execCopyReceive
  refine Runs.next ?_
  refine (State.copyReceive_keeps _ _ _ _).lift rfl ?_
  assumption

theorem State.startClaim_keeps (s) : Keeps 20974443 s (State.startClaim s) := by
  have h0 := Keeps.refl 20974443 s
  unfold State.startClaim
  lift_lets -underBinder
  intro v1
  refine (State.setTwin_keeps _ _).lift rfl ?_
  refine (State.modTw_keeps _ _).lift rfl ?_
  assumption

theorem State.checkClaim_keeps (s) : Keeps 20974443 s (State.checkClaim s) := by
  have h0 := Keeps.refl 20974443 s
  unfold State.checkClaim
  refine Keeps.ite ?_ ?_
  · refine (State.startClaim_keeps _).lift rfl ?_
    assumption
  · assumption

theorem State.raiseLink_keeps (s) (detail) : Keeps 20974443 s (State.raiseLink s detail) := by
  have h0 := Keeps.refl 20974443 s
  unfold State.raiseLink
  refine Keeps.ite ?_ ?_
  · assumption
  · refine (State.checkClaim_keeps _).lift rfl ?_
    refine (State.staleCheck_keeps _).lift rfl ?_
    refine (State.record_keeps _ _ _ _ _ _).lift rfl ?_
    refine (State.setBit_keeps _ _ _).lift rfl ?_
    assumption

theorem State.twlLost_keeps (s) (cause) : Keeps 20974443 s (State.twlLost s cause) := by
  have h0 := Keeps.refl 20974443 s
  unfold State.twlLost
  refine Keeps.ite ?_ ?_
  · assumption
  · lift_lets -underBinder
    intro v1
    have h2 : Keeps 20974443 s v1 := by
      subst v1
      refine (State.record_keeps _ _ _ _ _ _).lift rfl ?_
      refine (State.bump_keeps _ _).lift rfl ?_
      refine (State.wr_keeps _ _ _).lift rfl ?_
      assumption
    clear_value v1
    intro v3
    have h4 : Keeps 20974443 s v3 := by
      subst v3
      refine (State.raiseLink_keeps _ _).lift rfl ?_
      refine (State.modTw_keeps _ _).lift rfl ?_
      assumption
    clear_value v3
    refine Keeps.ite ?_ ?_
    · assumption
    · refine (State.wr_keeps _ _ _).lift rfl ?_
      assumption

theorem execTwlLinkLoss_keeps (cause) (symbols) (s) : Runs 20974443 s (execTwlLinkLoss cause symbols s) := by
  have h0 := Keeps.refl 20974443 s
  unfold execTwlLinkLoss
  lift_lets -underBinder
  intro v1
  have h2 : Keeps 20974443 s v1 := by
    subst v1
    refine Keeps.ite ?_ ?_
    · refine (State.wr_keeps _ _ _).lift rfl ?_
      assumption
    · assumption
  clear_value v1
  refine Runs.next ?_
  split
  · refine (State.twlLost_keeps _ _).lift rfl ?_
    assumption
  · assumption
  · refine Keeps.ite ?_ ?_
    · refine (State.twlLost_keeps _ _).lift rfl ?_
      assumption
    · assumption

theorem State.twlBurst_keeps (s) (crcOk) (length) : Keeps 20974443 s (State.twlBurst s crcOk length) := by
  have h0 := Keeps.refl 20974443 s
  unfold State.twlBurst
  refine Keeps.ite ?_ ?_
  · assumption
  · refine Keeps.ite ?_ ?_
    · refine (State.modTw_keeps _ _).lift rfl ?_
      refine (State.bump_keeps _ _).lift rfl ?_
      assumption
    · lift_lets -underBinder
      intro v1
      intro v2
      have h3 : Keeps 20974443 s v2 := by
        subst v2
        refine (State.modTw_keeps _ _).lift rfl ?_
        refine (State.bump_keeps _ _).lift rfl ?_
        assumption
      clear_value v2
      intro v4
      have h5 : Keeps 20974443 s v4 := by
        subst v4
        refine Keeps.ite ?_ ?_
        · refine (State.record_keeps _ _ _ _ _ _).lift rfl ?_
          assumption
        · assumption
      clear_value v4
      refine Keeps.ite ?_ ?_
      · refine (State.twlLost_keeps _ _).lift rfl ?_
        assumption
      · assumption

theorem execTwlBurstReceive_keeps (crcOk) (length) (s) : Runs 20974443 s (execTwlBurstReceive crcOk length s) := by
  have h0 := Keeps.refl 20974443 s
  unfold execTwlBurstReceive
  refine Runs.next ?_
  refine (State.twlBurst_keeps _ _ _).lift rfl ?_
  assumption

theorem State.dribbleFault_keeps (s) : Keeps 257 s (State.dribbleFault s) := by
  have h0 := Keeps.refl 257 s
  unfold State.dribbleFault
  refine Keeps.ite ?_ ?_
  · assumption
  · refine (State.record_keeps _ _ _ _ _ _).lift rfl ?_
    refine (State.setBit_keeps _ _ _).lift rfl ?_
    assumption

theorem State.dribbleSilence_keeps (s) : Keeps 20974443 s (State.dribbleSilence s) := by
  have h0 := Keeps.refl 20974443 s
  unfold State.dribbleSilence
  lift_lets -underBinder
  intro v1
  intro v2
  have h3 : Keeps 20974443 s v2 := by
    subst v2
    refine (State.modTw_keeps _ _).lift rfl ?_
    assumption
  clear_value v2
  refine Keeps.ite ?_ ?_
  · assumption
  · refine Keeps.ite ?_ ?_
    · refine (State.checkClaim_keeps _).lift rfl ?_
      assumption
    · refine (State.dribbleFault_keeps _).lift rfl ?_
      assumption

theorem execDribbleSilence_keeps (s) : Runs 20974443 s (execDribbleSilence s) := by
  have h0 := Keeps.refl 20974443 s
  unfold execDribbleSilence
  refine Runs.next ?_
  refine (State.dribbleSilence_keeps _).lift rfl ?_
  assumption

theorem State.dribbleSeen_keeps (s) : Keeps 20974443 s (State.dribbleSeen s) := by
  have h0 := Keeps.refl 20974443 s
  unfold State.dribbleSeen
  refine Keeps.ite ?_ ?_
  · assumption
  · lift_lets -underBinder
    intro v1
    intro v2
    intro v3
    have h4 : Keeps 20974443 s v3 := by
      subst v3
      refine (State.modTw_keeps _ _).lift rfl ?_
      assumption
    clear_value v3
    refine Keeps.ite ?_ ?_
    · refine (State.setTwin_keeps _ _).lift rfl ?_
      assumption
    · assumption

theorem execDribbleSeen_keeps (s) : Runs 20974443 s (execDribbleSeen s) := by
  have h0 := Keeps.refl 20974443 s
  unfold execDribbleSeen
  refine Runs.next ?_
  refine (State.dribbleSeen_keeps _).lift rfl ?_
  assumption

theorem State.heartbeatSend_keeps (s) : Keeps 150994945 s (State.heartbeatSend s) := by
  have h0 := Keeps.refl 150994945 s
  unfold State.heartbeatSend
  refine Keeps.ite ?_ ?_
  · assumption
  · lift_lets -underBinder
    intro v1
    intro v2
    intro v3
    have h4 : Keeps 150994945 s v3 := by
      subst v3
      refine (State.emit_keeps _ _).lift rfl ?_
      assumption
    clear_value v3
    refine (State.modTw_keeps _ _).lift rfl ?_
    refine (State.bump_keeps _ _).lift rfl ?_
    assumption

theorem execHeartbeatSend_keeps (s) : Runs 150994945 s (execHeartbeatSend s) := by
  have h0 := Keeps.refl 150994945 s
  unfold execHeartbeatSend
  refine Runs.next ?_
  refine (State.heartbeatSend_keeps _).lift rfl ?_
  assumption

theorem State.heartbeatReceive_keeps (s) (counter) (tagOk) (state) (seen) (hash) : Keeps 20974443 s (State.heartbeatReceive s counter tagOk state seen hash) := by
  have h0 := Keeps.refl 20974443 s
  unfold State.heartbeatReceive
  refine Keeps.ite ?_ ?_
  · assumption
  · split
    rename_i x1 x2 x3 x4
    have h5 : Keeps 20974443 s x3 := by
      refine Keeps.of_eq (congrArg Prod.snd x4) ?_
      refine (State.payloadOk_keeps _ _ _ _).lift rfl ?_
      assumption
    refine Keeps.ite ?_ ?_
    · assumption
    · lift_lets -underBinder
      intro v6
      have h7 : Keeps 20974443 s v6 := by
        subst v6
        refine (State.modTw_keeps _ _).lift rfl ?_
        assumption
      clear_value v6
      intro v8
      have h9 : Keeps 20974443 s v8 := by
        subst v8
        refine (State.hashSeen_keeps _ _).lift rfl ?_
        assumption
      clear_value v8
      refine Keeps.ite ?_ ?_
      · refine (State.dribbleFault_keeps _).lift rfl ?_
        assumption
      · assumption

theorem execHeartbeatReceive_keeps (counter) (tagOk) (state) (seen) (hash) (s) : Runs 20974443 s (execHeartbeatReceive counter tagOk state seen hash s) := by
  have h0 := Keeps.refl 20974443 s
  unfold execHeartbeatReceive
  refine Runs.next ?_
  refine (State.heartbeatReceive_keeps _ _ _ _ _ _).lift rfl ?_
  assumption

theorem State.heartbeatTimeout_keeps (s) : Keeps 20974443 s (State.heartbeatTimeout s) := by
  have h0 := Keeps.refl 20974443 s
  unfold State.heartbeatTimeout
  refine Keeps.ite ?_ ?_
  · assumption
  · refine (State.raiseLink_keeps _ _).lift rfl ?_
    refine (State.bump_keeps _ _).lift rfl ?_
    refine (State.modTw_keeps _ _).lift rfl ?_
    assumption

theorem execHeartbeatTimeout_keeps (s) : Runs 20974443 s (execHeartbeatTimeout s) := by
  have h0 := Keeps.refl 20974443 s
  unfold execHeartbeatTimeout
  refine Runs.next ?_
  refine (State.heartbeatTimeout_keeps _).lift rfl ?_
  assumption

theorem execCopyStaleTimeout_keeps (s) : Runs 20974443 s (execCopyStaleTimeout s) := by
  have h0 := Keeps.refl 20974443 s
  unfold execCopyStaleTimeout
  refine Runs.next ?_
  refine Keeps.ite ?_ ?_
  · refine (State.staleCheck_keeps _).lift rfl ?_
    refine (State.modTw_keeps _ _).lift rfl ?_
    assumption
  · assumption

theorem State.coldAxis_keeps (s) (n) : Keeps 133120 s (State.coldAxis s n) := by
  have h0 := Keeps.refl 133120 s
  unfold State.coldAxis
  refine Keeps.ite ?_ ?_
  · assumption
  · lift_lets -underBinder
    intro v1
    have h2 : Keeps 133120 s v1 := by
      subst v1
      refine Keeps.ite ?_ ?_
      · refine (Keeps.setCasc _ _).lift rfl ?_
        assumption
      · assumption
    clear_value v1
    refine (State.modAx_keeps _ _ _).lift rfl ?_
    assumption

theorem State.shadowCompare_keeps (s) (n) : Keeps 513 s (State.shadowCompare s n) := by
  have h0 := Keeps.refl 513 s
  unfold State.shadowCompare
  refine Keeps.ite ?_ ?_
  · assumption
  · refine Keeps.each ?_ (fun t1 a2 h3 => ?_)
    · assumption
    · lift_lets -underBinder
      intro v4
      intro v5
      have h6 : Keeps 513 s v5 := by
        subst v5
        refine (State.wr_keeps _ _ _).lift rfl ?_
        assumption
      clear_value v5
      intro v7
      refine (Keeps.setLeg _ _).lift rfl ?_
      assumption

theorem State.takeover_keeps (s) : Keeps 21105515 s (State.takeover s) := by
  have h0 := Keeps.refl 21105515 s
  unfold State.takeover
  lift_lets -underBinder
  intro v1
  intro v2
  intro v3
  intro v4
  intro v5
  intro v6
  have h7 : Keeps 21105515 s v6 := by
    subst v6
    refine (State.leaseReload_keeps _).lift rfl ?_
    refine (State.modTw_keeps _ _).lift rfl ?_
    refine (State.setTwin_keeps _ _).lift rfl ?_
    refine (State.wr_keeps _ _ _).lift rfl ?_
    assumption
  clear_value v6
  intro v8
  intro v9
  have h10 : Keeps 21105515 s v9 := by
    subst v9
    refine (Keeps.setLeg _ _).lift rfl ?_
    assumption
  clear_value v9
  split
  rename_i x11 x12 x13 x14
  have h15 : Keeps 21105515 s x12 := by
    refine Keeps.of_eq (congrArg Prod.fst x14) ?_
    split
    · dsimp -zeta only
      refine Keeps.each ?_ (fun t18 a19 h20 => ?_)
      · assumption
      · refine Keeps.ite ?_ ?_
        · assumption
        · refine (State.toOff_keeps _ _).lift rfl ?_
          assumption
    · split
      · dsimp -zeta only
        refine Keeps.each ?_ (fun t25 a26 h27 => ?_)
        · refine Keeps.each ?_ (fun t28 a29 h30 => ?_)
          · assumption
          · refine (State.shadowCompare_keeps _ _).lift rfl ?_
            assumption
        · refine (State.coldAxis_keeps _ _).lift rfl ?_
          assumption
      · dsimp -zeta only
        refine (State.modTw_keeps _ _).lift rfl ?_
        refine (Keeps.setLeg _ _).lift rfl ?_
        assumption
  lift_lets -underBinder
  intro v32
  have h33 : Keeps 21105515 s v32 := by
    subst v32
    refine Keeps.each ?_ (fun t34 a35 h36 => ?_)
    · assumption
    · refine Keeps.ite ?_ ?_
      · refine (State.faultA_keeps _ _ _).lift rfl ?_
        assumption
      · assumption
  clear_value v32
  intro v37
  have h38 : Keeps 21105515 s v37 := by
    subst v37
    refine (State.wr_keeps _ _ _).lift rfl ?_
    refine (State.bump_keeps _ _).lift rfl ?_
    refine (State.setBit_keeps _ _ _).lift rfl ?_
    assumption
  clear_value v37
  refine (State.record_keeps _ _ _ _ _ _).lift rfl ?_
  refine (State.wr_keeps _ _ _).lift rfl ?_
  assumption

theorem State.partition_keeps (s) (detail) : Keeps 4197123 s (State.partition s detail) := by
  have h0 := Keeps.refl 4197123 s
  unfold State.partition
  lift_lets -underBinder
  intro v1
  have h2 : Keeps 4197123 s v1 := by
    subst v1
    refine (State.record_keeps _ _ _ _ _ _).lift rfl ?_
    refine (State.setBit_keeps _ _ _).lift rfl ?_
    assumption
  clear_value v1
  refine Keeps.ite ?_ ?_
  · refine (State.enterSafe_keeps _ _).lift rfl ?_
    assumption
  · assumption

theorem execPartitionFault_keeps (why) (s) : Runs 4197123 s (execPartitionFault why s) := by
  have h0 := Keeps.refl 4197123 s
  unfold execPartitionFault
  lift_lets -underBinder
  intro v1
  refine Runs.next ?_
  refine Keeps.ite ?_ ?_
  · refine (State.partition_keeps _ _).lift rfl ?_
    assumption
  · assumption

theorem State.contestEnd_keeps (s) (clocks) (legs) : Keeps 21105515 s (State.contestEnd s clocks legs) := by
  have h0 := Keeps.refl 21105515 s
  unfold State.contestEnd
  refine Keeps.ite ?_ ?_
  · assumption
  · refine Keeps.ite ?_ ?_
    · lift_lets -underBinder
      intro v1
      have h2 : Keeps 21105515 s v1 := by
        subst v1
        refine (State.setTwin_keeps _ _).lift rfl ?_
        refine (State.modTw_keeps _ _).lift rfl ?_
        assumption
      clear_value v1
      refine (State.partition_keeps _ _).lift rfl ?_
      assumption
    · refine (State.takeover_keeps _).lift rfl ?_
      assumption

theorem execContestCheckEnd_keeps (clocks) (legs) (s) : Runs 21105515 s (execContestCheckEnd clocks legs s) := by
  have h0 := Keeps.refl 21105515 s
  unfold execContestCheckEnd
  refine Runs.next ?_
  refine (State.contestEnd_keeps _ _ _).lift rfl ?_
  assumption

theorem execTwinCheckDecision_keeps (s) : Runs 20974443 s (execTwinCheckDecision s) := by
  have h0 := Keeps.refl 20974443 s
  unfold execTwinCheckDecision
  refine Runs.next ?_
  refine Keeps.ite ?_ ?_
  · refine (State.startClaim_keeps _).lift rfl ?_
    assumption
  · assumption

theorem execTwinCheckTimeout_keeps (s) : Runs 4197227 s (execTwinCheckTimeout s) := by
  have h0 := Keeps.refl 4197227 s
  unfold execTwinCheckTimeout
  refine Runs.next ?_
  refine Keeps.ite ?_ ?_
  · refine (State.dribbleFault_keeps _).lift rfl ?_
    refine (State.setTwin_keeps _ _).lift rfl ?_
    assumption
  · assumption

theorem State.twinStart_keeps (s) : Keeps 20974443 s (State.twinStart s) := by
  have h0 := Keeps.refl 20974443 s
  unfold State.twinStart
  refine Keeps.ite ?_ ?_
  · refine Keeps.ite ?_ ?_
    · refine (State.modTw_keeps _ _).lift rfl ?_
      refine (State.wr_keeps _ _ _).lift rfl ?_
      refine (State.setTwin_keeps _ _).lift rfl ?_
      assumption
    · assumption
  · lift_lets -underBinder
    intro v1
    have h2 : Keeps 20974443 s v1 := by
      subst v1
      refine Keeps.ite ?_ ?_
      · assumption
      · refine (State.setTwin_keeps _ _).lift rfl ?_
        assumption
    clear_value v1
    refine (State.modTw_keeps _ _).lift rfl ?_
    refine (State.wr_keeps _ _ _).lift rfl ?_
    refine (State.wr_keeps _ _ _).lift rfl ?_
    assumption

theorem State.twinStatusClear_keeps (s) (m) : Keeps 1 s (State.twinStatusClear s m) := by
  have h0 := Keeps.refl 1 s
  unfold State.twinStatusClear
  lift_lets -underBinder
  intro v1
  have h2 : Keeps 1 s v1 := by
    subst v1
    refine (State.wr_keeps _ _ _).lift rfl ?_
    assumption
  clear_value v1
  refine Keeps.ite ?_ ?_
  · refine (State.clrBit_keeps _ _ _).lift rfl ?_
    assumption
  · assumption

theorem State.modPw_keeps (s) (f) : Keeps 32 s (State.modPw s f) := by
  have h0 := Keeps.refl 32 s
  unfold State.modPw
  refine (Keeps.setPw _ _).lift rfl ?_
  assumption

theorem State.mainsFreq_keeps (s) (crossed) : Keeps 33 s (State.mainsFreq s crossed) := by
  have h0 := Keeps.refl 33 s
  unfold State.mainsFreq
  lift_lets -underBinder
  intro v1
  intro v2
  have h3 : Keeps 33 s v2 := by
    subst v2
    refine Keeps.ite ?_ ?_
    · refine (State.modPw_keeps _ _).lift rfl ?_
      assumption
    · refine Keeps.ite ?_ ?_
      · refine (State.modPw_keeps _ _).lift rfl ?_
        assumption
      · refine (State.modPw_keeps _ _).lift rfl ?_
        assumption
  clear_value v2
  intro v4
  intro v5
  intro v6
  refine (State.putBit_keeps _ _ _ _).lift rfl ?_
  refine (State.wr_keeps _ _ _).lift rfl ?_
  assumption

theorem State.mainsSample_keeps (s) (raw) : Keeps 33 s (State.mainsSample s raw) := by
  have h0 := Keeps.refl 33 s
  unfold State.mainsSample
  lift_lets -underBinder
  intro v1
  intro v2
  intro v3
  have h4 : Keeps 33 s v3 := by
    subst v3
    refine (State.mainsFreq_keeps _ _).lift rfl ?_
    assumption
  clear_value v3
  intro v5
  intro v6
  intro v7
  intro v8
  intro v9
  intro v10
  intro v11
  intro v12
  intro v13
  intro v14
  have h15 : Keeps 33 s v14 := by
    subst v14
    refine Keeps.ite ?_ ?_
    · assumption
    · refine (State.wr_keeps _ _ _).lift rfl ?_
      refine (State.modPw_keeps _ _).lift rfl ?_
      assumption
  clear_value v14
  intro v16
  have h17 : Keeps 33 s v16 := by
    subst v16
    refine (State.modPw_keeps _ _).lift rfl ?_
    assumption
  clear_value v16
  refine (State.wr_keeps _ _ _).lift rfl ?_
  assumption

theorem execMainsSample_keeps (v) (s) : Runs 33 s (execMainsSample v s) := by
  have h0 := Keeps.refl 33 s
  unfold execMainsSample
  refine Runs.next ?_
  refine Keeps.ite ?_ ?_
  · refine (State.mainsSample_keeps _ _).lift rfl ?_
    assumption
  · assumption

theorem State.mainsReport_keeps (s) : Keeps 524320 s (State.mainsReport s) := by
  have h0 := Keeps.refl 524320 s
  unfold State.mainsReport
  refine Keeps.ite ?_ ?_
  · lift_lets -underBinder
    intro v1
    have h2 : Keeps 524320 s v1 := by
      subst v1
      refine (State.modPw_keeps _ _).lift rfl ?_
      assumption
    clear_value v1
    refine Keeps.each ?_ (fun t3 a4 h5 => ?_)
    · assumption
    · refine Keeps.ite ?_ ?_
      · refine (State.modPb_keeps _ _ _).lift rfl ?_
        assumption
      · assumption
  · assumption

theorem State.mainsDeclare_keeps (s) : Keeps 289 s (State.mainsDeclare s) := by
  have h0 := Keeps.refl 289 s
  unfold State.mainsDeclare
  split
  · refine Keeps.ite ?_ ?_
    · lift_lets -underBinder
      intro v6
      intro v7
      have h8 : Keeps 289 s v7 := by
        subst v7
        refine (State.wr_keeps _ _ _).lift rfl ?_
        refine (State.bump_keeps _ _).lift rfl ?_
        refine (State.wr_keeps _ _ _).lift rfl ?_
        assumption
      clear_value v7
      intro v9
      have h10 : Keeps 289 s v9 := by
        subst v9
        refine (State.clrBit_keeps _ _ _).lift rfl ?_
        refine (State.setBit_keeps _ _ _).lift rfl ?_
        assumption
      clear_value v9
      intro v11
      have h12 : Keeps 289 s v11 := by
        subst v11
        refine (State.modPw_keeps _ _).lift rfl ?_
        assumption
      clear_value v11
      refine Keeps.ite ?_ ?_
      · refine (State.recordAt_keeps _ _ _ _ _ _ _).lift rfl ?_
        assumption
      · assumption
    · assumption
  · assumption

theorem State.mainsLoss_keeps (s) (report) : Keeps 524577 s (State.mainsLoss s report) := by
  have h0 := Keeps.refl 524577 s
  unfold State.mainsLoss
  refine Keeps.ite ?_ ?_
  · refine (State.mainsReport_keeps _).lift rfl ?_
    refine (State.mainsDeclare_keeps _).lift rfl ?_
    assumption
  · refine (State.mainsDeclare_keeps _).lift rfl ?_
    assumption

theorem execMainsLoss_keeps (report) (s) : Runs 524577 s (execMainsLoss report s) := by
  have h0 := Keeps.refl 524577 s
  unfold execMainsLoss
  refine Runs.next ?_
  refine (State.mainsLoss_keeps _ _).lift rfl ?_
  assumption

theorem State.mainsReturn_keeps (s) : Keeps 257 s (State.mainsReturn s) := by
  have h0 := Keeps.refl 257 s
  unfold State.mainsReturn
  lift_lets -underBinder
  intro v1
  split
  · refine Keeps.ite ?_ ?_
    · lift_lets -underBinder
      intro v5
      have h6 : Keeps 257 s v5 := by
        subst v5
        refine (State.setBit_keeps _ _ _).lift rfl ?_
        refine (State.wr_keeps _ _ _).lift rfl ?_
        assumption
      clear_value v5
      refine Keeps.ite ?_ ?_
      · refine (State.record_keeps _ _ _ _ _ _).lift rfl ?_
        assumption
      · assumption
    · assumption
  · assumption

theorem execMainsReturn_keeps (s) : Runs 257 s (execMainsReturn s) := by
  have h0 := Keeps.refl 257 s
  unfold execMainsReturn
  refine Runs.next ?_
  refine (State.mainsReturn_keeps _).lift rfl ?_
  assumption

theorem State.vstbyRefresh_keeps (s) : Keeps 1 s (State.vstbyRefresh s) := by
  have h0 := Keeps.refl 1 s
  unfold State.vstbyRefresh
  refine (State.putBit_keeps _ _ _ _).lift rfl ?_
  assumption

theorem State.vaonSource_keeps (s) (hv) : Keeps 33 s (State.vaonSource s hv) := by
  have h0 := Keeps.refl 33 s
  unfold State.vaonSource
  lift_lets -underBinder
  intro v1
  have h2 : Keeps 33 s v1 := by
    subst v1
    refine (State.modPw_keeps _ _).lift rfl ?_
    assumption
  clear_value v1
  intro v3
  have h4 : Keeps 33 s v3 := by
    subst v3
    refine (State.putBit_keeps _ _ _ _).lift rfl ?_
    refine (State.putBit_keeps _ _ _ _).lift rfl ?_
    assumption
  clear_value v3
  refine (State.vstbyRefresh_keeps _).lift rfl ?_
  refine Keeps.ite ?_ ?_
  · assumption
  · refine (State.wr_keeps _ _ _).lift rfl ?_
    assumption

theorem execVaonSourceChange_keeps (hv) (s) : Runs 33 s (execVaonSourceChange hv s) := by
  have h0 := Keeps.refl 33 s
  unfold execVaonSourceChange
  refine Runs.next ?_
  refine (State.vaonSource_keeps _ _).lift rfl ?_
  assumption

theorem execVstbyOverload_keeps (current) (s) : Runs 289 s (execVstbyOverload current s) := by
  have h0 := Keeps.refl 289 s
  unfold execVstbyOverload
  lift_lets -underBinder
  intro v1
  have h2 : Keeps 289 s v1 := by
    subst v1
    refine (State.wr_keeps _ _ _).lift rfl ?_
    assumption
  clear_value v1
  intro v3
  have h4 : Keeps 289 s v3 := by
    subst v3
    refine (State.vstbyRefresh_keeps _).lift rfl ?_
    refine (State.setBit_keeps _ _ _).lift rfl ?_
    refine (State.modPw_keeps _ _).lift rfl ?_
    assumption
  clear_value v3
  refine Runs.next ?_
  refine Keeps.ite ?_ ?_
  · refine Keeps.ite ?_ ?_
    · refine (State.record_keeps _ _ _ _ _ _).lift rfl ?_
      assumption
    · assumption
  · assumption

theorem execVstbyRetry_keeps (s) : Runs 33 s (execVstbyRetry s) := by
  have h0 := Keeps.refl 33 s
  unfold execVstbyRetry
  refine Runs.next ?_
  refine Keeps.ite ?_ ?_
  · refine (State.vstbyRefresh_keeps _).lift rfl ?_
    refine (State.modPw_keeps _ _).lift rfl ?_
    assumption
  · assumption

theorem execVstbyLow_keeps (volts) (s) : Runs 1 s (execVstbyLow volts s) := by
  have h0 := Keeps.refl 1 s
  unfold execVstbyLow
  lift_lets -underBinder
  intro v1
  have h2 : Keeps 1 s v1 := by
    subst v1
    refine (State.wr_keeps _ _ _).lift rfl ?_
    assumption
  clear_value v1
  refine Runs.next ?_
  refine Keeps.ite ?_ ?_
  · assumption
  · refine Keeps.each ?_ (fun t3 a4 h5 => ?_)
    · assumption
    · refine Keeps.ite ?_ ?_
      · refine (State.trackLost_keeps _ _).lift rfl ?_
        assumption
      · assumption

theorem execXt32Window_keeps (rate) (s) : Runs 33 s (execXt32Window rate s) := by
  have h0 := Keeps.refl 33 s
  unfold execXt32Window
  refine Runs.next ?_
  refine Keeps.ite ?_ ?_
  · assumption
  · lift_lets -underBinder
    intro v1
    have h2 : Keeps 33 s v1 := by
      subst v1
      refine (State.wr_keeps _ _ _).lift rfl ?_
      refine (State.modPw_keeps _ _).lift rfl ?_
      assumption
    clear_value v1
    split
    · refine (State.setBit_keeps _ _ _).lift rfl ?_
      assumption
    · refine (State.setBit_keeps _ _ _).lift rfl ?_
      assumption
    · assumption

theorem execAonTimeSet_keeps (s) : Runs 33 s (execAonTimeSet s) := by
  have h0 := Keeps.refl 33 s
  unfold execAonTimeSet
  refine Runs.next ?_
  refine Keeps.ite ?_ ?_
  · lift_lets -underBinder
    intro v1
    have h2 : Keeps 33 s v1 := by
      subst v1
      refine (State.wr_keeps _ _ _).lift rfl ?_
      refine (State.modPw_keeps _ _).lift rfl ?_
      assumption
    clear_value v1
    refine Keeps.ite ?_ ?_
    · refine (State.setBit_keeps _ _ _).lift rfl ?_
      assumption
    · assumption
  · assumption

theorem execCrystalStop_keeps (s) : Runs 289 s (execCrystalStop s) := by
  have h0 := Keeps.refl 289 s
  unfold execCrystalStop
  lift_lets -underBinder
  intro v1
  have h2 : Keeps 289 s v1 := by
    subst v1
    refine (State.clrBit_keeps _ _ _).lift rfl ?_
    refine (State.clrBit_keeps _ _ _).lift rfl ?_
    assumption
  clear_value v1
  refine Runs.next ?_
  refine Keeps.ite ?_ ?_
  · refine (State.record_keeps _ _ _ _ _ _).lift rfl ?_
    assumption
  · refine (State.modPw_keeps _ _).lift rfl ?_
    assumption

theorem State.brownout_keeps (s) (rail) (low) : Keeps 4197187 s (State.brownout s rail low) := by
  have h0 := Keeps.refl 4197187 s
  unfold State.brownout
  refine Keeps.ite ?_ ?_
  · assumption
  · refine Keeps.ite ?_ ?_
    · refine (State.tamper_keeps _ _).lift rfl ?_
      assumption
    · lift_lets -underBinder
      intro v1
      have h2 : Keeps 4197187 s v1 := by
        subst v1
        refine (State.bump_keeps _ _).lift rfl ?_
        refine (State.setBit_keeps _ _ _).lift rfl ?_
        assumption
      clear_value v1
      intro v3
      have h4 : Keeps 4197187 s v3 := by
        subst v3
        refine Keeps.ite ?_ ?_
        · refine (State.record_keeps _ _ _ _ _ _).lift rfl ?_
          assumption
        · assumption
      clear_value v3
      refine (State.enterSafe_keeps _ _).lift rfl ?_
      assumption

theorem execBrownout_keeps (rail) (low) (s) : Runs 4197187 s (execBrownout rail low s) := by
  have h0 := Keeps.refl 4197187 s
  unfold execBrownout
  refine Runs.next ?_
  refine (State.brownout_keeps _ _ _).lift rfl ?_
  assumption

theorem State.setTj_keeps (s) (tj) : Keeps 1 s (State.setTj s tj) := by
  have h0 := Keeps.refl 1 s
  unfold State.setTj
  refine (State.wr_keeps _ _ _).lift rfl ?_
  refine (State.wr_keeps _ _ _).lift rfl ?_
  assumption

theorem execTjWarning_keeps (tj) (s) : Runs 257 s (execTjWarning tj s) := by
  have h0 := Keeps.refl 257 s
  unfold execTjWarning
  lift_lets -underBinder
  intro v1
  have h2 : Keeps 257 s v1 := by
    subst v1
    refine (State.setTj_keeps _ _).lift rfl ?_
    assumption
  clear_value v1
  intro v3
  have h4 : Keeps 257 s v3 := by
    subst v3
    refine (State.setBit_keeps _ _ _).lift rfl ?_
    assumption
  clear_value v3
  refine Runs.next ?_
  refine Keeps.ite ?_ ?_
  · assumption
  · refine Keeps.ite ?_ ?_
    · refine (State.record_keeps _ _ _ _ _ _).lift rfl ?_
      assumption
    · assumption

theorem execTjWarnClear_keeps (tj) (s) : Runs 1 s (execTjWarnClear tj s) := by
  have h0 := Keeps.refl 1 s
  unfold execTjWarnClear
  lift_lets -underBinder
  intro v1
  have h2 : Keeps 1 s v1 := by
    subst v1
    refine (State.setTj_keeps _ _).lift rfl ?_
    assumption
  clear_value v1
  refine Runs.next ?_
  refine Keeps.ite ?_ ?_
  · refine (State.clrBit_keeps _ _ _).lift rfl ?_
    assumption
  · assumption

theorem State.copyWake_keeps (s) : Keeps 32 s (State.copyWake s) := by
  have h0 := Keeps.refl 32 s
  unfold State.copyWake
  lift_lets -underBinder
  intro v1
  refine (State.modPw_keeps _ _).lift rfl ?_
  assumption

theorem State.standbyRequest_keeps (s) (v) : Keeps 32 s (Res.st (State.standbyRequest s v)) := by
  have h0 := Keeps.refl 32 s
  unfold State.standbyRequest
  split
  · dsimp -zeta only [refuse]
    assumption
  · split
    · dsimp -zeta only [refuse]
      assumption
    · dsimp -zeta only [okRes]
      refine (State.modPw_keeps _ _).lift rfl ?_
      refine (State.copyWake_keeps _).lift rfl ?_
      assumption

theorem execStandbyRequestLapse_keeps (s) : Runs 289 s (execStandbyRequestLapse s) := by
  have h0 := Keeps.refl 289 s
  unfold execStandbyRequestLapse
  refine Runs.next ?_
  refine Keeps.ite ?_ ?_
  · refine (State.record_keeps _ _ _ _ _ _).lift rfl ?_
    refine (State.modPw_keeps _ _).lift rfl ?_
    assumption
  · assumption

theorem State.resetRequest_keeps (s) (v) : Keeps 32 s (Res.st (State.resetRequest s v)) := by
  have h0 := Keeps.refl 32 s
  unfold State.resetRequest
  split
  · dsimp -zeta only [refuse]
    assumption
  · split
    · dsimp -zeta only [refuse]
      assumption
    · dsimp -zeta only [okRes]
      refine (State.modPw_keeps _ _).lift rfl ?_
      assumption

theorem State.wake_keeps (s) (code) (port) (rising) (us) : Keeps 33 s (State.wake s code port rising us) := by
  have h0 := Keeps.refl 33 s
  unfold State.wake
  refine Keeps.ite ?_ ?_
  · refine (State.modPw_keeps _ _).lift rfl ?_
    refine (State.wr_keeps _ _ _).lift rfl ?_
    assumption
  · assumption

theorem execWake_keeps (source) (x) (s) : Runs 33 s (execWake source x s) := by
  have h0 := Keeps.refl 33 s
  unfold execWake
  refine Runs.next ?_
  refine (State.wake_keeps _ _ _ _ _).lift rfl ?_
  assumption

end Sys2Proof.Machine
end

