-- ==== Sys2Proof/Laws/KeepsConfig.lean ====
section
/-! SUPPORT. What the operations of calibration, acquisition, examination and commit keep: one lemma for each, with the mask of the parts that the
operation may change. -/
namespace Sys2Proof.Machine
open Sys2Proof Obj

theorem State.calLoadWork_keeps (s) : Keeps 1 s (State.calLoadWork s) := by
  have h0 := Keeps.refl 1 s
  unfold State.calLoadWork
  refine Keeps.foldl ?_ (fun t1 a2 h3 => ?_)
  · assumption
  · refine (State.wr_keeps _ _ _).lift rfl ?_
    assumption

theorem State.calWrite_keeps (s) (m) (source) : Keeps 129 s (State.calWrite s m source) := by
  have h0 := Keeps.refl 129 s
  unfold State.calWrite
  lift_lets -underBinder
  intro v1
  have h2 : Keeps 129 s v1 := by
    subst v1
    refine (State.wr_keeps _ _ _).lift rfl ?_
    assumption
  clear_value v1
  intro v3
  refine (Keeps.setDict _ _ ?_).lift rfl ?_
  · exact fun h => ((State.canonical_iff _).mp h).2.2.2.2.2
  · assumption

theorem State.calSave_keeps (s) (v) : Keeps 129 s (Res.st (State.calSave s v)) := by
  have h0 := Keeps.refl 129 s
  unfold State.calSave
  split
  · dsimp -zeta only [refuse]
    refine (State.wr_keeps _ _ _).lift rfl ?_
    assumption
  · split
    · dsimp -zeta only [refuse]
      assumption
    · split
      · dsimp -zeta only [refuse]
        refine (State.wr_keeps _ _ _).lift rfl ?_
        assumption
      · dsimp -zeta only [okRes]
        refine (State.calWrite_keeps _ _ _).lift rfl ?_
        assumption

theorem State.calImport_keeps (s) (b) (sigOk) : Keeps 129 s (Res.st (State.calImport s b sigOk)) := by
  have h0 := Keeps.refl 129 s
  unfold State.calImport
  lift_lets -underBinder
  intro v1
  intro v2
  intro v3
  split
  · dsimp -zeta only [refuse]
    refine (State.wr_keeps _ _ _).lift rfl ?_
    assumption
  · split
    · dsimp -zeta only [refuse]
      refine (State.wr_keeps _ _ _).lift rfl ?_
      assumption
    · split
      · dsimp -zeta only [refuse]
        refine (State.wr_keeps _ _ _).lift rfl ?_
        assumption
      · split
        · dsimp -zeta only [refuse]
          refine (State.wr_keeps _ _ _).lift rfl ?_
          assumption
        · split
          · dsimp -zeta only [refuse]
            refine (State.wr_keeps _ _ _).lift rfl ?_
            assumption
          · dsimp -zeta only [okRes]
            refine (State.calWrite_keeps _ _ _).lift rfl ?_
            assumption

theorem State.calComplete_keeps (s) : Keeps 129 s (State.calComplete s) := by
  have h0 := Keeps.refl 129 s
  unfold State.calComplete
  split
  · assumption
  · lift_lets -underBinder
    intro v7
    intro v8
    have h9 : Keeps 129 s v8 := by
      subst v8
      refine (Keeps.setDict _ _ ?_).lift rfl ?_
      · exact fun h => ((State.canonical_iff _).mp h).2.2.2.2.2
      · assumption
    clear_value v8
    refine (State.wear_keeps _ _ _).lift rfl ?_
    refine (State.wr_keeps _ _ _).lift rfl ?_
    refine (State.bump_keeps _ _).lift rfl ?_
    refine (State.wr_keeps _ _ _).lift rfl ?_
    assumption

theorem execCalSaveComplete_keeps (s) : Runs 129 s (execCalSaveComplete s) := by
  have h0 := Keeps.refl 129 s
  unfold execCalSaveComplete
  refine Runs.next ?_
  refine (State.calComplete_keeps _).lift rfl ?_
  assumption

theorem State.calDiscard_keeps (s) (v) : Keeps 1 s (Res.st (State.calDiscard s v)) := by
  have h0 := Keeps.refl 1 s
  unfold State.calDiscard
  split
  · dsimp -zeta only [refuse]
    assumption
  · split
    · dsimp -zeta only [okRes]
      refine (State.calLoadWork_keeps _).lift rfl ?_
      assumption
    · dsimp -zeta only [okRes]
      assumption

theorem State.calBoot_keeps (s) (verifies) : Keeps 129 s (State.calBoot s verifies) := by
  have h0 := Keeps.refl 129 s
  unfold State.calBoot
  refine Keeps.ite ?_ ?_
  · refine (State.calLoadWork_keeps _).lift rfl ?_
    refine (State.wr_keeps _ _ _).lift rfl ?_
    assumption
  · lift_lets -underBinder
    intro v1
    have h2 : Keeps 129 s v1 := by
      subst v1
      refine (State.wr_keeps _ _ _).lift rfl ?_
      assumption
    clear_value v1
    intro v3
    refine (State.calLoadWork_keeps _).lift rfl ?_
    refine (Keeps.setDict _ _ ?_).lift rfl ?_
    · exact fun h => ((State.canonical_iff _).mp h).2.2.2.2.2
    · assumption

theorem State.modAcq_keeps (s) (f) : Keeps 4194304 s (State.modAcq s f) := by
  have h0 := Keeps.refl 4194304 s
  unfold State.modAcq
  refine (Keeps.setAcq _ _).lift rfl ?_
  assumption

theorem State.setAq_keeps (s) (v) : Keeps 1 s (State.setAq s v) := by
  have h0 := Keeps.refl 1 s
  unfold State.setAq
  refine (State.wr_keeps _ _ _).lift rfl ?_
  assumption

theorem State.acqNote_keeps (s) : Keeps 4194304 s (State.acqNote s) := by
  have h0 := Keeps.refl 4194304 s
  unfold State.acqNote
  refine Keeps.ite ?_ ?_
  · assumption
  · lift_lets -underBinder
    intro v1
    refine (Keeps.setAcq _ _).lift rfl ?_
    assumption

theorem State.fullTick_keeps (s) : Keeps 155265289 s (State.fullTick s) := by
  have h0 := Keeps.refl 155265289 s
  unfold State.fullTick
  refine (State.sendWaiting_keeps _).lift rfl ?_
  refine (State.diFirsts_keeps _).lift rfl ?_
  refine (State.timeTick_keeps _).lift rfl ?_
  refine (State.acqNote_keeps _).lift rfl ?_
  assumption

theorem execTimePllTick_keeps (s) : Runs 155265289 s (execTimePllTick s) := by
  have h0 := Keeps.refl 155265289 s
  unfold execTimePllTick
  refine Runs.next ?_
  refine (State.fullTick_keeps _).lift rfl ?_
  assumption

theorem execOffsetAddApply_keeps (s) : Runs 155265289 s (execOffsetAddApply s) := by
  have h0 := Keeps.refl 155265289 s
  unfold execOffsetAddApply
  refine Runs.next ?_
  refine Keeps.ite ?_ ?_
  · refine (State.fullTick_keeps _).lift rfl ?_
    assumption
  · assumption

theorem State.acqStart_keeps (s) : Keeps 4194305 s (Res.st (State.acqStart s)) := by
  have h0 := Keeps.refl 4194305 s
  unfold State.acqStart
  split
  · dsimp -zeta only [refuse]
    assumption
  · lift_lets -underBinder
    intro v3
    have h4 : Keeps 4194305 s v3 := by
      subst v3
      refine (State.modAcq_keeps _ _).lift rfl ?_
      assumption
    clear_value v3
    intro v5
    intro v6
    intro v7
    have h8 : Keeps 4194305 s v7 := by
      subst v7
      refine (State.wr_keeps _ _ _).lift rfl ?_
      refine (State.wr_keeps _ _ _).lift rfl ?_
      refine (State.wr_keeps _ _ _).lift rfl ?_
      assumption
    clear_value v7
    intro v9
    have h10 : Keeps 4194305 s v9 := by
      subst v9
      refine (State.wr_keeps _ _ _).lift rfl ?_
      refine (State.wr_keeps _ _ _).lift rfl ?_
      refine (State.wr_keeps _ _ _).lift rfl ?_
      refine (State.wr_keeps _ _ _).lift rfl ?_
      assumption
    clear_value v9
    split
    · dsimp -zeta only [refuse]
      refine (State.wr_keeps _ _ _).lift rfl ?_
      assumption
    · dsimp -zeta only [okRes]
      refine (State.acqNote_keeps _).lift rfl ?_
      refine (State.modAcq_keeps _ _).lift rfl ?_
      assumption

theorem State.acqStop_keeps (s) : Keeps 4194304 s (Res.st (State.acqStop s)) := by
  have h0 := Keeps.refl 4194304 s
  unfold State.acqStop
  split
  · dsimp -zeta only [okRes]
    assumption
  · dsimp -zeta only [okRes]
    refine (State.modAcq_keeps _ _).lift rfl ?_
    assumption

theorem State.acqForce_keeps (s) : Keeps 4194304 s (Res.st (State.acqForce s)) := by
  have h0 := Keeps.refl 4194304 s
  unfold State.acqForce
  split
  · dsimp -zeta only [okRes]
    refine (State.modAcq_keeps _ _).lift rfl ?_
    assumption
  · dsimp -zeta only [refuse]
    assumption

theorem State.acqControl_keeps (s) (v) : Keeps 4194305 s (Res.st (State.acqControl s v)) := by
  have h0 := Keeps.refl 4194305 s
  unfold State.acqControl
  lift_lets -underBinder
  intro v1
  have h2 : Keeps 4194305 s (Res.st v1) := by
    subst v1
    split
    · refine (State.acqStart_keeps _).lift rfl ?_
      assumption
    · dsimp -zeta only [okRes]
      assumption
  clear_value v1
  intro v5
  have h6 : Keeps 4194305 s (Res.st v5) := by
    subst v5
    split
    · refine (State.acqStop_keeps _).lift rfl ?_
      assumption
    · assumption
  clear_value v5
  split
  · refine (State.acqForce_keeps _).lift rfl ?_
    assumption
  · assumption

theorem State.acqWrite_keeps (s) (o) (b) : Keeps 67108864 s (State.acqWrite s o b) := by
  have h0 := Keeps.refl 67108864 s
  unfold State.acqWrite
  refine (Keeps.setAcqRam _ _ ?_).lift rfl ?_
  · exact fun h => Memory.wf_writeAll _ _ ((State.canonical_iff _).mp h).2.2.2.1
  · assumption

theorem State.segBegin_keeps (s) : Keeps 71303169 s (State.segBegin s) := by
  have h0 := Keeps.refl 71303169 s
  unfold State.segBegin
  lift_lets -underBinder
  intro v1
  have h2 : Keeps 71303169 s v1 := by
    subst v1
    refine (State.modAcq_keeps _ _).lift rfl ?_
    assumption
  clear_value v1
  refine (State.setAq_keeps _ _).lift rfl ?_
  refine (State.acqWrite_keeps _ _ _).lift rfl ?_
  assumption

theorem State.segClose_keeps (s) (t) (aborted) : Keeps 67109121 s (State.segClose s t aborted) := by
  have h0 := Keeps.refl 67109121 s
  unfold State.segClose
  split
  lift_lets -underBinder
  intro v6
  intro v7
  intro v8
  have h9 : Keeps 67109121 s v8 := by
    subst v8
    refine (State.acqWrite_keeps _ _ _).lift rfl ?_
    refine (State.acqWrite_keeps _ _ _).lift rfl ?_
    assumption
  clear_value v8
  refine (State.record_keeps _ _ _ _ _ _).lift rfl ?_
  refine (State.bump_keeps _ _).lift rfl ?_
  assumption

theorem State.rearm_keeps (s) (t) : Keeps 4194305 s (State.rearm s t) := by
  have h0 := Keeps.refl 4194305 s
  unfold State.rearm
  lift_lets -underBinder
  intro v1
  intro v2
  have h3 : Keeps 4194305 s v2 := by
    subst v2
    refine (State.modAcq_keeps _ _).lift rfl ?_
    assumption
  clear_value v2
  refine Keeps.ite ?_ ?_
  · refine (State.setAq_keeps _ _).lift rfl ?_
    assumption
  · refine (State.modAcq_keeps _ _).lift rfl ?_
    refine (State.setAq_keeps _ _).lift rfl ?_
    assumption

theorem State.segComplete_keeps (s) (t) : Keeps 71303425 s (State.segComplete s t) := by
  have h0 := Keeps.refl 71303425 s
  unfold State.segComplete
  lift_lets -underBinder
  intro v1
  intro v2
  have h3 : Keeps 71303425 s v2 := by
    subst v2
    refine (State.modAcq_keeps _ _).lift rfl ?_
    refine (State.segClose_keeps _ _ _).lift rfl ?_
    assumption
  clear_value v2
  refine Keeps.ite ?_ ?_
  · refine (State.setAq_keeps _ _).lift rfl ?_
    assumption
  · refine Keeps.ite ?_ ?_
    · refine (State.rearm_keeps _ _).lift rfl ?_
      assumption
    · refine (State.setAq_keeps _ _).lift rfl ?_
      assumption

theorem State.evalUnits_keeps (s) (t) : Keeps 4204801 s (Prod.fst (State.evalUnits s t)) := by
  have h0 := Keeps.refl 4204801 s
  unfold State.evalUnits
  lift_lets -underBinder
  intro v1
  intro v2
  intro v3
  intro v4
  intro v5
  intro v6
  intro v7
  have h8 : Keeps 4204801 s v7 := by
    subst v7
    refine (State.modAcq_keeps _ _).lift rfl ?_
    assumption
  clear_value v7
  intro v9
  have h10 : Keeps 4204801 s v9 := by
    subst v9
    refine Keeps.each ?_ (fun t11 a12 h13 => ?_)
    · assumption
    · refine (State.wr_keeps _ _ _).lift rfl ?_
      assumption
  clear_value v9
  intro v14
  have h15 : Keeps 4204801 s v14 := by
    subst v14
    refine Keeps.each ?_ (fun t16 a17 h18 => ?_)
    · assumption
    · refine Keeps.ite ?_ ?_
      · refine (State.latchEvent_keeps _ _ _ _).lift rfl ?_
        refine (State.bump_keeps _ _).lift rfl ?_
        assumption
      · assumption
  clear_value v14
  dsimp -zeta only
  assumption

theorem State.fire_keeps (s) (t) (conds) (forced) : Keeps 4194305 s (State.fire s t conds forced) := by
  have h0 := Keeps.refl 4194305 s
  unfold State.fire
  lift_lets -underBinder
  intro v1
  intro v2
  intro v3
  refine (State.setAq_keeps _ _).lift rfl ?_
  refine (State.wr_keeps _ _ _).lift rfl ?_
  refine (State.modAcq_keeps _ _).lift rfl ?_
  assumption

theorem State.ignoreTrigger_keeps (s) (t) : Keeps 4194305 s (State.ignoreTrigger s t) := by
  have h0 := Keeps.refl 4194305 s
  unfold State.ignoreTrigger
  lift_lets -underBinder
  intro v1
  have h2 : Keeps 4194305 s v1 := by
    subst v1
    refine (State.bump_keeps _ _).lift rfl ?_
    assumption
  clear_value v1
  intro v3
  have h4 : Keeps 4194305 s v3 := by
    subst v3
    refine Keeps.ite ?_ ?_
    · refine (State.wr_keeps _ _ _).lift rfl ?_
      assumption
    · assumption
  clear_value v3
  intro v5
  have h6 : Keeps 4194305 s v5 := by
    subst v5
    refine (State.modAcq_keeps _ _).lift rfl ?_
    assumption
  clear_value v5
  intro v7
  have h8 : Keeps 4194305 s v7 := by
    subst v7
    refine (State.modAcq_keeps _ _).lift rfl ?_
    assumption
  clear_value v7
  refine Keeps.ite ?_ ?_
  · refine Keeps.ite ?_ ?_
    · refine (State.rearm_keeps _ _).lift rfl ?_
      assumption
    · assumption
  · assumption

theorem State.stopNow_keeps (s) : Keeps 71303425 s (State.stopNow s) := by
  have h0 := Keeps.refl 71303425 s
  unfold State.stopNow
  lift_lets -underBinder
  intro v1
  have h2 : Keeps 71303425 s v1 := by
    subst v1
    split
    · refine (State.segClose_keeps _ _ _).lift rfl ?_
      assumption
    · assumption
  clear_value v1
  refine (State.setAq_keeps _ _).lift rfl ?_
  refine (State.modAcq_keeps _ _).lift rfl ?_
  assumption

theorem State.acqSample_keeps (s) (t) : Keeps 71303425 s (State.acqSample s t) := by
  have h0 := Keeps.refl 71303425 s
  unfold State.acqSample
  lift_lets -underBinder
  intro v1
  intro v2
  intro v3
  have h4 : Keeps 71303425 s v3 := by
    subst v3
    refine Keeps.ite ?_ ?_
    · refine (State.modAcq_keeps _ _).lift rfl ?_
      assumption
    · assumption
  clear_value v3
  intro v5
  have h6 : Keeps 71303425 s v5 := by
    subst v5
    refine (State.modAcq_keeps _ _).lift rfl ?_
    assumption
  clear_value v5
  intro v7
  intro v8
  intro v9
  intro v10
  have h11 : Keeps 71303425 s v10 := by
    subst v10
    refine (State.modAcq_keeps _ _).lift rfl ?_
    refine (State.acqWrite_keeps _ _ _).lift rfl ?_
    assumption
  clear_value v10
  refine Keeps.ite ?_ ?_
  · assumption
  · split
    · lift_lets -underBinder
      intro v15
      refine Keeps.ite ?_ ?_
      · refine (State.segComplete_keeps _ _).lift rfl ?_
        assumption
      · assumption
    · refine Keeps.ite ?_ ?_
      · refine (State.setAq_keeps _ _).lift rfl ?_
        assumption
      · assumption

theorem State.rawSample_keeps (s) (t) : Keeps 71313665 s (State.rawSample s t) := by
  have h0 := Keeps.refl 71313665 s
  unfold State.rawSample
  lift_lets -underBinder
  intro v1
  intro v2
  have h3 : Keeps 71313665 s v2 := by
    subst v2
    split
    · refine Keeps.ite ?_ ?_
      · refine (State.segBegin_keeps _).lift rfl ?_
        assumption
      · assumption
    · assumption
  clear_value v2
  refine Keeps.ite ?_ ?_
  · refine Keeps.ite ?_ ?_
    · refine (State.stopNow_keeps _).lift rfl ?_
      assumption
    · assumption
  · split
    rename_i x9 x10 x11 x12 x13
    have h14 : Keeps 71313665 s x10 := by
      refine Keeps.of_eq (congrArg Prod.fst x13) ?_
      refine (State.evalUnits_keeps _ _).lift rfl ?_
      assumption
    refine Keeps.ite ?_ ?_
    · refine (State.stopNow_keeps _).lift rfl ?_
      assumption
    · lift_lets -underBinder
      intro v15
      intro v16
      intro v17
      have h18 : Keeps 71313665 s v17 := by
        subst v17
        refine Keeps.ite ?_ ?_
        · refine Keeps.ite ?_ ?_
          · refine (State.fire_keeps _ _ _ _).lift rfl ?_
            assumption
          · refine Keeps.ite ?_ ?_
            · refine (State.bump_keeps _ _).lift rfl ?_
              assumption
            · assumption
        · refine Keeps.ite ?_ ?_
          · refine (State.ignoreTrigger_keeps _ _).lift rfl ?_
            assumption
          · assumption
      clear_value v17
      intro v19
      have h20 : Keeps 71313665 s v19 := by
        subst v19
        refine Keeps.ite ?_ ?_
        · refine (State.acqSample_keeps _ _).lift rfl ?_
          assumption
        · assumption
      clear_value v19
      refine (State.modAcq_keeps _ _).lift rfl ?_
      assumption

theorem execRawSample_keeps (off) (s) : Runs 71313665 s (execRawSample off s) := by
  have h0 := Keeps.refl 71313665 s
  unfold execRawSample
  refine Runs.next ?_
  refine Keeps.ite ?_ ?_
  · refine (State.rawSample_keeps _ _).lift rfl ?_
    refine (State.acqNote_keeps _).lift rfl ?_
    assumption
  · assumption

theorem execHoldoffEnd_keeps (s) : Runs 4194305 s (execHoldoffEnd s) := by
  have h0 := Keeps.refl 4194305 s
  unfold execHoldoffEnd
  refine Runs.next ?_
  refine Keeps.ite ?_ ?_
  · lift_lets -underBinder
    intro v1
    have h2 : Keeps 4194305 s v1 := by
      subst v1
      refine (State.modAcq_keeps _ _).lift rfl ?_
      assumption
    clear_value v1
    intro v3
    refine Keeps.ite ?_ ?_
    · refine (State.rearm_keeps _ _).lift rfl ?_
      assumption
    · assumption
  · assumption

theorem execSegmentReady_keeps (s) : Runs 4194304 s (execSegmentReady s) := by
  have h0 := Keeps.refl 4194304 s
  unfold execSegmentReady
  refine Runs.next ?_
  split
  · refine (State.modAcq_keeps _ _).lift rfl ?_
    assumption
  · assumption

theorem State.segReleased_keeps (s) (v) : Keeps 4194305 s (Res.st (State.segReleased s v)) := by
  have h0 := Keeps.refl 4194305 s
  unfold State.segReleased
  split
  · dsimp -zeta only [refuse]
    assumption
  · lift_lets -underBinder
    intro v3
    have h4 : Keeps 4194305 s v3 := by
      subst v3
      refine (State.wr_keeps _ _ _).lift rfl ?_
      assumption
    clear_value v3
    dsimp -zeta only [okRes]
    refine Keeps.ite ?_ ?_
    · refine (State.modAcq_keeps _ _).lift rfl ?_
      refine (State.setAq_keeps _ _).lift rfl ?_
      assumption
    · assumption

theorem State.takeSchedule_keeps (s) : Keeps 2048 s (State.takeSchedule s) := by
  have h0 := Keeps.refl 2048 s
  unfold State.takeSchedule
  lift_lets -underBinder
  intro v1
  intro v2
  refine Keeps.each ?_ (fun t3 a4 h5 => ?_)
  · assumption
  · lift_lets -underBinder
    intro v6
    intro v7
    refine (State.modAx_keeps _ _ _).lift rfl ?_
    assumption

theorem State.nodeIds_keeps (s) : Keeps 3 s (State.nodeIds s) := by
  have h0 := Keeps.refl 3 s
  unfold State.nodeIds
  refine Keeps.each ?_ (fun t1 a2 h3 => ?_)
  · assumption
  · lift_lets -underBinder
    intro v4
    intro v5
    have h6 : Keeps 3 s v5 := by
      subst v5
      refine Keeps.ite ?_ ?_
      · assumption
      · refine (State.wrForce_keeps _ _ _).lift rfl ?_
        refine (State.wr_keeps _ _ _).lift rfl ?_
        assumption
    clear_value v5
    refine Keeps.ite ?_ ?_
    · assumption
    · refine (State.wrForce_keeps _ _ _).lift rfl ?_
      refine (State.wr_keeps _ _ _).lift rfl ?_
      assumption

theorem State.showAdmit_keeps (s : State) (a : Admit) : Keeps 1 s (State.showAdmit s a) := by
  unfold State.showAdmit
  refine Keeps.foldl ?_ (fun t e h => (State.wr_keeps t e.1 e.2).lift rfl h)
  refine (State.wr_keeps _ _ _).lift rfl ?_
  refine (State.wr_keeps _ _ _).lift rfl ?_
  refine (State.wr_keeps _ _ _).lift rfl ?_
  exact Keeps.setRegs _ _ (fun h => Store.wf_foldl_erase admitKeys ((State.canonical_iff s).mp h).1)

theorem State.examine_keeps (s : State) (m : Store) : Keeps 1 s (State.examine s m).1 := by
  unfold State.examine
  dsimp only
  split
  · exact State.showAdmit_keeps ..
  · exact State.showAdmit_keeps ..

theorem State.modDict_keeps (s : State) (f : Dict → Dict)
    (hf : s.canonical = true → ∀ m, (f s.dict).committing = some m → Store.wf m = true) : Keeps 128 s (s.modDict f) :=
  Keeps.setDict s (f s.dict) hf

theorem State.candidate_wf (s : State) (h : s.canonical = true) : Store.wf s.candidate = true :=
  Store.wf_filter _ ((State.canonical_iff s).mp h).1

theorem State.commitWrite_keeps (s : State) (ctx : Option Ctx) : Keeps 385 s (State.commitWrite s ctx).1 := by
  unfold State.commitWrite
  dsimp only
  have h1 : Keeps 385 s (s.examine s.candidate).1 := (State.examine_keeps _ _).lift rfl (Keeps.refl ..)
  have hw := fun h => State.candidate_wf s h
  generalize s.candidate = c at h1 hw
  generalize s.examine c = x at h1
  obtain ⟨t, r, k⟩ := x
  dsimp only at h1 ⊢
  split
  · refine ⟨fun p hp => Part.same_trans (h1.same p hp) ?_, fun hs => ?_, h1.clocks⟩
    · cases p <;> first | rfl | exact absurd hp (by decide)
    · have q := (State.canonical_iff _).mp (h1.canonical hs)
      refine (State.canonical_iff _).mpr ⟨q.1, q.2.1, q.2.2.1, q.2.2.2.1, q.2.2.2.2.1, ?_⟩
      intro m hm
      rw [← Option.some.inj hm]
      exact hw hs
  · refine (State.record_keeps _ _ _ _ _ _).lift rfl ?_
    refine (State.wr_keeps _ _ _).lift rfl ?_
    refine (State.wr_keeps _ _ _).lift rfl ?_
    exact h1

theorem State.admitCheck_keeps (s) : Keeps 1 s (State.admitCheck s) := by
  have h0 := Keeps.refl 1 s
  unfold State.admitCheck
  refine (State.examine_keeps _ _).lift rfl ?_
  assumption

theorem State.carrierStart_keeps (s) (g) : Keeps 513 s (State.carrierStart s g) := by
  have h0 := Keeps.refl 513 s
  unfold State.carrierStart
  lift_lets -underBinder
  intro v1
  have h2 : Keeps 513 s v1 := by
    subst v1
    refine (State.wr_keeps _ _ _).lift rfl ?_
    assumption
  clear_value v1
  intro v3
  refine (Keeps.setLeg _ _).lift rfl ?_
  assumption

theorem State.inForce_keeps {s0 : State} (s : State) (m : Store) (h0 : Keeps 189561835 s0 s) (hm : s0.canonical = true → Store.wf m = true) :
    Keeps 189561835 s0 (State.inForce s m) := by
  unfold State.inForce
  lift_lets -underBinder
  intro w1 w2 w2b w3
  have h : Keeps 189561835 s0 w3 := by
    refine ⟨fun p hp => Part.same_trans (h0.same p hp) ?_, fun hs => ?_, h0.clocks⟩
    · cases p <;> first | rfl | exact absurd hp (by decide)
    · have k := (State.canonical_iff _).mp (h0.canonical hs)
      exact (State.canonical_iff _).mpr ⟨k.1, hm hs, k.2.2⟩
  clear_value w3
  intro v1
  intro v2
  have h3 : Keeps 189561835 s0 v2 := by
    subst v2
    refine (Keeps.setDict _ _ ?_).lift rfl ?_
    · exact fun h => ((State.canonical_iff _).mp h).2.2.2.2.2
    · assumption
  clear_value v2
  intro v4
  have h5 : Keeps 189561835 s0 v4 := by
    subst v4
    refine (State.nodeIds_keeps _).lift rfl ?_
    assumption
  clear_value v4
  intro v6
  intro v7
  have h8 : Keeps 189561835 s0 v7 := by
    subst v7
    refine (State.timeCommit_keeps _ _).lift rfl ?_
    assumption
  clear_value v7
  intro v9
  have h10 : Keeps 189561835 s0 v9 := by
    subst v9
    refine Keeps.each ?_ (fun t11 a12 h13 => ?_)
    · assumption
    · refine (State.portCommit_keeps _ _ _).lift rfl ?_
      assumption
  clear_value v9
  intro v14
  have h15 : Keeps 189561835 s0 v14 := by
    subst v14
    refine (State.latchCommit_keeps _).lift rfl ?_
    assumption
  clear_value v14
  intro v16
  have h17 : Keeps 189561835 s0 v16 := by
    subst v16
    refine Keeps.each ?_ (fun t18 a19 h20 => ?_)
    · assumption
    · refine Keeps.ite ?_ ?_
      · refine (State.modEm_keeps _ _ _).lift rfl ?_
        assumption
      · assumption
  clear_value v16
  intro v21
  have h22 : Keeps 189561835 s0 v21 := by
    subst v21
    refine Keeps.each ?_ (fun t23 a24 h25 => ?_)
    · assumption
    · refine Keeps.ite ?_ ?_
      · refine (State.carrierStart_keeps _ _).lift rfl ?_
        assumption
      · assumption
  clear_value v21
  intro v26
  have h27 : Keeps 189561835 s0 v26 := by
    subst v26
    refine (State.tripLevels_keeps _).lift rfl ?_
    assumption
  clear_value v26
  intro v28
  have h29 : Keeps 189561835 s0 v28 := by
    subst v28
    refine Keeps.each ?_ (fun t30 a31 h32 => ?_)
    · assumption
    · refine (State.modAx_keeps _ _ _).lift rfl ?_
      assumption
  clear_value v28
  intro v33
  have h34 : Keeps 189561835 s0 v33 := by
    subst v33
    refine (State.subCommit_keeps _ _).lift rfl ?_
    assumption
  clear_value v33
  intro v35
  have h36 : Keeps 189561835 s0 v35 := by
    subst v35
    refine (State.takeSchedule_keeps _).lift rfl ?_
    refine (State.pubCommit_keeps _).lift rfl ?_
    assumption
  clear_value v35
  intro v37
  have h38 : Keeps 189561835 s0 v37 := by
    subst v37
    refine (State.fieldCommit_keeps _ _).lift rfl ?_
    assumption
  clear_value v37
  intro v39
  have h40 : Keeps 189561835 s0 v39 := by
    subst v39
    refine (State.canCommit_keeps _ _).lift rfl ?_
    assumption
  clear_value v39
  intro v41
  have h42 : Keeps 189561835 s0 v41 := by
    subst v41
    refine Keeps.ite ?_ ?_
    · refine (State.twinStart_keeps _).lift rfl ?_
      assumption
    · assumption
  clear_value v41
  intro v43
  have h44 : Keeps 189561835 s0 v43 := by
    subst v43
    refine (State.modDict_keeps _ _ ?_).lift rfl ?_
    · exact fun h => ((State.canonical_iff _).mp h).2.2.2.2.2
    · assumption
  clear_value v43
  refine (State.copyWake_keeps _).lift rfl ?_
  assumption

theorem execCommitTakeEffect_keeps (s : State) : Runs 189561851 s (execCommitTakeEffect s) := by
  have h0 := Keeps.refl 189561851 s
  refine Runs.next ?_
  split
  · exact h0
  split
  · exact h0
  · have hw : s.canonical = true → Store.wf _ = true := fun h => ((State.canonical_iff s).mp h).2.2.2.2.2 _ ‹_›
    dsimp only
    refine (State.answerTo_keeps _ _ _).lift rfl ?_
    refine (State.record_keeps _ _ _ _ _ _).lift rfl ?_
    refine (State.bump_keeps _ _).lift rfl ?_
    refine (State.wr_keeps _ _ _).lift rfl ?_
    refine Keeps.lift (n := 189561835) ?_ rfl h0
    exact State.inForce_keeps _ _ ((State.modDict_keeps s _ (fun _ _ h => by cases h)).lift rfl (Keeps.refl _ s)) hw

theorem State.storeWrite_keeps (s) (ctx) (v) : Keeps 128 s (Prod.fst (State.storeWrite s ctx v)) := by
  have h0 := Keeps.refl 128 s
  unfold State.storeWrite
  split
  · dsimp -zeta only
    assumption
  · dsimp -zeta only
    refine (State.modDict_keeps _ _ ?_).lift rfl ?_
    · exact fun h => ((State.canonical_iff _).mp h).2.2.2.2.2
    · assumption

theorem execStoreComplete_keeps (s) : Runs 33554897 s (execStoreComplete s) := by
  have h0 := Keeps.refl 33554897 s
  unfold execStoreComplete
  refine Runs.next ?_
  split
  · assumption
  · lift_lets -underBinder
    intro v6
    intro v7
    have h8 : Keeps 33554897 s v7 := by
      subst v7
      refine (State.modDict_keeps _ _ ?_).lift rfl ?_
      · exact fun h => ((State.canonical_iff _).mp h).2.2.2.2.2
      · assumption
    clear_value v7
    intro v9
    intro v10
    have h11 : Keeps 33554897 s v10 := by
      subst v10
      refine Keeps.ite ?_ ?_
      · assumption
      · refine (State.wear_keeps _ _ _).lift rfl ?_
        assumption
    clear_value v10
    refine (State.answerTo_keeps _ _ _).lift rfl ?_
    refine (State.record_keeps _ _ _ _ _ _).lift rfl ?_
    refine (State.wear_keeps _ _ _).lift rfl ?_
    assumption

theorem State.restoreWrite_keeps (s) (v) : Keeps 129 s (Res.st (State.restoreWrite s v)) := by
  have h0 := Keeps.refl 129 s
  unfold State.restoreWrite
  split
  · dsimp -zeta only [refuse]
    assumption
  · dsimp -zeta only [okRes]
    refine (State.wear_keeps _ _ _).lift rfl ?_
    refine (State.modDict_keeps _ _ ?_).lift rfl ?_
    · exact fun h => ((State.canonical_iff _).mp h).2.2.2.2.2
    · assumption

theorem State.loadTable_keeps (s) (t) (b) : Keeps 3145729 s (State.loadTable s t b) := by
  have h0 := Keeps.refl 3145729 s
  unfold State.loadTable
  lift_lets -underBinder
  intro v1
  have h2 : Keeps 3145729 s v1 := by
    subst v1
    refine (Keeps.setTableRam _ _ ?_).lift rfl ?_
    · exact fun h => Memory.wf_writeAll _ _ ((State.canonical_iff _).mp h).2.2.1
    · assumption
  clear_value v1
  intro v3
  have h4 : Keeps 3145729 s v3 := by
    subst v3
    refine (Keeps.setTableLen _ _).lift rfl ?_
    assumption
  clear_value v3
  refine (State.wr_keeps _ _ _).lift rfl ?_
  refine (State.wr_keeps _ _ _).lift rfl ?_
  assumption

theorem State.restore_keeps (s) (storedOk) : Keeps 3146117 s (State.restore s storedOk) := by
  have h0 := Keeps.refl 3146117 s
  unfold State.restore
  lift_lets -underBinder
  intro v1
  intro v2
  intro v3
  have h4 : Keeps 3146117 s v3 := by
    subst v3
    refine Keeps.ite ?_ ?_
    · refine (State.modDict_keeps _ _ ?_).lift rfl ?_
      · exact fun h => ((State.canonical_iff _).mp h).2.2.2.2.2
      · assumption
    · assumption
  clear_value v3
  intro v5
  have h6 : Keeps 3146117 s v5 := by
    subst v5
    refine (Keeps.setRegs _ _ ?_).lift rfl ?_
    · exact fun h => Store.wf_merge _ ((State.canonical_iff _).mp h).1
    · assumption
  clear_value v5
  clear_value v2
  split
  · refine Keeps.ite ?_ ?_
    · refine (State.record_keeps _ _ _ _ _ _).lift rfl ?_
      assumption
    · assumption
  · lift_lets -underBinder
    intro v10
    have h11 : Keeps 3146117 s v10 := by
      subst v10
      refine Keeps.lift (m := 3146117) (n := 4) (Keeps.setBlobs ({ v5 with regs := _ } : State) _) rfl ?_
      refine Keeps.lift (m := 3146117) (n := 1) (Keeps.setRegs (v5 : State) _ ?_) rfl ?_
      · exact fun h => Store.wf_merge _ ((State.canonical_iff _).mp h).1
      assumption
    clear_value v10
    intro v12
    have h13 : Keeps 3146117 s v12 := by
      subst v12
      refine (State.modDict_keeps _ _ ?_).lift rfl ?_
      · exact fun h => ((State.canonical_iff _).mp h).2.2.2.2.2
      · assumption
    clear_value v12
    refine Keeps.each ?_ (fun t14 a15 h16 => ?_)
    · assumption
    · refine (State.loadTable_keeps _ _ _).lift rfl ?_
      assumption

theorem State.bootCommit_keeps (s : State) : Keeps 189561835 s (State.bootCommit s) := by
  unfold State.bootCommit
  dsimp only
  have h1 : Keeps 189561835 s (s.examine s.candidate).1 := (State.examine_keeps _ _).lift rfl (Keeps.refl ..)
  have hw := fun h => State.candidate_wf s h
  generalize s.examine s.candidate = x at h1
  obtain ⟨t, r, k⟩ := x
  dsimp only at h1 ⊢
  split
  · exact State.inForce_keeps _ _ h1 hw
  · refine (State.record_keeps _ _ _ _ _ _).lift rfl ?_
    refine (State.wr_keeps _ _ _).lift rfl ?_
    refine (State.wr_keeps _ _ _).lift rfl ?_
    exact h1

end Sys2Proof.Machine
end

