-- ==== Sys2Proof/Laws/KeepsRequests.lean ====
section
/-! SUPPORT. What the operations of the object-dictionary server, the write rows and the channels keep: one lemma for each, with the mask of the parts that the
operation may change. -/
namespace Sys2Proof.Machine
open Sys2Proof Obj

theorem State.commandWrite_keeps (s) (n) (v) (ctx) : Keeps 2049 s (Prod.fst (State.commandWrite s n v ctx)) := by
  have h0 := Keeps.refl 2049 s
  unfold State.commandWrite
  split
  · dsimp -zeta only
    assumption
  · split
    rename_i x3 x4 x5 x6
    have h7 : Keeps 2049 s x4 := by
      refine Keeps.of_eq (congrArg Prod.fst x6) ?_
      refine (State.takeCommand_keeps _ _ _ _).lift rfl ?_
      assumption
    dsimp -zeta only
    assumption

theorem State.regReset_keeps (s) (n) (v) : Keeps 1 s (State.regReset s n v) := by
  have h0 := Keeps.refl 1 s
  unfold State.regReset
  refine Keeps.ite ?_ ?_
  · refine (State.wr_keeps _ _ _).lift rfl ?_
    assumption
  · assumption

theorem State.axisWrite_keeps (s : State) (vd : Verdict) (n o j k v : Nat) (r : Res) (h : s.axisWrite vd n o j k v = some r) :
    Keeps 137731 s r.st := by
  have h0 := Keeps.refl 137731 s
  unfold State.axisWrite at h
  dsimp only at h
  repeat' (first | contradiction | split at h)
  all_goals obtain rfl := Option.some.inj h
  · refine (State.paramWrite_keeps _ _ _ _).lift rfl ?_
    assumption
  · dsimp -zeta only [okRes]
    refine (State.indexArm_keeps _ _).lift rfl ?_
    assumption
  · dsimp -zeta only [okRes]
    assumption
  · refine (State.ccModeWrite_keeps _ _ _).lift rfl ?_
    assumption
  · dsimp -zeta only [okRes]
    refine (State.wr_keeps _ _ _).lift rfl ?_
    refine (Keeps.setLeg _ _).lift rfl ?_
    assumption
  · dsimp -zeta only [okRes]
    refine (State.wr_keeps _ _ _).lift rfl ?_
    refine (Keeps.setLeg _ _).lift rfl ?_
    assumption
  · dsimp -zeta only [okRes]
    refine (State.wr_keeps _ _ _).lift rfl ?_
    refine (Keeps.setLeg _ _).lift rfl ?_
    assumption
  · dsimp -zeta only [okRes]
    refine (State.wr_keeps _ _ _).lift rfl ?_
    refine (Keeps.setLeg _ _).lift rfl ?_
    assumption
  · refine (State.swapRequest_keeps _ _ _).lift rfl ?_
    assumption
  · refine (State.paramWrite_keeps _ _ _ _).lift rfl ?_
    assumption
  · refine (State.paramWrite_keeps _ _ _ _).lift rfl ?_
    assumption
  · refine (State.paramWrite_keeps _ _ _ _).lift rfl ?_
    assumption
  · refine (State.paramWrite_keeps _ _ _ _).lift rfl ?_
    assumption
  · refine (State.gearWrite_keeps _ _ _ _).lift rfl ?_
    assumption
  · refine (State.gearWrite_keeps _ _ _ _).lift rfl ?_
    assumption
  · refine (State.camNext_keeps _ _ _).lift rfl ?_
    assumption
  · dsimp -zeta only [okRes]
    refine (State.regReset_keeps _ _ _).lift rfl ?_
    assumption

theorem State.oneWrite_keeps (s : State) (vd : Verdict) (k v : Nat) (r : Res) (h : s.oneWrite vd k v = some r) :
    Keeps 21040107 s r.st := by
  have h0 := Keeps.refl 21040107 s
  unfold State.oneWrite at h
  split at h <;> first | contradiction | skip
  all_goals obtain rfl := Option.some.inj h
  · refine (State.restoreWrite_keeps _ _).lift rfl ?_
    assumption
  · refine (State.deviceRequest_keeps _ _).lift rfl ?_
    assumption
  · refine (State.resetRequest_keeps _ _).lift rfl ?_
    assumption
  · refine (State.standbyRequest_keeps _ _).lift rfl ?_
    assumption
  · refine (State.selectRequest_keeps _ _).lift rfl ?_
    assumption
  · dsimp -zeta only [okRes]
    refine (State.todWrite_keeps _ _).lift rfl ?_
    assumption
  · dsimp -zeta only [okRes]
    refine (State.alarmEnable_keeps _ _).lift rfl ?_
    assumption
  · dsimp -zeta only [okRes]
    refine Keeps.ite ?_ ?_
    · refine (State.loadAll_keeps _).lift rfl ?_
      assumption
    · assumption
  · dsimp -zeta only [okRes]
    refine (State.clearTrips_keeps _ _).lift rfl ?_
    assumption
  · dsimp -zeta only [okRes]
    refine (State.clearOc_keeps _ _).lift rfl ?_
    refine (Keeps.setLeg _ _).lift rfl ?_
    assumption
  · dsimp -zeta only [okRes]
    refine (State.clearMod_keeps _ _).lift rfl ?_
    refine (Keeps.setLeg _ _).lift rfl ?_
    assumption
  · dsimp -zeta only [okRes]
    refine Keeps.ite ?_ ?_
    · refine (State.admitCheck_keeps _).lift rfl ?_
      assumption
    · assumption
  · dsimp -zeta only [okRes]
    refine (State.clearField_keeps _ _).lift rfl ?_
    assumption
  · dsimp -zeta only [okRes]
    refine (State.writeDoSet_keeps _ _).lift rfl ?_
    assumption
  · dsimp -zeta only [okRes]
    refine (State.clearShort_keeps _ _).lift rfl ?_
    assumption
  · refine (State.handoverWrite_keeps _ _).lift rfl ?_
    assumption
  · refine (State.nextSlot_keeps _ _).lift rfl ?_
    assumption
  · refine (State.fwConfirm_keeps _ _).lift rfl ?_
    assumption
  · refine (State.calSave_keeps _ _).lift rfl ?_
    assumption
  · refine (State.calDiscard_keeps _ _).lift rfl ?_
    assumption
  · refine (State.acqControl_keeps _ _).lift rfl ?_
    assumption
  · refine (State.segReleased_keeps _ _).lift rfl ?_
    assumption

theorem State.familyWrite_keeps (s : State) (vd : Verdict) (k v : Nat) (r : Res) (h : s.familyWrite vd k v = some r) :
    Keeps 35797635 s r.st := by
  have h0 := Keeps.refl 35797635 s
  unfold State.familyWrite at h
  dsimp only at h
  split at h
  · exact (State.axisWrite_keeps _ _ _ _ _ _ _ _ h).lift rfl h0
  repeat' (first | contradiction | split at h)
  all_goals obtain rfl := Option.some.inj h
  · dsimp -zeta only [okRes]
    refine (State.modDict_keeps _ _ ?_).lift rfl ?_
    · exact fun h => ((State.canonical_iff _).mp h).2.2.2.2.2
    · refine (State.wr_keeps _ _ _).lift rfl ?_
      assumption
  · dsimp -zeta only [okRes]
    refine (State.armUnit_keeps _ _).lift rfl ?_
    assumption
  · dsimp -zeta only [okRes]
    assumption
  · dsimp -zeta only [okRes]
    refine (State.nextCapture_keeps _ _).lift rfl ?_
    assumption
  · dsimp -zeta only [okRes]
    assumption
  · refine (State.directEnable_keeps _ _ _).lift rfl ?_
    assumption
  · dsimp -zeta only [okRes]
    refine (State.canRecover_keeps _ _ _).lift rfl ?_
    assumption
  · refine (State.tableFinish_keeps _ _).lift rfl ?_
    assumption
  · dsimp -zeta only [okRes]
    assumption
  · refine (State.tableHeader_keeps _ _ _ _).lift rfl ?_
    assumption
  · dsimp -zeta only [okRes]
    refine (State.moStatusClear_keeps _ _ _ _).lift rfl ?_
    assumption
  · refine (State.moRequest_keeps _ _ _ _ _).lift rfl ?_
    assumption

theorem State.numberWrite_keeps (s : State) (vd : Verdict) (w : Row) (k v : Nat) : Keeps 56835051 s (s.numberWrite vd w k v).st := by
  have h0 := Keeps.refl 56835051 s
  unfold State.numberWrite
  lift_lets -underBinder
  intro v1
  split
  · exact (State.oneWrite_keeps _ _ _ _ _ ‹_›).lift rfl h0
  split
  · exact (State.familyWrite_keeps _ _ _ _ _ ‹_›).lift rfl h0
  split
  · dsimp -zeta only [okRes]
    refine (State.wr_keeps _ _ _).lift rfl ?_
    assumption
  · dsimp -zeta only [okRes]
    refine (State.wr_keeps _ _ _).lift rfl ?_
    assumption

theorem State.handshakeWrite_keeps (s) (c) (session) (b) (vd) : Keeps 449 s (Res.st (State.handshakeWrite s c session b vd)) := by
  have h0 := Keeps.refl 449 s
  unfold State.handshakeWrite
  split
  rename_i x1 x2 x3 x4 x5
  have h6 : Keeps 449 s x2 := by
    refine Keeps.of_eq (congrArg Prod.fst x5) ?_
    refine (State.sessionMessage_keeps _ _ _ _ _).lift rfl ?_
    assumption
  dsimp -zeta only
  refine Keeps.ite ?_ ?_
  · refine (State.modDict_keeps _ _ ?_).lift rfl ?_
    · exact fun h => ((State.canonical_iff _).mp h).2.2.2.2.2
    · assumption
  · assumption

theorem State.octetWrite_keeps (s) (session) (vd) (k) (b) : Keeps 15731687 s (Res.st (State.octetWrite s session vd k b)) := by
  have h0 := Keeps.refl 15731687 s
  unfold State.octetWrite
  lift_lets -underBinder
  intro v1
  split
  · refine (State.packetIn_keeps _ _ _).lift rfl ?_
    assumption
  · split
    · refine (State.fwImage_keeps _ _ _ _).lift rfl ?_
      assumption
    · split
      · refine (State.calImport_keeps _ _ _).lift rfl ?_
        assumption
      · split
        · refine (State.handshakeWrite_keeps _ _ _ _ _).lift rfl ?_
          assumption
        · split
          · refine (State.mstTx_keeps _ _ _).lift rfl ?_
            assumption
          · split
            · refine (State.tableData_keeps _ _ _).lift rfl ?_
              assumption
            · split
              · refine (State.tableData_keeps _ _ _).lift rfl ?_
                assumption
              · dsimp -zeta only [okRes]
                refine (State.wrBlob_keeps _ _ _).lift rfl ?_
                assumption

theorem State.writeValue_keeps (s) (ctx) (session) (vd) (w) (i) (j) (b) : Keeps 66272239 s (Prod.fst (State.writeValue s ctx session vd w i j b)) := by
  have h0 := Keeps.refl 66272239 s
  unfold State.writeValue
  lift_lets -underBinder
  intro v1
  intro v2
  have h3 : Keeps 66272239 s (Res.st v2) := by
    subst v2
    refine (State.octetWrite_keeps _ _ _ _ _).lift rfl ?_
    assumption
  clear_value v2
  intro v4
  intro v5
  intro v6
  have h7 : Keeps 66272239 s (Res.st v6) := by
    subst v6
    refine (State.numberWrite_keeps _ _ _ _ _).lift rfl ?_
    assumption
  clear_value v6
  split
  · dsimp -zeta only
    assumption
  · split
    · dsimp -zeta only
      assumption
    · split
      · dsimp -zeta only
        assumption
      · split
        · refine (State.storeWrite_keeps _ _ _).lift rfl ?_
          assumption
        · split
          · split
            · refine (State.commitWrite_keeps _ _).lift rfl ?_
              assumption
            · dsimp -zeta only
              assumption
          · split
            · refine (State.commandWrite_keeps _ _ _ _).lift rfl ?_
              assumption
            · dsimp -zeta only
              assumption

theorem State.writeObject_keeps (s) (ctx) (role) (session) (vd) (i) (j) (b) : Keeps 66272239 s (Prod.fst (State.writeObject s ctx role session vd i j b)) := by
  have h0 := Keeps.refl 66272239 s
  unfold State.writeObject
  lift_lets -underBinder
  intro v1
  intro v2
  split
  · dsimp -zeta only
    refine (State.wr_keeps _ _ _).lift rfl ?_
    assumption
  · split
    · dsimp -zeta only
      assumption
    · split
      · dsimp -zeta only
        assumption
      · split
        · refine (State.writeValue_keeps _ _ _ _ _ _ _ _).lift rfl ?_
          assumption
        · dsimp -zeta only
          assumption

theorem State.readClears_keeps (s) (i) (j) : Keeps 1 s (State.readClears s i j) := by
  have h0 := Keeps.refl 1 s
  unfold State.readClears
  split
  · refine Keeps.ite ?_ ?_
    · refine (State.wr_keeps _ _ _).lift rfl ?_
      assumption
    · assumption
  · assumption

theorem State.readObject_keeps (s) (role) (i) (j) : Keeps 1 s (Prod.fst (State.readObject s role i j)) := by
  have h0 := Keeps.refl 1 s
  unfold State.readObject
  lift_lets -underBinder
  intro v1
  split
  · dsimp -zeta only
    assumption
  · dsimp -zeta only
    refine (State.readClears_keeps _ _ _).lift rfl ?_
    assumption

theorem State.writeRequest_keeps (s) (c) (vd) (b) : Keeps 66272255 s (State.writeRequest s c vd b) := by
  have h0 := Keeps.refl 66272255 s
  unfold State.writeRequest
  refine Keeps.ite ?_ ?_
  · refine (State.busy_keeps _ _).lift rfl ?_
    assumption
  · split
    · rename_i x1 x2 x3 x4
      have h5 : Keeps 66272255 s x2 := by
        refine Keeps.of_eq (congrArg Prod.fst x4) ?_
        refine (State.writeObject_keeps _ _ _ _ _ _ _ _).lift rfl ?_
        assumption
      refine (State.answer_keeps _ _ _ _).lift rfl ?_
      assumption
    · rename_i x6 x7 x8
      have h9 : Keeps 66272255 s x7 := by
        refine Keeps.of_eq (congrArg Prod.fst x8) ?_
        refine (State.writeObject_keeps _ _ _ _ _ _ _ _).lift rfl ?_
        assumption
      assumption

theorem State.rowWrite_keeps (s) (w) (k) (b) : Keeps 66272255 s (State.rowWrite s w k b) := by
  have h0 := Keeps.refl 66272255 s
  unfold State.rowWrite
  lift_lets -underBinder
  intro v1
  refine Keeps.ite ?_ ?_
  · assumption
  · refine State.gated_keeps _ _ _ rfl ?_ (fun t2 h3 => ?_)
    · assumption
    · refine (State.writeRequest_keeps _ _ _ _).lift rfl ?_
      assumption

theorem State.rowEffect_keeps {m : Nat} {s0 s : State} (w : Wr) (k : Nat) (f : State → Res) (hm : 33554897 ||| m = m)
    (h : Keeps m s0 s) (hf : ∀ t, Keeps m s0 t → Keeps m s0 (f t).st) : Keeps m s0 (s.rowEffect w k f) := by
  have low (a : Nat) (ha : a ||| 33554897 = 33554897) : a ||| m = m := by rw [← hm, ← Nat.or_assoc, ha]
  unfold State.rowEffect
  split
  · exact h
  dsimp only
  refine State.gated_keeps _ _ _ (low _ (by rfl)) h (fun t ht => ?_)
  split
  · exact (State.busy_keeps ..).lift (low _ (by rfl)) ht
  split
  · exact (State.answer_keeps ..).lift (low _ (by rfl)) ht
  split
  · exact (State.answer_keeps ..).lift (low _ (by rfl)) ht
  · exact Res.reply_keeps _ _ (low _ (by rfl)) (hf _ ht)

theorem execDeviceStart_keeps (w) (s) : Runs 66272255 s (execDeviceStart w s) := by
  have h0 := Keeps.refl 66272255 s
  unfold execDeviceStart
  refine Runs.next ?_
  refine (State.rowWrite_keeps _ _ _ _).lift rfl ?_
  assumption

theorem execDeviceStop_keeps (w) (s) : Runs 66272255 s (execDeviceStop w s) := by
  have h0 := Keeps.refl 66272255 s
  unfold execDeviceStop
  refine Runs.next ?_
  refine (State.rowWrite_keeps _ _ _ _).lift rfl ?_
  assumption

theorem execDeviceResetSafe_keeps (w) (s) : Runs 66272255 s (execDeviceResetSafe w s) := by
  have h0 := Keeps.refl 66272255 s
  unfold execDeviceResetSafe
  refine Runs.next ?_
  refine (State.rowWrite_keeps _ _ _ _).lift rfl ?_
  assumption

theorem execSelectRequest_keeps (w) (s) : Runs 66272255 s (execSelectRequest w s) := by
  have h0 := Keeps.refl 66272255 s
  unfold execSelectRequest
  refine Runs.next ?_
  refine (State.rowWrite_keeps _ _ _ _).lift rfl ?_
  assumption

theorem execTodSeconds_keeps (w) (s) : Runs 66272255 s (execTodSeconds w s) := by
  have h0 := Keeps.refl 66272255 s
  unfold execTodSeconds
  refine Runs.next ?_
  refine (State.rowWrite_keeps _ _ _ _).lift rfl ?_
  assumption

theorem execAlarmEnable_keeps (w) (s) : Runs 66272255 s (execAlarmEnable w s) := by
  have h0 := Keeps.refl 66272255 s
  unfold execAlarmEnable
  refine Runs.next ?_
  refine (State.rowWrite_keeps _ _ _ _).lift rfl ?_
  assumption

theorem execIndexArm_keeps (w) (n) (s) : Runs 66272255 s (execIndexArm w n s) := by
  have h0 := Keeps.refl 66272255 s
  unfold execIndexArm
  refine Runs.next ?_
  refine (State.rowWrite_keeps _ _ _ _).lift rfl ?_
  assumption

theorem execArm_keeps (w) (u) (s) : Runs 66272255 s (execArm w u s) := by
  have h0 := Keeps.refl 66272255 s
  unfold execArm
  refine Runs.next ?_
  refine (State.rowWrite_keeps _ _ _ _).lift rfl ?_
  assumption

theorem execNext_keeps (w) (u) (s) : Runs 66272255 s (execNext w u s) := by
  have h0 := Keeps.refl 66272255 s
  unfold execNext
  refine Runs.next ?_
  refine (State.rowWrite_keeps _ _ _ _).lift rfl ?_
  assumption

theorem execOcFlags_keeps (w) (modFault) (s) : Runs 66272255 s (execOcFlags w modFault s) := by
  have h0 := Keeps.refl 66272255 s
  unfold execOcFlags
  refine Runs.next ?_
  refine (State.rowWrite_keeps _ _ _ _).lift rfl ?_
  assumption

theorem execTripFlags_keeps (w) (s) : Runs 66272255 s (execTripFlags w s) := by
  have h0 := Keeps.refl 66272255 s
  unfold execTripFlags
  refine Runs.next ?_
  refine (State.rowWrite_keeps _ _ _ _).lift rfl ?_
  assumption

theorem execDirectEnable_keeps (w) (l) (s) : Runs 66272255 s (execDirectEnable w l s) := by
  have h0 := Keeps.refl 66272255 s
  unfold execDirectEnable
  refine Runs.next ?_
  refine (State.rowWrite_keeps _ _ _ _).lift rfl ?_
  assumption

theorem execLoadAll_keeps (w) (s) : Runs 66272255 s (execLoadAll w s) := by
  have h0 := Keeps.refl 66272255 s
  unfold execLoadAll
  refine Runs.next ?_
  refine (State.rowWrite_keeps _ _ _ _).lift rfl ?_
  assumption

theorem execCcMode_keeps (w) (n) (s) : Runs 66272255 s (execCcMode w n s) := by
  have h0 := Keeps.refl 66272255 s
  unfold execCcMode
  refine Runs.next ?_
  refine (State.rowWrite_keeps _ _ _ _).lift rfl ?_
  assumption

theorem execSwapRequest_keeps (w) (n) (s) : Runs 66272255 s (execSwapRequest w n s) := by
  have h0 := Keeps.refl 66272255 s
  unfold execSwapRequest
  refine Runs.next ?_
  refine (State.rowWrite_keeps _ _ _ _).lift rfl ?_
  assumption

theorem execAdmitCheck_keeps (w) (s) : Runs 66272255 s (execAdmitCheck w s) := by
  have h0 := Keeps.refl 66272255 s
  unfold execAdmitCheck
  refine Runs.next ?_
  refine (State.rowWrite_keeps _ _ _ _).lift rfl ?_
  assumption

theorem State.axisCommand_keeps (s) (w) (n) (code) (seq) : Keeps 66272255 s (State.axisCommand s w n code seq) := by
  have h0 := Keeps.refl 66272255 s
  unfold State.axisCommand
  refine (State.rowWrite_keeps _ _ _ _).lift rfl ?_
  assumption

theorem execSwitchOn_keeps (w) (n) (seq) (s) : Runs 66272255 s (execSwitchOn w n seq s) := by
  have h0 := Keeps.refl 66272255 s
  unfold execSwitchOn
  refine Runs.next ?_
  refine (State.axisCommand_keeps _ _ _ _ _).lift rfl ?_
  assumption

theorem execSwitchOff_keeps (w) (n) (seq) (s) : Runs 66272255 s (execSwitchOff w n seq s) := by
  have h0 := Keeps.refl 66272255 s
  unfold execSwitchOff
  refine Runs.next ?_
  refine (State.axisCommand_keeps _ _ _ _ _).lift rfl ?_
  assumption

theorem execEnable_keeps (w) (n) (seq) (s) : Runs 66272255 s (execEnable w n seq s) := by
  have h0 := Keeps.refl 66272255 s
  unfold execEnable
  refine Runs.next ?_
  refine (State.axisCommand_keeps _ _ _ _ _).lift rfl ?_
  assumption

theorem execDisable_keeps (w) (n) (seq) (s) : Runs 66272255 s (execDisable w n seq s) := by
  have h0 := Keeps.refl 66272255 s
  unfold execDisable
  refine Runs.next ?_
  refine (State.axisCommand_keeps _ _ _ _ _).lift rfl ?_
  assumption

theorem execSetup_keeps (w) (n) (seq) (s) : Runs 66272255 s (execSetup w n seq s) := by
  have h0 := Keeps.refl 66272255 s
  unfold execSetup
  refine Runs.next ?_
  refine (State.axisCommand_keeps _ _ _ _ _).lift rfl ?_
  assumption

theorem execMove_keeps (w) (n) (seq) (s) : Runs 66272255 s (execMove w n seq s) := by
  have h0 := Keeps.refl 66272255 s
  unfold execMove
  refine Runs.next ?_
  refine (State.axisCommand_keeps _ _ _ _ _).lift rfl ?_
  assumption

theorem execVelocity_keeps (w) (n) (seq) (s) : Runs 66272255 s (execVelocity w n seq s) := by
  have h0 := Keeps.refl 66272255 s
  unfold execVelocity
  refine Runs.next ?_
  refine (State.axisCommand_keeps _ _ _ _ _).lift rfl ?_
  assumption

theorem execReplace_keeps (w) (n) (seq) (s) : Runs 66272255 s (execReplace w n seq s) := by
  have h0 := Keeps.refl 66272255 s
  unfold execReplace
  refine Runs.next ?_
  refine (State.axisCommand_keeps _ _ _ _ _).lift rfl ?_
  assumption

theorem execStop_keeps (w) (n) (seq) (s) : Runs 66272255 s (execStop w n seq s) := by
  have h0 := Keeps.refl 66272255 s
  unfold execStop
  refine Runs.next ?_
  refine (State.axisCommand_keeps _ _ _ _ _).lift rfl ?_
  assumption

theorem execQuickStop_keeps (w) (n) (seq) (s) : Runs 66272255 s (execQuickStop w n seq s) := by
  have h0 := Keeps.refl 66272255 s
  unfold execQuickStop
  refine Runs.next ?_
  refine (State.axisCommand_keeps _ _ _ _ _).lift rfl ?_
  assumption

theorem execHome_keeps (w) (n) (seq) (s) : Runs 66272255 s (execHome w n seq s) := by
  have h0 := Keeps.refl 66272255 s
  unfold execHome
  refine Runs.next ?_
  refine (State.axisCommand_keeps _ _ _ _ _).lift rfl ?_
  assumption

theorem execFollow_keeps (w) (n) (seq) (s) : Runs 66272255 s (execFollow w n seq s) := by
  have h0 := Keeps.refl 66272255 s
  unfold execFollow
  refine Runs.next ?_
  refine (State.axisCommand_keeps _ _ _ _ _).lift rfl ?_
  assumption

theorem execResetFault_keeps (w) (n) (seq) (s) : Runs 66272255 s (execResetFault w n seq s) := by
  have h0 := Keeps.refl 66272255 s
  unfold execResetFault
  refine Runs.next ?_
  refine (State.axisCommand_keeps _ _ _ _ _).lift rfl ?_
  assumption

theorem execBadCommand_keeps (w) (n) (code) (seq) (s) : Runs 66272255 s (execBadCommand w n code seq s) := by
  have h0 := Keeps.refl 66272255 s
  unfold execBadCommand
  refine Runs.next ?_
  refine (State.axisCommand_keeps _ _ _ _ _).lift rfl ?_
  assumption

theorem execTargetVelocity_keeps (w) (n) (s) : Runs 66272255 s (execTargetVelocity w n s) := by
  have h0 := Keeps.refl 66272255 s
  unfold execTargetVelocity
  refine Runs.next ?_
  refine (State.rowWrite_keeps _ _ _ _).lift rfl ?_
  assumption

theorem execProfileParameterWrite_keeps (w) (n) (which) (s) : Runs 66272255 s (execProfileParameterWrite w n which s) := by
  have h0 := Keeps.refl 66272255 s
  unfold execProfileParameterWrite
  refine Runs.next ?_
  refine (State.rowWrite_keeps _ _ _ _).lift rfl ?_
  assumption

theorem execGearRatioWrite_keeps (w) (n) (den) (s) : Runs 66272255 s (execGearRatioWrite w n den s) := by
  have h0 := Keeps.refl 66272255 s
  unfold execGearRatioWrite
  refine Runs.next ?_
  refine (State.rowWrite_keeps _ _ _ _).lift rfl ?_
  assumption

theorem execCamNext_keeps (w) (n) (s) : Runs 66272255 s (execCamNext w n s) := by
  have h0 := Keeps.refl 66272255 s
  unfold execCamNext
  refine Runs.next ?_
  refine (State.rowWrite_keeps _ _ _ _).lift rfl ?_
  assumption

theorem execTableDataWrite_keeps (w) (t) (header) (s) : Runs 66272255 s (execTableDataWrite w t header s) := by
  have h0 := Keeps.refl 66272255 s
  unfold execTableDataWrite
  refine Runs.next ?_
  refine (State.rowWrite_keeps _ _ _ _).lift rfl ?_
  assumption

theorem execFinish_keeps (w) (t) (s) : Runs 66272255 s (execFinish w t s) := by
  have h0 := Keeps.refl 66272255 s
  unfold execFinish
  refine Runs.next ?_
  refine (State.rowWrite_keeps _ _ _ _).lift rfl ?_
  assumption

theorem execRegReset_keeps (w) (n) (s) : Runs 66272255 s (execRegReset w n s) := by
  have h0 := Keeps.refl 66272255 s
  unfold execRegReset
  refine Runs.next ?_
  refine (State.rowWrite_keeps _ _ _ _).lift rfl ?_
  assumption

theorem execAcqStart_keeps (w) (s) : Runs 66272255 s (execAcqStart w s) := by
  have h0 := Keeps.refl 66272255 s
  unfold execAcqStart
  refine Runs.next ?_
  refine (State.rowWrite_keeps _ _ _ _).lift rfl ?_
  assumption

theorem execAcqStop_keeps (w) (s) : Runs 66272255 s (execAcqStop w s) := by
  have h0 := Keeps.refl 66272255 s
  unfold execAcqStop
  refine Runs.next ?_
  refine (State.rowWrite_keeps _ _ _ _).lift rfl ?_
  assumption

theorem execAcqForce_keeps (w) (s) : Runs 66272255 s (execAcqForce w s) := by
  have h0 := Keeps.refl 66272255 s
  unfold execAcqForce
  refine Runs.next ?_
  refine (State.rowWrite_keeps _ _ _ _).lift rfl ?_
  assumption

theorem execSegReleased_keeps (w) (s) : Runs 66272255 s (execSegReleased w s) := by
  have h0 := Keeps.refl 66272255 s
  unfold execSegReleased
  refine Runs.next ?_
  refine (State.rowWrite_keeps _ _ _ _).lift rfl ?_
  assumption

theorem execDoSet_keeps (w) (s) : Runs 66272255 s (execDoSet w s) := by
  have h0 := Keeps.refl 66272255 s
  unfold execDoSet
  refine Runs.next ?_
  refine (State.rowWrite_keeps _ _ _ _).lift rfl ?_
  assumption

theorem execDoShortClear_keeps (w) (s) : Runs 66272255 s (execDoShortClear w s) := by
  have h0 := Keeps.refl 66272255 s
  unfold execDoShortClear
  refine Runs.next ?_
  refine (State.rowWrite_keeps _ _ _ _).lift rfl ?_
  assumption

theorem State.packetRow_keeps (s) (w) (p) (typ) (b) : Keeps 37751795 s (State.packetRow s w p typ b) := by
  have h0 := Keeps.refl 37751795 s
  unfold State.packetRow
  refine State.rowEffect_keeps _ _ _ rfl ?_ (fun t1 h2 => ?_)
  · assumption
  · refine (State.packetWrite_keeps _ _ _).lift rfl ?_
    assumption

theorem execClaim_keeps (w) (p) (key) (s) : Runs 37751795 s (execClaim w p key s) := by
  have h0 := Keeps.refl 37751795 s
  unfold execClaim
  refine Runs.next ?_
  refine (State.packetRow_keeps _ _ _ _ _).lift rfl ?_
  assumption

theorem execTransfer_keeps (w) (p) (key) (s) : Runs 37751795 s (execTransfer w p key s) := by
  have h0 := Keeps.refl 37751795 s
  unfold execTransfer
  refine Runs.next ?_
  refine (State.packetRow_keeps _ _ _ _ _).lift rfl ?_
  assumption

theorem execSealedParams_keeps (w) (p) (entries) (s) : Runs 37751795 s (execSealedParams w p entries s) := by
  have h0 := Keeps.refl 37751795 s
  unfold execSealedParams
  refine Runs.next ?_
  refine (State.packetRow_keeps _ _ _ _ _).lift rfl ?_
  assumption

theorem execKeyLoad_keeps (w) (p) (entries) (s) : Runs 37751795 s (execKeyLoad w p entries s) := by
  have h0 := Keeps.refl 37751795 s
  unfold execKeyLoad
  refine Runs.next ?_
  refine (State.packetRow_keeps _ _ _ _ _).lift rfl ?_
  assumption

theorem execRevoke_keeps (w) (p) (serials) (s) : Runs 37751795 s (execRevoke w p serials s) := by
  have h0 := Keeps.refl 37751795 s
  unfold execRevoke
  refine Runs.next ?_
  refine (State.packetRow_keeps _ _ _ _ _).lift rfl ?_
  assumption

theorem execTwinPairing_keeps (w) (p) (pairId) (partner) (s) : Runs 37751795 s (execTwinPairing w p pairId partner s) := by
  have h0 := Keeps.refl 37751795 s
  unfold execTwinPairing
  refine Runs.next ?_
  refine (State.packetRow_keeps _ _ _ _ _).lift rfl ?_
  assumption

theorem execUnlock_keeps (w) (p) (s) : Runs 37751795 s (execUnlock w p s) := by
  have h0 := Keeps.refl 37751795 s
  unfold execUnlock
  refine Runs.next ?_
  refine (State.packetRow_keeps _ _ _ _ _).lift rfl ?_
  assumption

theorem execDebugUnlock_keeps (w) (p) (level) (duration) (s) : Runs 37751795 s (execDebugUnlock w p level duration s) := by
  have h0 := Keeps.refl 37751795 s
  unfold execDebugUnlock
  refine Runs.next ?_
  refine (State.packetRow_keeps _ _ _ _ _).lift rfl ?_
  assumption

theorem execPacketIn_keeps (w) (s) : Runs 66272255 s (execPacketIn w s) := by
  have h0 := Keeps.refl 66272255 s
  unfold execPacketIn
  refine Runs.next ?_
  refine (State.rowWrite_keeps _ _ _ _).lift rfl ?_
  assumption

theorem State.sessionRow_keeps {m : Nat} {s0 s : State} (w : Wr) (session : Nat) (f : State → State × Nat × Bytes)
    (hm : 33554897 ||| m = m) (h : Keeps m s0 s) (hf : ∀ t, Keeps m s0 t → Keeps m s0 (f t).1) :
    Keeps m s0 (s.sessionRow w session f) := by
  have low (a : Nat) (ha : a ||| 33554897 = 33554897) : a ||| m = m := by rw [← hm, ← Nat.or_assoc, ha]
  unfold State.sessionRow
  split
  · exact h
  dsimp only
  refine State.gated_keeps _ _ _ (low _ (by rfl)) h (fun t ht => ?_)
  split
  · exact (State.busy_keeps ..).lift (low _ (by rfl)) ht
  have h2 := hf t ht
  split
  · split
    · exact (State.answer_keeps ..).lift (low _ (by rfl)) ht
    generalize f t = x at h2
    obtain ⟨u, code, out⟩ := x
    refine (State.answer_keeps ..).lift (low _ (by rfl)) (Keeps.ite ?_ h2)
    exact (State.modDict_keeps _ _ (fun h => ((State.canonical_iff _).mp h).2.2.2.2.2)).lift (low _ (by rfl)) h2
  · generalize f t = x at h2
    obtain ⟨u, code, out⟩ := x
    exact (State.answer_keeps ..).lift (low _ (by rfl)) h2

theorem execHello_keeps (w) (role) (cred) (s) : Runs 33554897 s (execHello w role cred s) := by
  have h0 := Keeps.refl 33554897 s
  unfold execHello
  refine Runs.next ?_
  refine State.sessionRow_keeps _ _ _ rfl ?_ (fun t1 h2 => ?_)
  · assumption
  · refine (State.hello_keeps _ _ _ _ _).lift rfl ?_
    assumption

theorem execSessionFinish_keeps (w) (s) : Runs 33554897 s (execSessionFinish w s) := by
  have h0 := Keeps.refl 33554897 s
  unfold execSessionFinish
  refine Runs.next ?_
  refine State.sessionRow_keeps _ _ _ rfl ?_ (fun t1 h2 => ?_)
  · assumption
  · refine (State.finish_keeps _ _ _ _).lift rfl ?_
    assumption

theorem execSessionClose_keeps (w) (id) (s) : Runs 33554897 s (execSessionClose w id s) := by
  have h0 := Keeps.refl 33554897 s
  unfold execSessionClose
  refine Runs.next ?_
  refine State.sessionRow_keeps _ _ _ rfl ?_ (fun t1 h2 => ?_)
  · assumption
  · refine (State.closeMsg_keeps _ _ _).lift rfl ?_
    assumption

theorem execHandshake_keeps (w) (c) (s) : Runs 66272255 s (execHandshake w c s) := by
  have h0 := Keeps.refl 66272255 s
  unfold execHandshake
  refine Runs.next ?_
  refine (State.rowWrite_keeps _ _ _ _).lift rfl ?_
  assumption

theorem execFwImage_keeps (w) (offset) (s) : Runs 33554897 s (execFwImage w offset s) := by
  have h0 := Keeps.refl 33554897 s
  unfold execFwImage
  refine Runs.next ?_
  refine State.rowEffect_keeps _ _ _ rfl ?_ (fun t1 h2 => ?_)
  · assumption
  · refine (State.fwImage_keeps _ _ _ _).lift rfl ?_
    assumption

theorem execNextSlot_keeps (w) (s) : Runs 66272255 s (execNextSlot w s) := by
  have h0 := Keeps.refl 66272255 s
  unfold execNextSlot
  refine Runs.next ?_
  refine (State.rowWrite_keeps _ _ _ _).lift rfl ?_
  assumption

theorem execFwConfirm_keeps (w) (s) : Runs 66272255 s (execFwConfirm w s) := by
  have h0 := Keeps.refl 66272255 s
  unfold execFwConfirm
  refine Runs.next ?_
  refine (State.rowWrite_keeps _ _ _ _).lift rfl ?_
  assumption

theorem execObjectWrite_keeps (w) (index) (sub) (s) : Runs 66272255 s (execObjectWrite w index sub s) := by
  have h0 := Keeps.refl 66272255 s
  unfold execObjectWrite
  refine Runs.next ?_
  refine (State.rowWrite_keeps _ _ _ _).lift rfl ?_
  assumption

theorem execCommit_keeps (w) (s) : Runs 66272255 s (execCommit w s) := by
  have h0 := Keeps.refl 66272255 s
  unfold execCommit
  refine Runs.next ?_
  refine (State.rowWrite_keeps _ _ _ _).lift rfl ?_
  assumption

theorem execStore_keeps (w) (s) : Runs 66272255 s (execStore w s) := by
  have h0 := Keeps.refl 66272255 s
  unfold execStore
  refine Runs.next ?_
  refine (State.rowWrite_keeps _ _ _ _).lift rfl ?_
  assumption

theorem execRestoreDefaults_keeps (w) (s) : Runs 66272255 s (execRestoreDefaults w s) := by
  have h0 := Keeps.refl 66272255 s
  unfold execRestoreDefaults
  refine Runs.next ?_
  refine (State.rowWrite_keeps _ _ _ _).lift rfl ?_
  assumption

theorem execTxRequest_keeps (w) (c) (n) (s) : Runs 66272255 s (execTxRequest w c n s) := by
  have h0 := Keeps.refl 66272255 s
  unfold execTxRequest
  refine Runs.next ?_
  refine (State.rowWrite_keeps _ _ _ _).lift rfl ?_
  assumption

theorem execCancel_keeps (w) (c) (n) (s) : Runs 66272255 s (execCancel w c n s) := by
  have h0 := Keeps.refl 66272255 s
  unfold execCancel
  refine Runs.next ?_
  refine (State.rowWrite_keeps _ _ _ _).lift rfl ?_
  assumption

theorem execRecover_keeps (w) (c) (s) : Runs 66272255 s (execRecover w c s) := by
  have h0 := Keeps.refl 66272255 s
  unfold execRecover
  refine Runs.next ?_
  refine (State.rowWrite_keeps _ _ _ _).lift rfl ?_
  assumption

theorem execMstTx_keeps (w) (p) (s) : Runs 66272255 s (execMstTx w p s) := by
  have h0 := Keeps.refl 66272255 s
  unfold execMstTx
  refine Runs.next ?_
  refine (State.rowWrite_keeps _ _ _ _).lift rfl ?_
  assumption

theorem execHandover_keeps (w) (s) : Runs 66272255 s (execHandover w s) := by
  have h0 := Keeps.refl 66272255 s
  unfold execHandover
  refine Runs.next ?_
  refine (State.rowWrite_keeps _ _ _ _).lift rfl ?_
  assumption

theorem execResetRequest_keeps (w) (s) : Runs 66272255 s (execResetRequest w s) := by
  have h0 := Keeps.refl 66272255 s
  unfold execResetRequest
  refine Runs.next ?_
  refine (State.rowWrite_keeps _ _ _ _).lift rfl ?_
  assumption

theorem execStandbyRequest_keeps (w) (s) : Runs 66272255 s (execStandbyRequest w s) := by
  have h0 := Keeps.refl 66272255 s
  unfold execStandbyRequest
  refine Runs.next ?_
  refine (State.rowWrite_keeps _ _ _ _).lift rfl ?_
  assumption

theorem execCalSave_keeps (w) (s) : Runs 66272255 s (execCalSave w s) := by
  have h0 := Keeps.refl 66272255 s
  unfold execCalSave
  refine Runs.next ?_
  refine (State.rowWrite_keeps _ _ _ _).lift rfl ?_
  assumption

theorem execCalImport_keeps (w) (s) : Runs 66272255 s (execCalImport w s) := by
  have h0 := Keeps.refl 66272255 s
  unfold execCalImport
  refine Runs.next ?_
  refine (State.rowWrite_keeps _ _ _ _).lift rfl ?_
  assumption

theorem execCalDiscard_keeps (w) (s) : Runs 66272255 s (execCalDiscard w s) := by
  have h0 := Keeps.refl 66272255 s
  unfold execCalDiscard
  refine Runs.next ?_
  refine (State.rowWrite_keeps _ _ _ _).lift rfl ?_
  assumption

theorem State.readRequest_keeps (s) (c) : Keeps 33554897 s (State.readRequest s c) := by
  have h0 := Keeps.refl 33554897 s
  unfold State.readRequest
  refine Keeps.ite ?_ ?_
  · refine (State.busy_keeps _ _).lift rfl ?_
    assumption
  · split
    rename_i x1 x2 x3 x4 x5
    have h6 : Keeps 33554897 s x2 := by
      refine Keeps.of_eq (congrArg Prod.fst x5) ?_
      refine (State.readObject_keeps _ _ _ _).lift rfl ?_
      assumption
    refine Keeps.ite ?_ ?_
    · refine (State.answer_keeps _ _ _ _).lift rfl ?_
      assumption
    · refine (State.answer_keeps _ _ _ _).lift rfl ?_
      assumption

theorem State.rowRead_keeps (s) (w) (k) : Keeps 33554897 s (State.rowRead s w k) := by
  have h0 := Keeps.refl 33554897 s
  unfold State.rowRead
  refine Keeps.ite ?_ ?_
  · assumption
  · lift_lets -underBinder
    intro v1
    intro v2
    refine State.gated_keeps _ _ _ rfl ?_ (fun t3 h4 => ?_)
    · assumption
    · refine Keeps.ite ?_ ?_
      · refine (State.busy_keeps _ _).lift rfl ?_
        assumption
      · split
        rename_i x5 x6 x7 x8 x9
        have h10 : Keeps 33554897 s x6 := by
          refine Keeps.of_eq (congrArg Prod.fst x9) ?_
          refine (State.readObject_keeps _ _ _ _).lift rfl ?_
          assumption
        refine (State.answer_keeps _ _ _ _).lift rfl ?_
        assumption

theorem execAuditExport_keeps (w) (s) : Runs 33554897 s (execAuditExport w s) := by
  have h0 := Keeps.refl 33554897 s
  unfold execAuditExport
  refine Runs.next ?_
  refine (State.rowRead_keeps _ _ _).lift rfl ?_
  assumption

theorem execCalExport_keeps (w) (s) : Runs 33554897 s (execCalExport w s) := by
  have h0 := Keeps.refl 33554897 s
  unfold execCalExport
  refine Runs.next ?_
  refine (State.rowRead_keeps _ _ _).lift rfl ?_
  assumption

theorem State.endXfer_keeps (s) (c) (write) : Keeps 128 s (State.endXfer s c write) := by
  have h0 := Keeps.refl 128 s
  unfold State.endXfer
  refine (State.modDict_keeps _ _ ?_).lift rfl ?_
  · exact fun h => ((State.canonical_iff _).mp h).2.2.2.2.2
  · assumption

theorem State.setXfer_keeps (s) (c) (x) : Keeps 128 s (State.setXfer s c x) := by
  have h0 := Keeps.refl 128 s
  unfold State.setXfer
  refine (State.modDict_keeps _ _ ?_).lift rfl ?_
  · exact fun h => ((State.canonical_iff _).mp h).2.2.2.2.2
  · refine (State.endXfer_keeps _ _ _).lift rfl ?_
    assumption

theorem State.fwSegment_keeps (s) (c) (vd) (off) (last) (b) : Keeps 449 s (Prod.fst (State.fwSegment s c vd off last b)) := by
  have h0 := Keeps.refl 449 s
  unfold State.fwSegment
  lift_lets -underBinder
  intro v1
  have h2 : Keeps 449 s (Res.st v1) := by
    subst v1
    refine (State.fwImage_keeps _ _ _ _).lift rfl ?_
    assumption
  clear_value v1
  split
  · dsimp -zeta only
    refine (State.endXfer_keeps _ _ _).lift rfl ?_
    assumption
  · dsimp -zeta only
    refine (State.setXfer_keeps _ _ _).lift rfl ?_
    assumption

theorem State.writeSegment_keeps (s) (c) (vd) (off) (last) (b) : Keeps 66272239 s (Prod.fst (State.writeSegment s c vd off last b)) := by
  have h0 := Keeps.refl 66272239 s
  unfold State.writeSegment
  lift_lets -underBinder
  intro v1
  intro v2
  split
  · lift_lets -underBinder
    intro v5
    split
    · dsimp -zeta only
      assumption
    · split
      · dsimp -zeta only
        assumption
      · split
        · refine (State.fwSegment_keeps _ _ _ _ _ _).lift rfl ?_
          assumption
        · split
          · split
            rename_i x13 x14 x15 x16
            have h17 : Keeps 66272239 s x14 := by
              refine Keeps.of_eq (congrArg Prod.fst x16) ?_
              refine (State.writeObject_keeps _ _ _ _ _ _ _ _).lift rfl ?_
              assumption
            dsimp -zeta only
            assumption
          · dsimp -zeta only
            refine (State.setXfer_keeps _ _ _).lift rfl ?_
            assumption
  · lift_lets -underBinder
    intro v22
    have h23 : Keeps 66272239 s v22 := by
      subst v22
      refine (State.endXfer_keeps _ _ _).lift rfl ?_
      assumption
    clear_value v22
    intro v24
    split
    · dsimp -zeta only
      assumption
    · split
      · dsimp -zeta only
        assumption
      · split
        · dsimp -zeta only
          assumption
        · split
          · refine (State.fwSegment_keeps _ _ _ _ _ _).lift rfl ?_
            assumption
          · split
            · split
              rename_i x34 x35 x36 x37
              have h38 : Keeps 66272239 s x35 := by
                refine Keeps.of_eq (congrArg Prod.fst x37) ?_
                refine (State.writeObject_keeps _ _ _ _ _ _ _ _).lift rfl ?_
                assumption
              dsimp -zeta only
              assumption
            · dsimp -zeta only
              refine (State.setXfer_keeps _ _ _).lift rfl ?_
              assumption

theorem State.readSegment_keeps (s) (c) (off) : Keeps 129 s (Prod.fst (State.readSegment s c off)) := by
  have h0 := Keeps.refl 129 s
  unfold State.readSegment
  lift_lets -underBinder
  intro v1
  split
  · split
    · dsimp -zeta only
      refine (State.endXfer_keeps _ _ _).lift rfl ?_
      assumption
    · split
      · dsimp -zeta only
        refine (State.endXfer_keeps _ _ _).lift rfl ?_
        assumption
      · subst v1
        dsimp -zeta only
        lift_lets -underBinder
        intro v9
        dsimp -zeta only
        refine Keeps.ite ?_ ?_
        · refine (State.endXfer_keeps _ _ _).lift rfl ?_
          assumption
        · refine (State.setXfer_keeps _ _ _).lift rfl ?_
          assumption
  · split
    · dsimp -zeta only
      assumption
    · split
      rename_i x14 x15 x16 x17 x18
      have h19 : Keeps 129 s x15 := by
        refine Keeps.of_eq (congrArg Prod.fst x18) ?_
        refine (State.readObject_keeps _ _ _ _).lift rfl ?_
        assumption
      split
      · dsimp -zeta only
        assumption
      · subst v1
        dsimp -zeta only
        lift_lets -underBinder
        intro v22
        dsimp -zeta only
        refine Keeps.ite ?_ ?_
        · refine (State.endXfer_keeps _ _ _).lift rfl ?_
          assumption
        · refine (State.setXfer_keeps _ _ _).lift rfl ?_
          assumption

theorem execSegmentTimeout_keeps (chan) (session) (index) (sub) (s) : Runs 128 s (execSegmentTimeout chan session index sub s) := by
  have h0 := Keeps.refl 128 s
  unfold execSegmentTimeout
  refine Runs.next ?_
  refine (State.modDict_keeps _ _ ?_).lift rfl ?_
  · exact fun h => ((State.canonical_iff _).mp h).2.2.2.2.2
  · assumption

theorem State.dgramOp_keeps (s) (c) (d) : Keeps 66272255 s (State.dgramOp s c d) := by
  have h0 := Keeps.refl 66272255 s
  unfold State.dgramOp
  refine Keeps.ite ?_ ?_
  · refine (State.busy_keeps _ _).lift rfl ?_
    assumption
  · split
    · refine (State.readRequest_keeps _ _).lift rfl ?_
      assumption
    · refine (State.writeRequest_keeps _ _ _ _).lift rfl ?_
      assumption
    · split
      rename_i x7 x8 x9 x10 x11 x12
      have h13 : Keeps 66272255 s x8 := by
        refine Keeps.of_eq (congrArg Prod.fst x12) ?_
        refine (State.readSegment_keeps _ _ _).lift rfl ?_
        assumption
      refine (State.answer_keeps _ _ _ _).lift rfl ?_
      assumption
    · split
      rename_i x16 x17 x18 x19
      have h20 : Keeps 66272255 s x17 := by
        refine Keeps.of_eq (congrArg Prod.fst x19) ?_
        refine (State.writeSegment_keeps _ _ _ _ _ _).lift rfl ?_
        assumption
      refine (State.answer_keeps _ _ _ _).lift rfl ?_
      assumption
    · split
      rename_i x26 x27 x28 x29 x30
      have h31 : Keeps 66272255 s x27 := by
        refine Keeps.of_eq (congrArg Prod.fst x30) ?_
        refine (State.sessionMessage_keeps _ _ _ _ _).lift rfl ?_
        assumption
      refine (State.answer_keeps _ _ _ _).lift rfl ?_
      assumption

theorem State.datagram_keeps (s) (ch) (op) (d) : Keeps 66272255 s (State.datagram s ch op d) := by
  have h0 := Keeps.refl 66272255 s
  unfold State.datagram
  refine Keeps.ite ?_ ?_
  · refine (State.dropRequest_keeps _ _).lift rfl ?_
    assumption
  · refine Keeps.ite ?_ ?_
    · refine (State.dropRequest_keeps _ _).lift rfl ?_
      refine (State.bump_keeps _ _).lift rfl ?_
      assumption
    · lift_lets -underBinder
      intro v1
      refine Keeps.ite ?_ ?_
      · refine (State.dgramOp_keeps _ _ _).lift rfl ?_
        assumption
      · refine State.gated_keeps _ _ _ rfl ?_ (fun t2 h3 => ?_)
        · assumption
        · refine (State.dgramOp_keeps _ _ _).lift rfl ?_
          assumption

theorem State.quinup_keeps (s) (op) (d) : Keeps 66272255 s (State.quinup s op d) := by
  have h0 := Keeps.refl 66272255 s
  unfold State.quinup
  refine Keeps.ite ?_ ?_
  · refine (State.datagram_keeps _ _ _ _).lift rfl ?_
    assumption
  · assumption

theorem execQuinupRead_keeps (d) (s) : Runs 66272255 s (execQuinupRead d s) := by
  have h0 := Keeps.refl 66272255 s
  unfold execQuinupRead
  refine Runs.next ?_
  refine (State.quinup_keeps _ _ _).lift rfl ?_
  assumption

theorem execQuinupWrite_keeps (d) (s) : Runs 66272255 s (execQuinupWrite d s) := by
  have h0 := Keeps.refl 66272255 s
  unfold execQuinupWrite
  refine Runs.next ?_
  refine (State.quinup_keeps _ _ _).lift rfl ?_
  assumption

theorem execQuinupReadSegment_keeps (d) (s) : Runs 66272255 s (execQuinupReadSegment d s) := by
  have h0 := Keeps.refl 66272255 s
  unfold execQuinupReadSegment
  refine Runs.next ?_
  refine (State.quinup_keeps _ _ _).lift rfl ?_
  assumption

theorem execQuinupWriteSegment_keeps (d) (s) : Runs 66272255 s (execQuinupWriteSegment d s) := by
  have h0 := Keeps.refl 66272255 s
  unfold execQuinupWriteSegment
  refine Runs.next ?_
  refine (State.quinup_keeps _ _ _).lift rfl ?_
  assumption

theorem execQuinupSession_keeps (d) (s) : Runs 66272255 s (execQuinupSession d s) := by
  have h0 := Keeps.refl 66272255 s
  unfold execQuinupSession
  refine Runs.next ?_
  refine (State.quinup_keeps _ _ _).lift rfl ?_
  assumption

theorem State.sdoEnd_keeps (s) (c) : Keeps 128 s (State.sdoEnd s c) := by
  have h0 := Keeps.refl 128 s
  unfold State.sdoEnd
  refine (State.modDict_keeps _ _ ?_).lift rfl ?_
  · exact fun h => ((State.canonical_iff _).mp h).2.2.2.2.2
  · assumption

theorem State.sdoDownload_keeps (s) (c) (x) (b) (vd) : Keeps 66272255 s (State.sdoDownload s c x b vd) := by
  have h0 := Keeps.refl 66272255 s
  unfold State.sdoDownload
  lift_lets -underBinder
  intro v1
  intro v2
  have h3 : Keeps 66272255 s v2 := by
    subst v2
    refine (State.sdoEnd_keeps _ _).lift rfl ?_
    assumption
  clear_value v2
  intro v4
  intro v5
  intro v6
  refine Keeps.ite ?_ ?_
  · refine (State.writeRequest_keeps _ _ _ _).lift rfl ?_
    assumption
  · refine Keeps.ite ?_ ?_
    · refine (State.answer_keeps _ _ _ _).lift rfl ?_
      assumption
    · refine (State.answer_keeps _ _ _ _).lift rfl ?_
      refine (State.setXfer_keeps _ _ _).lift rfl ?_
      assumption

theorem State.sdoDownSegment_keeps (s) (c) (x) (b) (vd) : Keeps 66272255 s (State.sdoDownSegment s c x b vd) := by
  have h0 := Keeps.refl 66272255 s
  unfold State.sdoDownSegment
  lift_lets -underBinder
  intro v1
  split
  · refine (State.answer_keeps _ _ _ _).lift rfl ?_
    assumption
  · lift_lets -underBinder
    intro v7
    intro v8
    intro v9
    have h10 : Keeps 66272255 s v9 := by
      subst v9
      refine (State.sdoEnd_keeps _ _).lift rfl ?_
      assumption
    clear_value v9
    refine Keeps.ite ?_ ?_
    · refine (State.answer_keeps _ _ _ _).lift rfl ?_
      refine (State.sdoEnd_keeps _ _).lift rfl ?_
      assumption
    · refine Keeps.ite ?_ ?_
      · refine (State.answer_keeps _ _ _ _).lift rfl ?_
        refine (State.sdoEnd_keeps _ _).lift rfl ?_
        assumption
      · refine Keeps.ite ?_ ?_
        · refine Keeps.ite ?_ ?_
          · refine (State.answer_keeps _ _ _ _).lift rfl ?_
            assumption
          · split
            · rename_i x11 x12 x13 x14
              have h15 : Keeps 66272255 s x12 := by
                refine Keeps.of_eq (congrArg Prod.fst x14) ?_
                refine (State.writeObject_keeps _ _ _ _ _ _ _ _).lift rfl ?_
                assumption
              refine (State.answer_keeps _ _ _ _).lift rfl ?_
              assumption
            · rename_i x16 x17 x18
              have h19 : Keeps 66272255 s x17 := by
                refine Keeps.of_eq (congrArg Prod.fst x18) ?_
                refine (State.writeObject_keeps _ _ _ _ _ _ _ _).lift rfl ?_
                assumption
              assumption
        · refine (State.answer_keeps _ _ _ _).lift rfl ?_
          refine (State.setXfer_keeps _ _ _).lift rfl ?_
          assumption

theorem State.sdoUpload_keeps (s) (c) (x) : Keeps 33554897 s (State.sdoUpload s c x) := by
  have h0 := Keeps.refl 33554897 s
  unfold State.sdoUpload
  lift_lets -underBinder
  intro v1
  have h2 : Keeps 33554897 s v1 := by
    subst v1
    refine (State.sdoEnd_keeps _ _).lift rfl ?_
    assumption
  clear_value v1
  split
  rename_i x3 x4 x5 x6 x7
  have h8 : Keeps 33554897 s x4 := by
    refine Keeps.of_eq (congrArg Prod.fst x7) ?_
    refine (State.readObject_keeps _ _ _ _).lift rfl ?_
    assumption
  refine Keeps.ite ?_ ?_
  · refine (State.answer_keeps _ _ _ _).lift rfl ?_
    assumption
  · lift_lets -underBinder
    intro v9
    refine (State.answer_keeps _ _ _ _).lift rfl ?_
    refine (State.setXfer_keeps _ _ _).lift rfl ?_
    assumption

theorem State.sdoUpSegment_keeps (s) (c) (x) (b) : Keeps 33554897 s (State.sdoUpSegment s c x b) := by
  have h0 := Keeps.refl 33554897 s
  unfold State.sdoUpSegment
  lift_lets -underBinder
  intro v1
  split
  · refine (State.answer_keeps _ _ _ _).lift rfl ?_
    assumption
  · lift_lets -underBinder
    intro v7
    intro v8
    intro v9
    intro v10
    intro v11
    have h12 : Keeps 33554897 s v11 := by
      subst v11
      refine Keeps.ite ?_ ?_
      · refine (State.sdoEnd_keeps _ _).lift rfl ?_
        assumption
      · refine (State.setXfer_keeps _ _ _).lift rfl ?_
        assumption
    clear_value v11
    intro v13
    refine Keeps.ite ?_ ?_
    · refine (State.answer_keeps _ _ _ _).lift rfl ?_
      refine (State.sdoEnd_keeps _ _).lift rfl ?_
      assumption
    · refine Keeps.ite ?_ ?_
      · refine (State.answer_keeps _ _ _ _).lift rfl ?_
        refine (State.sdoEnd_keeps _ _).lift rfl ?_
        assumption
      · refine (State.canSend_keeps _ _ _ _).lift rfl ?_
        assumption

theorem State.sdoRequest_keeps (s) (c) (session) (fresh) (b) (vd) : Keeps 66272255 s (State.sdoRequest s c session fresh b vd) := by
  have h0 := Keeps.refl 66272255 s
  unfold State.sdoRequest
  lift_lets -underBinder
  intro v1
  refine Keeps.ite ?_ ?_
  · refine (State.sdoEnd_keeps _ _).lift rfl ?_
    assumption
  · refine Keeps.ite ?_ ?_
    · refine (State.busy_keeps _ _).lift rfl ?_
      assumption
    · split
      · refine (State.sdoDownSegment_keeps _ _ _ _ _).lift rfl ?_
        assumption
      · refine (State.sdoDownload_keeps _ _ _ _ _).lift rfl ?_
        assumption
      · refine (State.sdoUpload_keeps _ _ _).lift rfl ?_
        assumption
      · refine (State.sdoUpSegment_keeps _ _ _ _).lift rfl ?_
        assumption
      · refine (State.answer_keeps _ _ _ _).lift rfl ?_
        assumption

theorem State.sdoFrame_keeps (s) (c) (id) (b) (macOk) (vd) : Keeps 66272255 s (State.sdoFrame s c id b macOk vd) := by
  have h0 := Keeps.refl 66272255 s
  unfold State.sdoFrame
  lift_lets -underBinder
  intro v1
  intro v2
  refine Keeps.ite ?_ ?_
  · assumption
  · refine Keeps.ite ?_ ?_
    · assumption
    · refine Keeps.ite ?_ ?_
      · refine Keeps.ite ?_ ?_
        · refine (State.sdoRequest_keeps _ _ _ _ _ _).lift rfl ?_
          assumption
        · assumption
      · split
        · refine Keeps.ite ?_ ?_
          · refine (State.sdoRequest_keeps _ _ _ _ _ _).lift rfl ?_
            refine (State.acceptFresh_keeps _ _ _ _).lift rfl ?_
            assumption
          · refine (State.sessionFail_keeps _ _ _ _).lift rfl ?_
            assumption
        · assumption

theorem execSdoFrame_keeps (c) (id) (bytes) (macOk) (vd) (s) : Runs 66272255 s (execSdoFrame c id bytes macOk vd s) := by
  have h0 := Keeps.refl 66272255 s
  unfold execSdoFrame
  refine Runs.next ?_
  refine (State.sdoFrame_keeps _ _ _ _ _ _).lift rfl ?_
  assumption

end Sys2Proof.Machine
end

