-- ==== Sys2Proof/Laws/KeepsHost.lean ====
section
/-! SUPPORT. What the operations of process data, the host port, the serial target, resets and boot keep: one lemma for each, with the mask of the parts that the
operation may change. -/
namespace Sys2Proof.Machine
open Sys2Proof Obj

theorem State.modRx_keeps (s) (r) (f) : Keeps 128 s (State.modRx s r f) := by
  have h0 := Keeps.refl 128 s
  unfold State.modRx
  refine (State.modDict_keeps _ _ ?_).lift rfl ?_
  · exact fun h => ((State.canonical_iff _).mp h).2.2.2.2.2
  · assumption

theorem State.modTx_keeps (s) (r) (f) : Keeps 128 s (State.modTx s r f) := by
  have h0 := Keeps.refl 128 s
  unfold State.modTx
  refine (State.modDict_keeps _ _ ?_).lift rfl ?_
  · exact fun h => ((State.canonical_iff _).mp h).2.2.2.2.2
  · assumption

theorem State.pdWrite_keeps (vd : Verdict) (x : State × Nat × Option Nat × Bytes) (e : Nat) : Keeps 66272239 x.1 (State.pdWrite vd x e).1 := by
  have h0 := Keeps.refl 66272239 x.1
  unfold State.pdWrite
  lift_lets -underBinder
  intro v1
  split
  · rename_i x2 x3 x4 x5
    have h6 : Keeps 66272239 x.fst x3 := by
      refine Keeps.of_eq (congrArg Prod.fst x5) ?_
      refine (State.writeObject_keeps _ _ _ _ _ _ _ _).lift rfl ?_
      assumption
    split
    · dsimp -zeta only
      assumption
    · dsimp -zeta only
      assumption
  · rename_i x9 x10 x11
    have h12 : Keeps 66272239 x.fst x10 := by
      refine Keeps.of_eq (congrArg Prod.fst x11) ?_
      refine (State.writeObject_keeps _ _ _ _ _ _ _ _).lift rfl ?_
      assumption
    dsimp -zeta only
    assumption

theorem State.pdApply_keeps (s) (r) (b) (vd) : Keeps 66272239 s (State.pdApply s r b vd) := by
  have h0 := Keeps.refl 66272239 s
  unfold State.pdApply
  lift_lets -underBinder
  intro v1
  have h2 : Keeps 66272239 s v1 := by
    subst v1
    refine (State.modRx_keeps _ _ _).lift rfl ?_
    assumption
  clear_value v1
  refine Keeps.ite ?_ ?_
  · refine (State.bump_keeps _ _).lift rfl ?_
    assumption
  · split
    rename_i x3 x4 x5 x6 x7 x8
    have h9 : Keeps 66272239 s x4 := by
      refine Keeps.of_eq (congrArg Prod.fst x8) ?_
      refine Keeps.foldlFst ?_ (fun t10 a11 h12 => ?_)
      · dsimp -zeta only
        assumption
      · refine (State.pdWrite_keeps _ _ _).lift rfl ?_
        assumption
    lift_lets -underBinder
    intro v13
    have h14 : Keeps 66272239 s v13 := by
      subst v13
      refine (State.wr_keeps _ _ _).lift rfl ?_
      assumption
    clear_value v13
    intro v15
    have h16 : Keeps 66272239 s v15 := by
      subst v15
      split
      · refine Keeps.ite ?_ ?_
        · assumption
        · refine (State.record_keeps _ _ _ _ _ _).lift rfl ?_
          assumption
      · assumption
    clear_value v15
    refine (State.modRx_keeps _ _ _).lift rfl ?_
    assumption

theorem State.pdVerified_keeps (s) (r) (tx) (b) (vd) : Keeps 66272239 s (State.pdVerified s r tx b vd) := by
  have h0 := Keeps.refl 66272239 s
  unfold State.pdVerified
  lift_lets -underBinder
  intro v1
  intro v2
  have h3 : Keeps 66272239 s v2 := by
    subst v2
    refine (State.modRx_keeps _ _ _).lift rfl ?_
    assumption
  clear_value v2
  refine Keeps.ite ?_ ?_
  · refine (State.pdApply_keeps _ _ _ _).lift rfl ?_
    assumption
  · refine Keeps.ite ?_ ?_
    · refine (State.pdApply_keeps _ _ _ _).lift rfl ?_
      refine (State.bump_keeps _ _).lift rfl ?_
      assumption
    · refine (State.modRx_keeps _ _ _).lift rfl ?_
      assumption

theorem execPdApply_keeps (r) (vd) (s) : Runs 66272239 s (execPdApply r vd s) := by
  have h0 := Keeps.refl 66272239 s
  unfold execPdApply
  refine Runs.next ?_
  split
  · refine Keeps.ite ?_ ?_
    · refine (State.pdApply_keeps _ _ _ _).lift rfl ?_
      assumption
    · assumption
  · assumption

theorem State.pdoReceive_keeps (s) (c) (id) (b) (macOk) (vd) : Keeps 66272239 s (State.pdoReceive s c id b macOk vd) := by
  have h0 := Keeps.refl 66272239 s
  unfold State.pdoReceive
  split
  · assumption
  · lift_lets -underBinder
    intro v6
    intro v7
    intro v8
    intro v9
    have h10 : Keeps 66272239 s v9 := by
      subst v9
      refine (State.modCn_keeps _ _ _).lift rfl ?_
      assumption
    clear_value v9
    refine Keeps.ite ?_ ?_
    · assumption
    · refine Keeps.ite ?_ ?_
      · refine Keeps.ite ?_ ?_
        · refine (State.pdVerified_keeps _ _ _ _ _).lift rfl ?_
          assumption
        · assumption
      · refine Keeps.ite ?_ ?_
        · refine (State.record_keeps _ _ _ _ _ _).lift rfl ?_
          refine (State.bump_keeps _ _).lift rfl ?_
          assumption
        · refine Keeps.ite ?_ ?_
          · refine (State.bump_keeps _ _).lift rfl ?_
            assumption
          · refine Keeps.ite ?_ ?_
            · refine (State.record_keeps _ _ _ _ _ _).lift rfl ?_
              refine (State.bump_keeps _ _).lift rfl ?_
              assumption
            · refine (State.pdVerified_keeps _ _ _ _ _).lift rfl ?_
              assumption

theorem execCanPdoReceive_keeps (c) (id) (bytes) (macOk) (vd) (s) : Runs 66272239 s (execCanPdoReceive c id bytes macOk vd s) := by
  have h0 := Keeps.refl 66272239 s
  unfold execCanPdoReceive
  refine Runs.next ?_
  refine (State.pdoReceive_keeps _ _ _ _ _ _).lift rfl ?_
  assumption

theorem State.pdReceive_keeps (s) (port) (p) (macOk) (off) (vd) : Keeps 66272239 s (State.pdReceive s port p macOk off vd) := by
  have h0 := Keeps.refl 66272239 s
  unfold State.pdReceive
  lift_lets -underBinder
  intro v1
  intro v2
  split
  · refine Keeps.ite ?_ ?_
    · refine (State.bump_keeps _ _).lift rfl ?_
      assumption
    · assumption
  · lift_lets -underBinder
    intro v8
    intro v9
    intro v10
    intro v11
    intro v12
    intro v13
    refine Keeps.ite ?_ ?_
    · assumption
    · refine Keeps.ite ?_ ?_
      · refine (State.bump_keeps _ _).lift rfl ?_
        assumption
      · refine Keeps.ite ?_ ?_
        · refine (State.bump_keeps _ _).lift rfl ?_
          assumption
        · refine Keeps.ite ?_ ?_
          · refine (State.record_keeps _ _ _ _ _ _).lift rfl ?_
            refine (State.bump_keeps _ _).lift rfl ?_
            assumption
          · refine Keeps.ite ?_ ?_
            · refine (State.bump_keeps _ _).lift rfl ?_
              assumption
            · refine Keeps.ite ?_ ?_
              · refine (State.bump_keeps _ _).lift rfl ?_
                assumption
              · refine (State.pdVerified_keeps _ _ _ _ _).lift rfl ?_
                refine (State.modRx_keeps _ _ _).lift rfl ?_
                assumption

theorem execPdFrameReceive_keeps (port) (pdu) (macOk) (off) (vd) (s) : Runs 66272239 s (execPdFrameReceive port pdu macOk off vd s) := by
  have h0 := Keeps.refl 66272239 s
  unfold execPdFrameReceive
  refine Runs.next ?_
  refine (State.pdReceive_keeps _ _ _ _ _ _).lift rfl ?_
  assumption

theorem State.pdRead_keeps (s) (l) : Keeps 1 s (Prod.fst (State.pdRead s l)) := by
  have h0 := Keeps.refl 1 s
  unfold State.pdRead
  refine Keeps.foldlFst ?_ (fun t1 a2 h3 => ?_)
  · dsimp -zeta only
    assumption
  · lift_lets -underBinder
    intro v4
    intro v5
    dsimp -zeta only
    refine (State.readClears_keeps _ _ _).lift rfl ?_
    assumption

theorem State.pdoSend_keeps (s) (r) : Keeps 33554561 s (State.pdoSend s r) := by
  have h0 := Keeps.refl 33554561 s
  unfold State.pdoSend
  split
  rename_i x1 x2 x3 x4
  have h5 : Keeps 33554561 s x2 := by
    refine Keeps.of_eq (congrArg Prod.fst x4) ?_
    refine (State.pdRead_keeps _ _).lift rfl ?_
    assumption
  lift_lets -underBinder
  intro v6
  intro v7
  intro v8
  intro v9
  intro v10
  intro v11
  have h12 : Keeps 33554561 s v11 := by
    subst v11
    refine (State.modTx_keeps _ _ _).lift rfl ?_
    assumption
  clear_value v11
  refine Keeps.ite ?_ ?_
  · assumption
  · refine Keeps.ite ?_ ?_
    · split
      rename_i x13 x14 x15 x16
      have h17 : Keeps 33554561 s x14 := by
        refine Keeps.of_eq (congrArg Prod.fst x16) ?_
        refine (State.canFresh_keeps _ _ _ _).lift rfl ?_
        assumption
      refine (State.canSend_keeps _ _ _ _).lift rfl ?_
      assumption
    · refine (State.canSend_keeps _ _ _ _).lift rfl ?_
      assumption

theorem State.pdSend_keeps (s) (r) : Keeps 145 s (State.pdSend s r) := by
  have h0 := Keeps.refl 145 s
  unfold State.pdSend
  lift_lets -underBinder
  intro v1
  split
  rename_i x2 x3 x4 x5
  have h6 : Keeps 145 s x3 := by
    refine Keeps.of_eq (congrArg Prod.fst x5) ?_
    refine (State.pdRead_keeps _ _).lift rfl ?_
    assumption
  lift_lets -underBinder
  intro v7
  intro v8
  intro v9
  intro v10
  refine (State.sendFrame_keeps _ _).lift rfl ?_
  refine (State.modTx_keeps _ _ _).lift rfl ?_
  assumption

theorem execPdTransmit_keeps (r) (s) : Runs 33554577 s (execPdTransmit r s) := by
  have h0 := Keeps.refl 33554577 s
  unfold execPdTransmit
  refine Runs.next ?_
  refine Keeps.ite ?_ ?_
  · assumption
  · refine Keeps.ite ?_ ?_
    · refine (State.pdoSend_keeps _ _).lift rfl ?_
      assumption
    · refine (State.pdSend_keeps _ _).lift rfl ?_
      assumption

theorem State.takeQuickStop_keeps (s) (n) : Keeps 2048 s (State.takeQuickStop s n) := by
  have h0 := Keeps.refl 2048 s
  unfold State.takeQuickStop
  lift_lets -underBinder
  intro v1
  refine Keeps.ite ?_ ?_
  · refine (State.holdBack_keeps _ _ _).lift rfl ?_
    assumption
  · refine (State.modAx_keeps _ _ _).lift rfl ?_
    assumption

theorem State.rxTimeout_keeps (s) (r) : Keeps 2433 s (State.rxTimeout s r) := by
  have h0 := Keeps.refl 2433 s
  unfold State.rxTimeout
  lift_lets -underBinder
  intro v1
  intro v2
  intro v3
  intro v4
  have h5 : Keeps 2433 s v4 := by
    subst v4
    refine (State.modRx_keeps _ _ _).lift rfl ?_
    assumption
  clear_value v4
  intro v6
  have h7 : Keeps 2433 s v6 := by
    subst v6
    refine (State.record_keeps _ _ _ _ _ _).lift rfl ?_
    refine (State.bump_keeps _ _).lift rfl ?_
    refine (State.setBit_keeps _ _ _).lift rfl ?_
    assumption
  clear_value v6
  refine Keeps.ite ?_ ?_
  · assumption
  · refine Keeps.ite ?_ ?_
    · refine Keeps.each ?_ (fun t8 a9 h10 => ?_)
      · assumption
      · refine (State.takeQuickStop_keeps _ _).lift rfl ?_
        assumption
    · assumption

theorem execRxTimeout_keeps (r) (s) : Runs 2433 s (execRxTimeout r s) := by
  have h0 := Keeps.refl 2433 s
  unfold execRxTimeout
  refine Runs.next ?_
  refine (State.rxTimeout_keeps _ _).lift rfl ?_
  assumption

theorem State.modHost_keeps (s : State) (f : HostSt → HostSt)
    (hf : s.canonical = true → Memory.wf (f s.host).mbxRequest = true ∧ Memory.wf (f s.host).mbxResponse = true ∧
      Memory.wf (f s.host).mirror = true) : Keeps 256 s (s.modHost f) := Keeps.setHost s (f s.host) hf

theorem State.modRing_keeps (s) (n) (f) : Keeps 256 s (State.modRing s n f) := by
  have h0 := Keeps.refl 256 s
  unfold State.modRing
  refine (State.modHost_keeps _ _ ?_).lift rfl ?_
  · exact fun h => ((State.canonical_iff _).mp h).2.2.2.2.1
  · assumption

theorem State.msixSend_keeps (s) (v) : Keeps 134217984 s (State.msixSend s v) := by
  have h0 := Keeps.refl 134217984 s
  unfold State.msixSend
  refine Keeps.ite ?_ ?_
  · assumption
  · refine Keeps.ite ?_ ?_
    · refine (State.modHost_keeps _ _ ?_).lift rfl ?_
      · exact fun h => ((State.canonical_iff _).mp h).2.2.2.2.1
      · assumption
    · refine (State.emit_keeps _ _).lift rfl ?_
      assumption

theorem State.msixPending_keeps (s) : Keeps 134217984 s (State.msixPending s) := by
  have h0 := Keeps.refl 134217984 s
  unfold State.msixPending
  refine Keeps.each ?_ (fun t1 a2 h3 => ?_)
  · assumption
  · refine Keeps.ite ?_ ?_
    · refine (State.emit_keeps _ _).lift rfl ?_
      refine (State.modHost_keeps _ _ ?_).lift rfl ?_
      · exact fun h => ((State.canonical_iff _).mp h).2.2.2.2.1
      · assumption
    · assumption

theorem State.ringSignal_keeps (s) (n) : Keeps 134217984 s (State.ringSignal s n) := by
  have h0 := Keeps.refl 134217984 s
  unfold State.ringSignal
  lift_lets -underBinder
  intro v1
  intro v2
  have h3 : Keeps 134217984 s v2 := by
    subst v2
    refine (State.modRing_keeps _ _ _).lift rfl ?_
    assumption
  clear_value v2
  intro v4
  have h5 : Keeps 134217984 s v4 := by
    subst v4
    refine (State.modHost_keeps _ _ ?_).lift rfl ?_
    · exact fun h => ((State.canonical_iff _).mp h).2.2.2.2.1
    · assumption
  clear_value v4
  refine Keeps.ite ?_ ?_
  · assumption
  · refine Keeps.ite ?_ ?_
    · refine (State.msixSend_keeps _ _).lift rfl ?_
      assumption
    · assumption

theorem State.ringCheck_keeps (s) (n) : Keeps 134217984 s (State.ringCheck s n) := by
  have h0 := Keeps.refl 134217984 s
  unfold State.ringCheck
  lift_lets -underBinder
  intro v1
  refine Keeps.ite ?_ ?_
  · refine (State.ringSignal_keeps _ _).lift rfl ?_
    assumption
  · assumption

theorem State.ringDisable_keeps (s) (n) : Keeps 256 s (State.ringDisable s n) := by
  have h0 := Keeps.refl 256 s
  unfold State.ringDisable
  lift_lets -underBinder
  intro v1
  have h2 : Keeps 256 s v1 := by
    subst v1
    refine (State.modRing_keeps _ _ _).lift rfl ?_
    assumption
  clear_value v1
  refine (State.modHost_keeps _ _ ?_).lift rfl ?_
  · exact fun h => ((State.canonical_iff _).mp h).2.2.2.2.1
  · assumption

theorem State.ringEnable_keeps (s) (n) (v) : Keeps 256 s (State.ringEnable s n v) := by
  have h0 := Keeps.refl 256 s
  unfold State.ringEnable
  lift_lets -underBinder
  intro v1
  intro v2
  intro v3
  have h4 : Keeps 256 s v3 := by
    subst v3
    refine (State.modRing_keeps _ _ _).lift rfl ?_
    assumption
  clear_value v3
  refine Keeps.ite ?_ ?_
  · assumption
  · refine Keeps.ite ?_ ?_
    · split
      · assumption
      · refine (State.modRing_keeps _ _ _).lift rfl ?_
        assumption
    · refine (State.modRing_keeps _ _ _).lift rfl ?_
      assumption

theorem State.ringCtrl_keeps (s) (n) (w) : Keeps 134217984 s (State.ringCtrl s n w) := by
  have h0 := Keeps.refl 134217984 s
  unfold State.ringCtrl
  lift_lets -underBinder
  intro v1
  intro v2
  intro v3
  have h4 : Keeps 134217984 s v3 := by
    subst v3
    refine (State.modRing_keeps _ _ _).lift rfl ?_
    assumption
  clear_value v3
  refine Keeps.ite ?_ ?_
  · refine (State.ringCheck_keeps _ _).lift rfl ?_
    refine Keeps.ite ?_ ?_
    · assumption
    · refine (State.ringDisable_keeps _ _).lift rfl ?_
      assumption
  · refine Keeps.ite ?_ ?_
    · refine (State.ringEnable_keeps _ _ _).lift rfl ?_
      assumption
    · refine (State.modRing_keeps _ _ _).lift rfl ?_
      assumption

theorem State.consumerWrite_keeps (s) (n) (v) : Keeps 256 s (State.consumerWrite s n v) := by
  have h0 := Keeps.refl 256 s
  unfold State.consumerWrite
  lift_lets -underBinder
  intro v1
  refine Keeps.ite ?_ ?_
  · refine (State.modRing_keeps _ _ _).lift rfl ?_
    assumption
  · refine (State.modRing_keeps _ _ _).lift rfl ?_
    assumption

theorem HostSt.wf_taken (h : HostSt) (n : Nat) (k : Memory.wf h.mbxRequest = true ∧ Memory.wf h.mbxResponse = true ∧ Memory.wf h.mirror = true) :
    Memory.wf (h.taken n).mbxRequest = true ∧ Memory.wf (h.taken n).mbxResponse = true ∧ Memory.wf (h.taken n).mirror = true := by
  unfold HostSt.taken
  split <;> exact k

theorem State.recordWrite_keeps (s) (n) (r) (overflow) : Keeps 134217984 s (State.recordWrite s n r overflow) := by
  have h0 := Keeps.refl 134217984 s
  unfold State.recordWrite
  lift_lets -underBinder
  intro v1
  intro v2
  intro v3
  intro v4
  intro v5
  have h6 : Keeps 134217984 s v5 := by
    subst v5
    refine Keeps.ite ?_ ?_
    · refine (State.emit_keeps _ _).lift rfl ?_
      assumption
    · assumption
  clear_value v5
  intro v7
  have h8 : Keeps 134217984 s v7 := by
    subst v7
    refine Keeps.ite ?_ ?_
    · refine (State.modHost_keeps _ _ ?_).lift rfl ?_
      · exact fun h => ⟨((State.canonical_iff _).mp h).2.2.2.2.1.1, ((State.canonical_iff _).mp h).2.2.2.2.1.2.1, Memory.wf_writeAll _ _ ((State.canonical_iff _).mp h).2.2.2.2.1.2.2⟩
      · assumption
    · refine (State.emit_keeps _ _).lift rfl ?_
      refine (State.emit_keeps _ _).lift rfl ?_
      assumption
  clear_value v7
  refine (State.modRing_keeps _ _ _).lift rfl ?_
  assumption

theorem State.deliverRecord_keeps (s) (n) : Keeps 134217984 s (State.deliverRecord s n) := by
  have h0 := Keeps.refl 134217984 s
  unfold State.deliverRecord
  split
  · assumption
  · refine Keeps.ite ?_ ?_
    · assumption
    · lift_lets -underBinder
      intro v7
      intro v8
      intro v9
      have h10 : Keeps 134217984 s v9 := by
        subst v9
        refine (State.modHost_keeps _ _ ?_).lift rfl ?_
        · exact fun h => HostSt.wf_taken _ _ ((State.canonical_iff _).mp h).2.2.2.2.1
        · assumption
      clear_value v9
      intro v11
      have h12 : Keeps 134217984 s v11 := by
        subst v11
        refine Keeps.ite ?_ ?_
        · refine (State.modRing_keeps _ _ _).lift rfl ?_
          assumption
        · assumption
      clear_value v11
      refine Keeps.ite ?_ ?_
      · refine (State.modRing_keeps _ _ _).lift rfl ?_
        assumption
      · refine (State.ringCheck_keeps _ _).lift rfl ?_
        refine (State.recordWrite_keeps _ _ _ _).lift rfl ?_
        assumption

theorem execRecordDelivery_keeps (n) (s) : Runs 134217984 s (execRecordDelivery n s) := by
  have h0 := Keeps.refl 134217984 s
  unfold execRecordDelivery
  refine Runs.next ?_
  refine (State.deliverRecord_keeps _ _).lift rfl ?_
  assumption

theorem execConsumer_keeps (n) (v) (s) : Runs 256 s (execConsumer n v s) := by
  have h0 := Keeps.refl 256 s
  unfold execConsumer
  refine Runs.next ?_
  refine (State.consumerWrite_keeps _ _ _).lift rfl ?_
  assumption

theorem execRingEnable_keeps (n) (v) (s) : Runs 134217984 s (execRingEnable n v s) := by
  have h0 := Keeps.refl 134217984 s
  unfold execRingEnable
  refine Runs.next ?_
  refine (State.ringCtrl_keeps _ _ _).lift rfl ?_
  assumption

theorem execRingSignalTimeout_keeps (n) (s) : Runs 134217984 s (execRingSignalTimeout n s) := by
  have h0 := Keeps.refl 134217984 s
  unfold execRingSignalTimeout
  refine Runs.next ?_
  refine Keeps.ite ?_ ?_
  · refine (State.ringSignal_keeps _ _).lift rfl ?_
    assumption
  · assumption

theorem State.flush_keeps (s) : Keeps 134217984 s (State.flush s) := by
  have h0 := Keeps.refl 134217984 s
  unfold State.flush
  refine Keeps.each ?_ (fun t1 a2 h3 => ?_)
  · assumption
  · refine (State.ringSignal_keeps _ _).lift rfl ?_
    assumption

theorem execFlush_keeps (s) : Runs 134217984 s (execFlush s) := by
  have h0 := Keeps.refl 134217984 s
  unfold execFlush
  refine Runs.next ?_
  refine (State.flush_keeps _).lift rfl ?_
  assumption

theorem State.mbxSubmit_keeps (s) (macOk) (vd) : Keeps 66272255 s (State.mbxSubmit s macOk vd) := by
  have h0 := Keeps.refl 66272255 s
  unfold State.mbxSubmit
  refine Keeps.ite ?_ ?_
  · refine (State.modHost_keeps _ _ ?_).lift rfl ?_
    · exact fun h => ((State.canonical_iff _).mp h).2.2.2.2.1
    · assumption
  · lift_lets -underBinder
    intro v1
    have h2 : Keeps 66272255 s v1 := by
      subst v1
      refine (State.modHost_keeps _ _ ?_).lift rfl ?_
      · exact fun h => ((State.canonical_iff _).mp h).2.2.2.2.1
      · assumption
    clear_value v1
    intro v3
    refine (State.datagram_keeps _ _ _ _).lift rfl ?_
    refine (State.bump_keeps _ _).lift rfl ?_
    assumption

theorem execMbxSubmit_keeps (macOk) (vd) (s) : Runs 66272255 s (execMbxSubmit macOk vd s) := by
  have h0 := Keeps.refl 66272255 s
  unfold execMbxSubmit
  refine Runs.next ?_
  refine (State.mbxSubmit_keeps _ _ _).lift rfl ?_
  assumption

theorem State.mbxComplete_keeps (s) : Keeps 134217984 s (State.mbxComplete s) := by
  have h0 := Keeps.refl 134217984 s
  unfold State.mbxComplete
  lift_lets -underBinder
  intro v1
  refine Keeps.ite ?_ ?_
  · assumption
  · refine Keeps.ite ?_ ?_
    · subst v1
      dsimp -zeta only
      lift_lets -underBinder
      intro v2
      have h3 : Keeps 134217984 s v2 := by
        subst v2
        refine (State.modHost_keeps _ _ ?_).lift rfl ?_
        · exact fun h => ((State.canonical_iff _).mp h).2.2.2.2.1
        · assumption
      clear_value v2
      refine Keeps.ite ?_ ?_
      · refine (State.msixSend_keeps _ _).lift rfl ?_
        assumption
      · assumption
    · split
      · subst v1
        dsimp -zeta only
        lift_lets -underBinder
        intro v7
        have h8 : Keeps 134217984 s v7 := by
          subst v7
          refine (State.modHost_keeps _ _ ?_).lift rfl ?_
          · exact fun h => ⟨((State.canonical_iff _).mp h).2.2.2.2.1.1, Memory.wf_writeAll _ _ ((State.canonical_iff _).mp h).2.2.2.2.1.2.1, ((State.canonical_iff _).mp h).2.2.2.2.1.2.2⟩
          · assumption
        clear_value v7
        refine Keeps.ite ?_ ?_
        · refine (State.msixSend_keeps _ _).lift rfl ?_
          assumption
        · assumption
      · assumption

theorem execMbxComplete_keeps (s) : Runs 134217984 s (execMbxComplete s) := by
  have h0 := Keeps.refl 134217984 s
  unfold execMbxComplete
  refine Runs.next ?_
  refine (State.mbxComplete_keeps _).lift rfl ?_
  assumption

theorem State.mbxDiscard_keeps (s) : Keeps 2432 s (State.mbxDiscard s) := by
  have h0 := Keeps.refl 2432 s
  unfold State.mbxDiscard
  lift_lets -underBinder
  intro v1
  intro v2
  intro v3
  have h4 : Keeps 2432 s v3 := by
    subst v3
    refine (Keeps.setAxis _ _).lift rfl ?_
    assumption
  clear_value v3
  intro v5
  have h6 : Keeps 2432 s v5 := by
    subst v5
    refine (State.modDict_keeps _ _ ?_).lift rfl ?_
    · exact fun h => ((State.canonical_iff _).mp h).2.2.2.2.2
    · assumption
  clear_value v5
  refine (State.modHost_keeps _ _ ?_).lift rfl ?_
  · exact fun h => ((State.canonical_iff _).mp h).2.2.2.2.1
  · assumption

theorem State.barRead_keeps (s) (o) : Keeps 256 s (Prod.fst (State.barRead s o)) := by
  have h0 := Keeps.refl 256 s
  unfold State.barRead
  split
  · dsimp -zeta only
    assumption
  · split
    · lift_lets -underBinder
      intro v8
      dsimp -zeta only
      refine (State.modHost_keeps _ _ ?_).lift rfl ?_
      · exact fun h => ((State.canonical_iff _).mp h).2.2.2.2.1
      · assumption
    · split
      · dsimp -zeta only
        assumption
      · dsimp -zeta only
        refine (State.modHost_keeps _ _ ?_).lift rfl ?_
        · exact fun h => ((State.canonical_iff _).mp h).2.2.2.2.1
        · assumption

theorem State.barReads_keeps (s : State) (o n : Nat) : Keeps 256 s (s.barReads o n).1 := by
  induction n generalizing s o with
  | zero => exact Keeps.refl ..
  | succ n ih => exact (ih _ _).lift rfl ((State.barRead_keeps ..).lift rfl (Keeps.refl ..))

theorem execBar0ReadFreeze_keeps (offset) (wide) (s) : Runs 134217984 s (execBar0ReadFreeze offset wide s) := by
  have h0 := Keeps.refl 134217984 s
  unfold execBar0ReadFreeze
  lift_lets -underBinder
  intro v1
  split
  rename_i x2 x3 x4 x5
  have h6 : Keeps 134217984 s x3 := by
    refine Keeps.of_eq (congrArg Prod.fst x5) ?_
    refine (State.barRead_keeps _ _).lift rfl ?_
    assumption
  lift_lets -underBinder
  intro v7
  have h8 : Keeps 134217984 s v7 := by
    subst v7
    refine (State.emit_keeps _ _).lift rfl ?_
    assumption
  clear_value v7
  refine Runs.ite ?_ ?_
  · split
    rename_i x9 x10 x11 x12
    have h13 : Keeps 134217984 s x10 := by
      refine Keeps.of_eq (congrArg Prod.fst x12) ?_
      refine (State.barRead_keeps _ _).lift rfl ?_
      assumption
    refine Runs.next ?_
    refine (State.emit_keeps _ _).lift rfl ?_
    assumption
  · refine Runs.next ?_
    assumption

theorem execFreezeExpiry_keeps (offset) (s) : Runs 256 s (execFreezeExpiry offset s) := by
  have h0 := Keeps.refl 256 s
  unfold execFreezeExpiry
  split
  · refine Runs.next ?_
    refine (State.modHost_keeps _ _ ?_).lift rfl ?_
    · exact fun h => ((State.canonical_iff _).mp h).2.2.2.2.1
    · assumption
  · refine Runs.next ?_
    assumption

theorem State.msixWrite_keeps (s) (o) (v) : Keeps 134217984 s (State.msixWrite s o v) := by
  have h0 := Keeps.refl 134217984 s
  unfold State.msixWrite
  refine Keeps.ite ?_ ?_
  · assumption
  · lift_lets -underBinder
    intro v1
    refine (State.msixPending_keeps _).lift rfl ?_
    refine (State.modHost_keeps _ _ ?_).lift rfl ?_
    · exact fun h => ((State.canonical_iff _).mp h).2.2.2.2.1
    · assumption

theorem State.ringWordWrite_keeps (s) (n) (o) (v) : Keeps 134217984 s (State.ringWordWrite s n o v) := by
  have h0 := Keeps.refl 134217984 s
  unfold State.ringWordWrite
  split
  · refine Keeps.ite ?_ ?_
    · assumption
    · refine (State.modRing_keeps _ _ _).lift rfl ?_
      assumption
  · refine Keeps.ite ?_ ?_
    · assumption
    · refine (State.modRing_keeps _ _ _).lift rfl ?_
      assumption
  · refine (State.ringCtrl_keeps _ _ _).lift rfl ?_
    assumption
  · refine (State.modRing_keeps _ _ _).lift rfl ?_
    assumption
  · refine (State.modRing_keeps _ _ _).lift rfl ?_
    assumption
  · refine Keeps.ite ?_ ?_
    · refine (State.ringCheck_keeps _ _).lift rfl ?_
      refine (State.modRing_keeps _ _ _).lift rfl ?_
      assumption
    · assumption
  · refine Keeps.ite ?_ ?_
    · refine (State.ringCheck_keeps _ _).lift rfl ?_
      refine (State.modRing_keeps _ _ _).lift rfl ?_
      assumption
    · assumption
  · refine (State.consumerWrite_keeps _ _ _).lift rfl ?_
    assumption
  · refine (State.modRing_keeps _ _ _).lift rfl ?_
    assumption
  · assumption

theorem State.barWrite_keeps (s) (o) (v) (macOk) (vd) : Keeps 200489983 s (State.barWrite s o v macOk vd) := by
  have h0 := Keeps.refl 200489983 s
  unfold State.barWrite
  lift_lets -underBinder
  intro v1
  intro v2
  have h3 : Keeps 200489983 s v2 := by
    subst v2
    refine (State.modHost_keeps _ _ ?_).lift rfl ?_
    · exact fun h => ((State.canonical_iff _).mp h).2.2.2.2.1
    · assumption
  clear_value v2
  refine Keeps.ite ?_ ?_
  · refine (State.msixWrite_keeps _ _ _).lift rfl ?_
    assumption
  · refine Keeps.ite ?_ ?_
    · refine Keeps.ite ?_ ?_
      · assumption
      · refine (State.modHost_keeps _ _ ?_).lift rfl ?_
        · exact fun h => ⟨Memory.wf_writeAll _ _ ((State.canonical_iff _).mp h).2.2.2.2.1.1, ((State.canonical_iff _).mp h).2.2.2.2.1.2.1, ((State.canonical_iff _).mp h).2.2.2.2.1.2.2⟩
        · assumption
    · refine Keeps.ite ?_ ?_
      · refine (State.ringWordWrite_keeps _ _ _ _).lift rfl ?_
        assumption
      · split
        · lift_lets -underBinder
          intro v5
          have h6 : Keeps 200489983 s v5 := by
            subst v5
            refine Keeps.ite ?_ ?_
            · refine (State.mbxSubmit_keeps _ _ _).lift rfl ?_
              assumption
            · assumption
          clear_value v5
          refine Keeps.ite ?_ ?_
          · refine (State.flush_keeps _).lift rfl ?_
            assumption
          · assumption
        · refine (State.modHost_keeps _ _ ?_).lift rfl ?_
          · exact fun h => ((State.canonical_iff _).mp h).2.2.2.2.1
          · assumption
        · refine (State.modHost_keeps _ _ ?_).lift rfl ?_
          · exact fun h => ((State.canonical_iff _).mp h).2.2.2.2.1
          · assumption
        · refine (State.modHost_keeps _ _ ?_).lift rfl ?_
          · exact fun h => ((State.canonical_iff _).mp h).2.2.2.2.1
          · assumption
        · refine (State.modHost_keeps _ _ ?_).lift rfl ?_
          · exact fun h => ((State.canonical_iff _).mp h).2.2.2.2.1
          · assumption
        · refine Keeps.ite ?_ ?_
          · assumption
          · refine Keeps.ite ?_ ?_
            · refine (State.modHost_keeps _ _ ?_).lift rfl ?_
              · exact fun h => ((State.canonical_iff _).mp h).2.2.2.2.1
              · assumption
            · assumption
        · refine (State.modHost_keeps _ _ ?_).lift rfl ?_
          · exact fun h => ((State.canonical_iff _).mp h).2.2.2.2.1
          · assumption
        · assumption

theorem State.barWrites_keeps (s : State) (o : Nat) (macOk : Bool) (vd : Verdict) (l : List Nat) :
    Keeps 200489983 s (s.barWrites o macOk vd l) := by
  induction l generalizing s o with
  | nil => exact Keeps.refl ..
  | cons v t ih => exact (ih _ _).lift rfl ((State.barWrite_keeps ..).lift rfl (Keeps.refl ..))

theorem execBar0Write_keeps (offset) (b) (macOk) (vd) (s) : Runs 200489983 s (execBar0Write offset b macOk vd s) := by
  have h0 := Keeps.refl 200489983 s
  unfold execBar0Write
  lift_lets -underBinder
  intro v1
  refine Runs.ite ?_ ?_
  · refine Runs.next ?_
    refine (State.barWrites_keeps _ _ _ _ _).lift rfl ?_
    assumption
  · refine Runs.next ?_
    assumption

theorem State.perst_keeps (s) (flr) : Keeps 2432 s (State.perst s flr) := by
  have h0 := Keeps.refl 2432 s
  unfold State.perst
  refine Keeps.ite ?_ ?_
  · assumption
  · lift_lets -underBinder
    intro v1
    have h2 : Keeps 2432 s v1 := by
      subst v1
      refine (State.mbxDiscard_keeps _).lift rfl ?_
      refine Keeps.each ?_ (fun t3 a4 h5 => ?_)
      · assumption
      · refine (State.ringDisable_keeps _ _).lift rfl ?_
        assumption
    clear_value v1
    refine (State.modHost_keeps _ _ ?_).lift rfl ?_
    · exact fun h => ((State.canonical_iff _).mp h).2.2.2.2.1
    · assumption

theorem execPciePerst_keeps (flr) (s) : Runs 2432 s (execPciePerst flr s) := by
  have h0 := Keeps.refl 2432 s
  unfold execPciePerst
  refine Runs.next ?_
  refine (State.perst_keeps _ _).lift rfl ?_
  assumption

theorem execPciePerstNRelease_keeps (s) : Runs 256 s (execPciePerstNRelease s) := by
  have h0 := Keeps.refl 256 s
  unfold execPciePerstNRelease
  refine Runs.next ?_
  refine Keeps.ite ?_ ?_
  · assumption
  · refine (State.modHost_keeps _ _ ?_).lift rfl ?_
    · exact fun h => ((State.canonical_iff _).mp h).2.2.2.2.1
    · assumption

theorem State.linkDown_keeps (s) (link) : Keeps 257 s (State.linkDown s link) := by
  have h0 := Keeps.refl 257 s
  unfold State.linkDown
  refine Keeps.ite ?_ ?_
  · assumption
  · refine Keeps.ite ?_ ?_
    · refine (State.modHost_keeps _ _ ?_).lift rfl ?_
      · exact fun h => ((State.canonical_iff _).mp h).2.2.2.2.1
      · assumption
    · refine Keeps.ite ?_ ?_
      · assumption
      · refine (State.bump_keeps _ _).lift rfl ?_
        refine (State.wr_keeps _ _ _).lift rfl ?_
        refine (State.modHost_keeps _ _ ?_).lift rfl ?_
        · exact fun h => ((State.canonical_iff _).mp h).2.2.2.2.1
        · assumption

theorem execPcieLinkDown_keeps (link) (s) : Runs 257 s (execPcieLinkDown link s) := by
  have h0 := Keeps.refl 257 s
  unfold execPcieLinkDown
  refine Runs.next ?_
  refine (State.linkDown_keeps _ _).lift rfl ?_
  assumption

theorem State.linkRestored_keeps (s) (x) : Keeps 134217985 s (State.linkRestored s x) := by
  have h0 := Keeps.refl 134217985 s
  unfold State.linkRestored
  refine Keeps.ite ?_ ?_
  · assumption
  · lift_lets -underBinder
    intro v1
    intro v2
    have h3 : Keeps 134217985 s v2 := by
      subst v2
      refine (State.wr_keeps _ _ _).lift rfl ?_
      refine (State.modHost_keeps _ _ ?_).lift rfl ?_
      · exact fun h => ((State.canonical_iff _).mp h).2.2.2.2.1
      · assumption
    clear_value v2
    refine Keeps.ite ?_ ?_
    · refine (State.msixPending_keeps _).lift rfl ?_
      assumption
    · refine (State.msixPending_keeps _).lift rfl ?_
      refine (State.record_keeps _ _ _ _ _ _).lift rfl ?_
      assumption

theorem execPcieLinkRestored_keeps (x) (s) : Runs 134217985 s (execPcieLinkRestored x s) := by
  have h0 := Keeps.refl 134217985 s
  unfold execPcieLinkRestored
  refine Runs.next ?_
  refine (State.linkRestored_keeps _ _).lift rfl ?_
  assumption

theorem State.targetEffect_keeps (s) (p) (b) (macOk) (vd) : Keeps 200489983 s (State.targetEffect s p b macOk vd) := by
  have h0 := Keeps.refl 200489983 s
  unfold State.targetEffect
  lift_lets -underBinder
  intro v1
  split
  · refine (State.barWrites_keeps _ _ _ _ _).lift rfl ?_
    assumption
  · refine (State.modSp_keeps _ _ _).lift rfl ?_
    assumption
  · assumption

theorem State.target_keeps (s) (p) (b) (inside) (macOk) (vd) : Keeps 200489983 s (State.target s p b inside macOk vd) := by
  have h0 := Keeps.refl 200489983 s
  unfold State.target
  refine Keeps.ite ?_ ?_
  · assumption
  · refine Keeps.ite ?_ ?_
    · refine (State.modeFault_keeps _ _).lift rfl ?_
      assumption
    · lift_lets -underBinder
      intro v1
      intro v2
      have h3 : Keeps 200489983 s v2 := by
        subst v2
        refine (State.emit_keeps _ _).lift rfl ?_
        assumption
      clear_value v2
      intro v4
      intro v5
      intro v6
      have h7 : Keeps 200489983 s v6 := by
        subst v6
        refine (State.bump_keeps _ _).lift rfl ?_
        refine (State.setBit_keeps _ _ _).lift rfl ?_
        assumption
      clear_value v6
      intro v8
      have h9 : Keeps 200489983 s v8 := by
        subst v8
        refine Keeps.ite ?_ ?_
        · assumption
        · refine (State.record_keeps _ _ _ _ _ _).lift rfl ?_
          assumption
      clear_value v8
      intro v10
      have h11 : Keeps 200489983 s v10 := by
        subst v10
        subst v5
        dsimp -zeta only
        refine (State.modSp_keeps _ _ _).lift rfl ?_
        assumption
      clear_value v10
      clear_value v1
      split
      · assumption
      · subst v5
        dsimp -zeta only
        refine (State.modSp_keeps _ _ _).lift rfl ?_
        refine (State.setBit_keeps _ _ _).lift rfl ?_
        assumption
      · subst v5
        dsimp -zeta only
        refine (State.modSp_keeps _ _ _).lift rfl ?_
        assumption
      · lift_lets -underBinder
        intro v17
        intro v18
        intro v19
        have h20 : Keeps 200489983 s v19 := by
          subst v19
          subst v18
          dsimp -zeta only
          refine Keeps.ite ?_ ?_
          · refine (State.targetEffect_keeps _ _ _ _ _).lift rfl ?_
            assumption
          · refine (State.modSp_keeps _ _ _).lift rfl ?_
            refine (State.bump_keeps _ _).lift rfl ?_
            refine (State.targetEffect_keeps _ _ _ _ _).lift rfl ?_
            assumption
        clear_value v19
        intro v21
        have h22 : Keeps 200489983 s v21 := by
          subst v21
          refine (State.bump_keeps _ _).lift rfl ?_
          refine (State.setBit_keeps _ _ _).lift rfl ?_
          assumption
        clear_value v21
        intro v23
        have h24 : Keeps 200489983 s v23 := by
          subst v23
          refine Keeps.ite ?_ ?_
          · assumption
          · refine (State.record_keeps _ _ _ _ _ _).lift rfl ?_
            assumption
        clear_value v23
        refine Keeps.ite ?_ ?_
        · subst v5
          dsimp -zeta only
          refine (State.modSp_keeps _ _ _).lift rfl ?_
          assumption
        · subst v5
          dsimp -zeta only
          refine (State.modSp_keeps _ _ _).lift rfl ?_
          assumption

theorem execTargetNop_keeps (p) (extra) (inside) (s) : Runs 200489983 s (execTargetNop p extra inside s) := by
  have h0 := Keeps.refl 200489983 s
  unfold execTargetNop
  refine Runs.next ?_
  refine (State.target_keeps _ _ _ _ _ _).lift rfl ?_
  assumption

theorem execTargetWrite_keeps (p) (offset) (n) (data) (inside) (macOk) (vd) (s) : Runs 200489983 s (execTargetWrite p offset n data inside macOk vd s) := by
  have h0 := Keeps.refl 200489983 s
  unfold execTargetWrite
  refine Runs.next ?_
  refine (State.target_keeps _ _ _ _ _ _).lift rfl ?_
  assumption

theorem execReadReq_keeps (p) (offset) (n) (extra) (inside) (s) : Runs 200489983 s (execReadReq p offset n extra inside s) := by
  have h0 := Keeps.refl 200489983 s
  unfold execReadReq
  refine Runs.next ?_
  refine (State.target_keeps _ _ _ _ _ _).lift rfl ?_
  assumption

theorem execReadData_keeps (p) (count) (inside) (s) : Runs 200489983 s (execReadData p count inside s) := by
  have h0 := Keeps.refl 200489983 s
  unfold execReadData
  refine Runs.next ?_
  refine (State.target_keeps _ _ _ _ _ _).lift rfl ?_
  assumption

theorem execFetchComplete_keeps (p) (s) : Runs 8388864 s (execFetchComplete p s) := by
  have h0 := Keeps.refl 8388864 s
  unfold execFetchComplete
  split
  · refine Runs.next ?_
    assumption
  · split
    rename_i x7 x8 x9 x10
    have h11 : Keeps 8388864 s x8 := by
      refine Keeps.of_eq (congrArg Prod.fst x10) ?_
      refine (State.barReads_keeps _ _ _).lift rfl ?_
      assumption
    refine Runs.next ?_
    refine (State.modSp_keeps _ _ _).lift rfl ?_
    assumption

theorem execFraming_keeps (p) (bytes) (inside) (s) : Runs 200489983 s (execFraming p bytes inside s) := by
  have h0 := Keeps.refl 200489983 s
  unfold execFraming
  refine Runs.next ?_
  refine (State.target_keeps _ _ _ _ _ _).lift rfl ?_
  assumption

theorem execCmdError_keeps (p) (bytes) (s) : Runs 200489983 s (execCmdError p bytes s) := by
  have h0 := Keeps.refl 200489983 s
  unfold execCmdError
  refine Runs.next ?_
  refine (State.target_keeps _ _ _ _ _ _).lift rfl ?_
  assumption

theorem State.bindPairing_keeps (s) : Keeps 65 s (State.bindPairing s) := by
  have h0 := Keeps.refl 65 s
  unfold State.bindPairing
  split
  · assumption
  · lift_lets -underBinder
    intro v6
    have h7 : Keeps 65 s v6 := by
      subst v6
      refine (State.modSec_keeps _ _).lift rfl ?_
      assumption
    clear_value v6
    split
    · refine (State.wr_keeps _ _ _).lift rfl ?_
      refine (State.wr_keeps _ _ _).lift rfl ?_
      assumption
    · refine (State.wr_keeps _ _ _).lift rfl ?_
      refine (State.wr_keeps _ _ _).lift rfl ?_
      assumption

theorem State.resetDevice_keeps (s : State) (cold : Bool) (cause : Nat) (powerOn : Bool) :
    Keeps 134217727 s (s.resetDevice cold cause powerOn) := by
  unfold State.resetDevice
  lift_lets -underBinder
  intro v1 v2
  have h2 : Keeps 134217727 s v2 := Keeps.ite ((State.trackStart_keeps _).lift rfl (Keeps.refl ..)) (Keeps.refl ..)
  clear_value v2
  intro v3
  have h3 : Keeps 134217727 s v3 := by
    subst v3
    refine (State.bindPairing_keeps _).lift rfl ?_
    refine (State.debugClose_keeps _).lift rfl ?_
    exact (State.closeAll_keeps _).lift rfl h2
  clear_value v3
  intro v4
  have h4 : Keeps 134217727 s v4 := (State.wr_keeps _ _ _).lift rfl h3
  clear_value v4
  intro v5 v6
  refine (State.wr_keeps _ _ _).lift rfl ?_
  refine (State.wr_keeps _ _ _).lift rfl ?_
  subst v6
  refine ⟨fun p hp => Part.same_trans (h4.same p hp) ?_, fun hs => ?_, fun _ => rfl⟩
  · cases p <;> first | rfl | exact absurd hp (by decide)
  · have k := (State.canonical_iff _).mp (h4.canonical hs)
    refine (State.canonical_iff _).mpr ⟨Store.wf_filter _ k.1, Store.wf_filter _ k.2.1, rfl, rfl, ⟨rfl, rfl, rfl⟩, ?_⟩
    exact fun _ h => nomatch h

theorem State.extendReset_keeps (s) : Keeps 32 s (State.extendReset s) := by
  have h0 := Keeps.refl 32 s
  unfold State.extendReset
  refine (State.modPw_keeps _ _).lift rfl ?_
  assumption

theorem State.releaseReset_keeps (s) (hostSel) (twinRole) : Keeps 32 s (State.releaseReset s hostSel twinRole) := by
  have h0 := Keeps.refl 32 s
  unfold State.releaseReset
  refine Keeps.ite ?_ ?_
  · refine (State.modPw_keeps _ _).lift rfl ?_
    assumption
  · assumption

theorem State.releaseWarm_keeps (s) : Keeps 32 s (State.releaseWarm s) := by
  have h0 := Keeps.refl 32 s
  unfold State.releaseWarm
  refine Keeps.ite ?_ ?_
  · assumption
  · refine (State.releaseReset_keeps _ _ _).lift rfl ?_
    assumption

theorem State.warmReset_keeps (s) (cause) : Keeps 134217727 s (State.warmReset s cause) := by
  have h0 := Keeps.refl 134217727 s
  unfold State.warmReset
  refine (State.releaseWarm_keeps _).lift rfl ?_
  refine (State.resetDevice_keeps _ _ _ _).lift rfl ?_
  assumption

theorem State.v24Restart_keeps (s) : Keeps 65537 s (State.v24Restart s) := by
  have h0 := Keeps.refl 65537 s
  unfold State.v24Restart
  lift_lets -underBinder
  intro v1
  refine (State.modField_keeps _ _).lift rfl ?_
  refine (State.clrBit_keeps _ _ _).lift rfl ?_
  assumption

theorem State.leaveStandby_keeps (s) : Keeps 134217727 s (State.leaveStandby s) := by
  have h0 := Keeps.refl 134217727 s
  unfold State.leaveStandby
  refine Keeps.ite ?_ ?_
  · lift_lets -underBinder
    intro v1
    have h2 : Keeps 134217727 s v1 := by
      subst v1
      refine (State.wr_keeps _ _ _).lift rfl ?_
      assumption
    clear_value v1
    intro v3
    have h4 : Keeps 134217727 s v3 := by
      subst v3
      refine (State.v24Restart_keeps _).lift rfl ?_
      refine (State.resetDevice_keeps _ _ _ _).lift rfl ?_
      assumption
    clear_value v3
    refine (State.modHost_keeps _ _ ?_).lift rfl ?_
    · exact fun h => ((State.canonical_iff _).mp h).2.2.2.2.1
    · assumption
  · assumption

theorem State.porstRelease_keeps (s) : Keeps 134217727 s (State.porstRelease s) := by
  have h0 := Keeps.refl 134217727 s
  unfold State.porstRelease
  lift_lets -underBinder
  intro v1
  have h2 : Keeps 134217727 s v1 := by
    subst v1
    refine (State.modPw_keeps _ _).lift rfl ?_
    assumption
  clear_value v1
  intro v3
  have h4 : Keeps 134217727 s v3 := by
    subst v3
    refine Keeps.ite ?_ ?_
    · refine (State.leaveStandby_keeps _).lift rfl ?_
      refine (State.extendReset_keeps _).lift rfl ?_
      assumption
    · refine Keeps.ite ?_ ?_
      · refine (State.extendReset_keeps _).lift rfl ?_
        assumption
      · refine (State.resetDevice_keeps _ _ _ _).lift rfl ?_
        assumption
  clear_value v3
  refine (State.v24Restart_keeps _).lift rfl ?_
  assumption

theorem execPorstNRelease_keeps (s) : Runs 134217727 s (execPorstNRelease s) := by
  have h0 := Keeps.refl 134217727 s
  unfold execPorstNRelease
  refine Runs.next ?_
  refine (State.porstRelease_keeps _).lift rfl ?_
  assumption

theorem execInternalResetRelease_keeps (hostSel) (twinRole) (s) : Runs 134217727 s (execInternalResetRelease hostSel twinRole s) := by
  have h0 := Keeps.refl 134217727 s
  unfold execInternalResetRelease
  refine Runs.next ?_
  refine (State.releaseReset_keeps _ _ _).lift rfl ?_
  refine (State.leaveStandby_keeps _).lift rfl ?_
  assumption

theorem execResetHoldTimeout_keeps (s) : Runs 32 s (execResetHoldTimeout s) := by
  have h0 := Keeps.refl 32 s
  unfold execResetHoldTimeout
  refine Runs.next ?_
  refine Keeps.ite ?_ ?_
  · refine (State.modPw_keeps _ _).lift rfl ?_
    assumption
  · assumption

theorem State.warmPin_keeps (s) (low) : Keeps 134217727 s (State.warmPin s low) := by
  have h0 := Keeps.refl 134217727 s
  unfold State.warmPin
  refine Keeps.ite ?_ ?_
  · assumption
  · refine Keeps.ite ?_ ?_
    · refine (State.modPw_keeps _ _).lift rfl ?_
      refine (State.resetDevice_keeps _ _ _ _).lift rfl ?_
      assumption
    · refine (State.releaseWarm_keeps _).lift rfl ?_
      refine (State.modPw_keeps _ _).lift rfl ?_
      assumption

theorem execWarmrstN_keeps (low) (s) : Runs 134217727 s (execWarmrstN low s) := by
  have h0 := Keeps.refl 134217727 s
  unfold execWarmrstN
  refine Runs.next ?_
  refine (State.warmPin_keeps _ _).lift rfl ?_
  assumption

theorem execSoftwareReset_keeps (s) : Runs 134217727 s (execSoftwareReset s) := by
  have h0 := Keeps.refl 134217727 s
  unfold execSoftwareReset
  refine Runs.next ?_
  refine Keeps.ite ?_ ?_
  · refine (State.warmReset_keeps _ _).lift rfl ?_
    assumption
  · assumption

theorem execFenceReset_keeps (s) : Runs 134217727 s (execFenceReset s) := by
  have h0 := Keeps.refl 134217727 s
  unfold execFenceReset
  refine Runs.next ?_
  refine Keeps.ite ?_ ?_
  · refine (State.warmReset_keeps _ _).lift rfl ?_
    assumption
  · assumption

theorem execRef25InAbsent_keeps (s) : Runs 134217727 s (execRef25InAbsent s) := by
  have h0 := Keeps.refl 134217727 s
  unfold execRef25InAbsent
  refine Runs.next ?_
  refine Keeps.ite ?_ ?_
  · assumption
  · refine (State.modPw_keeps _ _).lift rfl ?_
    refine (State.resetDevice_keeps _ _ _ _).lift rfl ?_
    refine (State.fenceAll_keeps _).lift rfl ?_
    assumption

theorem execRef25InReturn_keeps (hostSel) (twinRole) (s) : Runs 32 s (execRef25InReturn hostSel twinRole s) := by
  have h0 := Keeps.refl 32 s
  unfold execRef25InReturn
  refine Runs.next ?_
  refine Keeps.ite ?_ ?_
  · refine (State.releaseReset_keeps _ _ _).lift rfl ?_
    refine (State.modPw_keeps _ _).lift rfl ?_
    assumption
  · assumption

theorem execSysPllLoss_keeps (s) : Runs 545 s (execSysPllLoss s) := by
  have h0 := Keeps.refl 545 s
  unfold execSysPllLoss
  refine Runs.next ?_
  refine Keeps.ite ?_ ?_
  · assumption
  · refine (State.modPw_keeps _ _).lift rfl ?_
    refine (State.clrBit_keeps _ _ _).lift rfl ?_
    refine (State.fenceAll_keeps _).lift rfl ?_
    assumption

theorem execSysPllRelock_keeps (s) : Runs 134217727 s (execSysPllRelock s) := by
  have h0 := Keeps.refl 134217727 s
  unfold execSysPllRelock
  refine Runs.next ?_
  refine Keeps.ite ?_ ?_
  · refine (State.warmReset_keeps _ _).lift rfl ?_
    refine (State.modPw_keeps _ _).lift rfl ?_
    assumption
  · assumption

theorem State.violation_keeps (s) (row) : Keeps 32 s (State.violation s row) := by
  have h0 := Keeps.refl 32 s
  unfold State.violation
  refine Keeps.ite ?_ ?_
  · refine (State.modPw_keeps _ _).lift rfl ?_
    assumption
  · assumption

theorem State.rowSeen_keeps (s) (row) : Keeps 32 s (State.rowSeen s row) := by
  have h0 := Keeps.refl 32 s
  unfold State.rowSeen
  split
  · refine Keeps.ite ?_ ?_
    · refine (State.violation_keeps _ _).lift rfl ?_
      assumption
    · assumption
  · assumption

theorem State.railLoss_keeps (s) (rail) (volts) (row) : Keeps 134217727 s (State.railLoss s rail volts row) := by
  have h0 := Keeps.refl 134217727 s
  unfold State.railLoss
  refine Keeps.ite ?_ ?_
  · refine (State.rowSeen_keeps _ _).lift rfl ?_
    refine (State.wr_keeps _ _ _).lift rfl ?_
    assumption
  · lift_lets -underBinder
    intro v1
    have h2 : Keeps 134217727 s v1 := by
      subst v1
      refine Keeps.ite ?_ ?_
      · assumption
      · refine (State.resetDevice_keeps _ _ _ _).lift rfl ?_
        refine (State.fenceAll_keeps _).lift rfl ?_
        assumption
    clear_value v1
    intro v3
    have h4 : Keeps 134217727 s v3 := by
      subst v3
      refine (State.violation_keeps _ _).lift rfl ?_
      assumption
    clear_value v3
    intro v5
    have h6 : Keeps 134217727 s v5 := by
      subst v5
      refine (State.modPw_keeps _ _).lift rfl ?_
      assumption
    clear_value v5
    intro v7
    have h8 : Keeps 134217727 s v7 := by
      subst v7
      refine Keeps.ite ?_ ?_
      · refine (State.keeperRelease_keeps _ _).lift rfl ?_
        assumption
      · assumption
    clear_value v7
    refine (State.rowSeen_keeps _ _).lift rfl ?_
    refine (State.wr_keeps _ _ _).lift rfl ?_
    assumption

theorem execRailLoss_keeps (rail) (volts) (row) (s) : Runs 134217727 s (execRailLoss rail volts row s) := by
  have h0 := Keeps.refl 134217727 s
  unfold execRailLoss
  refine Runs.next ?_
  refine (State.railLoss_keeps _ _ _ _).lift rfl ?_
  assumption

theorem State.railRise_keeps (s) (rail) (volts) (row) : Keeps 33 s (State.railRise s rail volts row) := by
  have h0 := Keeps.refl 33 s
  unfold State.railRise
  lift_lets -underBinder
  intro v1
  have h2 : Keeps 33 s v1 := by
    subst v1
    refine (State.rowSeen_keeps _ _).lift rfl ?_
    refine (State.wr_keeps _ _ _).lift rfl ?_
    assumption
  clear_value v1
  intro v3
  intro v4
  have h5 : Keeps 33 s v4 := by
    subst v4
    refine (State.modPw_keeps _ _).lift rfl ?_
    assumption
  clear_value v4
  intro v6
  have h7 : Keeps 33 s v6 := by
    subst v6
    refine Keeps.ite ?_ ?_
    · refine (State.extendReset_keeps _).lift rfl ?_
      assumption
    · assumption
  clear_value v6
  refine Keeps.ite ?_ ?_
  · assumption
  · refine (State.doRefresh_keeps _).lift rfl ?_
    assumption

theorem execControlRailUp_keeps (rail) (volts) (row) (s) : Runs 33 s (execControlRailUp rail volts row s) := by
  have h0 := Keeps.refl 33 s
  unfold execControlRailUp
  refine Runs.next ?_
  refine (State.railRise_keeps _ _ _ _).lift rfl ?_
  assumption

theorem execStandbyEntry_keeps (s) : Runs 33 s (execStandbyEntry s) := by
  have h0 := Keeps.refl 33 s
  unfold execStandbyEntry
  refine Runs.next ?_
  refine Keeps.ite ?_ ?_
  · lift_lets -underBinder
    intro v1
    have h2 : Keeps 33 s v1 := by
      subst v1
      refine (State.wr_keeps _ _ _).lift rfl ?_
      refine (State.bump_keeps _ _).lift rfl ?_
      refine (State.wr_keeps _ _ _).lift rfl ?_
      assumption
    clear_value v1
    refine (State.modPw_keeps _ _).lift rfl ?_
    assumption
  · assumption

theorem State.aonReset_keeps (s) (up) (hv) (crystal) : Keeps 32801 s (State.aonReset s up hv crystal) := by
  have h0 := Keeps.refl 32801 s
  unfold State.aonReset
  lift_lets -underBinder
  intro v1
  have h2 : Keeps 32801 s v1 := by
    subst v1
    refine Keeps.lift (m := 32801) (n := 32768) (Keeps.setTrack ({ s with regs := _ } : State) _) rfl ?_
    refine Keeps.lift (m := 32801) (n := 1) (Keeps.setRegs (s : State) _ ?_) rfl ?_
    · exact fun h => Store.wf_filter _ ((State.canonical_iff _).mp h).1
    assumption
  clear_value v1
  intro v3
  have h4 : Keeps 32801 s v3 := by
    subst v3
    refine (State.modPw_keeps _ _).lift rfl ?_
    assumption
  clear_value v3
  intro v5
  have h6 : Keeps 32801 s v5 := by
    subst v5
    refine (State.putBit_keeps _ _ _ _).lift rfl ?_
    refine (State.putBit_keeps _ _ _ _).lift rfl ?_
    assumption
  clear_value v5
  refine (State.vstbyRefresh_keeps _).lift rfl ?_
  refine (State.putBit_keeps _ _ _ _).lift rfl ?_
  assumption

theorem execVaonLoss_keeps (s) : Runs 32801 s (execVaonLoss s) := by
  have h0 := Keeps.refl 32801 s
  unfold execVaonLoss
  lift_lets -underBinder
  intro v1
  intro v2
  have h3 : Keeps 32801 s v2 := by
    subst v2
    refine (State.aonReset_keeps _ _ _ _).lift rfl ?_
    assumption
  clear_value v2
  refine Runs.next ?_
  refine Keeps.ite ?_ ?_
  · refine (State.wr_keeps _ _ _).lift rfl ?_
    assumption
  · assumption

theorem execAlwaysOnDomainStart_keeps (hv) (crystal) (s) : Runs 32801 s (execAlwaysOnDomainStart hv crystal s) := by
  have h0 := Keeps.refl 32801 s
  unfold execAlwaysOnDomainStart
  refine Runs.next ?_
  refine (State.aonReset_keeps _ _ _ _).lift rfl ?_
  assumption

theorem State.bootSteps_keeps (s) (reporting) (storedOk) (calOk) : Keeps 192707567 s (State.bootSteps s reporting storedOk calOk) := by
  have h0 := Keeps.refl 192707567 s
  unfold State.bootSteps
  lift_lets -underBinder
  intro v1
  have h2 : Keeps 192707567 s v1 := by
    subst v1
    refine (State.bump_keeps _ _).lift rfl ?_
    refine (State.wr_keeps _ _ _).lift rfl ?_
    assumption
  clear_value v1
  intro v3
  have h4 : Keeps 192707567 s v3 := by
    subst v3
    refine (State.drawNonce_keeps _).lift rfl ?_
    refine (State.bump_keeps _ _).lift rfl ?_
    assumption
  clear_value v3
  intro v5
  have h6 : Keeps 192707567 s v5 := by
    subst v5
    refine (State.setBit_keeps _ _ _).lift rfl ?_
    refine (State.setBit_keeps _ _ _).lift rfl ?_
    refine (State.setBit_keeps _ _ _).lift rfl ?_
    assumption
  clear_value v5
  intro v7
  have h8 : Keeps 192707567 s v7 := by
    subst v7
    refine (State.bootCommit_keeps _).lift rfl ?_
    refine (State.restore_keeps _ _).lift rfl ?_
    refine (State.calBoot_keeps _ _).lift rfl ?_
    assumption
  clear_value v7
  intro v9
  have h10 : Keeps 192707567 s v9 := by
    subst v9
    refine (State.putBit_keeps _ _ _ _).lift rfl ?_
    assumption
  clear_value v9
  intro v11
  have h12 : Keeps 192707567 s v11 := by
    subst v11
    refine Keeps.each ?_ (fun t13 a14 h15 => ?_)
    · assumption
    · refine (State.carrierStart_keeps _ _).lift rfl ?_
      assumption
  clear_value v11
  intro v16
  have h17 : Keeps 192707567 s v16 := by
    subst v16
    refine Keeps.each ?_ (fun t18 a19 h20 => ?_)
    · assumption
    · refine (State.putBit_keeps _ _ _ _).lift rfl ?_
      assumption
  clear_value v16
  intro v21
  have h22 : Keeps 192707567 s v21 := by
    subst v21
    refine (State.trackRestore_keeps _).lift rfl ?_
    assumption
  clear_value v21
  intro v23
  have h24 : Keeps 192707567 s v23 := by
    subst v23
    refine Keeps.each ?_ (fun t25 a26 h27 => ?_)
    · assumption
    · refine Keeps.ite ?_ ?_
      · refine (State.audit_keeps _ _ _ _ _).lift rfl ?_
        refine (State.bump_keeps _ _).lift rfl ?_
        refine (State.setBit_keeps _ _ _).lift rfl ?_
        assumption
      · assumption
  clear_value v23
  intro v28
  have h29 : Keeps 192707567 s v28 := by
    subst v28
    refine (State.modPw_keeps _ _).lift rfl ?_
    assumption
  clear_value v28
  refine (State.twinStart_keeps _).lift rfl ?_
  assumption

theorem execBootComplete_keeps (reporting) (storedOk) (calOk) (s) : Runs 192707567 s (execBootComplete reporting storedOk calOk s) := by
  have h0 := Keeps.refl 192707567 s
  unfold execBootComplete
  refine Runs.next ?_
  refine Keeps.ite ?_ ?_
  · lift_lets -underBinder
    intro v1
    have h2 : Keeps 192707567 s v1 := by
      subst v1
      refine (State.bootSteps_keeps _ _ _ _).lift rfl ?_
      assumption
    clear_value v1
    refine Keeps.ite ?_ ?_
    · assumption
    · refine (State.bootFinish_keeps _).lift rfl ?_
      assumption
  · assumption

theorem State.bootFailure_keeps (s) : Keeps 134217727 s (State.bootFailure s) := by
  have h0 := Keeps.refl 134217727 s
  unfold State.bootFailure
  refine Keeps.ite ?_ ?_
  · assumption
  · lift_lets -underBinder
    intro v1
    have h2 : Keeps 134217727 s v1 := by
      subst v1
      refine (State.wear_keeps _ _ _).lift rfl ?_
      refine (State.bump_keeps _ _).lift rfl ?_
      assumption
    clear_value v1
    intro v3
    have h4 : Keeps 134217727 s v3 := by
      subst v3
      refine (State.modPw_keeps _ _).lift rfl ?_
      assumption
    clear_value v3
    intro v5
    have h6 : Keeps 134217727 s v5 := by
      subst v5
      refine (State.wr_keeps _ _ _).lift rfl ?_
      refine (State.wr_keeps _ _ _).lift rfl ?_
      assumption
    clear_value v5
    intro v7
    have h8 : Keeps 134217727 s v7 := by
      subst v7
      refine Keeps.ite ?_ ?_
      · assumption
      · refine (State.audit_keeps _ _ _ _ _).lift rfl ?_
        refine (State.modPw_keeps _ _).lift rfl ?_
        assumption
    clear_value v7
    refine Keeps.ite ?_ ?_
    · refine (State.warmReset_keeps _ _).lift rfl ?_
      assumption
    · assumption

theorem execBootFailure_keeps (s) : Runs 134217727 s (execBootFailure s) := by
  have h0 := Keeps.refl 134217727 s
  unfold execBootFailure
  refine Runs.next ?_
  refine (State.bootFailure_keeps _).lift rfl ?_
  assumption

theorem State.physicalRelease_keeps (s) : Keeps 449 s (State.physicalRelease s) := by
  have h0 := Keeps.refl 449 s
  unfold State.physicalRelease
  refine Keeps.ite ?_ ?_
  · assumption
  · lift_lets -underBinder
    intro v1
    have h2 : Keeps 449 s v1 := by
      subst v1
      refine (State.modSec_keeps _ _).lift rfl ?_
      assumption
    clear_value v1
    intro v3
    have h4 : Keeps 449 s v3 := by
      subst v3
      refine (State.wr_keeps _ _ _).lift rfl ?_
      refine (State.wr_keeps _ _ _).lift rfl ?_
      refine (State.wr_keeps _ _ _).lift rfl ?_
      assumption
    clear_value v3
    intro v5
    have h6 : Keeps 449 s v5 := by
      subst v5
      refine (State.modDict_keeps _ _ ?_).lift rfl ?_
      · exact fun h => ((State.canonical_iff _).mp h).2.2.2.2.2
      · assumption
    clear_value v5
    refine (State.audit_keeps _ _ _ _ _).lift rfl ?_
    assumption

theorem execPhysicalRelease_keeps (s) : Runs 449 s (execPhysicalRelease s) := by
  have h0 := Keeps.refl 449 s
  unfold execPhysicalRelease
  refine Runs.next ?_
  refine (State.physicalRelease_keeps _).lift rfl ?_
  assumption

end Sys2Proof.Machine
end

