-- ==== Sys2Proof/Laws/State.lean ====
section
/-! SUPPORT. The laws of the state: for each update one lemma for each part that it leaves alone, and what an object reads after
each update. -/
namespace Sys2Proof.Machine
open Sys2Proof Obj

/-! ### Parts left alone -/

@[simp] theorem State.wr_force (s : State) (k v : Nat) : (s.wr k v).force = s.force := rfl
@[simp] theorem State.wr_blobs (s : State) (k v : Nat) : (s.wr k v).blobs = s.blobs := rfl
@[simp] theorem State.wr_time (s : State) (k v : Nat) : (s.wr k v).time = s.time := rfl
@[simp] theorem State.wr_net (s : State) (k v : Nat) : (s.wr k v).net = s.net := rfl
@[simp] theorem State.wr_pw (s : State) (k v : Nat) : (s.wr k v).pw = s.pw := rfl
@[simp] theorem State.wr_sec (s : State) (k v : Nat) : (s.wr k v).sec = s.sec := rfl
@[simp] theorem State.wr_dict (s : State) (k v : Nat) : (s.wr k v).dict = s.dict := rfl
@[simp] theorem State.wr_host (s : State) (k v : Nat) : (s.wr k v).host = s.host := rfl
@[simp] theorem State.wr_leg (s : State) (k v : Nat) : (s.wr k v).leg = s.leg := rfl
@[simp] theorem State.wr_cell (s : State) (k v : Nat) : (s.wr k v).cell = s.cell := rfl
@[simp] theorem State.wr_axis (s : State) (k v : Nat) : (s.wr k v).axis = s.axis := rfl
@[simp] theorem State.wr_port (s : State) (k v : Nat) : (s.wr k v).port = s.port := rfl
@[simp] theorem State.wr_latch (s : State) (k v : Nat) : (s.wr k v).latch = s.latch := rfl
@[simp] theorem State.wr_emu (s : State) (k v : Nat) : (s.wr k v).emu = s.emu := rfl
@[simp] theorem State.wr_track (s : State) (k v : Nat) : (s.wr k v).track = s.track := rfl
@[simp] theorem State.wr_field (s : State) (k v : Nat) : (s.wr k v).field = s.field := rfl
@[simp] theorem State.wr_casc (s : State) (k v : Nat) : (s.wr k v).casc = s.casc := rfl
@[simp] theorem State.wr_sub (s : State) (k v : Nat) : (s.wr k v).sub = s.sub := rfl
@[simp] theorem State.wr_pub (s : State) (k v : Nat) : (s.wr k v).pub = s.pub := rfl
@[simp] theorem State.wr_tableRam (s : State) (k v : Nat) : (s.wr k v).tableRam = s.tableRam := rfl
@[simp] theorem State.wr_tableLen (s : State) (k v : Nat) : (s.wr k v).tableLen = s.tableLen := rfl
@[simp] theorem State.wr_acq (s : State) (k v : Nat) : (s.wr k v).acq = s.acq := rfl
@[simp] theorem State.wr_sp (s : State) (k v : Nat) : (s.wr k v).sp = s.sp := rfl
@[simp] theorem State.wr_twin (s : State) (k v : Nat) : (s.wr k v).twin = s.twin := rfl
@[simp] theorem State.wr_can (s : State) (k v : Nat) : (s.wr k v).can = s.can := rfl
@[simp] theorem State.wr_acqRam (s : State) (k v : Nat) : (s.wr k v).acqRam = s.acqRam := rfl
@[simp] theorem State.wr_out (s : State) (k v : Nat) : (s.wr k v).out = s.out := rfl
@[simp] theorem State.wr_pending (s : State) (k v : Nat) : (s.wr k v).pending = s.pending := rfl

@[simp] theorem State.wrForce_regs (s : State) (k v : Nat) : (s.wrForce k v).regs = s.regs := rfl
@[simp] theorem State.wrForce_blobs (s : State) (k v : Nat) : (s.wrForce k v).blobs = s.blobs := rfl
@[simp] theorem State.wrForce_time (s : State) (k v : Nat) : (s.wrForce k v).time = s.time := rfl
@[simp] theorem State.wrForce_net (s : State) (k v : Nat) : (s.wrForce k v).net = s.net := rfl
@[simp] theorem State.wrForce_pw (s : State) (k v : Nat) : (s.wrForce k v).pw = s.pw := rfl
@[simp] theorem State.wrForce_sec (s : State) (k v : Nat) : (s.wrForce k v).sec = s.sec := rfl
@[simp] theorem State.wrForce_dict (s : State) (k v : Nat) : (s.wrForce k v).dict = s.dict := rfl
@[simp] theorem State.wrForce_host (s : State) (k v : Nat) : (s.wrForce k v).host = s.host := rfl
@[simp] theorem State.wrForce_leg (s : State) (k v : Nat) : (s.wrForce k v).leg = s.leg := rfl
@[simp] theorem State.wrForce_cell (s : State) (k v : Nat) : (s.wrForce k v).cell = s.cell := rfl
@[simp] theorem State.wrForce_axis (s : State) (k v : Nat) : (s.wrForce k v).axis = s.axis := rfl
@[simp] theorem State.wrForce_port (s : State) (k v : Nat) : (s.wrForce k v).port = s.port := rfl
@[simp] theorem State.wrForce_latch (s : State) (k v : Nat) : (s.wrForce k v).latch = s.latch := rfl
@[simp] theorem State.wrForce_emu (s : State) (k v : Nat) : (s.wrForce k v).emu = s.emu := rfl
@[simp] theorem State.wrForce_track (s : State) (k v : Nat) : (s.wrForce k v).track = s.track := rfl
@[simp] theorem State.wrForce_field (s : State) (k v : Nat) : (s.wrForce k v).field = s.field := rfl
@[simp] theorem State.wrForce_casc (s : State) (k v : Nat) : (s.wrForce k v).casc = s.casc := rfl
@[simp] theorem State.wrForce_sub (s : State) (k v : Nat) : (s.wrForce k v).sub = s.sub := rfl
@[simp] theorem State.wrForce_pub (s : State) (k v : Nat) : (s.wrForce k v).pub = s.pub := rfl
@[simp] theorem State.wrForce_tableRam (s : State) (k v : Nat) : (s.wrForce k v).tableRam = s.tableRam := rfl
@[simp] theorem State.wrForce_tableLen (s : State) (k v : Nat) : (s.wrForce k v).tableLen = s.tableLen := rfl
@[simp] theorem State.wrForce_acq (s : State) (k v : Nat) : (s.wrForce k v).acq = s.acq := rfl
@[simp] theorem State.wrForce_sp (s : State) (k v : Nat) : (s.wrForce k v).sp = s.sp := rfl
@[simp] theorem State.wrForce_twin (s : State) (k v : Nat) : (s.wrForce k v).twin = s.twin := rfl
@[simp] theorem State.wrForce_can (s : State) (k v : Nat) : (s.wrForce k v).can = s.can := rfl
@[simp] theorem State.wrForce_acqRam (s : State) (k v : Nat) : (s.wrForce k v).acqRam = s.acqRam := rfl
@[simp] theorem State.wrForce_out (s : State) (k v : Nat) : (s.wrForce k v).out = s.out := rfl
@[simp] theorem State.wrForce_pending (s : State) (k v : Nat) : (s.wrForce k v).pending = s.pending := rfl

@[simp] theorem State.bump_force (s : State) (k : Nat) : (s.bump k).force = s.force := rfl
@[simp] theorem State.bump_blobs (s : State) (k : Nat) : (s.bump k).blobs = s.blobs := rfl
@[simp] theorem State.bump_time (s : State) (k : Nat) : (s.bump k).time = s.time := rfl
@[simp] theorem State.bump_net (s : State) (k : Nat) : (s.bump k).net = s.net := rfl
@[simp] theorem State.bump_pw (s : State) (k : Nat) : (s.bump k).pw = s.pw := rfl
@[simp] theorem State.bump_sec (s : State) (k : Nat) : (s.bump k).sec = s.sec := rfl
@[simp] theorem State.bump_dict (s : State) (k : Nat) : (s.bump k).dict = s.dict := rfl
@[simp] theorem State.bump_host (s : State) (k : Nat) : (s.bump k).host = s.host := rfl
@[simp] theorem State.bump_leg (s : State) (k : Nat) : (s.bump k).leg = s.leg := rfl
@[simp] theorem State.bump_cell (s : State) (k : Nat) : (s.bump k).cell = s.cell := rfl
@[simp] theorem State.bump_axis (s : State) (k : Nat) : (s.bump k).axis = s.axis := rfl
@[simp] theorem State.bump_port (s : State) (k : Nat) : (s.bump k).port = s.port := rfl
@[simp] theorem State.bump_latch (s : State) (k : Nat) : (s.bump k).latch = s.latch := rfl
@[simp] theorem State.bump_emu (s : State) (k : Nat) : (s.bump k).emu = s.emu := rfl
@[simp] theorem State.bump_track (s : State) (k : Nat) : (s.bump k).track = s.track := rfl
@[simp] theorem State.bump_field (s : State) (k : Nat) : (s.bump k).field = s.field := rfl
@[simp] theorem State.bump_casc (s : State) (k : Nat) : (s.bump k).casc = s.casc := rfl
@[simp] theorem State.bump_sub (s : State) (k : Nat) : (s.bump k).sub = s.sub := rfl
@[simp] theorem State.bump_pub (s : State) (k : Nat) : (s.bump k).pub = s.pub := rfl
@[simp] theorem State.bump_tableRam (s : State) (k : Nat) : (s.bump k).tableRam = s.tableRam := rfl
@[simp] theorem State.bump_tableLen (s : State) (k : Nat) : (s.bump k).tableLen = s.tableLen := rfl
@[simp] theorem State.bump_acq (s : State) (k : Nat) : (s.bump k).acq = s.acq := rfl
@[simp] theorem State.bump_sp (s : State) (k : Nat) : (s.bump k).sp = s.sp := rfl
@[simp] theorem State.bump_twin (s : State) (k : Nat) : (s.bump k).twin = s.twin := rfl
@[simp] theorem State.bump_can (s : State) (k : Nat) : (s.bump k).can = s.can := rfl
@[simp] theorem State.bump_acqRam (s : State) (k : Nat) : (s.bump k).acqRam = s.acqRam := rfl
@[simp] theorem State.bump_out (s : State) (k : Nat) : (s.bump k).out = s.out := rfl
@[simp] theorem State.bump_pending (s : State) (k : Nat) : (s.bump k).pending = s.pending := rfl

@[simp] theorem State.setBit_force (s : State) (k i : Nat) : (s.setBit k i).force = s.force := rfl
@[simp] theorem State.setBit_blobs (s : State) (k i : Nat) : (s.setBit k i).blobs = s.blobs := rfl
@[simp] theorem State.setBit_time (s : State) (k i : Nat) : (s.setBit k i).time = s.time := rfl
@[simp] theorem State.setBit_net (s : State) (k i : Nat) : (s.setBit k i).net = s.net := rfl
@[simp] theorem State.setBit_pw (s : State) (k i : Nat) : (s.setBit k i).pw = s.pw := rfl
@[simp] theorem State.setBit_sec (s : State) (k i : Nat) : (s.setBit k i).sec = s.sec := rfl
@[simp] theorem State.setBit_dict (s : State) (k i : Nat) : (s.setBit k i).dict = s.dict := rfl
@[simp] theorem State.setBit_host (s : State) (k i : Nat) : (s.setBit k i).host = s.host := rfl
@[simp] theorem State.setBit_leg (s : State) (k i : Nat) : (s.setBit k i).leg = s.leg := rfl
@[simp] theorem State.setBit_cell (s : State) (k i : Nat) : (s.setBit k i).cell = s.cell := rfl
@[simp] theorem State.setBit_axis (s : State) (k i : Nat) : (s.setBit k i).axis = s.axis := rfl
@[simp] theorem State.setBit_port (s : State) (k i : Nat) : (s.setBit k i).port = s.port := rfl
@[simp] theorem State.setBit_latch (s : State) (k i : Nat) : (s.setBit k i).latch = s.latch := rfl
@[simp] theorem State.setBit_emu (s : State) (k i : Nat) : (s.setBit k i).emu = s.emu := rfl
@[simp] theorem State.setBit_track (s : State) (k i : Nat) : (s.setBit k i).track = s.track := rfl
@[simp] theorem State.setBit_field (s : State) (k i : Nat) : (s.setBit k i).field = s.field := rfl
@[simp] theorem State.setBit_casc (s : State) (k i : Nat) : (s.setBit k i).casc = s.casc := rfl
@[simp] theorem State.setBit_sub (s : State) (k i : Nat) : (s.setBit k i).sub = s.sub := rfl
@[simp] theorem State.setBit_pub (s : State) (k i : Nat) : (s.setBit k i).pub = s.pub := rfl
@[simp] theorem State.setBit_tableRam (s : State) (k i : Nat) : (s.setBit k i).tableRam = s.tableRam := rfl
@[simp] theorem State.setBit_tableLen (s : State) (k i : Nat) : (s.setBit k i).tableLen = s.tableLen := rfl
@[simp] theorem State.setBit_acq (s : State) (k i : Nat) : (s.setBit k i).acq = s.acq := rfl
@[simp] theorem State.setBit_sp (s : State) (k i : Nat) : (s.setBit k i).sp = s.sp := rfl
@[simp] theorem State.setBit_twin (s : State) (k i : Nat) : (s.setBit k i).twin = s.twin := rfl
@[simp] theorem State.setBit_can (s : State) (k i : Nat) : (s.setBit k i).can = s.can := rfl
@[simp] theorem State.setBit_acqRam (s : State) (k i : Nat) : (s.setBit k i).acqRam = s.acqRam := rfl
@[simp] theorem State.setBit_out (s : State) (k i : Nat) : (s.setBit k i).out = s.out := rfl
@[simp] theorem State.setBit_pending (s : State) (k i : Nat) : (s.setBit k i).pending = s.pending := rfl

@[simp] theorem State.clrBit_force (s : State) (k i : Nat) : (s.clrBit k i).force = s.force := rfl
@[simp] theorem State.clrBit_blobs (s : State) (k i : Nat) : (s.clrBit k i).blobs = s.blobs := rfl
@[simp] theorem State.clrBit_time (s : State) (k i : Nat) : (s.clrBit k i).time = s.time := rfl
@[simp] theorem State.clrBit_net (s : State) (k i : Nat) : (s.clrBit k i).net = s.net := rfl
@[simp] theorem State.clrBit_pw (s : State) (k i : Nat) : (s.clrBit k i).pw = s.pw := rfl
@[simp] theorem State.clrBit_sec (s : State) (k i : Nat) : (s.clrBit k i).sec = s.sec := rfl
@[simp] theorem State.clrBit_dict (s : State) (k i : Nat) : (s.clrBit k i).dict = s.dict := rfl
@[simp] theorem State.clrBit_host (s : State) (k i : Nat) : (s.clrBit k i).host = s.host := rfl
@[simp] theorem State.clrBit_leg (s : State) (k i : Nat) : (s.clrBit k i).leg = s.leg := rfl
@[simp] theorem State.clrBit_cell (s : State) (k i : Nat) : (s.clrBit k i).cell = s.cell := rfl
@[simp] theorem State.clrBit_axis (s : State) (k i : Nat) : (s.clrBit k i).axis = s.axis := rfl
@[simp] theorem State.clrBit_port (s : State) (k i : Nat) : (s.clrBit k i).port = s.port := rfl
@[simp] theorem State.clrBit_latch (s : State) (k i : Nat) : (s.clrBit k i).latch = s.latch := rfl
@[simp] theorem State.clrBit_emu (s : State) (k i : Nat) : (s.clrBit k i).emu = s.emu := rfl
@[simp] theorem State.clrBit_track (s : State) (k i : Nat) : (s.clrBit k i).track = s.track := rfl
@[simp] theorem State.clrBit_field (s : State) (k i : Nat) : (s.clrBit k i).field = s.field := rfl
@[simp] theorem State.clrBit_casc (s : State) (k i : Nat) : (s.clrBit k i).casc = s.casc := rfl
@[simp] theorem State.clrBit_sub (s : State) (k i : Nat) : (s.clrBit k i).sub = s.sub := rfl
@[simp] theorem State.clrBit_pub (s : State) (k i : Nat) : (s.clrBit k i).pub = s.pub := rfl
@[simp] theorem State.clrBit_tableRam (s : State) (k i : Nat) : (s.clrBit k i).tableRam = s.tableRam := rfl
@[simp] theorem State.clrBit_tableLen (s : State) (k i : Nat) : (s.clrBit k i).tableLen = s.tableLen := rfl
@[simp] theorem State.clrBit_acq (s : State) (k i : Nat) : (s.clrBit k i).acq = s.acq := rfl
@[simp] theorem State.clrBit_sp (s : State) (k i : Nat) : (s.clrBit k i).sp = s.sp := rfl
@[simp] theorem State.clrBit_twin (s : State) (k i : Nat) : (s.clrBit k i).twin = s.twin := rfl
@[simp] theorem State.clrBit_can (s : State) (k i : Nat) : (s.clrBit k i).can = s.can := rfl
@[simp] theorem State.clrBit_acqRam (s : State) (k i : Nat) : (s.clrBit k i).acqRam = s.acqRam := rfl
@[simp] theorem State.clrBit_out (s : State) (k i : Nat) : (s.clrBit k i).out = s.out := rfl
@[simp] theorem State.clrBit_pending (s : State) (k i : Nat) : (s.clrBit k i).pending = s.pending := rfl

@[simp] theorem State.putBit_force (s : State) (k i : Nat) (b : Bool) : (s.putBit k i b).force = s.force := rfl
@[simp] theorem State.putBit_blobs (s : State) (k i : Nat) (b : Bool) : (s.putBit k i b).blobs = s.blobs := rfl
@[simp] theorem State.putBit_time (s : State) (k i : Nat) (b : Bool) : (s.putBit k i b).time = s.time := rfl
@[simp] theorem State.putBit_net (s : State) (k i : Nat) (b : Bool) : (s.putBit k i b).net = s.net := rfl
@[simp] theorem State.putBit_pw (s : State) (k i : Nat) (b : Bool) : (s.putBit k i b).pw = s.pw := rfl
@[simp] theorem State.putBit_sec (s : State) (k i : Nat) (b : Bool) : (s.putBit k i b).sec = s.sec := rfl
@[simp] theorem State.putBit_dict (s : State) (k i : Nat) (b : Bool) : (s.putBit k i b).dict = s.dict := rfl
@[simp] theorem State.putBit_host (s : State) (k i : Nat) (b : Bool) : (s.putBit k i b).host = s.host := rfl
@[simp] theorem State.putBit_leg (s : State) (k i : Nat) (b : Bool) : (s.putBit k i b).leg = s.leg := rfl
@[simp] theorem State.putBit_cell (s : State) (k i : Nat) (b : Bool) : (s.putBit k i b).cell = s.cell := rfl
@[simp] theorem State.putBit_axis (s : State) (k i : Nat) (b : Bool) : (s.putBit k i b).axis = s.axis := rfl
@[simp] theorem State.putBit_port (s : State) (k i : Nat) (b : Bool) : (s.putBit k i b).port = s.port := rfl
@[simp] theorem State.putBit_latch (s : State) (k i : Nat) (b : Bool) : (s.putBit k i b).latch = s.latch := rfl
@[simp] theorem State.putBit_emu (s : State) (k i : Nat) (b : Bool) : (s.putBit k i b).emu = s.emu := rfl
@[simp] theorem State.putBit_track (s : State) (k i : Nat) (b : Bool) : (s.putBit k i b).track = s.track := rfl
@[simp] theorem State.putBit_field (s : State) (k i : Nat) (b : Bool) : (s.putBit k i b).field = s.field := rfl
@[simp] theorem State.putBit_casc (s : State) (k i : Nat) (b : Bool) : (s.putBit k i b).casc = s.casc := rfl
@[simp] theorem State.putBit_sub (s : State) (k i : Nat) (b : Bool) : (s.putBit k i b).sub = s.sub := rfl
@[simp] theorem State.putBit_pub (s : State) (k i : Nat) (b : Bool) : (s.putBit k i b).pub = s.pub := rfl
@[simp] theorem State.putBit_tableRam (s : State) (k i : Nat) (b : Bool) : (s.putBit k i b).tableRam = s.tableRam := rfl
@[simp] theorem State.putBit_tableLen (s : State) (k i : Nat) (b : Bool) : (s.putBit k i b).tableLen = s.tableLen := rfl
@[simp] theorem State.putBit_acq (s : State) (k i : Nat) (b : Bool) : (s.putBit k i b).acq = s.acq := rfl
@[simp] theorem State.putBit_sp (s : State) (k i : Nat) (b : Bool) : (s.putBit k i b).sp = s.sp := rfl
@[simp] theorem State.putBit_twin (s : State) (k i : Nat) (b : Bool) : (s.putBit k i b).twin = s.twin := rfl
@[simp] theorem State.putBit_can (s : State) (k i : Nat) (b : Bool) : (s.putBit k i b).can = s.can := rfl
@[simp] theorem State.putBit_acqRam (s : State) (k i : Nat) (b : Bool) : (s.putBit k i b).acqRam = s.acqRam := rfl
@[simp] theorem State.putBit_out (s : State) (k i : Nat) (b : Bool) : (s.putBit k i b).out = s.out := rfl
@[simp] theorem State.putBit_pending (s : State) (k i : Nat) (b : Bool) : (s.putBit k i b).pending = s.pending := rfl

@[simp] theorem State.wrPos_force (s : State) (k : Nat) (v : Int) : (s.wrPos k v).force = s.force := rfl
@[simp] theorem State.wrPos_blobs (s : State) (k : Nat) (v : Int) : (s.wrPos k v).blobs = s.blobs := rfl
@[simp] theorem State.wrPos_time (s : State) (k : Nat) (v : Int) : (s.wrPos k v).time = s.time := rfl
@[simp] theorem State.wrPos_net (s : State) (k : Nat) (v : Int) : (s.wrPos k v).net = s.net := rfl
@[simp] theorem State.wrPos_pw (s : State) (k : Nat) (v : Int) : (s.wrPos k v).pw = s.pw := rfl
@[simp] theorem State.wrPos_sec (s : State) (k : Nat) (v : Int) : (s.wrPos k v).sec = s.sec := rfl
@[simp] theorem State.wrPos_dict (s : State) (k : Nat) (v : Int) : (s.wrPos k v).dict = s.dict := rfl
@[simp] theorem State.wrPos_host (s : State) (k : Nat) (v : Int) : (s.wrPos k v).host = s.host := rfl
@[simp] theorem State.wrPos_leg (s : State) (k : Nat) (v : Int) : (s.wrPos k v).leg = s.leg := rfl
@[simp] theorem State.wrPos_cell (s : State) (k : Nat) (v : Int) : (s.wrPos k v).cell = s.cell := rfl
@[simp] theorem State.wrPos_axis (s : State) (k : Nat) (v : Int) : (s.wrPos k v).axis = s.axis := rfl
@[simp] theorem State.wrPos_port (s : State) (k : Nat) (v : Int) : (s.wrPos k v).port = s.port := rfl
@[simp] theorem State.wrPos_latch (s : State) (k : Nat) (v : Int) : (s.wrPos k v).latch = s.latch := rfl
@[simp] theorem State.wrPos_emu (s : State) (k : Nat) (v : Int) : (s.wrPos k v).emu = s.emu := rfl
@[simp] theorem State.wrPos_track (s : State) (k : Nat) (v : Int) : (s.wrPos k v).track = s.track := rfl
@[simp] theorem State.wrPos_field (s : State) (k : Nat) (v : Int) : (s.wrPos k v).field = s.field := rfl
@[simp] theorem State.wrPos_casc (s : State) (k : Nat) (v : Int) : (s.wrPos k v).casc = s.casc := rfl
@[simp] theorem State.wrPos_sub (s : State) (k : Nat) (v : Int) : (s.wrPos k v).sub = s.sub := rfl
@[simp] theorem State.wrPos_pub (s : State) (k : Nat) (v : Int) : (s.wrPos k v).pub = s.pub := rfl
@[simp] theorem State.wrPos_tableRam (s : State) (k : Nat) (v : Int) : (s.wrPos k v).tableRam = s.tableRam := rfl
@[simp] theorem State.wrPos_tableLen (s : State) (k : Nat) (v : Int) : (s.wrPos k v).tableLen = s.tableLen := rfl
@[simp] theorem State.wrPos_acq (s : State) (k : Nat) (v : Int) : (s.wrPos k v).acq = s.acq := rfl
@[simp] theorem State.wrPos_sp (s : State) (k : Nat) (v : Int) : (s.wrPos k v).sp = s.sp := rfl
@[simp] theorem State.wrPos_twin (s : State) (k : Nat) (v : Int) : (s.wrPos k v).twin = s.twin := rfl
@[simp] theorem State.wrPos_can (s : State) (k : Nat) (v : Int) : (s.wrPos k v).can = s.can := rfl
@[simp] theorem State.wrPos_acqRam (s : State) (k : Nat) (v : Int) : (s.wrPos k v).acqRam = s.acqRam := rfl
@[simp] theorem State.wrPos_out (s : State) (k : Nat) (v : Int) : (s.wrPos k v).out = s.out := rfl
@[simp] theorem State.wrPos_pending (s : State) (k : Nat) (v : Int) : (s.wrPos k v).pending = s.pending := rfl

@[simp] theorem State.wrSat_force (s : State) (k : Nat) (v : Int) : (s.wrSat k v).force = s.force := rfl
@[simp] theorem State.wrSat_blobs (s : State) (k : Nat) (v : Int) : (s.wrSat k v).blobs = s.blobs := rfl
@[simp] theorem State.wrSat_time (s : State) (k : Nat) (v : Int) : (s.wrSat k v).time = s.time := rfl
@[simp] theorem State.wrSat_net (s : State) (k : Nat) (v : Int) : (s.wrSat k v).net = s.net := rfl
@[simp] theorem State.wrSat_pw (s : State) (k : Nat) (v : Int) : (s.wrSat k v).pw = s.pw := rfl
@[simp] theorem State.wrSat_sec (s : State) (k : Nat) (v : Int) : (s.wrSat k v).sec = s.sec := rfl
@[simp] theorem State.wrSat_dict (s : State) (k : Nat) (v : Int) : (s.wrSat k v).dict = s.dict := rfl
@[simp] theorem State.wrSat_host (s : State) (k : Nat) (v : Int) : (s.wrSat k v).host = s.host := rfl
@[simp] theorem State.wrSat_leg (s : State) (k : Nat) (v : Int) : (s.wrSat k v).leg = s.leg := rfl
@[simp] theorem State.wrSat_cell (s : State) (k : Nat) (v : Int) : (s.wrSat k v).cell = s.cell := rfl
@[simp] theorem State.wrSat_axis (s : State) (k : Nat) (v : Int) : (s.wrSat k v).axis = s.axis := rfl
@[simp] theorem State.wrSat_port (s : State) (k : Nat) (v : Int) : (s.wrSat k v).port = s.port := rfl
@[simp] theorem State.wrSat_latch (s : State) (k : Nat) (v : Int) : (s.wrSat k v).latch = s.latch := rfl
@[simp] theorem State.wrSat_emu (s : State) (k : Nat) (v : Int) : (s.wrSat k v).emu = s.emu := rfl
@[simp] theorem State.wrSat_track (s : State) (k : Nat) (v : Int) : (s.wrSat k v).track = s.track := rfl
@[simp] theorem State.wrSat_field (s : State) (k : Nat) (v : Int) : (s.wrSat k v).field = s.field := rfl
@[simp] theorem State.wrSat_casc (s : State) (k : Nat) (v : Int) : (s.wrSat k v).casc = s.casc := rfl
@[simp] theorem State.wrSat_sub (s : State) (k : Nat) (v : Int) : (s.wrSat k v).sub = s.sub := rfl
@[simp] theorem State.wrSat_pub (s : State) (k : Nat) (v : Int) : (s.wrSat k v).pub = s.pub := rfl
@[simp] theorem State.wrSat_tableRam (s : State) (k : Nat) (v : Int) : (s.wrSat k v).tableRam = s.tableRam := rfl
@[simp] theorem State.wrSat_tableLen (s : State) (k : Nat) (v : Int) : (s.wrSat k v).tableLen = s.tableLen := rfl
@[simp] theorem State.wrSat_acq (s : State) (k : Nat) (v : Int) : (s.wrSat k v).acq = s.acq := rfl
@[simp] theorem State.wrSat_sp (s : State) (k : Nat) (v : Int) : (s.wrSat k v).sp = s.sp := rfl
@[simp] theorem State.wrSat_twin (s : State) (k : Nat) (v : Int) : (s.wrSat k v).twin = s.twin := rfl
@[simp] theorem State.wrSat_can (s : State) (k : Nat) (v : Int) : (s.wrSat k v).can = s.can := rfl
@[simp] theorem State.wrSat_acqRam (s : State) (k : Nat) (v : Int) : (s.wrSat k v).acqRam = s.acqRam := rfl
@[simp] theorem State.wrSat_out (s : State) (k : Nat) (v : Int) : (s.wrSat k v).out = s.out := rfl
@[simp] theorem State.wrSat_pending (s : State) (k : Nat) (v : Int) : (s.wrSat k v).pending = s.pending := rfl

@[simp] theorem State.modAx_regs (s : State) (n : Nat) (f : AxisSt → AxisSt) : (s.modAx n f).regs = s.regs := rfl
@[simp] theorem State.modAx_force (s : State) (n : Nat) (f : AxisSt → AxisSt) : (s.modAx n f).force = s.force := rfl
@[simp] theorem State.modAx_blobs (s : State) (n : Nat) (f : AxisSt → AxisSt) : (s.modAx n f).blobs = s.blobs := rfl
@[simp] theorem State.modAx_time (s : State) (n : Nat) (f : AxisSt → AxisSt) : (s.modAx n f).time = s.time := rfl
@[simp] theorem State.modAx_net (s : State) (n : Nat) (f : AxisSt → AxisSt) : (s.modAx n f).net = s.net := rfl
@[simp] theorem State.modAx_pw (s : State) (n : Nat) (f : AxisSt → AxisSt) : (s.modAx n f).pw = s.pw := rfl
@[simp] theorem State.modAx_sec (s : State) (n : Nat) (f : AxisSt → AxisSt) : (s.modAx n f).sec = s.sec := rfl
@[simp] theorem State.modAx_dict (s : State) (n : Nat) (f : AxisSt → AxisSt) : (s.modAx n f).dict = s.dict := rfl
@[simp] theorem State.modAx_host (s : State) (n : Nat) (f : AxisSt → AxisSt) : (s.modAx n f).host = s.host := rfl
@[simp] theorem State.modAx_leg (s : State) (n : Nat) (f : AxisSt → AxisSt) : (s.modAx n f).leg = s.leg := rfl
@[simp] theorem State.modAx_cell (s : State) (n : Nat) (f : AxisSt → AxisSt) : (s.modAx n f).cell = s.cell := rfl
@[simp] theorem State.modAx_port (s : State) (n : Nat) (f : AxisSt → AxisSt) : (s.modAx n f).port = s.port := rfl
@[simp] theorem State.modAx_latch (s : State) (n : Nat) (f : AxisSt → AxisSt) : (s.modAx n f).latch = s.latch := rfl
@[simp] theorem State.modAx_emu (s : State) (n : Nat) (f : AxisSt → AxisSt) : (s.modAx n f).emu = s.emu := rfl
@[simp] theorem State.modAx_track (s : State) (n : Nat) (f : AxisSt → AxisSt) : (s.modAx n f).track = s.track := rfl
@[simp] theorem State.modAx_field (s : State) (n : Nat) (f : AxisSt → AxisSt) : (s.modAx n f).field = s.field := rfl
@[simp] theorem State.modAx_casc (s : State) (n : Nat) (f : AxisSt → AxisSt) : (s.modAx n f).casc = s.casc := rfl
@[simp] theorem State.modAx_sub (s : State) (n : Nat) (f : AxisSt → AxisSt) : (s.modAx n f).sub = s.sub := rfl
@[simp] theorem State.modAx_pub (s : State) (n : Nat) (f : AxisSt → AxisSt) : (s.modAx n f).pub = s.pub := rfl
@[simp] theorem State.modAx_tableRam (s : State) (n : Nat) (f : AxisSt → AxisSt) : (s.modAx n f).tableRam = s.tableRam := rfl
@[simp] theorem State.modAx_tableLen (s : State) (n : Nat) (f : AxisSt → AxisSt) : (s.modAx n f).tableLen = s.tableLen := rfl
@[simp] theorem State.modAx_acq (s : State) (n : Nat) (f : AxisSt → AxisSt) : (s.modAx n f).acq = s.acq := rfl
@[simp] theorem State.modAx_sp (s : State) (n : Nat) (f : AxisSt → AxisSt) : (s.modAx n f).sp = s.sp := rfl
@[simp] theorem State.modAx_twin (s : State) (n : Nat) (f : AxisSt → AxisSt) : (s.modAx n f).twin = s.twin := rfl
@[simp] theorem State.modAx_can (s : State) (n : Nat) (f : AxisSt → AxisSt) : (s.modAx n f).can = s.can := rfl
@[simp] theorem State.modAx_acqRam (s : State) (n : Nat) (f : AxisSt → AxisSt) : (s.modAx n f).acqRam = s.acqRam := rfl
@[simp] theorem State.modAx_out (s : State) (n : Nat) (f : AxisSt → AxisSt) : (s.modAx n f).out = s.out := rfl
@[simp] theorem State.modAx_pending (s : State) (n : Nat) (f : AxisSt → AxisSt) : (s.modAx n f).pending = s.pending := rfl

@[simp] theorem State.modCl_regs (s : State) (n : Nat) (f : CellSt → CellSt) : (s.modCl n f).regs = s.regs := rfl
@[simp] theorem State.modCl_force (s : State) (n : Nat) (f : CellSt → CellSt) : (s.modCl n f).force = s.force := rfl
@[simp] theorem State.modCl_blobs (s : State) (n : Nat) (f : CellSt → CellSt) : (s.modCl n f).blobs = s.blobs := rfl
@[simp] theorem State.modCl_time (s : State) (n : Nat) (f : CellSt → CellSt) : (s.modCl n f).time = s.time := rfl
@[simp] theorem State.modCl_net (s : State) (n : Nat) (f : CellSt → CellSt) : (s.modCl n f).net = s.net := rfl
@[simp] theorem State.modCl_pw (s : State) (n : Nat) (f : CellSt → CellSt) : (s.modCl n f).pw = s.pw := rfl
@[simp] theorem State.modCl_sec (s : State) (n : Nat) (f : CellSt → CellSt) : (s.modCl n f).sec = s.sec := rfl
@[simp] theorem State.modCl_dict (s : State) (n : Nat) (f : CellSt → CellSt) : (s.modCl n f).dict = s.dict := rfl
@[simp] theorem State.modCl_host (s : State) (n : Nat) (f : CellSt → CellSt) : (s.modCl n f).host = s.host := rfl
@[simp] theorem State.modCl_leg (s : State) (n : Nat) (f : CellSt → CellSt) : (s.modCl n f).leg = s.leg := rfl
@[simp] theorem State.modCl_axis (s : State) (n : Nat) (f : CellSt → CellSt) : (s.modCl n f).axis = s.axis := rfl
@[simp] theorem State.modCl_port (s : State) (n : Nat) (f : CellSt → CellSt) : (s.modCl n f).port = s.port := rfl
@[simp] theorem State.modCl_latch (s : State) (n : Nat) (f : CellSt → CellSt) : (s.modCl n f).latch = s.latch := rfl
@[simp] theorem State.modCl_emu (s : State) (n : Nat) (f : CellSt → CellSt) : (s.modCl n f).emu = s.emu := rfl
@[simp] theorem State.modCl_track (s : State) (n : Nat) (f : CellSt → CellSt) : (s.modCl n f).track = s.track := rfl
@[simp] theorem State.modCl_field (s : State) (n : Nat) (f : CellSt → CellSt) : (s.modCl n f).field = s.field := rfl
@[simp] theorem State.modCl_casc (s : State) (n : Nat) (f : CellSt → CellSt) : (s.modCl n f).casc = s.casc := rfl
@[simp] theorem State.modCl_sub (s : State) (n : Nat) (f : CellSt → CellSt) : (s.modCl n f).sub = s.sub := rfl
@[simp] theorem State.modCl_pub (s : State) (n : Nat) (f : CellSt → CellSt) : (s.modCl n f).pub = s.pub := rfl
@[simp] theorem State.modCl_tableRam (s : State) (n : Nat) (f : CellSt → CellSt) : (s.modCl n f).tableRam = s.tableRam := rfl
@[simp] theorem State.modCl_tableLen (s : State) (n : Nat) (f : CellSt → CellSt) : (s.modCl n f).tableLen = s.tableLen := rfl
@[simp] theorem State.modCl_acq (s : State) (n : Nat) (f : CellSt → CellSt) : (s.modCl n f).acq = s.acq := rfl
@[simp] theorem State.modCl_sp (s : State) (n : Nat) (f : CellSt → CellSt) : (s.modCl n f).sp = s.sp := rfl
@[simp] theorem State.modCl_twin (s : State) (n : Nat) (f : CellSt → CellSt) : (s.modCl n f).twin = s.twin := rfl
@[simp] theorem State.modCl_can (s : State) (n : Nat) (f : CellSt → CellSt) : (s.modCl n f).can = s.can := rfl
@[simp] theorem State.modCl_acqRam (s : State) (n : Nat) (f : CellSt → CellSt) : (s.modCl n f).acqRam = s.acqRam := rfl
@[simp] theorem State.modCl_out (s : State) (n : Nat) (f : CellSt → CellSt) : (s.modCl n f).out = s.out := rfl
@[simp] theorem State.modCl_pending (s : State) (n : Nat) (f : CellSt → CellSt) : (s.modCl n f).pending = s.pending := rfl

@[simp] theorem State.modPt_regs (s : State) (n : Nat) (f : PortSt → PortSt) : (s.modPt n f).regs = s.regs := rfl
@[simp] theorem State.modPt_force (s : State) (n : Nat) (f : PortSt → PortSt) : (s.modPt n f).force = s.force := rfl
@[simp] theorem State.modPt_blobs (s : State) (n : Nat) (f : PortSt → PortSt) : (s.modPt n f).blobs = s.blobs := rfl
@[simp] theorem State.modPt_time (s : State) (n : Nat) (f : PortSt → PortSt) : (s.modPt n f).time = s.time := rfl
@[simp] theorem State.modPt_net (s : State) (n : Nat) (f : PortSt → PortSt) : (s.modPt n f).net = s.net := rfl
@[simp] theorem State.modPt_pw (s : State) (n : Nat) (f : PortSt → PortSt) : (s.modPt n f).pw = s.pw := rfl
@[simp] theorem State.modPt_sec (s : State) (n : Nat) (f : PortSt → PortSt) : (s.modPt n f).sec = s.sec := rfl
@[simp] theorem State.modPt_dict (s : State) (n : Nat) (f : PortSt → PortSt) : (s.modPt n f).dict = s.dict := rfl
@[simp] theorem State.modPt_host (s : State) (n : Nat) (f : PortSt → PortSt) : (s.modPt n f).host = s.host := rfl
@[simp] theorem State.modPt_leg (s : State) (n : Nat) (f : PortSt → PortSt) : (s.modPt n f).leg = s.leg := rfl
@[simp] theorem State.modPt_cell (s : State) (n : Nat) (f : PortSt → PortSt) : (s.modPt n f).cell = s.cell := rfl
@[simp] theorem State.modPt_axis (s : State) (n : Nat) (f : PortSt → PortSt) : (s.modPt n f).axis = s.axis := rfl
@[simp] theorem State.modPt_latch (s : State) (n : Nat) (f : PortSt → PortSt) : (s.modPt n f).latch = s.latch := rfl
@[simp] theorem State.modPt_emu (s : State) (n : Nat) (f : PortSt → PortSt) : (s.modPt n f).emu = s.emu := rfl
@[simp] theorem State.modPt_track (s : State) (n : Nat) (f : PortSt → PortSt) : (s.modPt n f).track = s.track := rfl
@[simp] theorem State.modPt_field (s : State) (n : Nat) (f : PortSt → PortSt) : (s.modPt n f).field = s.field := rfl
@[simp] theorem State.modPt_casc (s : State) (n : Nat) (f : PortSt → PortSt) : (s.modPt n f).casc = s.casc := rfl
@[simp] theorem State.modPt_sub (s : State) (n : Nat) (f : PortSt → PortSt) : (s.modPt n f).sub = s.sub := rfl
@[simp] theorem State.modPt_pub (s : State) (n : Nat) (f : PortSt → PortSt) : (s.modPt n f).pub = s.pub := rfl
@[simp] theorem State.modPt_tableRam (s : State) (n : Nat) (f : PortSt → PortSt) : (s.modPt n f).tableRam = s.tableRam := rfl
@[simp] theorem State.modPt_tableLen (s : State) (n : Nat) (f : PortSt → PortSt) : (s.modPt n f).tableLen = s.tableLen := rfl
@[simp] theorem State.modPt_acq (s : State) (n : Nat) (f : PortSt → PortSt) : (s.modPt n f).acq = s.acq := rfl
@[simp] theorem State.modPt_sp (s : State) (n : Nat) (f : PortSt → PortSt) : (s.modPt n f).sp = s.sp := rfl
@[simp] theorem State.modPt_twin (s : State) (n : Nat) (f : PortSt → PortSt) : (s.modPt n f).twin = s.twin := rfl
@[simp] theorem State.modPt_can (s : State) (n : Nat) (f : PortSt → PortSt) : (s.modPt n f).can = s.can := rfl
@[simp] theorem State.modPt_acqRam (s : State) (n : Nat) (f : PortSt → PortSt) : (s.modPt n f).acqRam = s.acqRam := rfl
@[simp] theorem State.modPt_out (s : State) (n : Nat) (f : PortSt → PortSt) : (s.modPt n f).out = s.out := rfl
@[simp] theorem State.modPt_pending (s : State) (n : Nat) (f : PortSt → PortSt) : (s.modPt n f).pending = s.pending := rfl

@[simp] theorem State.modLu_regs (s : State) (n : Nat) (f : LatchSt → LatchSt) : (s.modLu n f).regs = s.regs := rfl
@[simp] theorem State.modLu_force (s : State) (n : Nat) (f : LatchSt → LatchSt) : (s.modLu n f).force = s.force := rfl
@[simp] theorem State.modLu_blobs (s : State) (n : Nat) (f : LatchSt → LatchSt) : (s.modLu n f).blobs = s.blobs := rfl
@[simp] theorem State.modLu_time (s : State) (n : Nat) (f : LatchSt → LatchSt) : (s.modLu n f).time = s.time := rfl
@[simp] theorem State.modLu_net (s : State) (n : Nat) (f : LatchSt → LatchSt) : (s.modLu n f).net = s.net := rfl
@[simp] theorem State.modLu_pw (s : State) (n : Nat) (f : LatchSt → LatchSt) : (s.modLu n f).pw = s.pw := rfl
@[simp] theorem State.modLu_sec (s : State) (n : Nat) (f : LatchSt → LatchSt) : (s.modLu n f).sec = s.sec := rfl
@[simp] theorem State.modLu_dict (s : State) (n : Nat) (f : LatchSt → LatchSt) : (s.modLu n f).dict = s.dict := rfl
@[simp] theorem State.modLu_host (s : State) (n : Nat) (f : LatchSt → LatchSt) : (s.modLu n f).host = s.host := rfl
@[simp] theorem State.modLu_leg (s : State) (n : Nat) (f : LatchSt → LatchSt) : (s.modLu n f).leg = s.leg := rfl
@[simp] theorem State.modLu_cell (s : State) (n : Nat) (f : LatchSt → LatchSt) : (s.modLu n f).cell = s.cell := rfl
@[simp] theorem State.modLu_axis (s : State) (n : Nat) (f : LatchSt → LatchSt) : (s.modLu n f).axis = s.axis := rfl
@[simp] theorem State.modLu_port (s : State) (n : Nat) (f : LatchSt → LatchSt) : (s.modLu n f).port = s.port := rfl
@[simp] theorem State.modLu_emu (s : State) (n : Nat) (f : LatchSt → LatchSt) : (s.modLu n f).emu = s.emu := rfl
@[simp] theorem State.modLu_track (s : State) (n : Nat) (f : LatchSt → LatchSt) : (s.modLu n f).track = s.track := rfl
@[simp] theorem State.modLu_field (s : State) (n : Nat) (f : LatchSt → LatchSt) : (s.modLu n f).field = s.field := rfl
@[simp] theorem State.modLu_casc (s : State) (n : Nat) (f : LatchSt → LatchSt) : (s.modLu n f).casc = s.casc := rfl
@[simp] theorem State.modLu_sub (s : State) (n : Nat) (f : LatchSt → LatchSt) : (s.modLu n f).sub = s.sub := rfl
@[simp] theorem State.modLu_pub (s : State) (n : Nat) (f : LatchSt → LatchSt) : (s.modLu n f).pub = s.pub := rfl
@[simp] theorem State.modLu_tableRam (s : State) (n : Nat) (f : LatchSt → LatchSt) : (s.modLu n f).tableRam = s.tableRam := rfl
@[simp] theorem State.modLu_tableLen (s : State) (n : Nat) (f : LatchSt → LatchSt) : (s.modLu n f).tableLen = s.tableLen := rfl
@[simp] theorem State.modLu_acq (s : State) (n : Nat) (f : LatchSt → LatchSt) : (s.modLu n f).acq = s.acq := rfl
@[simp] theorem State.modLu_sp (s : State) (n : Nat) (f : LatchSt → LatchSt) : (s.modLu n f).sp = s.sp := rfl
@[simp] theorem State.modLu_twin (s : State) (n : Nat) (f : LatchSt → LatchSt) : (s.modLu n f).twin = s.twin := rfl
@[simp] theorem State.modLu_can (s : State) (n : Nat) (f : LatchSt → LatchSt) : (s.modLu n f).can = s.can := rfl
@[simp] theorem State.modLu_acqRam (s : State) (n : Nat) (f : LatchSt → LatchSt) : (s.modLu n f).acqRam = s.acqRam := rfl
@[simp] theorem State.modLu_out (s : State) (n : Nat) (f : LatchSt → LatchSt) : (s.modLu n f).out = s.out := rfl
@[simp] theorem State.modLu_pending (s : State) (n : Nat) (f : LatchSt → LatchSt) : (s.modLu n f).pending = s.pending := rfl

@[simp] theorem State.modEm_regs (s : State) (n : Nat) (f : EmuSt → EmuSt) : (s.modEm n f).regs = s.regs := rfl
@[simp] theorem State.modEm_force (s : State) (n : Nat) (f : EmuSt → EmuSt) : (s.modEm n f).force = s.force := rfl
@[simp] theorem State.modEm_blobs (s : State) (n : Nat) (f : EmuSt → EmuSt) : (s.modEm n f).blobs = s.blobs := rfl
@[simp] theorem State.modEm_time (s : State) (n : Nat) (f : EmuSt → EmuSt) : (s.modEm n f).time = s.time := rfl
@[simp] theorem State.modEm_net (s : State) (n : Nat) (f : EmuSt → EmuSt) : (s.modEm n f).net = s.net := rfl
@[simp] theorem State.modEm_pw (s : State) (n : Nat) (f : EmuSt → EmuSt) : (s.modEm n f).pw = s.pw := rfl
@[simp] theorem State.modEm_sec (s : State) (n : Nat) (f : EmuSt → EmuSt) : (s.modEm n f).sec = s.sec := rfl
@[simp] theorem State.modEm_dict (s : State) (n : Nat) (f : EmuSt → EmuSt) : (s.modEm n f).dict = s.dict := rfl
@[simp] theorem State.modEm_host (s : State) (n : Nat) (f : EmuSt → EmuSt) : (s.modEm n f).host = s.host := rfl
@[simp] theorem State.modEm_leg (s : State) (n : Nat) (f : EmuSt → EmuSt) : (s.modEm n f).leg = s.leg := rfl
@[simp] theorem State.modEm_cell (s : State) (n : Nat) (f : EmuSt → EmuSt) : (s.modEm n f).cell = s.cell := rfl
@[simp] theorem State.modEm_axis (s : State) (n : Nat) (f : EmuSt → EmuSt) : (s.modEm n f).axis = s.axis := rfl
@[simp] theorem State.modEm_port (s : State) (n : Nat) (f : EmuSt → EmuSt) : (s.modEm n f).port = s.port := rfl
@[simp] theorem State.modEm_latch (s : State) (n : Nat) (f : EmuSt → EmuSt) : (s.modEm n f).latch = s.latch := rfl
@[simp] theorem State.modEm_track (s : State) (n : Nat) (f : EmuSt → EmuSt) : (s.modEm n f).track = s.track := rfl
@[simp] theorem State.modEm_field (s : State) (n : Nat) (f : EmuSt → EmuSt) : (s.modEm n f).field = s.field := rfl
@[simp] theorem State.modEm_casc (s : State) (n : Nat) (f : EmuSt → EmuSt) : (s.modEm n f).casc = s.casc := rfl
@[simp] theorem State.modEm_sub (s : State) (n : Nat) (f : EmuSt → EmuSt) : (s.modEm n f).sub = s.sub := rfl
@[simp] theorem State.modEm_pub (s : State) (n : Nat) (f : EmuSt → EmuSt) : (s.modEm n f).pub = s.pub := rfl
@[simp] theorem State.modEm_tableRam (s : State) (n : Nat) (f : EmuSt → EmuSt) : (s.modEm n f).tableRam = s.tableRam := rfl
@[simp] theorem State.modEm_tableLen (s : State) (n : Nat) (f : EmuSt → EmuSt) : (s.modEm n f).tableLen = s.tableLen := rfl
@[simp] theorem State.modEm_acq (s : State) (n : Nat) (f : EmuSt → EmuSt) : (s.modEm n f).acq = s.acq := rfl
@[simp] theorem State.modEm_sp (s : State) (n : Nat) (f : EmuSt → EmuSt) : (s.modEm n f).sp = s.sp := rfl
@[simp] theorem State.modEm_twin (s : State) (n : Nat) (f : EmuSt → EmuSt) : (s.modEm n f).twin = s.twin := rfl
@[simp] theorem State.modEm_can (s : State) (n : Nat) (f : EmuSt → EmuSt) : (s.modEm n f).can = s.can := rfl
@[simp] theorem State.modEm_acqRam (s : State) (n : Nat) (f : EmuSt → EmuSt) : (s.modEm n f).acqRam = s.acqRam := rfl
@[simp] theorem State.modEm_out (s : State) (n : Nat) (f : EmuSt → EmuSt) : (s.modEm n f).out = s.out := rfl
@[simp] theorem State.modEm_pending (s : State) (n : Nat) (f : EmuSt → EmuSt) : (s.modEm n f).pending = s.pending := rfl

@[simp] theorem State.emit_regs (s : State) (o : Output) : (s.emit o).regs = s.regs := rfl
@[simp] theorem State.emit_force (s : State) (o : Output) : (s.emit o).force = s.force := rfl
@[simp] theorem State.emit_blobs (s : State) (o : Output) : (s.emit o).blobs = s.blobs := rfl
@[simp] theorem State.emit_time (s : State) (o : Output) : (s.emit o).time = s.time := rfl
@[simp] theorem State.emit_net (s : State) (o : Output) : (s.emit o).net = s.net := rfl
@[simp] theorem State.emit_pw (s : State) (o : Output) : (s.emit o).pw = s.pw := rfl
@[simp] theorem State.emit_sec (s : State) (o : Output) : (s.emit o).sec = s.sec := rfl
@[simp] theorem State.emit_dict (s : State) (o : Output) : (s.emit o).dict = s.dict := rfl
@[simp] theorem State.emit_host (s : State) (o : Output) : (s.emit o).host = s.host := rfl
@[simp] theorem State.emit_leg (s : State) (o : Output) : (s.emit o).leg = s.leg := rfl
@[simp] theorem State.emit_cell (s : State) (o : Output) : (s.emit o).cell = s.cell := rfl
@[simp] theorem State.emit_axis (s : State) (o : Output) : (s.emit o).axis = s.axis := rfl
@[simp] theorem State.emit_port (s : State) (o : Output) : (s.emit o).port = s.port := rfl
@[simp] theorem State.emit_latch (s : State) (o : Output) : (s.emit o).latch = s.latch := rfl
@[simp] theorem State.emit_emu (s : State) (o : Output) : (s.emit o).emu = s.emu := rfl
@[simp] theorem State.emit_track (s : State) (o : Output) : (s.emit o).track = s.track := rfl
@[simp] theorem State.emit_field (s : State) (o : Output) : (s.emit o).field = s.field := rfl
@[simp] theorem State.emit_casc (s : State) (o : Output) : (s.emit o).casc = s.casc := rfl
@[simp] theorem State.emit_sub (s : State) (o : Output) : (s.emit o).sub = s.sub := rfl
@[simp] theorem State.emit_pub (s : State) (o : Output) : (s.emit o).pub = s.pub := rfl
@[simp] theorem State.emit_tableRam (s : State) (o : Output) : (s.emit o).tableRam = s.tableRam := rfl
@[simp] theorem State.emit_tableLen (s : State) (o : Output) : (s.emit o).tableLen = s.tableLen := rfl
@[simp] theorem State.emit_acq (s : State) (o : Output) : (s.emit o).acq = s.acq := rfl
@[simp] theorem State.emit_sp (s : State) (o : Output) : (s.emit o).sp = s.sp := rfl
@[simp] theorem State.emit_twin (s : State) (o : Output) : (s.emit o).twin = s.twin := rfl
@[simp] theorem State.emit_can (s : State) (o : Output) : (s.emit o).can = s.can := rfl
@[simp] theorem State.emit_acqRam (s : State) (o : Output) : (s.emit o).acqRam = s.acqRam := rfl
@[simp] theorem State.emit_pending (s : State) (o : Output) : (s.emit o).pending = s.pending := rfl

@[simp] theorem State.modCn_regs (s : State) (n : Nat) (f : CanSt → CanSt) : (s.modCn n f).regs = s.regs := rfl
@[simp] theorem State.modCn_force (s : State) (n : Nat) (f : CanSt → CanSt) : (s.modCn n f).force = s.force := rfl
@[simp] theorem State.modCn_blobs (s : State) (n : Nat) (f : CanSt → CanSt) : (s.modCn n f).blobs = s.blobs := rfl
@[simp] theorem State.modCn_time (s : State) (n : Nat) (f : CanSt → CanSt) : (s.modCn n f).time = s.time := rfl
@[simp] theorem State.modCn_net (s : State) (n : Nat) (f : CanSt → CanSt) : (s.modCn n f).net = s.net := rfl
@[simp] theorem State.modCn_pw (s : State) (n : Nat) (f : CanSt → CanSt) : (s.modCn n f).pw = s.pw := rfl
@[simp] theorem State.modCn_sec (s : State) (n : Nat) (f : CanSt → CanSt) : (s.modCn n f).sec = s.sec := rfl
@[simp] theorem State.modCn_dict (s : State) (n : Nat) (f : CanSt → CanSt) : (s.modCn n f).dict = s.dict := rfl
@[simp] theorem State.modCn_host (s : State) (n : Nat) (f : CanSt → CanSt) : (s.modCn n f).host = s.host := rfl
@[simp] theorem State.modCn_leg (s : State) (n : Nat) (f : CanSt → CanSt) : (s.modCn n f).leg = s.leg := rfl
@[simp] theorem State.modCn_cell (s : State) (n : Nat) (f : CanSt → CanSt) : (s.modCn n f).cell = s.cell := rfl
@[simp] theorem State.modCn_axis (s : State) (n : Nat) (f : CanSt → CanSt) : (s.modCn n f).axis = s.axis := rfl
@[simp] theorem State.modCn_port (s : State) (n : Nat) (f : CanSt → CanSt) : (s.modCn n f).port = s.port := rfl
@[simp] theorem State.modCn_latch (s : State) (n : Nat) (f : CanSt → CanSt) : (s.modCn n f).latch = s.latch := rfl
@[simp] theorem State.modCn_emu (s : State) (n : Nat) (f : CanSt → CanSt) : (s.modCn n f).emu = s.emu := rfl
@[simp] theorem State.modCn_track (s : State) (n : Nat) (f : CanSt → CanSt) : (s.modCn n f).track = s.track := rfl
@[simp] theorem State.modCn_field (s : State) (n : Nat) (f : CanSt → CanSt) : (s.modCn n f).field = s.field := rfl
@[simp] theorem State.modCn_casc (s : State) (n : Nat) (f : CanSt → CanSt) : (s.modCn n f).casc = s.casc := rfl
@[simp] theorem State.modCn_sub (s : State) (n : Nat) (f : CanSt → CanSt) : (s.modCn n f).sub = s.sub := rfl
@[simp] theorem State.modCn_pub (s : State) (n : Nat) (f : CanSt → CanSt) : (s.modCn n f).pub = s.pub := rfl
@[simp] theorem State.modCn_tableRam (s : State) (n : Nat) (f : CanSt → CanSt) : (s.modCn n f).tableRam = s.tableRam := rfl
@[simp] theorem State.modCn_tableLen (s : State) (n : Nat) (f : CanSt → CanSt) : (s.modCn n f).tableLen = s.tableLen := rfl
@[simp] theorem State.modCn_acq (s : State) (n : Nat) (f : CanSt → CanSt) : (s.modCn n f).acq = s.acq := rfl
@[simp] theorem State.modCn_sp (s : State) (n : Nat) (f : CanSt → CanSt) : (s.modCn n f).sp = s.sp := rfl
@[simp] theorem State.modCn_twin (s : State) (n : Nat) (f : CanSt → CanSt) : (s.modCn n f).twin = s.twin := rfl
@[simp] theorem State.modCn_acqRam (s : State) (n : Nat) (f : CanSt → CanSt) : (s.modCn n f).acqRam = s.acqRam := rfl
@[simp] theorem State.modCn_out (s : State) (n : Nat) (f : CanSt → CanSt) : (s.modCn n f).out = s.out := rfl
@[simp] theorem State.modCn_pending (s : State) (n : Nat) (f : CanSt → CanSt) : (s.modCn n f).pending = s.pending := rfl

@[simp] theorem State.modCs_regs (s : State) (n : Nat) (f : CascSt → CascSt) : (s.modCs n f).regs = s.regs := rfl
@[simp] theorem State.modCs_force (s : State) (n : Nat) (f : CascSt → CascSt) : (s.modCs n f).force = s.force := rfl
@[simp] theorem State.modCs_blobs (s : State) (n : Nat) (f : CascSt → CascSt) : (s.modCs n f).blobs = s.blobs := rfl
@[simp] theorem State.modCs_time (s : State) (n : Nat) (f : CascSt → CascSt) : (s.modCs n f).time = s.time := rfl
@[simp] theorem State.modCs_net (s : State) (n : Nat) (f : CascSt → CascSt) : (s.modCs n f).net = s.net := rfl
@[simp] theorem State.modCs_pw (s : State) (n : Nat) (f : CascSt → CascSt) : (s.modCs n f).pw = s.pw := rfl
@[simp] theorem State.modCs_sec (s : State) (n : Nat) (f : CascSt → CascSt) : (s.modCs n f).sec = s.sec := rfl
@[simp] theorem State.modCs_dict (s : State) (n : Nat) (f : CascSt → CascSt) : (s.modCs n f).dict = s.dict := rfl
@[simp] theorem State.modCs_host (s : State) (n : Nat) (f : CascSt → CascSt) : (s.modCs n f).host = s.host := rfl
@[simp] theorem State.modCs_leg (s : State) (n : Nat) (f : CascSt → CascSt) : (s.modCs n f).leg = s.leg := rfl
@[simp] theorem State.modCs_cell (s : State) (n : Nat) (f : CascSt → CascSt) : (s.modCs n f).cell = s.cell := rfl
@[simp] theorem State.modCs_axis (s : State) (n : Nat) (f : CascSt → CascSt) : (s.modCs n f).axis = s.axis := rfl
@[simp] theorem State.modCs_port (s : State) (n : Nat) (f : CascSt → CascSt) : (s.modCs n f).port = s.port := rfl
@[simp] theorem State.modCs_latch (s : State) (n : Nat) (f : CascSt → CascSt) : (s.modCs n f).latch = s.latch := rfl
@[simp] theorem State.modCs_emu (s : State) (n : Nat) (f : CascSt → CascSt) : (s.modCs n f).emu = s.emu := rfl
@[simp] theorem State.modCs_track (s : State) (n : Nat) (f : CascSt → CascSt) : (s.modCs n f).track = s.track := rfl
@[simp] theorem State.modCs_field (s : State) (n : Nat) (f : CascSt → CascSt) : (s.modCs n f).field = s.field := rfl
@[simp] theorem State.modCs_sub (s : State) (n : Nat) (f : CascSt → CascSt) : (s.modCs n f).sub = s.sub := rfl
@[simp] theorem State.modCs_pub (s : State) (n : Nat) (f : CascSt → CascSt) : (s.modCs n f).pub = s.pub := rfl
@[simp] theorem State.modCs_tableRam (s : State) (n : Nat) (f : CascSt → CascSt) : (s.modCs n f).tableRam = s.tableRam := rfl
@[simp] theorem State.modCs_tableLen (s : State) (n : Nat) (f : CascSt → CascSt) : (s.modCs n f).tableLen = s.tableLen := rfl
@[simp] theorem State.modCs_acq (s : State) (n : Nat) (f : CascSt → CascSt) : (s.modCs n f).acq = s.acq := rfl
@[simp] theorem State.modCs_sp (s : State) (n : Nat) (f : CascSt → CascSt) : (s.modCs n f).sp = s.sp := rfl
@[simp] theorem State.modCs_twin (s : State) (n : Nat) (f : CascSt → CascSt) : (s.modCs n f).twin = s.twin := rfl
@[simp] theorem State.modCs_can (s : State) (n : Nat) (f : CascSt → CascSt) : (s.modCs n f).can = s.can := rfl
@[simp] theorem State.modCs_acqRam (s : State) (n : Nat) (f : CascSt → CascSt) : (s.modCs n f).acqRam = s.acqRam := rfl
@[simp] theorem State.modCs_out (s : State) (n : Nat) (f : CascSt → CascSt) : (s.modCs n f).out = s.out := rfl
@[simp] theorem State.modCs_pending (s : State) (n : Nat) (f : CascSt → CascSt) : (s.modCs n f).pending = s.pending := rfl

@[simp] theorem State.modPage_regs (s : State) (n : Nat) (f : Page → Page) : (s.modPage n f).regs = s.regs := rfl
@[simp] theorem State.modPage_force (s : State) (n : Nat) (f : Page → Page) : (s.modPage n f).force = s.force := rfl
@[simp] theorem State.modPage_blobs (s : State) (n : Nat) (f : Page → Page) : (s.modPage n f).blobs = s.blobs := rfl
@[simp] theorem State.modPage_time (s : State) (n : Nat) (f : Page → Page) : (s.modPage n f).time = s.time := rfl
@[simp] theorem State.modPage_net (s : State) (n : Nat) (f : Page → Page) : (s.modPage n f).net = s.net := rfl
@[simp] theorem State.modPage_pw (s : State) (n : Nat) (f : Page → Page) : (s.modPage n f).pw = s.pw := rfl
@[simp] theorem State.modPage_sec (s : State) (n : Nat) (f : Page → Page) : (s.modPage n f).sec = s.sec := rfl
@[simp] theorem State.modPage_dict (s : State) (n : Nat) (f : Page → Page) : (s.modPage n f).dict = s.dict := rfl
@[simp] theorem State.modPage_leg (s : State) (n : Nat) (f : Page → Page) : (s.modPage n f).leg = s.leg := rfl
@[simp] theorem State.modPage_cell (s : State) (n : Nat) (f : Page → Page) : (s.modPage n f).cell = s.cell := rfl
@[simp] theorem State.modPage_axis (s : State) (n : Nat) (f : Page → Page) : (s.modPage n f).axis = s.axis := rfl
@[simp] theorem State.modPage_port (s : State) (n : Nat) (f : Page → Page) : (s.modPage n f).port = s.port := rfl
@[simp] theorem State.modPage_latch (s : State) (n : Nat) (f : Page → Page) : (s.modPage n f).latch = s.latch := rfl
@[simp] theorem State.modPage_emu (s : State) (n : Nat) (f : Page → Page) : (s.modPage n f).emu = s.emu := rfl
@[simp] theorem State.modPage_track (s : State) (n : Nat) (f : Page → Page) : (s.modPage n f).track = s.track := rfl
@[simp] theorem State.modPage_field (s : State) (n : Nat) (f : Page → Page) : (s.modPage n f).field = s.field := rfl
@[simp] theorem State.modPage_casc (s : State) (n : Nat) (f : Page → Page) : (s.modPage n f).casc = s.casc := rfl
@[simp] theorem State.modPage_sub (s : State) (n : Nat) (f : Page → Page) : (s.modPage n f).sub = s.sub := rfl
@[simp] theorem State.modPage_pub (s : State) (n : Nat) (f : Page → Page) : (s.modPage n f).pub = s.pub := rfl
@[simp] theorem State.modPage_tableRam (s : State) (n : Nat) (f : Page → Page) : (s.modPage n f).tableRam = s.tableRam := rfl
@[simp] theorem State.modPage_tableLen (s : State) (n : Nat) (f : Page → Page) : (s.modPage n f).tableLen = s.tableLen := rfl
@[simp] theorem State.modPage_acq (s : State) (n : Nat) (f : Page → Page) : (s.modPage n f).acq = s.acq := rfl
@[simp] theorem State.modPage_sp (s : State) (n : Nat) (f : Page → Page) : (s.modPage n f).sp = s.sp := rfl
@[simp] theorem State.modPage_twin (s : State) (n : Nat) (f : Page → Page) : (s.modPage n f).twin = s.twin := rfl
@[simp] theorem State.modPage_can (s : State) (n : Nat) (f : Page → Page) : (s.modPage n f).can = s.can := rfl
@[simp] theorem State.modPage_acqRam (s : State) (n : Nat) (f : Page → Page) : (s.modPage n f).acqRam = s.acqRam := rfl
@[simp] theorem State.modPage_out (s : State) (n : Nat) (f : Page → Page) : (s.modPage n f).out = s.out := rfl
@[simp] theorem State.modPage_pending (s : State) (n : Nat) (f : Page → Page) : (s.modPage n f).pending = s.pending := rfl

@[simp] theorem State.modDict_regs (s : State) (f : Dict → Dict) : (s.modDict f).regs = s.regs := rfl
@[simp] theorem State.modDict_force (s : State) (f : Dict → Dict) : (s.modDict f).force = s.force := rfl
@[simp] theorem State.modDict_blobs (s : State) (f : Dict → Dict) : (s.modDict f).blobs = s.blobs := rfl
@[simp] theorem State.modDict_time (s : State) (f : Dict → Dict) : (s.modDict f).time = s.time := rfl
@[simp] theorem State.modDict_net (s : State) (f : Dict → Dict) : (s.modDict f).net = s.net := rfl
@[simp] theorem State.modDict_pw (s : State) (f : Dict → Dict) : (s.modDict f).pw = s.pw := rfl
@[simp] theorem State.modDict_sec (s : State) (f : Dict → Dict) : (s.modDict f).sec = s.sec := rfl
@[simp] theorem State.modDict_host (s : State) (f : Dict → Dict) : (s.modDict f).host = s.host := rfl
@[simp] theorem State.modDict_leg (s : State) (f : Dict → Dict) : (s.modDict f).leg = s.leg := rfl
@[simp] theorem State.modDict_cell (s : State) (f : Dict → Dict) : (s.modDict f).cell = s.cell := rfl
@[simp] theorem State.modDict_axis (s : State) (f : Dict → Dict) : (s.modDict f).axis = s.axis := rfl
@[simp] theorem State.modDict_port (s : State) (f : Dict → Dict) : (s.modDict f).port = s.port := rfl
@[simp] theorem State.modDict_latch (s : State) (f : Dict → Dict) : (s.modDict f).latch = s.latch := rfl
@[simp] theorem State.modDict_emu (s : State) (f : Dict → Dict) : (s.modDict f).emu = s.emu := rfl
@[simp] theorem State.modDict_track (s : State) (f : Dict → Dict) : (s.modDict f).track = s.track := rfl
@[simp] theorem State.modDict_field (s : State) (f : Dict → Dict) : (s.modDict f).field = s.field := rfl
@[simp] theorem State.modDict_casc (s : State) (f : Dict → Dict) : (s.modDict f).casc = s.casc := rfl
@[simp] theorem State.modDict_sub (s : State) (f : Dict → Dict) : (s.modDict f).sub = s.sub := rfl
@[simp] theorem State.modDict_pub (s : State) (f : Dict → Dict) : (s.modDict f).pub = s.pub := rfl
@[simp] theorem State.modDict_tableRam (s : State) (f : Dict → Dict) : (s.modDict f).tableRam = s.tableRam := rfl
@[simp] theorem State.modDict_tableLen (s : State) (f : Dict → Dict) : (s.modDict f).tableLen = s.tableLen := rfl
@[simp] theorem State.modDict_acq (s : State) (f : Dict → Dict) : (s.modDict f).acq = s.acq := rfl
@[simp] theorem State.modDict_sp (s : State) (f : Dict → Dict) : (s.modDict f).sp = s.sp := rfl
@[simp] theorem State.modDict_twin (s : State) (f : Dict → Dict) : (s.modDict f).twin = s.twin := rfl
@[simp] theorem State.modDict_can (s : State) (f : Dict → Dict) : (s.modDict f).can = s.can := rfl
@[simp] theorem State.modDict_acqRam (s : State) (f : Dict → Dict) : (s.modDict f).acqRam = s.acqRam := rfl
@[simp] theorem State.modDict_out (s : State) (f : Dict → Dict) : (s.modDict f).out = s.out := rfl
@[simp] theorem State.modDict_pending (s : State) (f : Dict → Dict) : (s.modDict f).pending = s.pending := rfl

@[simp] theorem State.modHost_regs (s : State) (f : HostSt → HostSt) : (s.modHost f).regs = s.regs := rfl
@[simp] theorem State.modHost_force (s : State) (f : HostSt → HostSt) : (s.modHost f).force = s.force := rfl
@[simp] theorem State.modHost_blobs (s : State) (f : HostSt → HostSt) : (s.modHost f).blobs = s.blobs := rfl
@[simp] theorem State.modHost_time (s : State) (f : HostSt → HostSt) : (s.modHost f).time = s.time := rfl
@[simp] theorem State.modHost_net (s : State) (f : HostSt → HostSt) : (s.modHost f).net = s.net := rfl
@[simp] theorem State.modHost_pw (s : State) (f : HostSt → HostSt) : (s.modHost f).pw = s.pw := rfl
@[simp] theorem State.modHost_sec (s : State) (f : HostSt → HostSt) : (s.modHost f).sec = s.sec := rfl
@[simp] theorem State.modHost_dict (s : State) (f : HostSt → HostSt) : (s.modHost f).dict = s.dict := rfl
@[simp] theorem State.modHost_leg (s : State) (f : HostSt → HostSt) : (s.modHost f).leg = s.leg := rfl
@[simp] theorem State.modHost_cell (s : State) (f : HostSt → HostSt) : (s.modHost f).cell = s.cell := rfl
@[simp] theorem State.modHost_axis (s : State) (f : HostSt → HostSt) : (s.modHost f).axis = s.axis := rfl
@[simp] theorem State.modHost_port (s : State) (f : HostSt → HostSt) : (s.modHost f).port = s.port := rfl
@[simp] theorem State.modHost_latch (s : State) (f : HostSt → HostSt) : (s.modHost f).latch = s.latch := rfl
@[simp] theorem State.modHost_emu (s : State) (f : HostSt → HostSt) : (s.modHost f).emu = s.emu := rfl
@[simp] theorem State.modHost_track (s : State) (f : HostSt → HostSt) : (s.modHost f).track = s.track := rfl
@[simp] theorem State.modHost_field (s : State) (f : HostSt → HostSt) : (s.modHost f).field = s.field := rfl
@[simp] theorem State.modHost_casc (s : State) (f : HostSt → HostSt) : (s.modHost f).casc = s.casc := rfl
@[simp] theorem State.modHost_sub (s : State) (f : HostSt → HostSt) : (s.modHost f).sub = s.sub := rfl
@[simp] theorem State.modHost_pub (s : State) (f : HostSt → HostSt) : (s.modHost f).pub = s.pub := rfl
@[simp] theorem State.modHost_tableRam (s : State) (f : HostSt → HostSt) : (s.modHost f).tableRam = s.tableRam := rfl
@[simp] theorem State.modHost_tableLen (s : State) (f : HostSt → HostSt) : (s.modHost f).tableLen = s.tableLen := rfl
@[simp] theorem State.modHost_acq (s : State) (f : HostSt → HostSt) : (s.modHost f).acq = s.acq := rfl
@[simp] theorem State.modHost_sp (s : State) (f : HostSt → HostSt) : (s.modHost f).sp = s.sp := rfl
@[simp] theorem State.modHost_twin (s : State) (f : HostSt → HostSt) : (s.modHost f).twin = s.twin := rfl
@[simp] theorem State.modHost_can (s : State) (f : HostSt → HostSt) : (s.modHost f).can = s.can := rfl
@[simp] theorem State.modHost_acqRam (s : State) (f : HostSt → HostSt) : (s.modHost f).acqRam = s.acqRam := rfl
@[simp] theorem State.modHost_out (s : State) (f : HostSt → HostSt) : (s.modHost f).out = s.out := rfl
@[simp] theorem State.modHost_pending (s : State) (f : HostSt → HostSt) : (s.modHost f).pending = s.pending := rfl

@[simp] theorem State.modRing_regs (s : State) (n : Nat) (f : Ring → Ring) : (s.modRing n f).regs = s.regs := rfl
@[simp] theorem State.modRing_force (s : State) (n : Nat) (f : Ring → Ring) : (s.modRing n f).force = s.force := rfl
@[simp] theorem State.modRing_blobs (s : State) (n : Nat) (f : Ring → Ring) : (s.modRing n f).blobs = s.blobs := rfl
@[simp] theorem State.modRing_time (s : State) (n : Nat) (f : Ring → Ring) : (s.modRing n f).time = s.time := rfl
@[simp] theorem State.modRing_net (s : State) (n : Nat) (f : Ring → Ring) : (s.modRing n f).net = s.net := rfl
@[simp] theorem State.modRing_pw (s : State) (n : Nat) (f : Ring → Ring) : (s.modRing n f).pw = s.pw := rfl
@[simp] theorem State.modRing_sec (s : State) (n : Nat) (f : Ring → Ring) : (s.modRing n f).sec = s.sec := rfl
@[simp] theorem State.modRing_dict (s : State) (n : Nat) (f : Ring → Ring) : (s.modRing n f).dict = s.dict := rfl
@[simp] theorem State.modRing_leg (s : State) (n : Nat) (f : Ring → Ring) : (s.modRing n f).leg = s.leg := rfl
@[simp] theorem State.modRing_cell (s : State) (n : Nat) (f : Ring → Ring) : (s.modRing n f).cell = s.cell := rfl
@[simp] theorem State.modRing_axis (s : State) (n : Nat) (f : Ring → Ring) : (s.modRing n f).axis = s.axis := rfl
@[simp] theorem State.modRing_port (s : State) (n : Nat) (f : Ring → Ring) : (s.modRing n f).port = s.port := rfl
@[simp] theorem State.modRing_latch (s : State) (n : Nat) (f : Ring → Ring) : (s.modRing n f).latch = s.latch := rfl
@[simp] theorem State.modRing_emu (s : State) (n : Nat) (f : Ring → Ring) : (s.modRing n f).emu = s.emu := rfl
@[simp] theorem State.modRing_track (s : State) (n : Nat) (f : Ring → Ring) : (s.modRing n f).track = s.track := rfl
@[simp] theorem State.modRing_field (s : State) (n : Nat) (f : Ring → Ring) : (s.modRing n f).field = s.field := rfl
@[simp] theorem State.modRing_casc (s : State) (n : Nat) (f : Ring → Ring) : (s.modRing n f).casc = s.casc := rfl
@[simp] theorem State.modRing_sub (s : State) (n : Nat) (f : Ring → Ring) : (s.modRing n f).sub = s.sub := rfl
@[simp] theorem State.modRing_pub (s : State) (n : Nat) (f : Ring → Ring) : (s.modRing n f).pub = s.pub := rfl
@[simp] theorem State.modRing_tableRam (s : State) (n : Nat) (f : Ring → Ring) : (s.modRing n f).tableRam = s.tableRam := rfl
@[simp] theorem State.modRing_tableLen (s : State) (n : Nat) (f : Ring → Ring) : (s.modRing n f).tableLen = s.tableLen := rfl
@[simp] theorem State.modRing_acq (s : State) (n : Nat) (f : Ring → Ring) : (s.modRing n f).acq = s.acq := rfl
@[simp] theorem State.modRing_sp (s : State) (n : Nat) (f : Ring → Ring) : (s.modRing n f).sp = s.sp := rfl
@[simp] theorem State.modRing_twin (s : State) (n : Nat) (f : Ring → Ring) : (s.modRing n f).twin = s.twin := rfl
@[simp] theorem State.modRing_can (s : State) (n : Nat) (f : Ring → Ring) : (s.modRing n f).can = s.can := rfl
@[simp] theorem State.modRing_acqRam (s : State) (n : Nat) (f : Ring → Ring) : (s.modRing n f).acqRam = s.acqRam := rfl
@[simp] theorem State.modRing_out (s : State) (n : Nat) (f : Ring → Ring) : (s.modRing n f).out = s.out := rfl
@[simp] theorem State.modRing_pending (s : State) (n : Nat) (f : Ring → Ring) : (s.modRing n f).pending = s.pending := rfl

@[simp] theorem State.modDm_regs (s : State) (n : Nat) (f : DomInt → DomInt) : (s.modDm n f).regs = s.regs := rfl
@[simp] theorem State.modDm_force (s : State) (n : Nat) (f : DomInt → DomInt) : (s.modDm n f).force = s.force := rfl
@[simp] theorem State.modDm_blobs (s : State) (n : Nat) (f : DomInt → DomInt) : (s.modDm n f).blobs = s.blobs := rfl
@[simp] theorem State.modDm_net (s : State) (n : Nat) (f : DomInt → DomInt) : (s.modDm n f).net = s.net := rfl
@[simp] theorem State.modDm_pw (s : State) (n : Nat) (f : DomInt → DomInt) : (s.modDm n f).pw = s.pw := rfl
@[simp] theorem State.modDm_sec (s : State) (n : Nat) (f : DomInt → DomInt) : (s.modDm n f).sec = s.sec := rfl
@[simp] theorem State.modDm_dict (s : State) (n : Nat) (f : DomInt → DomInt) : (s.modDm n f).dict = s.dict := rfl
@[simp] theorem State.modDm_host (s : State) (n : Nat) (f : DomInt → DomInt) : (s.modDm n f).host = s.host := rfl
@[simp] theorem State.modDm_leg (s : State) (n : Nat) (f : DomInt → DomInt) : (s.modDm n f).leg = s.leg := rfl
@[simp] theorem State.modDm_cell (s : State) (n : Nat) (f : DomInt → DomInt) : (s.modDm n f).cell = s.cell := rfl
@[simp] theorem State.modDm_axis (s : State) (n : Nat) (f : DomInt → DomInt) : (s.modDm n f).axis = s.axis := rfl
@[simp] theorem State.modDm_port (s : State) (n : Nat) (f : DomInt → DomInt) : (s.modDm n f).port = s.port := rfl
@[simp] theorem State.modDm_latch (s : State) (n : Nat) (f : DomInt → DomInt) : (s.modDm n f).latch = s.latch := rfl
@[simp] theorem State.modDm_emu (s : State) (n : Nat) (f : DomInt → DomInt) : (s.modDm n f).emu = s.emu := rfl
@[simp] theorem State.modDm_track (s : State) (n : Nat) (f : DomInt → DomInt) : (s.modDm n f).track = s.track := rfl
@[simp] theorem State.modDm_field (s : State) (n : Nat) (f : DomInt → DomInt) : (s.modDm n f).field = s.field := rfl
@[simp] theorem State.modDm_casc (s : State) (n : Nat) (f : DomInt → DomInt) : (s.modDm n f).casc = s.casc := rfl
@[simp] theorem State.modDm_sub (s : State) (n : Nat) (f : DomInt → DomInt) : (s.modDm n f).sub = s.sub := rfl
@[simp] theorem State.modDm_pub (s : State) (n : Nat) (f : DomInt → DomInt) : (s.modDm n f).pub = s.pub := rfl
@[simp] theorem State.modDm_tableRam (s : State) (n : Nat) (f : DomInt → DomInt) : (s.modDm n f).tableRam = s.tableRam := rfl
@[simp] theorem State.modDm_tableLen (s : State) (n : Nat) (f : DomInt → DomInt) : (s.modDm n f).tableLen = s.tableLen := rfl
@[simp] theorem State.modDm_acq (s : State) (n : Nat) (f : DomInt → DomInt) : (s.modDm n f).acq = s.acq := rfl
@[simp] theorem State.modDm_sp (s : State) (n : Nat) (f : DomInt → DomInt) : (s.modDm n f).sp = s.sp := rfl
@[simp] theorem State.modDm_twin (s : State) (n : Nat) (f : DomInt → DomInt) : (s.modDm n f).twin = s.twin := rfl
@[simp] theorem State.modDm_can (s : State) (n : Nat) (f : DomInt → DomInt) : (s.modDm n f).can = s.can := rfl
@[simp] theorem State.modDm_acqRam (s : State) (n : Nat) (f : DomInt → DomInt) : (s.modDm n f).acqRam = s.acqRam := rfl
@[simp] theorem State.modDm_out (s : State) (n : Nat) (f : DomInt → DomInt) : (s.modDm n f).out = s.out := rfl
@[simp] theorem State.modDm_pending (s : State) (n : Nat) (f : DomInt → DomInt) : (s.modDm n f).pending = s.pending := rfl

@[simp] theorem State.modSb_regs (s : State) (n : Nat) (f : SubSt → SubSt) : (s.modSb n f).regs = s.regs := rfl
@[simp] theorem State.modSb_force (s : State) (n : Nat) (f : SubSt → SubSt) : (s.modSb n f).force = s.force := rfl
@[simp] theorem State.modSb_blobs (s : State) (n : Nat) (f : SubSt → SubSt) : (s.modSb n f).blobs = s.blobs := rfl
@[simp] theorem State.modSb_time (s : State) (n : Nat) (f : SubSt → SubSt) : (s.modSb n f).time = s.time := rfl
@[simp] theorem State.modSb_net (s : State) (n : Nat) (f : SubSt → SubSt) : (s.modSb n f).net = s.net := rfl
@[simp] theorem State.modSb_pw (s : State) (n : Nat) (f : SubSt → SubSt) : (s.modSb n f).pw = s.pw := rfl
@[simp] theorem State.modSb_sec (s : State) (n : Nat) (f : SubSt → SubSt) : (s.modSb n f).sec = s.sec := rfl
@[simp] theorem State.modSb_dict (s : State) (n : Nat) (f : SubSt → SubSt) : (s.modSb n f).dict = s.dict := rfl
@[simp] theorem State.modSb_host (s : State) (n : Nat) (f : SubSt → SubSt) : (s.modSb n f).host = s.host := rfl
@[simp] theorem State.modSb_leg (s : State) (n : Nat) (f : SubSt → SubSt) : (s.modSb n f).leg = s.leg := rfl
@[simp] theorem State.modSb_cell (s : State) (n : Nat) (f : SubSt → SubSt) : (s.modSb n f).cell = s.cell := rfl
@[simp] theorem State.modSb_axis (s : State) (n : Nat) (f : SubSt → SubSt) : (s.modSb n f).axis = s.axis := rfl
@[simp] theorem State.modSb_port (s : State) (n : Nat) (f : SubSt → SubSt) : (s.modSb n f).port = s.port := rfl
@[simp] theorem State.modSb_latch (s : State) (n : Nat) (f : SubSt → SubSt) : (s.modSb n f).latch = s.latch := rfl
@[simp] theorem State.modSb_emu (s : State) (n : Nat) (f : SubSt → SubSt) : (s.modSb n f).emu = s.emu := rfl
@[simp] theorem State.modSb_track (s : State) (n : Nat) (f : SubSt → SubSt) : (s.modSb n f).track = s.track := rfl
@[simp] theorem State.modSb_field (s : State) (n : Nat) (f : SubSt → SubSt) : (s.modSb n f).field = s.field := rfl
@[simp] theorem State.modSb_casc (s : State) (n : Nat) (f : SubSt → SubSt) : (s.modSb n f).casc = s.casc := rfl
@[simp] theorem State.modSb_pub (s : State) (n : Nat) (f : SubSt → SubSt) : (s.modSb n f).pub = s.pub := rfl
@[simp] theorem State.modSb_tableRam (s : State) (n : Nat) (f : SubSt → SubSt) : (s.modSb n f).tableRam = s.tableRam := rfl
@[simp] theorem State.modSb_tableLen (s : State) (n : Nat) (f : SubSt → SubSt) : (s.modSb n f).tableLen = s.tableLen := rfl
@[simp] theorem State.modSb_acq (s : State) (n : Nat) (f : SubSt → SubSt) : (s.modSb n f).acq = s.acq := rfl
@[simp] theorem State.modSb_sp (s : State) (n : Nat) (f : SubSt → SubSt) : (s.modSb n f).sp = s.sp := rfl
@[simp] theorem State.modSb_twin (s : State) (n : Nat) (f : SubSt → SubSt) : (s.modSb n f).twin = s.twin := rfl
@[simp] theorem State.modSb_can (s : State) (n : Nat) (f : SubSt → SubSt) : (s.modSb n f).can = s.can := rfl
@[simp] theorem State.modSb_acqRam (s : State) (n : Nat) (f : SubSt → SubSt) : (s.modSb n f).acqRam = s.acqRam := rfl
@[simp] theorem State.modSb_out (s : State) (n : Nat) (f : SubSt → SubSt) : (s.modSb n f).out = s.out := rfl
@[simp] theorem State.modSb_pending (s : State) (n : Nat) (f : SubSt → SubSt) : (s.modSb n f).pending = s.pending := rfl

@[simp] theorem State.modPw_regs (s : State) (f : Power → Power) : (s.modPw f).regs = s.regs := rfl
@[simp] theorem State.modPw_force (s : State) (f : Power → Power) : (s.modPw f).force = s.force := rfl
@[simp] theorem State.modPw_blobs (s : State) (f : Power → Power) : (s.modPw f).blobs = s.blobs := rfl
@[simp] theorem State.modPw_time (s : State) (f : Power → Power) : (s.modPw f).time = s.time := rfl
@[simp] theorem State.modPw_net (s : State) (f : Power → Power) : (s.modPw f).net = s.net := rfl
@[simp] theorem State.modPw_sec (s : State) (f : Power → Power) : (s.modPw f).sec = s.sec := rfl
@[simp] theorem State.modPw_dict (s : State) (f : Power → Power) : (s.modPw f).dict = s.dict := rfl
@[simp] theorem State.modPw_host (s : State) (f : Power → Power) : (s.modPw f).host = s.host := rfl
@[simp] theorem State.modPw_leg (s : State) (f : Power → Power) : (s.modPw f).leg = s.leg := rfl
@[simp] theorem State.modPw_cell (s : State) (f : Power → Power) : (s.modPw f).cell = s.cell := rfl
@[simp] theorem State.modPw_axis (s : State) (f : Power → Power) : (s.modPw f).axis = s.axis := rfl
@[simp] theorem State.modPw_port (s : State) (f : Power → Power) : (s.modPw f).port = s.port := rfl
@[simp] theorem State.modPw_latch (s : State) (f : Power → Power) : (s.modPw f).latch = s.latch := rfl
@[simp] theorem State.modPw_emu (s : State) (f : Power → Power) : (s.modPw f).emu = s.emu := rfl
@[simp] theorem State.modPw_track (s : State) (f : Power → Power) : (s.modPw f).track = s.track := rfl
@[simp] theorem State.modPw_field (s : State) (f : Power → Power) : (s.modPw f).field = s.field := rfl
@[simp] theorem State.modPw_casc (s : State) (f : Power → Power) : (s.modPw f).casc = s.casc := rfl
@[simp] theorem State.modPw_sub (s : State) (f : Power → Power) : (s.modPw f).sub = s.sub := rfl
@[simp] theorem State.modPw_pub (s : State) (f : Power → Power) : (s.modPw f).pub = s.pub := rfl
@[simp] theorem State.modPw_tableRam (s : State) (f : Power → Power) : (s.modPw f).tableRam = s.tableRam := rfl
@[simp] theorem State.modPw_tableLen (s : State) (f : Power → Power) : (s.modPw f).tableLen = s.tableLen := rfl
@[simp] theorem State.modPw_acq (s : State) (f : Power → Power) : (s.modPw f).acq = s.acq := rfl
@[simp] theorem State.modPw_sp (s : State) (f : Power → Power) : (s.modPw f).sp = s.sp := rfl
@[simp] theorem State.modPw_twin (s : State) (f : Power → Power) : (s.modPw f).twin = s.twin := rfl
@[simp] theorem State.modPw_can (s : State) (f : Power → Power) : (s.modPw f).can = s.can := rfl
@[simp] theorem State.modPw_acqRam (s : State) (f : Power → Power) : (s.modPw f).acqRam = s.acqRam := rfl
@[simp] theorem State.modPw_out (s : State) (f : Power → Power) : (s.modPw f).out = s.out := rfl
@[simp] theorem State.modPw_pending (s : State) (f : Power → Power) : (s.modPw f).pending = s.pending := rfl

@[simp] theorem State.modRx_regs (s : State) (n : Nat) (f : RxSt → RxSt) : (s.modRx n f).regs = s.regs := rfl
@[simp] theorem State.modRx_force (s : State) (n : Nat) (f : RxSt → RxSt) : (s.modRx n f).force = s.force := rfl
@[simp] theorem State.modRx_blobs (s : State) (n : Nat) (f : RxSt → RxSt) : (s.modRx n f).blobs = s.blobs := rfl
@[simp] theorem State.modRx_time (s : State) (n : Nat) (f : RxSt → RxSt) : (s.modRx n f).time = s.time := rfl
@[simp] theorem State.modRx_net (s : State) (n : Nat) (f : RxSt → RxSt) : (s.modRx n f).net = s.net := rfl
@[simp] theorem State.modRx_pw (s : State) (n : Nat) (f : RxSt → RxSt) : (s.modRx n f).pw = s.pw := rfl
@[simp] theorem State.modRx_sec (s : State) (n : Nat) (f : RxSt → RxSt) : (s.modRx n f).sec = s.sec := rfl
@[simp] theorem State.modRx_host (s : State) (n : Nat) (f : RxSt → RxSt) : (s.modRx n f).host = s.host := rfl
@[simp] theorem State.modRx_leg (s : State) (n : Nat) (f : RxSt → RxSt) : (s.modRx n f).leg = s.leg := rfl
@[simp] theorem State.modRx_cell (s : State) (n : Nat) (f : RxSt → RxSt) : (s.modRx n f).cell = s.cell := rfl
@[simp] theorem State.modRx_axis (s : State) (n : Nat) (f : RxSt → RxSt) : (s.modRx n f).axis = s.axis := rfl
@[simp] theorem State.modRx_port (s : State) (n : Nat) (f : RxSt → RxSt) : (s.modRx n f).port = s.port := rfl
@[simp] theorem State.modRx_latch (s : State) (n : Nat) (f : RxSt → RxSt) : (s.modRx n f).latch = s.latch := rfl
@[simp] theorem State.modRx_emu (s : State) (n : Nat) (f : RxSt → RxSt) : (s.modRx n f).emu = s.emu := rfl
@[simp] theorem State.modRx_track (s : State) (n : Nat) (f : RxSt → RxSt) : (s.modRx n f).track = s.track := rfl
@[simp] theorem State.modRx_field (s : State) (n : Nat) (f : RxSt → RxSt) : (s.modRx n f).field = s.field := rfl
@[simp] theorem State.modRx_casc (s : State) (n : Nat) (f : RxSt → RxSt) : (s.modRx n f).casc = s.casc := rfl
@[simp] theorem State.modRx_sub (s : State) (n : Nat) (f : RxSt → RxSt) : (s.modRx n f).sub = s.sub := rfl
@[simp] theorem State.modRx_pub (s : State) (n : Nat) (f : RxSt → RxSt) : (s.modRx n f).pub = s.pub := rfl
@[simp] theorem State.modRx_tableRam (s : State) (n : Nat) (f : RxSt → RxSt) : (s.modRx n f).tableRam = s.tableRam := rfl
@[simp] theorem State.modRx_tableLen (s : State) (n : Nat) (f : RxSt → RxSt) : (s.modRx n f).tableLen = s.tableLen := rfl
@[simp] theorem State.modRx_acq (s : State) (n : Nat) (f : RxSt → RxSt) : (s.modRx n f).acq = s.acq := rfl
@[simp] theorem State.modRx_sp (s : State) (n : Nat) (f : RxSt → RxSt) : (s.modRx n f).sp = s.sp := rfl
@[simp] theorem State.modRx_twin (s : State) (n : Nat) (f : RxSt → RxSt) : (s.modRx n f).twin = s.twin := rfl
@[simp] theorem State.modRx_can (s : State) (n : Nat) (f : RxSt → RxSt) : (s.modRx n f).can = s.can := rfl
@[simp] theorem State.modRx_acqRam (s : State) (n : Nat) (f : RxSt → RxSt) : (s.modRx n f).acqRam = s.acqRam := rfl
@[simp] theorem State.modRx_out (s : State) (n : Nat) (f : RxSt → RxSt) : (s.modRx n f).out = s.out := rfl
@[simp] theorem State.modRx_pending (s : State) (n : Nat) (f : RxSt → RxSt) : (s.modRx n f).pending = s.pending := rfl

@[simp] theorem State.modTx_regs (s : State) (n : Nat) (f : TxSt → TxSt) : (s.modTx n f).regs = s.regs := rfl
@[simp] theorem State.modTx_force (s : State) (n : Nat) (f : TxSt → TxSt) : (s.modTx n f).force = s.force := rfl
@[simp] theorem State.modTx_blobs (s : State) (n : Nat) (f : TxSt → TxSt) : (s.modTx n f).blobs = s.blobs := rfl
@[simp] theorem State.modTx_time (s : State) (n : Nat) (f : TxSt → TxSt) : (s.modTx n f).time = s.time := rfl
@[simp] theorem State.modTx_net (s : State) (n : Nat) (f : TxSt → TxSt) : (s.modTx n f).net = s.net := rfl
@[simp] theorem State.modTx_pw (s : State) (n : Nat) (f : TxSt → TxSt) : (s.modTx n f).pw = s.pw := rfl
@[simp] theorem State.modTx_sec (s : State) (n : Nat) (f : TxSt → TxSt) : (s.modTx n f).sec = s.sec := rfl
@[simp] theorem State.modTx_host (s : State) (n : Nat) (f : TxSt → TxSt) : (s.modTx n f).host = s.host := rfl
@[simp] theorem State.modTx_leg (s : State) (n : Nat) (f : TxSt → TxSt) : (s.modTx n f).leg = s.leg := rfl
@[simp] theorem State.modTx_cell (s : State) (n : Nat) (f : TxSt → TxSt) : (s.modTx n f).cell = s.cell := rfl
@[simp] theorem State.modTx_axis (s : State) (n : Nat) (f : TxSt → TxSt) : (s.modTx n f).axis = s.axis := rfl
@[simp] theorem State.modTx_port (s : State) (n : Nat) (f : TxSt → TxSt) : (s.modTx n f).port = s.port := rfl
@[simp] theorem State.modTx_latch (s : State) (n : Nat) (f : TxSt → TxSt) : (s.modTx n f).latch = s.latch := rfl
@[simp] theorem State.modTx_emu (s : State) (n : Nat) (f : TxSt → TxSt) : (s.modTx n f).emu = s.emu := rfl
@[simp] theorem State.modTx_track (s : State) (n : Nat) (f : TxSt → TxSt) : (s.modTx n f).track = s.track := rfl
@[simp] theorem State.modTx_field (s : State) (n : Nat) (f : TxSt → TxSt) : (s.modTx n f).field = s.field := rfl
@[simp] theorem State.modTx_casc (s : State) (n : Nat) (f : TxSt → TxSt) : (s.modTx n f).casc = s.casc := rfl
@[simp] theorem State.modTx_sub (s : State) (n : Nat) (f : TxSt → TxSt) : (s.modTx n f).sub = s.sub := rfl
@[simp] theorem State.modTx_pub (s : State) (n : Nat) (f : TxSt → TxSt) : (s.modTx n f).pub = s.pub := rfl
@[simp] theorem State.modTx_tableRam (s : State) (n : Nat) (f : TxSt → TxSt) : (s.modTx n f).tableRam = s.tableRam := rfl
@[simp] theorem State.modTx_tableLen (s : State) (n : Nat) (f : TxSt → TxSt) : (s.modTx n f).tableLen = s.tableLen := rfl
@[simp] theorem State.modTx_acq (s : State) (n : Nat) (f : TxSt → TxSt) : (s.modTx n f).acq = s.acq := rfl
@[simp] theorem State.modTx_sp (s : State) (n : Nat) (f : TxSt → TxSt) : (s.modTx n f).sp = s.sp := rfl
@[simp] theorem State.modTx_twin (s : State) (n : Nat) (f : TxSt → TxSt) : (s.modTx n f).twin = s.twin := rfl
@[simp] theorem State.modTx_can (s : State) (n : Nat) (f : TxSt → TxSt) : (s.modTx n f).can = s.can := rfl
@[simp] theorem State.modTx_acqRam (s : State) (n : Nat) (f : TxSt → TxSt) : (s.modTx n f).acqRam = s.acqRam := rfl
@[simp] theorem State.modTx_out (s : State) (n : Nat) (f : TxSt → TxSt) : (s.modTx n f).out = s.out := rfl
@[simp] theorem State.modTx_pending (s : State) (n : Nat) (f : TxSt → TxSt) : (s.modTx n f).pending = s.pending := rfl

@[simp] theorem State.modPb_regs (s : State) (n : Nat) (f : PubSt → PubSt) : (s.modPb n f).regs = s.regs := rfl
@[simp] theorem State.modPb_force (s : State) (n : Nat) (f : PubSt → PubSt) : (s.modPb n f).force = s.force := rfl
@[simp] theorem State.modPb_blobs (s : State) (n : Nat) (f : PubSt → PubSt) : (s.modPb n f).blobs = s.blobs := rfl
@[simp] theorem State.modPb_time (s : State) (n : Nat) (f : PubSt → PubSt) : (s.modPb n f).time = s.time := rfl
@[simp] theorem State.modPb_net (s : State) (n : Nat) (f : PubSt → PubSt) : (s.modPb n f).net = s.net := rfl
@[simp] theorem State.modPb_pw (s : State) (n : Nat) (f : PubSt → PubSt) : (s.modPb n f).pw = s.pw := rfl
@[simp] theorem State.modPb_sec (s : State) (n : Nat) (f : PubSt → PubSt) : (s.modPb n f).sec = s.sec := rfl
@[simp] theorem State.modPb_dict (s : State) (n : Nat) (f : PubSt → PubSt) : (s.modPb n f).dict = s.dict := rfl
@[simp] theorem State.modPb_host (s : State) (n : Nat) (f : PubSt → PubSt) : (s.modPb n f).host = s.host := rfl
@[simp] theorem State.modPb_leg (s : State) (n : Nat) (f : PubSt → PubSt) : (s.modPb n f).leg = s.leg := rfl
@[simp] theorem State.modPb_cell (s : State) (n : Nat) (f : PubSt → PubSt) : (s.modPb n f).cell = s.cell := rfl
@[simp] theorem State.modPb_axis (s : State) (n : Nat) (f : PubSt → PubSt) : (s.modPb n f).axis = s.axis := rfl
@[simp] theorem State.modPb_port (s : State) (n : Nat) (f : PubSt → PubSt) : (s.modPb n f).port = s.port := rfl
@[simp] theorem State.modPb_latch (s : State) (n : Nat) (f : PubSt → PubSt) : (s.modPb n f).latch = s.latch := rfl
@[simp] theorem State.modPb_emu (s : State) (n : Nat) (f : PubSt → PubSt) : (s.modPb n f).emu = s.emu := rfl
@[simp] theorem State.modPb_track (s : State) (n : Nat) (f : PubSt → PubSt) : (s.modPb n f).track = s.track := rfl
@[simp] theorem State.modPb_field (s : State) (n : Nat) (f : PubSt → PubSt) : (s.modPb n f).field = s.field := rfl
@[simp] theorem State.modPb_casc (s : State) (n : Nat) (f : PubSt → PubSt) : (s.modPb n f).casc = s.casc := rfl
@[simp] theorem State.modPb_sub (s : State) (n : Nat) (f : PubSt → PubSt) : (s.modPb n f).sub = s.sub := rfl
@[simp] theorem State.modPb_tableRam (s : State) (n : Nat) (f : PubSt → PubSt) : (s.modPb n f).tableRam = s.tableRam := rfl
@[simp] theorem State.modPb_tableLen (s : State) (n : Nat) (f : PubSt → PubSt) : (s.modPb n f).tableLen = s.tableLen := rfl
@[simp] theorem State.modPb_acq (s : State) (n : Nat) (f : PubSt → PubSt) : (s.modPb n f).acq = s.acq := rfl
@[simp] theorem State.modPb_sp (s : State) (n : Nat) (f : PubSt → PubSt) : (s.modPb n f).sp = s.sp := rfl
@[simp] theorem State.modPb_twin (s : State) (n : Nat) (f : PubSt → PubSt) : (s.modPb n f).twin = s.twin := rfl
@[simp] theorem State.modPb_can (s : State) (n : Nat) (f : PubSt → PubSt) : (s.modPb n f).can = s.can := rfl
@[simp] theorem State.modPb_acqRam (s : State) (n : Nat) (f : PubSt → PubSt) : (s.modPb n f).acqRam = s.acqRam := rfl
@[simp] theorem State.modPb_out (s : State) (n : Nat) (f : PubSt → PubSt) : (s.modPb n f).out = s.out := rfl
@[simp] theorem State.modPb_pending (s : State) (n : Nat) (f : PubSt → PubSt) : (s.modPb n f).pending = s.pending := rfl

@[simp] theorem State.modSec_regs (s : State) (f : Secure → Secure) : (s.modSec f).regs = s.regs := rfl
@[simp] theorem State.modSec_force (s : State) (f : Secure → Secure) : (s.modSec f).force = s.force := rfl
@[simp] theorem State.modSec_blobs (s : State) (f : Secure → Secure) : (s.modSec f).blobs = s.blobs := rfl
@[simp] theorem State.modSec_time (s : State) (f : Secure → Secure) : (s.modSec f).time = s.time := rfl
@[simp] theorem State.modSec_net (s : State) (f : Secure → Secure) : (s.modSec f).net = s.net := rfl
@[simp] theorem State.modSec_pw (s : State) (f : Secure → Secure) : (s.modSec f).pw = s.pw := rfl
@[simp] theorem State.modSec_dict (s : State) (f : Secure → Secure) : (s.modSec f).dict = s.dict := rfl
@[simp] theorem State.modSec_host (s : State) (f : Secure → Secure) : (s.modSec f).host = s.host := rfl
@[simp] theorem State.modSec_leg (s : State) (f : Secure → Secure) : (s.modSec f).leg = s.leg := rfl
@[simp] theorem State.modSec_cell (s : State) (f : Secure → Secure) : (s.modSec f).cell = s.cell := rfl
@[simp] theorem State.modSec_axis (s : State) (f : Secure → Secure) : (s.modSec f).axis = s.axis := rfl
@[simp] theorem State.modSec_port (s : State) (f : Secure → Secure) : (s.modSec f).port = s.port := rfl
@[simp] theorem State.modSec_latch (s : State) (f : Secure → Secure) : (s.modSec f).latch = s.latch := rfl
@[simp] theorem State.modSec_emu (s : State) (f : Secure → Secure) : (s.modSec f).emu = s.emu := rfl
@[simp] theorem State.modSec_track (s : State) (f : Secure → Secure) : (s.modSec f).track = s.track := rfl
@[simp] theorem State.modSec_field (s : State) (f : Secure → Secure) : (s.modSec f).field = s.field := rfl
@[simp] theorem State.modSec_casc (s : State) (f : Secure → Secure) : (s.modSec f).casc = s.casc := rfl
@[simp] theorem State.modSec_sub (s : State) (f : Secure → Secure) : (s.modSec f).sub = s.sub := rfl
@[simp] theorem State.modSec_pub (s : State) (f : Secure → Secure) : (s.modSec f).pub = s.pub := rfl
@[simp] theorem State.modSec_tableRam (s : State) (f : Secure → Secure) : (s.modSec f).tableRam = s.tableRam := rfl
@[simp] theorem State.modSec_tableLen (s : State) (f : Secure → Secure) : (s.modSec f).tableLen = s.tableLen := rfl
@[simp] theorem State.modSec_acq (s : State) (f : Secure → Secure) : (s.modSec f).acq = s.acq := rfl
@[simp] theorem State.modSec_sp (s : State) (f : Secure → Secure) : (s.modSec f).sp = s.sp := rfl
@[simp] theorem State.modSec_twin (s : State) (f : Secure → Secure) : (s.modSec f).twin = s.twin := rfl
@[simp] theorem State.modSec_can (s : State) (f : Secure → Secure) : (s.modSec f).can = s.can := rfl
@[simp] theorem State.modSec_acqRam (s : State) (f : Secure → Secure) : (s.modSec f).acqRam = s.acqRam := rfl
@[simp] theorem State.modSec_out (s : State) (f : Secure → Secure) : (s.modSec f).out = s.out := rfl
@[simp] theorem State.modSec_pending (s : State) (f : Secure → Secure) : (s.modSec f).pending = s.pending := rfl

@[simp] theorem State.modField_regs (s : State) (f : FieldSt → FieldSt) : (s.modField f).regs = s.regs := rfl
@[simp] theorem State.modField_force (s : State) (f : FieldSt → FieldSt) : (s.modField f).force = s.force := rfl
@[simp] theorem State.modField_blobs (s : State) (f : FieldSt → FieldSt) : (s.modField f).blobs = s.blobs := rfl
@[simp] theorem State.modField_time (s : State) (f : FieldSt → FieldSt) : (s.modField f).time = s.time := rfl
@[simp] theorem State.modField_net (s : State) (f : FieldSt → FieldSt) : (s.modField f).net = s.net := rfl
@[simp] theorem State.modField_pw (s : State) (f : FieldSt → FieldSt) : (s.modField f).pw = s.pw := rfl
@[simp] theorem State.modField_sec (s : State) (f : FieldSt → FieldSt) : (s.modField f).sec = s.sec := rfl
@[simp] theorem State.modField_dict (s : State) (f : FieldSt → FieldSt) : (s.modField f).dict = s.dict := rfl
@[simp] theorem State.modField_host (s : State) (f : FieldSt → FieldSt) : (s.modField f).host = s.host := rfl
@[simp] theorem State.modField_leg (s : State) (f : FieldSt → FieldSt) : (s.modField f).leg = s.leg := rfl
@[simp] theorem State.modField_cell (s : State) (f : FieldSt → FieldSt) : (s.modField f).cell = s.cell := rfl
@[simp] theorem State.modField_axis (s : State) (f : FieldSt → FieldSt) : (s.modField f).axis = s.axis := rfl
@[simp] theorem State.modField_port (s : State) (f : FieldSt → FieldSt) : (s.modField f).port = s.port := rfl
@[simp] theorem State.modField_latch (s : State) (f : FieldSt → FieldSt) : (s.modField f).latch = s.latch := rfl
@[simp] theorem State.modField_emu (s : State) (f : FieldSt → FieldSt) : (s.modField f).emu = s.emu := rfl
@[simp] theorem State.modField_track (s : State) (f : FieldSt → FieldSt) : (s.modField f).track = s.track := rfl
@[simp] theorem State.modField_casc (s : State) (f : FieldSt → FieldSt) : (s.modField f).casc = s.casc := rfl
@[simp] theorem State.modField_sub (s : State) (f : FieldSt → FieldSt) : (s.modField f).sub = s.sub := rfl
@[simp] theorem State.modField_pub (s : State) (f : FieldSt → FieldSt) : (s.modField f).pub = s.pub := rfl
@[simp] theorem State.modField_tableRam (s : State) (f : FieldSt → FieldSt) : (s.modField f).tableRam = s.tableRam := rfl
@[simp] theorem State.modField_tableLen (s : State) (f : FieldSt → FieldSt) : (s.modField f).tableLen = s.tableLen := rfl
@[simp] theorem State.modField_acq (s : State) (f : FieldSt → FieldSt) : (s.modField f).acq = s.acq := rfl
@[simp] theorem State.modField_sp (s : State) (f : FieldSt → FieldSt) : (s.modField f).sp = s.sp := rfl
@[simp] theorem State.modField_twin (s : State) (f : FieldSt → FieldSt) : (s.modField f).twin = s.twin := rfl
@[simp] theorem State.modField_can (s : State) (f : FieldSt → FieldSt) : (s.modField f).can = s.can := rfl
@[simp] theorem State.modField_acqRam (s : State) (f : FieldSt → FieldSt) : (s.modField f).acqRam = s.acqRam := rfl
@[simp] theorem State.modField_out (s : State) (f : FieldSt → FieldSt) : (s.modField f).out = s.out := rfl
@[simp] theorem State.modField_pending (s : State) (f : FieldSt → FieldSt) : (s.modField f).pending = s.pending := rfl

@[simp] theorem State.modSp_regs (s : State) (n : Nat) (f : SpSt → SpSt) : (s.modSp n f).regs = s.regs := rfl
@[simp] theorem State.modSp_force (s : State) (n : Nat) (f : SpSt → SpSt) : (s.modSp n f).force = s.force := rfl
@[simp] theorem State.modSp_blobs (s : State) (n : Nat) (f : SpSt → SpSt) : (s.modSp n f).blobs = s.blobs := rfl
@[simp] theorem State.modSp_time (s : State) (n : Nat) (f : SpSt → SpSt) : (s.modSp n f).time = s.time := rfl
@[simp] theorem State.modSp_net (s : State) (n : Nat) (f : SpSt → SpSt) : (s.modSp n f).net = s.net := rfl
@[simp] theorem State.modSp_pw (s : State) (n : Nat) (f : SpSt → SpSt) : (s.modSp n f).pw = s.pw := rfl
@[simp] theorem State.modSp_sec (s : State) (n : Nat) (f : SpSt → SpSt) : (s.modSp n f).sec = s.sec := rfl
@[simp] theorem State.modSp_dict (s : State) (n : Nat) (f : SpSt → SpSt) : (s.modSp n f).dict = s.dict := rfl
@[simp] theorem State.modSp_host (s : State) (n : Nat) (f : SpSt → SpSt) : (s.modSp n f).host = s.host := rfl
@[simp] theorem State.modSp_leg (s : State) (n : Nat) (f : SpSt → SpSt) : (s.modSp n f).leg = s.leg := rfl
@[simp] theorem State.modSp_cell (s : State) (n : Nat) (f : SpSt → SpSt) : (s.modSp n f).cell = s.cell := rfl
@[simp] theorem State.modSp_axis (s : State) (n : Nat) (f : SpSt → SpSt) : (s.modSp n f).axis = s.axis := rfl
@[simp] theorem State.modSp_port (s : State) (n : Nat) (f : SpSt → SpSt) : (s.modSp n f).port = s.port := rfl
@[simp] theorem State.modSp_latch (s : State) (n : Nat) (f : SpSt → SpSt) : (s.modSp n f).latch = s.latch := rfl
@[simp] theorem State.modSp_emu (s : State) (n : Nat) (f : SpSt → SpSt) : (s.modSp n f).emu = s.emu := rfl
@[simp] theorem State.modSp_track (s : State) (n : Nat) (f : SpSt → SpSt) : (s.modSp n f).track = s.track := rfl
@[simp] theorem State.modSp_field (s : State) (n : Nat) (f : SpSt → SpSt) : (s.modSp n f).field = s.field := rfl
@[simp] theorem State.modSp_casc (s : State) (n : Nat) (f : SpSt → SpSt) : (s.modSp n f).casc = s.casc := rfl
@[simp] theorem State.modSp_sub (s : State) (n : Nat) (f : SpSt → SpSt) : (s.modSp n f).sub = s.sub := rfl
@[simp] theorem State.modSp_pub (s : State) (n : Nat) (f : SpSt → SpSt) : (s.modSp n f).pub = s.pub := rfl
@[simp] theorem State.modSp_tableRam (s : State) (n : Nat) (f : SpSt → SpSt) : (s.modSp n f).tableRam = s.tableRam := rfl
@[simp] theorem State.modSp_tableLen (s : State) (n : Nat) (f : SpSt → SpSt) : (s.modSp n f).tableLen = s.tableLen := rfl
@[simp] theorem State.modSp_acq (s : State) (n : Nat) (f : SpSt → SpSt) : (s.modSp n f).acq = s.acq := rfl
@[simp] theorem State.modSp_twin (s : State) (n : Nat) (f : SpSt → SpSt) : (s.modSp n f).twin = s.twin := rfl
@[simp] theorem State.modSp_can (s : State) (n : Nat) (f : SpSt → SpSt) : (s.modSp n f).can = s.can := rfl
@[simp] theorem State.modSp_acqRam (s : State) (n : Nat) (f : SpSt → SpSt) : (s.modSp n f).acqRam = s.acqRam := rfl
@[simp] theorem State.modSp_out (s : State) (n : Nat) (f : SpSt → SpSt) : (s.modSp n f).out = s.out := rfl
@[simp] theorem State.modSp_pending (s : State) (n : Nat) (f : SpSt → SpSt) : (s.modSp n f).pending = s.pending := rfl

@[simp] theorem State.modTw_regs (s : State) (f : TwinSt → TwinSt) : (s.modTw f).regs = s.regs := rfl
@[simp] theorem State.modTw_force (s : State) (f : TwinSt → TwinSt) : (s.modTw f).force = s.force := rfl
@[simp] theorem State.modTw_blobs (s : State) (f : TwinSt → TwinSt) : (s.modTw f).blobs = s.blobs := rfl
@[simp] theorem State.modTw_time (s : State) (f : TwinSt → TwinSt) : (s.modTw f).time = s.time := rfl
@[simp] theorem State.modTw_net (s : State) (f : TwinSt → TwinSt) : (s.modTw f).net = s.net := rfl
@[simp] theorem State.modTw_pw (s : State) (f : TwinSt → TwinSt) : (s.modTw f).pw = s.pw := rfl
@[simp] theorem State.modTw_sec (s : State) (f : TwinSt → TwinSt) : (s.modTw f).sec = s.sec := rfl
@[simp] theorem State.modTw_dict (s : State) (f : TwinSt → TwinSt) : (s.modTw f).dict = s.dict := rfl
@[simp] theorem State.modTw_host (s : State) (f : TwinSt → TwinSt) : (s.modTw f).host = s.host := rfl
@[simp] theorem State.modTw_leg (s : State) (f : TwinSt → TwinSt) : (s.modTw f).leg = s.leg := rfl
@[simp] theorem State.modTw_cell (s : State) (f : TwinSt → TwinSt) : (s.modTw f).cell = s.cell := rfl
@[simp] theorem State.modTw_axis (s : State) (f : TwinSt → TwinSt) : (s.modTw f).axis = s.axis := rfl
@[simp] theorem State.modTw_port (s : State) (f : TwinSt → TwinSt) : (s.modTw f).port = s.port := rfl
@[simp] theorem State.modTw_latch (s : State) (f : TwinSt → TwinSt) : (s.modTw f).latch = s.latch := rfl
@[simp] theorem State.modTw_emu (s : State) (f : TwinSt → TwinSt) : (s.modTw f).emu = s.emu := rfl
@[simp] theorem State.modTw_track (s : State) (f : TwinSt → TwinSt) : (s.modTw f).track = s.track := rfl
@[simp] theorem State.modTw_field (s : State) (f : TwinSt → TwinSt) : (s.modTw f).field = s.field := rfl
@[simp] theorem State.modTw_casc (s : State) (f : TwinSt → TwinSt) : (s.modTw f).casc = s.casc := rfl
@[simp] theorem State.modTw_sub (s : State) (f : TwinSt → TwinSt) : (s.modTw f).sub = s.sub := rfl
@[simp] theorem State.modTw_pub (s : State) (f : TwinSt → TwinSt) : (s.modTw f).pub = s.pub := rfl
@[simp] theorem State.modTw_tableRam (s : State) (f : TwinSt → TwinSt) : (s.modTw f).tableRam = s.tableRam := rfl
@[simp] theorem State.modTw_tableLen (s : State) (f : TwinSt → TwinSt) : (s.modTw f).tableLen = s.tableLen := rfl
@[simp] theorem State.modTw_acq (s : State) (f : TwinSt → TwinSt) : (s.modTw f).acq = s.acq := rfl
@[simp] theorem State.modTw_sp (s : State) (f : TwinSt → TwinSt) : (s.modTw f).sp = s.sp := rfl
@[simp] theorem State.modTw_can (s : State) (f : TwinSt → TwinSt) : (s.modTw f).can = s.can := rfl
@[simp] theorem State.modTw_acqRam (s : State) (f : TwinSt → TwinSt) : (s.modTw f).acqRam = s.acqRam := rfl
@[simp] theorem State.modTw_out (s : State) (f : TwinSt → TwinSt) : (s.modTw f).out = s.out := rfl
@[simp] theorem State.modTw_pending (s : State) (f : TwinSt → TwinSt) : (s.modTw f).pending = s.pending := rfl

@[simp] theorem State.modAcq_regs (s : State) (f : AcqSt → AcqSt) : (s.modAcq f).regs = s.regs := rfl
@[simp] theorem State.modAcq_force (s : State) (f : AcqSt → AcqSt) : (s.modAcq f).force = s.force := rfl
@[simp] theorem State.modAcq_blobs (s : State) (f : AcqSt → AcqSt) : (s.modAcq f).blobs = s.blobs := rfl
@[simp] theorem State.modAcq_time (s : State) (f : AcqSt → AcqSt) : (s.modAcq f).time = s.time := rfl
@[simp] theorem State.modAcq_net (s : State) (f : AcqSt → AcqSt) : (s.modAcq f).net = s.net := rfl
@[simp] theorem State.modAcq_pw (s : State) (f : AcqSt → AcqSt) : (s.modAcq f).pw = s.pw := rfl
@[simp] theorem State.modAcq_sec (s : State) (f : AcqSt → AcqSt) : (s.modAcq f).sec = s.sec := rfl
@[simp] theorem State.modAcq_dict (s : State) (f : AcqSt → AcqSt) : (s.modAcq f).dict = s.dict := rfl
@[simp] theorem State.modAcq_host (s : State) (f : AcqSt → AcqSt) : (s.modAcq f).host = s.host := rfl
@[simp] theorem State.modAcq_leg (s : State) (f : AcqSt → AcqSt) : (s.modAcq f).leg = s.leg := rfl
@[simp] theorem State.modAcq_cell (s : State) (f : AcqSt → AcqSt) : (s.modAcq f).cell = s.cell := rfl
@[simp] theorem State.modAcq_axis (s : State) (f : AcqSt → AcqSt) : (s.modAcq f).axis = s.axis := rfl
@[simp] theorem State.modAcq_port (s : State) (f : AcqSt → AcqSt) : (s.modAcq f).port = s.port := rfl
@[simp] theorem State.modAcq_latch (s : State) (f : AcqSt → AcqSt) : (s.modAcq f).latch = s.latch := rfl
@[simp] theorem State.modAcq_emu (s : State) (f : AcqSt → AcqSt) : (s.modAcq f).emu = s.emu := rfl
@[simp] theorem State.modAcq_track (s : State) (f : AcqSt → AcqSt) : (s.modAcq f).track = s.track := rfl
@[simp] theorem State.modAcq_field (s : State) (f : AcqSt → AcqSt) : (s.modAcq f).field = s.field := rfl
@[simp] theorem State.modAcq_casc (s : State) (f : AcqSt → AcqSt) : (s.modAcq f).casc = s.casc := rfl
@[simp] theorem State.modAcq_sub (s : State) (f : AcqSt → AcqSt) : (s.modAcq f).sub = s.sub := rfl
@[simp] theorem State.modAcq_pub (s : State) (f : AcqSt → AcqSt) : (s.modAcq f).pub = s.pub := rfl
@[simp] theorem State.modAcq_tableRam (s : State) (f : AcqSt → AcqSt) : (s.modAcq f).tableRam = s.tableRam := rfl
@[simp] theorem State.modAcq_tableLen (s : State) (f : AcqSt → AcqSt) : (s.modAcq f).tableLen = s.tableLen := rfl
@[simp] theorem State.modAcq_sp (s : State) (f : AcqSt → AcqSt) : (s.modAcq f).sp = s.sp := rfl
@[simp] theorem State.modAcq_twin (s : State) (f : AcqSt → AcqSt) : (s.modAcq f).twin = s.twin := rfl
@[simp] theorem State.modAcq_can (s : State) (f : AcqSt → AcqSt) : (s.modAcq f).can = s.can := rfl
@[simp] theorem State.modAcq_acqRam (s : State) (f : AcqSt → AcqSt) : (s.modAcq f).acqRam = s.acqRam := rfl
@[simp] theorem State.modAcq_out (s : State) (f : AcqSt → AcqSt) : (s.modAcq f).out = s.out := rfl
@[simp] theorem State.modAcq_pending (s : State) (f : AcqSt → AcqSt) : (s.modAcq f).pending = s.pending := rfl

@[simp] theorem State.withPending_regs (s : State) (l : List Instr) : (s.withPending l).regs = s.regs := rfl
@[simp] theorem State.withPending_force (s : State) (l : List Instr) : (s.withPending l).force = s.force := rfl
@[simp] theorem State.withPending_blobs (s : State) (l : List Instr) : (s.withPending l).blobs = s.blobs := rfl
@[simp] theorem State.withPending_time (s : State) (l : List Instr) : (s.withPending l).time = s.time := rfl
@[simp] theorem State.withPending_net (s : State) (l : List Instr) : (s.withPending l).net = s.net := rfl
@[simp] theorem State.withPending_pw (s : State) (l : List Instr) : (s.withPending l).pw = s.pw := rfl
@[simp] theorem State.withPending_sec (s : State) (l : List Instr) : (s.withPending l).sec = s.sec := rfl
@[simp] theorem State.withPending_dict (s : State) (l : List Instr) : (s.withPending l).dict = s.dict := rfl
@[simp] theorem State.withPending_host (s : State) (l : List Instr) : (s.withPending l).host = s.host := rfl
@[simp] theorem State.withPending_leg (s : State) (l : List Instr) : (s.withPending l).leg = s.leg := rfl
@[simp] theorem State.withPending_cell (s : State) (l : List Instr) : (s.withPending l).cell = s.cell := rfl
@[simp] theorem State.withPending_axis (s : State) (l : List Instr) : (s.withPending l).axis = s.axis := rfl
@[simp] theorem State.withPending_port (s : State) (l : List Instr) : (s.withPending l).port = s.port := rfl
@[simp] theorem State.withPending_latch (s : State) (l : List Instr) : (s.withPending l).latch = s.latch := rfl
@[simp] theorem State.withPending_emu (s : State) (l : List Instr) : (s.withPending l).emu = s.emu := rfl
@[simp] theorem State.withPending_track (s : State) (l : List Instr) : (s.withPending l).track = s.track := rfl
@[simp] theorem State.withPending_field (s : State) (l : List Instr) : (s.withPending l).field = s.field := rfl
@[simp] theorem State.withPending_casc (s : State) (l : List Instr) : (s.withPending l).casc = s.casc := rfl
@[simp] theorem State.withPending_sub (s : State) (l : List Instr) : (s.withPending l).sub = s.sub := rfl
@[simp] theorem State.withPending_pub (s : State) (l : List Instr) : (s.withPending l).pub = s.pub := rfl
@[simp] theorem State.withPending_tableRam (s : State) (l : List Instr) : (s.withPending l).tableRam = s.tableRam := rfl
@[simp] theorem State.withPending_tableLen (s : State) (l : List Instr) : (s.withPending l).tableLen = s.tableLen := rfl
@[simp] theorem State.withPending_acq (s : State) (l : List Instr) : (s.withPending l).acq = s.acq := rfl
@[simp] theorem State.withPending_sp (s : State) (l : List Instr) : (s.withPending l).sp = s.sp := rfl
@[simp] theorem State.withPending_twin (s : State) (l : List Instr) : (s.withPending l).twin = s.twin := rfl
@[simp] theorem State.withPending_can (s : State) (l : List Instr) : (s.withPending l).can = s.can := rfl
@[simp] theorem State.withPending_acqRam (s : State) (l : List Instr) : (s.withPending l).acqRam = s.acqRam := rfl
@[simp] theorem State.withPending_out (s : State) (l : List Instr) : (s.withPending l).out = s.out := rfl

@[simp] theorem State.record_force (s : State) (c k d i p : Nat) : (s.record c k d i p).force = s.force := (State.record_keeps ..).same .force rfl
@[simp] theorem State.record_blobs (s : State) (c k d i p : Nat) : (s.record c k d i p).blobs = s.blobs := (State.record_keeps ..).same .blobs rfl
@[simp] theorem State.record_time (s : State) (c k d i p : Nat) : (s.record c k d i p).time = s.time := (State.record_keeps ..).same .time rfl
@[simp] theorem State.record_net (s : State) (c k d i p : Nat) : (s.record c k d i p).net = s.net := (State.record_keeps ..).same .net rfl
@[simp] theorem State.record_pw (s : State) (c k d i p : Nat) : (s.record c k d i p).pw = s.pw := (State.record_keeps ..).same .pw rfl
@[simp] theorem State.record_sec (s : State) (c k d i p : Nat) : (s.record c k d i p).sec = s.sec := (State.record_keeps ..).same .sec rfl
@[simp] theorem State.record_dict (s : State) (c k d i p : Nat) : (s.record c k d i p).dict = s.dict := (State.record_keeps ..).same .dict rfl
@[simp] theorem State.record_leg (s : State) (c k d i p : Nat) : (s.record c k d i p).leg = s.leg := (State.record_keeps ..).same .leg rfl
@[simp] theorem State.record_cell (s : State) (c k d i p : Nat) : (s.record c k d i p).cell = s.cell := (State.record_keeps ..).same .cell rfl
@[simp] theorem State.record_axis (s : State) (c k d i p : Nat) : (s.record c k d i p).axis = s.axis := (State.record_keeps ..).same .axis rfl
@[simp] theorem State.record_port (s : State) (c k d i p : Nat) : (s.record c k d i p).port = s.port := (State.record_keeps ..).same .port rfl
@[simp] theorem State.record_latch (s : State) (c k d i p : Nat) : (s.record c k d i p).latch = s.latch := (State.record_keeps ..).same .latch rfl
@[simp] theorem State.record_emu (s : State) (c k d i p : Nat) : (s.record c k d i p).emu = s.emu := (State.record_keeps ..).same .emu rfl
@[simp] theorem State.record_track (s : State) (c k d i p : Nat) : (s.record c k d i p).track = s.track := (State.record_keeps ..).same .track rfl
@[simp] theorem State.record_field (s : State) (c k d i p : Nat) : (s.record c k d i p).field = s.field := (State.record_keeps ..).same .field rfl
@[simp] theorem State.record_casc (s : State) (c k d i p : Nat) : (s.record c k d i p).casc = s.casc := (State.record_keeps ..).same .casc rfl
@[simp] theorem State.record_sub (s : State) (c k d i p : Nat) : (s.record c k d i p).sub = s.sub := (State.record_keeps ..).same .sub rfl
@[simp] theorem State.record_pub (s : State) (c k d i p : Nat) : (s.record c k d i p).pub = s.pub := (State.record_keeps ..).same .pub rfl
@[simp] theorem State.record_tableRam (s : State) (c k d i p : Nat) : (s.record c k d i p).tableRam = s.tableRam := (State.record_keeps ..).same .tableRam rfl
@[simp] theorem State.record_tableLen (s : State) (c k d i p : Nat) : (s.record c k d i p).tableLen = s.tableLen := (State.record_keeps ..).same .tableLen rfl
@[simp] theorem State.record_acq (s : State) (c k d i p : Nat) : (s.record c k d i p).acq = s.acq := (State.record_keeps ..).same .acq rfl
@[simp] theorem State.record_sp (s : State) (c k d i p : Nat) : (s.record c k d i p).sp = s.sp := (State.record_keeps ..).same .sp rfl
@[simp] theorem State.record_twin (s : State) (c k d i p : Nat) : (s.record c k d i p).twin = s.twin := (State.record_keeps ..).same .twin rfl
@[simp] theorem State.record_can (s : State) (c k d i p : Nat) : (s.record c k d i p).can = s.can := (State.record_keeps ..).same .can rfl
@[simp] theorem State.record_acqRam (s : State) (c k d i p : Nat) : (s.record c k d i p).acqRam = s.acqRam := (State.record_keeps ..).same .acqRam rfl
@[simp] theorem State.record_out (s : State) (c k d i p : Nat) : (s.record c k d i p).out = s.out := (State.record_keeps ..).same .out rfl
@[simp] theorem State.record_pending (s : State) (c k d i p : Nat) : (s.record c k d i p).pending = s.pending := (State.record_keeps ..).same .pending rfl

@[simp] theorem State.recordAt_force (s : State) (t c k d i p : Nat) : (s.recordAt t c k d i p).force = s.force := (State.recordAt_keeps ..).same .force rfl
@[simp] theorem State.recordAt_blobs (s : State) (t c k d i p : Nat) : (s.recordAt t c k d i p).blobs = s.blobs := (State.recordAt_keeps ..).same .blobs rfl
@[simp] theorem State.recordAt_time (s : State) (t c k d i p : Nat) : (s.recordAt t c k d i p).time = s.time := (State.recordAt_keeps ..).same .time rfl
@[simp] theorem State.recordAt_net (s : State) (t c k d i p : Nat) : (s.recordAt t c k d i p).net = s.net := (State.recordAt_keeps ..).same .net rfl
@[simp] theorem State.recordAt_pw (s : State) (t c k d i p : Nat) : (s.recordAt t c k d i p).pw = s.pw := (State.recordAt_keeps ..).same .pw rfl
@[simp] theorem State.recordAt_sec (s : State) (t c k d i p : Nat) : (s.recordAt t c k d i p).sec = s.sec := (State.recordAt_keeps ..).same .sec rfl
@[simp] theorem State.recordAt_dict (s : State) (t c k d i p : Nat) : (s.recordAt t c k d i p).dict = s.dict := (State.recordAt_keeps ..).same .dict rfl
@[simp] theorem State.recordAt_leg (s : State) (t c k d i p : Nat) : (s.recordAt t c k d i p).leg = s.leg := (State.recordAt_keeps ..).same .leg rfl
@[simp] theorem State.recordAt_cell (s : State) (t c k d i p : Nat) : (s.recordAt t c k d i p).cell = s.cell := (State.recordAt_keeps ..).same .cell rfl
@[simp] theorem State.recordAt_axis (s : State) (t c k d i p : Nat) : (s.recordAt t c k d i p).axis = s.axis := (State.recordAt_keeps ..).same .axis rfl
@[simp] theorem State.recordAt_port (s : State) (t c k d i p : Nat) : (s.recordAt t c k d i p).port = s.port := (State.recordAt_keeps ..).same .port rfl
@[simp] theorem State.recordAt_latch (s : State) (t c k d i p : Nat) : (s.recordAt t c k d i p).latch = s.latch := (State.recordAt_keeps ..).same .latch rfl
@[simp] theorem State.recordAt_emu (s : State) (t c k d i p : Nat) : (s.recordAt t c k d i p).emu = s.emu := (State.recordAt_keeps ..).same .emu rfl
@[simp] theorem State.recordAt_track (s : State) (t c k d i p : Nat) : (s.recordAt t c k d i p).track = s.track := (State.recordAt_keeps ..).same .track rfl
@[simp] theorem State.recordAt_field (s : State) (t c k d i p : Nat) : (s.recordAt t c k d i p).field = s.field := (State.recordAt_keeps ..).same .field rfl
@[simp] theorem State.recordAt_casc (s : State) (t c k d i p : Nat) : (s.recordAt t c k d i p).casc = s.casc := (State.recordAt_keeps ..).same .casc rfl
@[simp] theorem State.recordAt_sub (s : State) (t c k d i p : Nat) : (s.recordAt t c k d i p).sub = s.sub := (State.recordAt_keeps ..).same .sub rfl
@[simp] theorem State.recordAt_pub (s : State) (t c k d i p : Nat) : (s.recordAt t c k d i p).pub = s.pub := (State.recordAt_keeps ..).same .pub rfl
@[simp] theorem State.recordAt_tableRam (s : State) (t c k d i p : Nat) : (s.recordAt t c k d i p).tableRam = s.tableRam := (State.recordAt_keeps ..).same .tableRam rfl
@[simp] theorem State.recordAt_tableLen (s : State) (t c k d i p : Nat) : (s.recordAt t c k d i p).tableLen = s.tableLen := (State.recordAt_keeps ..).same .tableLen rfl
@[simp] theorem State.recordAt_acq (s : State) (t c k d i p : Nat) : (s.recordAt t c k d i p).acq = s.acq := (State.recordAt_keeps ..).same .acq rfl
@[simp] theorem State.recordAt_sp (s : State) (t c k d i p : Nat) : (s.recordAt t c k d i p).sp = s.sp := (State.recordAt_keeps ..).same .sp rfl
@[simp] theorem State.recordAt_twin (s : State) (t c k d i p : Nat) : (s.recordAt t c k d i p).twin = s.twin := (State.recordAt_keeps ..).same .twin rfl
@[simp] theorem State.recordAt_can (s : State) (t c k d i p : Nat) : (s.recordAt t c k d i p).can = s.can := (State.recordAt_keeps ..).same .can rfl
@[simp] theorem State.recordAt_acqRam (s : State) (t c k d i p : Nat) : (s.recordAt t c k d i p).acqRam = s.acqRam := (State.recordAt_keeps ..).same .acqRam rfl
@[simp] theorem State.recordAt_out (s : State) (t c k d i p : Nat) : (s.recordAt t c k d i p).out = s.out := (State.recordAt_keeps ..).same .out rfl
@[simp] theorem State.recordAt_pending (s : State) (t c k d i p : Nat) : (s.recordAt t c k d i p).pending = s.pending := (State.recordAt_keeps ..).same .pending rfl

@[simp] theorem State.stage_force (s : State) (r : Rec) : (s.stage r).force = s.force := (State.stage_keeps ..).same .force rfl
@[simp] theorem State.stage_blobs (s : State) (r : Rec) : (s.stage r).blobs = s.blobs := (State.stage_keeps ..).same .blobs rfl
@[simp] theorem State.stage_time (s : State) (r : Rec) : (s.stage r).time = s.time := (State.stage_keeps ..).same .time rfl
@[simp] theorem State.stage_net (s : State) (r : Rec) : (s.stage r).net = s.net := (State.stage_keeps ..).same .net rfl
@[simp] theorem State.stage_pw (s : State) (r : Rec) : (s.stage r).pw = s.pw := (State.stage_keeps ..).same .pw rfl
@[simp] theorem State.stage_sec (s : State) (r : Rec) : (s.stage r).sec = s.sec := (State.stage_keeps ..).same .sec rfl
@[simp] theorem State.stage_dict (s : State) (r : Rec) : (s.stage r).dict = s.dict := (State.stage_keeps ..).same .dict rfl
@[simp] theorem State.stage_leg (s : State) (r : Rec) : (s.stage r).leg = s.leg := (State.stage_keeps ..).same .leg rfl
@[simp] theorem State.stage_cell (s : State) (r : Rec) : (s.stage r).cell = s.cell := (State.stage_keeps ..).same .cell rfl
@[simp] theorem State.stage_axis (s : State) (r : Rec) : (s.stage r).axis = s.axis := (State.stage_keeps ..).same .axis rfl
@[simp] theorem State.stage_port (s : State) (r : Rec) : (s.stage r).port = s.port := (State.stage_keeps ..).same .port rfl
@[simp] theorem State.stage_latch (s : State) (r : Rec) : (s.stage r).latch = s.latch := (State.stage_keeps ..).same .latch rfl
@[simp] theorem State.stage_emu (s : State) (r : Rec) : (s.stage r).emu = s.emu := (State.stage_keeps ..).same .emu rfl
@[simp] theorem State.stage_track (s : State) (r : Rec) : (s.stage r).track = s.track := (State.stage_keeps ..).same .track rfl
@[simp] theorem State.stage_field (s : State) (r : Rec) : (s.stage r).field = s.field := (State.stage_keeps ..).same .field rfl
@[simp] theorem State.stage_casc (s : State) (r : Rec) : (s.stage r).casc = s.casc := (State.stage_keeps ..).same .casc rfl
@[simp] theorem State.stage_sub (s : State) (r : Rec) : (s.stage r).sub = s.sub := (State.stage_keeps ..).same .sub rfl
@[simp] theorem State.stage_pub (s : State) (r : Rec) : (s.stage r).pub = s.pub := (State.stage_keeps ..).same .pub rfl
@[simp] theorem State.stage_tableRam (s : State) (r : Rec) : (s.stage r).tableRam = s.tableRam := (State.stage_keeps ..).same .tableRam rfl
@[simp] theorem State.stage_tableLen (s : State) (r : Rec) : (s.stage r).tableLen = s.tableLen := (State.stage_keeps ..).same .tableLen rfl
@[simp] theorem State.stage_acq (s : State) (r : Rec) : (s.stage r).acq = s.acq := (State.stage_keeps ..).same .acq rfl
@[simp] theorem State.stage_sp (s : State) (r : Rec) : (s.stage r).sp = s.sp := (State.stage_keeps ..).same .sp rfl
@[simp] theorem State.stage_twin (s : State) (r : Rec) : (s.stage r).twin = s.twin := (State.stage_keeps ..).same .twin rfl
@[simp] theorem State.stage_can (s : State) (r : Rec) : (s.stage r).can = s.can := (State.stage_keeps ..).same .can rfl
@[simp] theorem State.stage_acqRam (s : State) (r : Rec) : (s.stage r).acqRam = s.acqRam := (State.stage_keeps ..).same .acqRam rfl
@[simp] theorem State.stage_out (s : State) (r : Rec) : (s.stage r).out = s.out := (State.stage_keeps ..).same .out rfl
@[simp] theorem State.stage_pending (s : State) (r : Rec) : (s.stage r).pending = s.pending := (State.stage_keeps ..).same .pending rfl

/-! ### What an object reads -/

@[simp] theorem State.wr_rd_self (s : State) (k v : Nat) : (s.wr k v).rd k = v := Store.get_set_self ..

theorem State.wr_rd_ne (s : State) {k j : Nat} (v : Nat) (h : j ≠ k) : (s.wr k v).rd j = s.rd j := Store.get_set_ne _ _ h

theorem State.wr_rd (s : State) (k v j : Nat) : (s.wr k v).rd j = if j = k then v else s.rd j := Store.get_set ..

theorem State.bump_rd (s : State) (k j : Nat) : (s.bump k).rd j = if j = k then (s.rd k + 1) % 2 ^ 32 else s.rd j :=
  State.wr_rd ..

theorem State.setBit_rd (s : State) (k i j : Nat) : (s.setBit k i).rd j = if j = k then orBit (s.rd k) i else s.rd j :=
  State.wr_rd ..

theorem State.clrBit_rd (s : State) (k i j : Nat) : (s.clrBit k i).rd j = if j = k then Sys2Proof.clrBit (s.rd k) i else s.rd j :=
  State.wr_rd ..

theorem State.putBit_rd (s : State) (k i j : Nat) (b : Bool) :
    (s.putBit k i b).rd j = if j = k then Sys2Proof.putBit (s.rd k) i b else s.rd j := State.wr_rd ..

theorem State.wrPos_rd (s : State) (k : Nat) (v : Int) (j : Nat) : (s.wrPos k v).rd j = if j = k then ofPos v else s.rd j :=
  State.wr_rd ..

theorem State.wrSat_rd (s : State) (k : Nat) (v : Int) (j : Nat) : (s.wrSat k v).rd j = if j = k then ofSat v else s.rd j :=
  State.wr_rd ..

/-- A record changes no object but the two counters of drops. -/
theorem State.stage_rd (s : State) (r : Rec) {k : Nat} (h : k ≠ HOST_STAGING_DROPS) (h' : k ≠ HOST_FAULT_DROPS) :
    (s.stage r).rd k = s.rd k := by
  unfold State.stage
  dsimp only
  by_cases h1 : s.admitting r = 0
  · rw [if_pos h1]
  rw [if_neg h1]
  by_cases h2 : s.host.general < 224
  · rw [if_pos h2]; rfl
  rw [if_neg h2]
  by_cases h3 : (r.fault && decide (s.host.reserved < 32)) = true
  · rw [if_pos h3]; rfl
  rw [if_neg h3]
  cases hf : r.fault
  · exact State.wr_rd_ne _ _ h
  · exact State.wr_rd_ne _ _ h'

theorem State.recordAt_rd (s : State) (t c o d i p : Nat) {k : Nat} (h : k ≠ HOST_STAGING_DROPS) (h' : k ≠ HOST_FAULT_DROPS) :
    (s.recordAt t c o d i p).rd k = s.rd k := State.stage_rd _ _ h h'

theorem State.record_rd (s : State) (c o d i p : Nat) {k : Nat} (h : k ≠ HOST_STAGING_DROPS) (h' : k ≠ HOST_FAULT_DROPS) :
    (s.record c o d i p).rd k = s.rd k := State.stage_rd _ _ h h'

/-! ### Reads that do not look at another part -/

@[simp] theorem State.wr_cf (s : State) (k v : Nat) (j : Nat) : (s.wr k v).cf j = s.cf j := rfl
@[simp] theorem State.wrForce_rd (s : State) (k v : Nat) (j : Nat) : (s.wrForce k v).rd j = s.rd j := rfl
@[simp] theorem State.bump_cf (s : State) (k : Nat) (j : Nat) : (s.bump k).cf j = s.cf j := rfl
@[simp] theorem State.setBit_cf (s : State) (k i : Nat) (j : Nat) : (s.setBit k i).cf j = s.cf j := rfl
@[simp] theorem State.clrBit_cf (s : State) (k i : Nat) (j : Nat) : (s.clrBit k i).cf j = s.cf j := rfl
@[simp] theorem State.putBit_cf (s : State) (k i : Nat) (b : Bool) (j : Nat) : (s.putBit k i b).cf j = s.cf j := rfl
@[simp] theorem State.wrPos_cf (s : State) (k : Nat) (v : Int) (j : Nat) : (s.wrPos k v).cf j = s.cf j := rfl
@[simp] theorem State.wrSat_cf (s : State) (k : Nat) (v : Int) (j : Nat) : (s.wrSat k v).cf j = s.cf j := rfl
@[simp] theorem State.modAx_rd (s : State) (n : Nat) (f : AxisSt → AxisSt) (j : Nat) : (s.modAx n f).rd j = s.rd j := rfl
@[simp] theorem State.modAx_cf (s : State) (n : Nat) (f : AxisSt → AxisSt) (j : Nat) : (s.modAx n f).cf j = s.cf j := rfl
@[simp] theorem State.modCl_rd (s : State) (n : Nat) (f : CellSt → CellSt) (j : Nat) : (s.modCl n f).rd j = s.rd j := rfl
@[simp] theorem State.modCl_cf (s : State) (n : Nat) (f : CellSt → CellSt) (j : Nat) : (s.modCl n f).cf j = s.cf j := rfl
@[simp] theorem State.modPt_rd (s : State) (n : Nat) (f : PortSt → PortSt) (j : Nat) : (s.modPt n f).rd j = s.rd j := rfl
@[simp] theorem State.modPt_cf (s : State) (n : Nat) (f : PortSt → PortSt) (j : Nat) : (s.modPt n f).cf j = s.cf j := rfl
@[simp] theorem State.modLu_rd (s : State) (n : Nat) (f : LatchSt → LatchSt) (j : Nat) : (s.modLu n f).rd j = s.rd j := rfl
@[simp] theorem State.modLu_cf (s : State) (n : Nat) (f : LatchSt → LatchSt) (j : Nat) : (s.modLu n f).cf j = s.cf j := rfl
@[simp] theorem State.modEm_rd (s : State) (n : Nat) (f : EmuSt → EmuSt) (j : Nat) : (s.modEm n f).rd j = s.rd j := rfl
@[simp] theorem State.modEm_cf (s : State) (n : Nat) (f : EmuSt → EmuSt) (j : Nat) : (s.modEm n f).cf j = s.cf j := rfl
@[simp] theorem State.emit_rd (s : State) (o : Output) (j : Nat) : (s.emit o).rd j = s.rd j := rfl
@[simp] theorem State.emit_cf (s : State) (o : Output) (j : Nat) : (s.emit o).cf j = s.cf j := rfl
@[simp] theorem State.modCn_rd (s : State) (n : Nat) (f : CanSt → CanSt) (j : Nat) : (s.modCn n f).rd j = s.rd j := rfl
@[simp] theorem State.modCn_cf (s : State) (n : Nat) (f : CanSt → CanSt) (j : Nat) : (s.modCn n f).cf j = s.cf j := rfl
@[simp] theorem State.modCs_rd (s : State) (n : Nat) (f : CascSt → CascSt) (j : Nat) : (s.modCs n f).rd j = s.rd j := rfl
@[simp] theorem State.modCs_cf (s : State) (n : Nat) (f : CascSt → CascSt) (j : Nat) : (s.modCs n f).cf j = s.cf j := rfl
@[simp] theorem State.modPage_rd (s : State) (n : Nat) (f : Page → Page) (j : Nat) : (s.modPage n f).rd j = s.rd j := rfl
@[simp] theorem State.modPage_cf (s : State) (n : Nat) (f : Page → Page) (j : Nat) : (s.modPage n f).cf j = s.cf j := rfl
@[simp] theorem State.modDict_rd (s : State) (f : Dict → Dict) (j : Nat) : (s.modDict f).rd j = s.rd j := rfl
@[simp] theorem State.modDict_cf (s : State) (f : Dict → Dict) (j : Nat) : (s.modDict f).cf j = s.cf j := rfl
@[simp] theorem State.modHost_rd (s : State) (f : HostSt → HostSt) (j : Nat) : (s.modHost f).rd j = s.rd j := rfl
@[simp] theorem State.modHost_cf (s : State) (f : HostSt → HostSt) (j : Nat) : (s.modHost f).cf j = s.cf j := rfl
@[simp] theorem State.modRing_rd (s : State) (n : Nat) (f : Ring → Ring) (j : Nat) : (s.modRing n f).rd j = s.rd j := rfl
@[simp] theorem State.modRing_cf (s : State) (n : Nat) (f : Ring → Ring) (j : Nat) : (s.modRing n f).cf j = s.cf j := rfl
@[simp] theorem State.modDm_rd (s : State) (n : Nat) (f : DomInt → DomInt) (j : Nat) : (s.modDm n f).rd j = s.rd j := rfl
@[simp] theorem State.modDm_cf (s : State) (n : Nat) (f : DomInt → DomInt) (j : Nat) : (s.modDm n f).cf j = s.cf j := rfl
@[simp] theorem State.modSb_rd (s : State) (n : Nat) (f : SubSt → SubSt) (j : Nat) : (s.modSb n f).rd j = s.rd j := rfl
@[simp] theorem State.modSb_cf (s : State) (n : Nat) (f : SubSt → SubSt) (j : Nat) : (s.modSb n f).cf j = s.cf j := rfl
@[simp] theorem State.modPw_rd (s : State) (f : Power → Power) (j : Nat) : (s.modPw f).rd j = s.rd j := rfl
@[simp] theorem State.modPw_cf (s : State) (f : Power → Power) (j : Nat) : (s.modPw f).cf j = s.cf j := rfl
@[simp] theorem State.modRx_rd (s : State) (n : Nat) (f : RxSt → RxSt) (j : Nat) : (s.modRx n f).rd j = s.rd j := rfl
@[simp] theorem State.modRx_cf (s : State) (n : Nat) (f : RxSt → RxSt) (j : Nat) : (s.modRx n f).cf j = s.cf j := rfl
@[simp] theorem State.modTx_rd (s : State) (n : Nat) (f : TxSt → TxSt) (j : Nat) : (s.modTx n f).rd j = s.rd j := rfl
@[simp] theorem State.modTx_cf (s : State) (n : Nat) (f : TxSt → TxSt) (j : Nat) : (s.modTx n f).cf j = s.cf j := rfl
@[simp] theorem State.modPb_rd (s : State) (n : Nat) (f : PubSt → PubSt) (j : Nat) : (s.modPb n f).rd j = s.rd j := rfl
@[simp] theorem State.modPb_cf (s : State) (n : Nat) (f : PubSt → PubSt) (j : Nat) : (s.modPb n f).cf j = s.cf j := rfl
@[simp] theorem State.modSec_rd (s : State) (f : Secure → Secure) (j : Nat) : (s.modSec f).rd j = s.rd j := rfl
@[simp] theorem State.modSec_cf (s : State) (f : Secure → Secure) (j : Nat) : (s.modSec f).cf j = s.cf j := rfl
@[simp] theorem State.modField_rd (s : State) (f : FieldSt → FieldSt) (j : Nat) : (s.modField f).rd j = s.rd j := rfl
@[simp] theorem State.modField_cf (s : State) (f : FieldSt → FieldSt) (j : Nat) : (s.modField f).cf j = s.cf j := rfl
@[simp] theorem State.modSp_rd (s : State) (n : Nat) (f : SpSt → SpSt) (j : Nat) : (s.modSp n f).rd j = s.rd j := rfl
@[simp] theorem State.modSp_cf (s : State) (n : Nat) (f : SpSt → SpSt) (j : Nat) : (s.modSp n f).cf j = s.cf j := rfl
@[simp] theorem State.modTw_rd (s : State) (f : TwinSt → TwinSt) (j : Nat) : (s.modTw f).rd j = s.rd j := rfl
@[simp] theorem State.modTw_cf (s : State) (f : TwinSt → TwinSt) (j : Nat) : (s.modTw f).cf j = s.cf j := rfl
@[simp] theorem State.modAcq_rd (s : State) (f : AcqSt → AcqSt) (j : Nat) : (s.modAcq f).rd j = s.rd j := rfl
@[simp] theorem State.modAcq_cf (s : State) (f : AcqSt → AcqSt) (j : Nat) : (s.modAcq f).cf j = s.cf j := rfl
@[simp] theorem State.withPending_rd (s : State) (l : List Instr) (j : Nat) : (s.withPending l).rd j = s.rd j := rfl
@[simp] theorem State.withPending_cf (s : State) (l : List Instr) (j : Nat) : (s.withPending l).cf j = s.cf j := rfl
@[simp] theorem State.record_cf (s : State) (c k d i p : Nat) (j : Nat) : (s.record c k d i p).cf j = s.cf j := by rw [State.cf, State.record_force, State.cf]
@[simp] theorem State.recordAt_cf (s : State) (t c k d i p : Nat) (j : Nat) : (s.recordAt t c k d i p).cf j = s.cf j := by rw [State.cf, State.recordAt_force, State.cf]
@[simp] theorem State.stage_cf (s : State) (r : Rec) (j : Nat) : (s.stage r).cf j = s.cf j := by rw [State.cf, State.stage_force, State.cf]

end Sys2Proof.Machine
end

