-- ==== Sys2Proof/Laws/Word.lean ====
section
/-! SUPPORT. The laws of bits: what a set, a cleared and a written bit read, and what clearing a mask leaves. -/
namespace Sys2Proof

/-- Taking away some of the set bits clears them and no other. -/
theorem testBit_sub_of_sub {x y : Nat} (h : ∀ i, y.testBit i = true → x.testBit i = true) (j : Nat) :
    (x - y).testBit j = (x.testBit j && !y.testBit j) ∧ y ≤ x := by
  induction j generalizing x y with
  | zero =>
    have hle : y ≤ x := Nat.le_of_testBit (fun i hi => h i hi)
    refine ⟨?_, hle⟩
    have h0 := h 0
    simp only [Nat.testBit_zero, decide_eq_true_eq] at h0 ⊢
    rcases Nat.mod_two_eq_zero_or_one x with hx | hx <;> rcases Nat.mod_two_eq_zero_or_one y with hy | hy
    · simp [hx, show (x - y) % 2 = 0 by omega]
    · omega
    · simp [hx, hy, show (x - y) % 2 = 1 by omega]
    · simp [hx, hy, show (x - y) % 2 = 0 by omega]
  | succ j ih =>
    have hle : y ≤ x := Nat.le_of_testBit (fun i hi => h i hi)
    refine ⟨?_, hle⟩
    have h2 : ∀ i, (y / 2).testBit i = true → (x / 2).testBit i = true := by
      intro i hi
      rw [← Nat.testBit_succ] at hi ⊢
      exact h _ hi
    have h0 := h 0
    simp only [Nat.testBit_zero, decide_eq_true_eq] at h0
    have e : (x - y) / 2 = x / 2 - y / 2 := by omega
    simp only [Nat.testBit_succ, e]
    exact (ih h2).1

theorem orBit_testBit (x i j : Nat) : (orBit x i).testBit j = (x.testBit j || decide (i = j)) := by
  rw [orBit, Nat.testBit_or, Nat.one_shiftLeft, Nat.testBit_two_pow]

theorem clrBit_testBit (x i j : Nat) : (clrBit x i).testBit j = (x.testBit j && !decide (i = j)) := by
  unfold clrBit
  split
  · rw [Nat.one_shiftLeft, (testBit_sub_of_sub (x := x) (y := 2 ^ i) ?_ j).1, Nat.testBit_two_pow]
    intro k hk
    rw [Nat.testBit_two_pow, decide_eq_true_eq] at hk
    exact hk ▸ ‹_›
  · by_cases h : i = j
    · subst h; simp_all
    · simp [h]

theorem putBit_testBit (x i j : Nat) (b : Bool) : (putBit x i b).testBit j = if i = j then b else x.testBit j := by
  cases b <;> by_cases h : i = j <;> simp [putBit, orBit_testBit, clrBit_testBit, h]

theorem clrMask_testBit (x m j : Nat) : (clrMask x m).testBit j = (x.testBit j && !m.testBit j) := by
  unfold clrMask
  rw [(testBit_sub_of_sub (x := x) (y := x &&& m) ?_ j).1, Nat.testBit_and]
  · cases x.testBit j <;> simp
  · intro k hk
    rw [Nat.testBit_and, Bool.and_eq_true] at hk
    exact hk.1

end Sys2Proof
end

