-- ==== Sys2Proof/Tests/Slice0.lean ====
section
/-! SUPPORT. Tests of the model: ill-formed commands that the check of well-formedness refuses; results written out from the spec;
and, for each statement that has hypotheses, states and operands that meet them (`hyp_` and the statement's name). -/
namespace Sys2Proof.Tests
open Sys2Proof Sys2Proof.Machine Sys2Proof.Machine.Obj
set_option Elab.async false

/-! ### States and operands -/

/-- What surrounds a request: every signature verifies, no condition is present. -/
def vd0 : Verdict := ⟨true, none, none, 0, 0, 0, .waiting⟩

/-- A write request through the mailbox. -/
def wq (b : Bytes) : Wr := { chan := .mailbox, peer := {}, session := 0, reqId := 1, fresh := 1, data := b, vd := vd0 }

/-- The state after reset with registers written and the device state `dev` (Table HE-3). -/
def at_ (dev : Nat) (r : List (Nat × Nat)) : State := { State.reset with regs := (DEV_DEVICE_STATE, dev) :: r }

/-- The same with a configuration in force. -/
def cfg (dev : Nat) (r f : List (Nat × Nat)) : State := { at_ dev r with force := f }

/-- The state that a command answers; the state itself where it answers none. -/
def aft (c : Instr) (s : State) : State :=
  match exec c s with
  | .next t => t
  | _ => s

/-! ### Chapter 01: the queue and the state after reset -/

theorem hyp_StepRunsTheFrontCommand : State.reset.pending = [] := rfl
theorem hyp_EveryCommandRuns : (State.reset.withPending [.flush, .mbxComplete]).pending = .flush :: [.mbxComplete] := rfl
theorem hyp_CanonicalFormKept : State.reset.canonical = true ∧ step State.reset = .next State.reset := ⟨by decide, rfl⟩
theorem hyp_ClocksStayInRange : State.reset.clocksWf = true ∧ step State.reset = .next State.reset := ⟨by decide, rfl⟩
theorem hyp_ResetState : (findRow 0x2101 0x0f).isSome = true ∧ 0x0f < 256 := by decide
theorem hyp_CommandsTouchOnlyTheirParts : exec .aonTimeSet State.reset = .next (aft .aonTimeSet State.reset) := rfl

/-! ### Chapter 04: legs and current cells -/

/-- Trip 0 stands over leg 0, which axis 0 owns. -/
def tripped : State := cfg 2 [(TRIP_FLAGS, 1), (AX_AXIS_STATE 0, axReady)] [(TRIP_MASK 0, 1)]

theorem hyp_TripHoldsItsLegs :
    tripped.admits (wq [1]) (LEG_DIRECT_ENABLE 0) ∧ (tripped.arrived (wq [1])).tripped.testBit 0 = true ∧
    tripped.axState 0 = axReady ∧ tripped.dev = .op ∧ tripped.legTripped 0 = true ∧
    (let s := cfg 2 [(AX_AXIS_STATE 0, axReady)] []
     s.axState 0 = axReady ∧ s.dev = .op ∧ s.legTripped 0 = false ∧ (s.legSet 0).testBit 2 = true) := by
  unfold State.admits; decide

theorem hyp_TripHoldsItsLegs_owner :
    let s : State := { cfg 2 [] [] with leg := { State.reset.leg with fenced := 1 } }
    (s.legOwner 0).isSome = true ∧ s.leg.fenced.testBit 0 = true := by decide

theorem hyp_LegOutputsNeverOverlap :
    State.reset.leg.driven.testBit 0 = false ∧
    ({ State.reset with leg := { State.reset.leg with driven := 1 } } : State).leg.driven.testBit 0 = true := by decide +kernel

/-- With dead times of 500 ns (R209) neither side is on for 500 ns after a change, and each in the rest of its time. -/
theorem hyp_LegOutputsNeverOverlap_on :
    let w : Wave := { start := 0, high := 6000, len := 12000, at_ := 0, before := false, changed := 0 }
    let s : State := { State.reset with leg := { State.reset.leg with driven := 1, wave := Vector.replicate 48 w } }
    (s.legOn 0 100).1 = false ∧ (s.legOn 0 5999).1 = true ∧ (s.legOn 0 11999).2 = true ∧ (s.legOn 0 6000) = (false, false) := by decide +kernel

theorem hyp_FastFaultsFenceAtOnce :
    let s := cfg 2 [(AX_AXIS_STATE 0, axEnabled)] []
    s.isBench = false ∧ s.cellGated 0 = false ∧ s.axState 0 ≠ axFault ∧ (s.legSet 0 &&& 1) ≠ 0 ∧ (s.legSet 5 &&& 1) = 0 := by decide +kernel

theorem hyp_DirectLoads : (at_ 2 []).admits (wq [1]) LEGS_LOAD_ALL := by unfold State.admits; decide +kernel

/-- Group 0 locked, PHASE 0, period 12000: line time 0 is a valley. -/
theorem hyp_Reload :
    let s := cfg 2 [(CG_PERIOD_ACTIVE 0, 12000)] [(CG_LOCK 0, 1)]
    s.on (CG_LOCK 0) = true ∧ 0 < s.rd (CG_PERIOD_ACTIVE 0) ∧ s.atPoint 0 false = true ∧ s.atPoint 0 true = false := by decide +kernel

/-- A locked group takes no valley 1 us after one (R203). -/
theorem test_reload :
    let s : State := { cfg 2 [(CG_PERIOD_ACTIVE 0, 12000)] [(CG_LOCK 0, 1)] with time := { State.reset.time with line := ⟨0, 1000, 0⟩ } }
    s.atPoint 0 false = false ∧ s.lastPoint 0 false = 0 := by decide +kernel

theorem hyp_FastFaultFlagsClear :
    (at_ 2 []).admits (wq [1, 0, 0, 0x80]) SDF_OC_FLAGS ∧ (at_ 2 []).admits (wq [1, 0, 0, 0x80]) SDF_MOD_FAULT_FLAGS := by
  unfold State.admits; decide +kernel

theorem hyp_FlagsModesAndBanks :
    let s := cfg 2 [(TRIP_FLAGS, 0x80)] [(TRIP_MASK 7, 1)]
    s.admits (wq [0x80]) TRIP_FLAGS ∧ s.admits (wq [0]) (LEG_DIRECT_ENABLE 47) ∧ s.admits (wq [1]) (LEG_DIRECT_ENABLE 47) ∧
    (s.arrived (wq [1])).tripped.testBit 47 = false := by unfold State.admits; decide +kernel

theorem hyp_FlagsModesAndBanks_mode :
    let s := at_ 1 []
    s.admits (wq [2]) (CC_MODE 15) ∧ s.admits (wq [4]) (CC_MODE 0) ∧ leNat [4] ∈ [0, 1, 3, 4] ∧
    s.admits (wq [0xf]) (BNK_SWAP_REQUEST 15) := by unfold State.admits; decide +kernel

theorem hyp_CurrentCellSamples :
    let s := cfg 2 [(AX_AXIS_STATE 0, axEnabled)] [(CC_MODE 1, 0), (CC_VDC_SOURCE 0, 0), (CC_VDC_NOMINAL 0, 0)]
    s.ccMode 1 = 0 ∧ s.ccMode 2 ≠ 0 ∧ s.cellGated 2 = true ∧ s.ccMode 0 ≠ 0 ∧ s.cellGated 0 = false ∧ s.vdcLow 0 = true ∧
    s.stageOn 0 = true ∧ s.isBench = false := by decide +kernel

/-- Trip 7 at its active level for 11 samples, one more than TRIP_FILTER: flag, count, fence and fault (R219 to R221). -/
theorem test_trip :
    let s := cfg 2 [(AX_AXIS_STATE 0, axEnabled)] [(TRIP_ENABLE, 0x80), (TRIP_FILTER 7, 10), (TRIP_POLARITY, 0x80), (TRIP_MASK 7, 2)]
    (aft (.trip ⟨7, true, 10⟩) s).rd TRIP_FLAGS = 0 ∧ (aft (.trip ⟨7, true, 11⟩) s).rd TRIP_FLAGS = 0x80 ∧
    (aft (.trip ⟨7, true, 11⟩) s).axState 0 = axFault ∧ (aft (.trip ⟨7, true, 11⟩) s).leg.fenced = 2 := by decide +kernel

/-- The longest run of zeros is a modulator fault of its channel; any other pattern is not (R182). -/
theorem test_modFault :
    let s := cfg 2 [(AX_AXIS_STATE 15, axReady)] []
    (aft (.modFault ⟨31, 0⟩) s).rd SDF_MOD_FAULT_FLAGS = 0x80000000 ∧ (aft (.modFault ⟨31, 1⟩) s).rd SDF_MOD_FAULT_FLAGS = 0 := by decide +kernel

/-- A written 1 clears a trip flag whose input is inactive, not one whose input is active (R222). -/
theorem test_tripFlags :
    let s : State := { cfg 2 [(TRIP_FLAGS, 3)] [(TRIP_POLARITY, 3)] with leg := { State.reset.leg with tripLand := 2 } }
    (aft (.tripFlags (wq [3])) s).rd TRIP_FLAGS = 2 := by decide +kernel

/-- A delay line that does not span its clock is out of range; each measurement counts (R208). -/
theorem test_delayLine : (aft (.delayLineCalibration false 9) (at_ 2 [])).rd DL_STATE = 2 ∧
    (aft (.delayLineCalibration true 9) (at_ 2 [])).rd DL_CAL_COUNT = 1 := by decide +kernel

/-! ### Chapter 03: feedback -/

/-- Port 0 in quadrature mode, active, bound to axis 0; port 4 bound to no axis. -/
def ports : State := cfg 2 [(FB_PORT_STATUS 0, 3)] [(AF_MOTOR_PORT 4, 255)]

theorem hyp_QuadratureCounts : ports.portMode 0 = 1 ∧ ports.bitOf (FB_PORT_STATUS 0) 0 = true ∧
    (let s : State := { cfg 2 [] [(TRK_TRACK_ENABLE, 8)] with pw := { State.reset.pw with held := false } }
     s.tracked 3 = true ∧ s.portsSet = true) := by decide +kernel

theorem hyp_SsiWords : ports.boundAxis 0 = some 0 ∧
    (cfg 2 [(FB_PORT_STATUS 0, 1)] [(FB_MODE 0, 2)]).portMode 0 = 2 := by decide +kernel

theorem hyp_HybridWords : ports.boundAxis 4 = none ∧ ports.boundAxis 0 = some (0 : Fin 16).val := by decide +kernel

theorem hyp_SincosConversions :
    let s := cfg 2 [(FB_PORT_STATUS 3, 1)] [(FB_MODE 3, 4), (FB_SC_CORR_ENABLE 2, 0)]
    s.portMode 3 = 4 ∧ s.bitOf (FB_PORT_STATUS 3) 0 = true ∧ s.on (FB_SC_CORR_ENABLE 2) = false ∧ s.on (FB_SC_CORR_ENABLE 3) = true := by decide +kernel

theorem hyp_IndexEvents :
    ports.admits (wq [1]) (AI_INDEX_ARM 15) ∧ ports.boundAxis 4 = none ∧ ports.boundAxis 0 = some (0 : Fin 16).val ∧
    (ports.pt 0).idxArmed = true ∧ (ports.pt 0).idxBase = none ∧
    (cfg 2 [] [(AI_INDEX_MODE 0, 1)]).cf (AI_INDEX_MODE 0) = 1 ∧ (cfg 2 [] [(AI_INDEX_MODE 0, 2), (AI_INDEX_FAULT 0, 1)]).on (AI_INDEX_FAULT 0) = true := by
  unfold State.admits; decide +kernel

theorem hyp_StandbyTracking : State.reset.pw.railsUp = true ∧
    (at' ({ State.reset with track := Vector.replicate 4 { on := true } } : State).track 3).on = true := by decide +kernel

theorem hyp_LatchUnits : (at_ 2 []).admits (wq [1]) (LU_ARM 15) ∧ (at_ 2 []).admits (wq [1]) (LU_NEXT 0) ∧
    (cfg 2 [] [(LU_AXIS 0 3, 31)]).cf (LU_AXIS 0 3) < 32 := by unfold State.admits; decide +kernel

theorem hyp_Emulation : State.reset.emuDriven 0 = false ∧
    (cfg 1 [] [(EMU_MODE 3, 2)]).emuDriven 3 = true := by decide +kernel

/-- SSI target, monoflop passed: the next transfer takes a new word (R169). -/
theorem test_ssiMonoflop :
    let s : State := { cfg 2 [] [(EMU_SSI_MONOFLOP 0, 20000)] with emu := Vector.replicate 4 { dataLow := true, sent := [true] } }
    ((aft (.ssiMonoflop ⟨0, 19999⟩) s).em 0).dataLow = true ∧ ((aft (.ssiMonoflop ⟨0, 20000⟩) s).em 0).dataLow = false := by decide +kernel

/-- The tracker counts one transition while a rail is down, and marks a second count 1 us later as lost (R146). -/
theorem test_tracker :
    let s : State := { State.reset with pw := { State.reset.pw with railUp := Vector.replicate 5 false }, track := Vector.replicate 4 { on := true } }
    (aft (.trackerSample 1 0) s).rd (TRK_TRACK_COUNT 0) = 1 ∧ (aft (.trackerSample 3 3) s).rd TRK_TRACK_LOST = 3 := by decide +kernel

/-! ### Chapter 09: field section -/

theorem hyp_FieldOutputs : (at_ 2 []).admits (wq [0xff]) DO_SET ∧ (at_ 2 []).admits (wq [0x80]) DO_SHORT := by
  unfold State.admits; decide +kernel

theorem hyp_FieldInputsAndSupply : State.reset.pw.coreLow = false := by decide +kernel

theorem hyp_AnalogueConversions : State.reset.cf (AIN_RATE 0) ≠ 0 ∧ (cfg 1 [] [(AIN_MODE 3, 2)]).cf (AIN_MODE 3) = 2 := by decide +kernel

/-- 18.0 V for 10 ms is V24_OK, 17.99 V is not (R378). -/
theorem test_v24 :
    let s : State := { at_ 2 [] with pw := { State.reset.pw with porstLow := false }, time := { State.reset.time with free := ⟨0, 10000000, 0⟩ } }
    (aft (.v24Ok ⟨0x41900000, 10⟩ (Vector.replicate 16 0)) s).bitOf FIELD_STATUS 0 = true ∧
    (aft (.v24Ok ⟨0x418fffff, 10⟩ (Vector.replicate 16 0)) s).bitOf FIELD_STATUS 0 = false ∧
    (aft (.v24Ok ⟨0x41900000, 9⟩ (Vector.replicate 16 0)) s).bitOf FIELD_STATUS 0 = false := by decide +kernel

/-! ### Chapters 01 and 02: device states, line time and network -/

theorem hyp_DeviceStates :
    (at_ 1 [(OWN_CLAIM_STATE, 1)]).admits (wq [1, 0]) DEV_DEVICE_REQUEST ∧ (at_ 2 []).admits (wq [2, 0]) DEV_DEVICE_REQUEST ∧
    (at_ 3 []).admits (wq [4, 0]) DEV_DEVICE_REQUEST ∧ (at_ 1 []).dev = .preop ∨ (at_ 2 []).dev = .op := by
  unfold State.admits; decide +kernel

/-- A claimed, committed device in PRE-OPERATIONAL meets the conditions of START (R43). -/
theorem hyp_DeviceStates_start :
    let s : State := { at_ 1 [(OWN_CLAIM_STATE, 1)] with dict := { State.reset.dict with committed := true } }
    s.dev = .preop ∧ s.claimed = true ∧ s.dict.committed = true ∧ s.rd DBG_DEBUG_STATE < 2 ∧ s.rd CAL_STATE = 0 := by decide +kernel

theorem hyp_TimeUnit : State.reset.time.offsetAdd = none ∧
    ({ State.reset with time := { State.reset.time with offsetAdd := some 1 } } : State).time.offsetAdd.isSome = true ∧
    Claims.noUnit State.reset (0x30 + 3) ∧ (at_ 1 []).admits (wq [0xf]) ALM_ALARM_ENABLE := by
  refine ⟨rfl, rfl, ?_, ?_⟩
  · unfold Claims.noUnit; decide +kernel
  · unfold State.admits; decide +kernel

/-- A tick adds 1 ns to the free-running clock and the increment to line time (R80). -/
theorem test_tick : (aft .timePllTick State.reset).time.free = ⟨0, 1, 0⟩ ∧ (aft .timePllTick State.reset).time.line = ⟨0, 1, 0⟩ ∧
    (aft .timePllTick { State.reset with time := { State.reset.time with line := ⟨7, 999999999, 0⟩ } }).time.line = ⟨8, 0, 0⟩ := by decide +kernel

/-- Two offset adds before a tick are summed (R84). -/
theorem test_offsets : (aft (.tuOffsetAdd 5) (aft (.tuOffsetAdd (-7)) State.reset)).time.offsetAdd = some (-2) := by decide +kernel

theorem hyp_DomainStates :
    let s : State := { at_ 1 [(DOM_STATE 0, 3), (DOM_STATE 1, 5)] with
      time := { State.reset.time with dom := Vector.replicate 2 { reached := true, requalOk := true } } }
    s.domSt 0 = .coarse ∧ (s.dm 0).reached = true ∧ (State.reset.dm 0).reached = false ∧ s.domSt 1 = .untrusted ∧
    (at_ 1 [(DOM_STATE 0, 1)]).domSt 0 = .absent ∧ s.cf SEL_PREFERRED ≤ 1 ∧ s.domGood 0 = true ∧ s.domGood 1 = false := by decide +kernel

/-- Three announce intervals without a Sync: a followed domain in COARSE becomes ABSENT, line time UNSET where it never was COARSE. -/
theorem test_domainAbsent :
    let t := aft (.domainAbsent 0) (at_ 1 [(DOM_STATE 0, 2), (LT_STATE, 1), (LT_FOLLOWED_DOMAIN, 0)])
    t.domSt 0 = .absent ∧ t.followed = 255 ∧ t.ltSt = .unset := by decide +kernel

theorem hyp_FollowedDomain :
    let s := at_ 1 [(DOM_STATE 1, 4), (LT_STATE, 3), (LT_FOLLOWED_DOMAIN, 1)]
    s.admits (wq [0]) SEL_SELECT_REQUEST ∧ s.admits (wq [1]) SEL_SELECT_REQUEST ∧ leNat [1] ≤ 1 ∧ s.followed < 2 ∧
    s.domGood s.followed = true ∧ (at_ 1 []).followed = 255 ∧ (at_ 1 [(DOM_STATE 0, 4)]).cf SEL_PREFERRED ≤ 1 ∧
    ((at_ 1 [(DOM_STATE 0, 4)]).domSt 0).trusted = true ∧ (at_ 1 [(DOM_STATE 0, 4)]).cf SEL_PREFERRED = (0 : Fin 2).val := by
  unfold State.admits; decide +kernel

/-- Line time is COARSE, the cable delay 0, no time of day is written, PPS_OUT is enabled and low at second 3. -/
def timed : State :=
  { cfg 1 [(LT_STATE, 3), (LT_FOLLOWED_DOMAIN, 0), (DOM_STATE 0, 4)] [(PPS_OUT_ENABLE, 1), (PPS_IN_ENABLE, 1)] with
    time := { State.reset.time with line := ⟨3, 0, 0⟩ } }

theorem hyp_PtpAndPps :
    timed.followed < 2 ∧ timed.ltSt.good = true ∧ timed.on PPS_OUT_ENABLE = true ∧ timed.time.ppsOut = none ∧
    (3 * secI - toS 32 (timed.cf PPS_OUT_OFFSET) * 2 ^ 32) % secI = 0 ∧ timed.now - timed.tickInc < 3 * secI ∧ 3 * secI ≤ timed.now ∧
    timed.admits (wq [0, 0, 0, 0, 0, 0x80, 0, 0]) PPS_TOD_SECONDS ∧ leNat [0, 0, 0, 0, 0, 0x80, 0, 0] < 2 ^ 48 ∧
    (∀ p : Fin 3, at' (timed.dm 0).portBest p = none) ∧ timed.on (DOM_GM_CAPABLE 0) = false ∧ timed.peerDelay 0 = true ∧
    (cfg 1 [] [(DOM_DELAY_MECH 0, 1)]).peerDelay 0 = false := by
  unfold State.admits; decide +kernel

/-- The pulse of PPS_OUT rises at its second, and falls PPS_OUT_WIDTH later (R97). -/
theorem test_ppsOut : (aft (.ppsOutPulse true) timed).out = [.pps true (3 * 8 * 10 ^ 9)] ∧ (aft (.ppsOutPulse false) timed).out = [] ∧
    (aft (.ppsOutPulse false) { timed with time := { timed.time with ppsOut := some (2 * secI) } }).out = [.pps false (21 * 8 * 10 ^ 8)] := by
  decide +kernel

/-- An ARP request for the module's address; without one, for another address. -/
def arp (ip : Bytes) : Bytes :=
  [0xff, 0xff, 0xff, 0xff, 0xff, 0xff, 2, 0, 0, 0, 0, 9, 8, 6, 0, 1, 8, 0, 6, 4, 0, 1, 2, 0, 0, 0, 0, 9, 10, 0, 0, 9, 0, 0, 0, 0, 0, 0] ++ ip ++
    List.replicate 22 0

/-- The first 28 bytes of an ARP message of another host, before its own address. -/
def foreign : Bytes := [0, 0, 0, 0, 0, 0, 0, 0, 0, 0, 0, 0, 8, 6, 0, 1, 8, 0, 6, 4, 0, 1, 2, 0, 0, 0, 0, 9]
theorem beAt_foreign (x : Nat) (h : x < 2 ^ 32) : beAt (foreign ++ beBytes 4 x) 28 4 = x := by
  simp [foreign, beAt, beBytes, leBytes]
  omega
theorem conflicts (s : State) (hz : s.cf NET_IPV4_ADDRESS = 0) (hm : s.ownMac = 0) : s.arpConflict (foreign ++ beBytes 4 s.ownIp) = true := by
  have hip : s.ownIp < 2 ^ 32 := by simp only [State.ownIp, hz, if_true]; omega
  have h := beAt_foreign s.ownIp hip
  have hf : ∀ l, frameOff (foreign ++ l) = 14 := fun l => by simp [foreign, frameOff, tagged, beAt]
  have he : ∀ l, etherType (foreign ++ l) = 0x806 := fun l => by rw [etherType, hf]; simp [foreign, beAt]
  have hs : ∀ l, beAt (foreign ++ l) 22 6 = 0x020000000009 := fun l => by simp [foreign, beAt]
  simp [State.arpConflict, hz, hm, h, hf, he, hs]

theorem hyp_PtpAndPps_conflict :
    let s := cfg 1 [] []
    s.served = true ∧ s.arpConflict (foreign ++ beBytes 4 s.ownIp) = true :=
  ⟨by decide +kernel, conflicts _ (by decide +kernel) (by decide +kernel)⟩

/-- The end of a slew: 1 ns of the difference is left, or less. -/
theorem hyp_FollowedDomain_slew :
    let s := cfg 1 [(DOM_STATE 0, 4), (LT_STATE, 3), (LT_FOLLOWED_DOMAIN, 0), (LT_SLEWING, 1)] []
    s.rd LT_SLEWING = 1 ∧ absI (s.domainDiff s.followed) ≤ 65536 := by decide +kernel

theorem hyp_PtpAndPps_arp :
    let s := cfg 1 [] [(NET_IPV4_ADDRESS, 0x0a000001)]
    s.served = true ∧ s.arpConflict (arp [10, 0, 0, 1]) = false ∧ (s.serviceAnswer (arp [10, 0, 0, 1])).isSome = true ∧ s.serviceAnswer (arp [10, 0, 0, 2]) = none := by decide +kernel

theorem hyp_SwitchFrames : timed.pw.held = true ∧ (at_ 1 []).dev ≠ .standby ∧
    (cfg 1 [(NET_LINK_UP, 6)] []).portLive 1 = true ∧ (cfg 1 [(NET_LINK_UP, 6)] []).portLive 0 = true ∧
    nextFrame [⟨[], 0, false, false, 0, 0, .absent⟩] ≠ none := by decide +kernel

/-- A frame of 63 bytes is dropped and counted for its port and class, one with the module's own source in class 0 (R53, R55). -/
theorem test_frameReceive :
    let s : State := { cfg 1 [(NET_LINK_UP, 6)] [] with pw := { State.reset.pw with held := false } }
    (aft (.frameReceive 1 (List.replicate 63 1) true .absent false 0) s).rd (NETC_RX_DROPS 4) = 1 ∧
    (aft (.frameReceive 2 (List.replicate 64 0) true .absent false 0) s).rd (NETC_RX_DROPS 8) = 1 := by decide +kernel

/-- Ageing forgets the address after 300 s, and no sooner (R54). -/
theorem test_addressAgeing :
    (aft (.addressAgeing 7) { State.reset with net := { learned := [⟨7, 1, -300 * 65536000000000⟩, ⟨8, 2, 0⟩] } }).net.learned = [⟨8, 2, 0⟩] := by decide +kernel

/-! ### Chapter 07: passes -/

/-- Subscription 0 to master 5 over Ethernet, ACTIVE, under a line key; subscription 1 over CAN 0. -/
def subs : State :=
  { cfg 2 [(SUB_STATE 0, 2), (SUB_STATE 1, 1), (LT_STATE, 3), (LT_FOLLOWED_DOMAIN, 0), (DOM_STATE 0, 4)]
      [(SUB_ENABLE 0, 1), (SUB_TRANSPORT 0, 1), (SUB_MASTER_ID 0, 5), (SUB_ENABLE 1, 1), (SUB_TRANSPORT 1, 2), (SUB_CAN_CHANNEL 1, 0),
       (SUB_CAN_ID 1, 0x123)] with
    sec := { State.reset.sec with keys := [⟨2, 0, 0, 9⟩] }
    sub := Vector.replicate 8 { cur := some ⟨1, 0, 0, 0, 0, 0, 2000, 0⟩ }
    time := { State.reset.time with line := ⟨100, 0, 0⟩ } }

def pdu0 : PassPdu := ⟨1, 1, 5, 0, 2, 100, 0, 0, 0, 0, 0, 0, 2000, 9⟩

theorem hyp_PassReception :
    subs.served = true ∧ pduFormatOk pdu0 = true ∧ subs.subsOf pdu0.master 1 = [(0 : Fin 8).val] ∧ subs.ltSt.good = true ∧
    subs.on (SUB_ENABLE 1) = true ∧ subs.cf (SUB_TRANSPORT 1) = 2 ∧ subs.cf (SUB_CAN_CHANNEL 1) = (0 : Fin 4).val ∧
    passIdent (0x80000123 : BitVec 32).toNat ≠ passIdent (subs.cf (SUB_CAN_ID 1)) ∧ passIdent (0x123 : BitVec 32).toNat = passIdent (subs.cf (SUB_CAN_ID 1)) ∧ (List.replicate 48 (0 : Byte)).length = 48 ∧ (subs.sb 1).half = none := by
  decide +kernel

theorem hyp_PassReception_key : subs.lineKey pdu0.keyId = true := by decide +kernel

theorem hyp_SubscriptionStates :
    (subs.sb 0).cur.isSome = true ∧ subs.rd (SUB_STATE 0) = 2 ∧
    (∃ p ∈ (subs.sb 0).cur, p.tEnd / 8192 ≤ subs.now16 / 8192 ∧ p.flags.testBit 2 = false) := by decide +kernel

/-- The validity of the current pass ends: GRACE, and the loss is counted (R324). -/
theorem test_passValidityEnd : (aft (.passValidityEnd 0) subs).rd (SUB_STATE 0) = 3 ∧ (aft (.passValidityEnd 0) subs).rd (SUB_LOSSES 0) = 1 := by
  decide +kernel

theorem hyp_PublishInstants :
    let s := cfg 2 [(LT_STATE, 3), (LT_FOLLOWED_DOMAIN, 0), (DOM_STATE 0, 4)] [(PUB_ENABLE 0, 1)]
    s.isBench = false ∧ s.on (PUB_ENABLE 0) = true ∧ (s.pb 0).stop = none ∧ s.mayPublish 0 = true ∧ (s.pb 0).mainsDue = false ∧
    (at_ 1 []).mayPublish 0 = false ∧ s.cf (PUB_TRANSPORT 0) = 1 := by decide +kernel

/-! ### Chapters 05 to 07: levels, axes and their commands -/

/-- Axis 3 in RUNNING with level state `c`; axis state `st` where given. -/
def lev (c : CascSt) (r f : List (Nat × Nat)) : State := { cfg 2 ((AX_AXIS_STATE 3, axRunning) :: r) f with casc := Vector.replicate 16 c }

theorem hyp_ControlLevels :
    let s := lev { on2 := true, on4 := true, started4 := true } [] [(L4_MODE 3, 1), (L4_PV_STALE_FAULT 3, 1)]
    s.isBench = false ∧ s.l2On 3 = true ∧ (s.cs 3).on2 = true ∧ s.on (CAS_OBS_ENABLE 3) = false ∧ s.bitOf (CCV_CC_STATUS 3) 1 = false ∧
    s.l4On 3 = true ∧ (s.cs 3).on4 = true ∧ (s.cs 3).started4 = true ∧ s.on (L4_PV_STALE_FAULT 3) = true ∧
    (s.ax 3).lp < 4 ∨ (s.ax 3).lp = 255 := by decide +kernel

theorem hyp_ControlLevels_off : (at_ 2 []).l2On 0 = false ∧ (at_ 2 []).l4On 0 = false ∧ (at_ 2 []).axState 16 ≠ axFault ∧
    (at_ 2 []).cf (CAS_MISS_LIMIT 0) = 3 ∧ at' ((at_ 2 []).ax 0).consecMiss 2 + 1 < 3 := by decide +kernel

theorem hyp_ControlLevels_pv :
    (lev {} [] [(L4_PV_SOURCE 3, 0)]).processValue 3 = (0, false) ∧ ((lev {} [(AIN_STATUS 0, 2)] [(L4_PV_SOURCE 3, 0)]).processValue 3).2 = true := by
  decide +kernel

/-- A deadline missed by a virtual axis is counted for it, and flagged (R267). -/
theorem test_deadlineMiss : (aft (.deadlineMiss 31 0 7) (at_ 2 [])).rd (ST_GEN_MISSES 31) = 1 ∧
    (aft (.deadlineMiss 31 0 7) (at_ 2 [])).bitOf (ST_AXIS_STATUS 31) 14 = true := by decide +kernel

/-- An axis with internal state. -/
def ax (n : Nat) (a : AxisSt) (r f : List (Nat × Nat)) : State :=
  { cfg 2 r f with axis := (Vector.replicate 32 {}).setIfInBounds n a, time := { State.reset.time with free := ⟨1, 0, 0⟩ } }

/-- A command taken at core clock 0. -/
def cmd (code : Nat) : AxCmd := ⟨code, 9, none, 0⟩

theorem hyp_AxisInstantsAndFaults :
    let s := ax 3 { cmds := [cmd 2] } [(AX_AXIS_STATE 3, axReady)] []
    s.isBench = false ∧ (s.ax 3).cmds = [] ++ [cmd 2] ∧ (cmd 2).tw < s.clock ∧ (cmd 2).code < 256 ∧ (cmd 2).seq < 256 ∧ (s.ax 3).due = [] ∧
    (s.ax 3).cold = false ∧ s.homing 3 = false := by decide +kernel

theorem hyp_AxisInstantsAndFaults_quiet :
    let s := ax 3 {} [(AX_AXIS_STATE 3, axReady)] []
    let b := ax 3 { classB := 256 } [(AX_AXIS_STATE 3, axEnabled)] []
    (s.ax 3).cmds = [] ∧ (s.ax 3).classB = 0 ∧ s.axState 3 = axReady ∧ s.axMode 3 = mmHold ∧ (b.ax 3).classB ≠ 0 ∧ b.axState 3 = axEnabled := by
  decide +kernel

/-- A plan that goes on at one count a second for 10 s, with nothing in its way. -/
theorem hyp_AxisInstantsAndFaults_plan :
    let s := ax 20 { plan := [⟨10 * secU, 0, 2 ^ 32, 0, 0⟩, ⟨0, 10 * 2 ^ 32, 0, 0, 0⟩] } [(AX_AXIS_STATE 20, axRunning), (AX_MOTION_MODE 20, mmPosition)] []
    (s.ax 20).due = [] ∧ (s.ax 20).cold = false ∧ s.homing 20 = false ∧ (s.ax 20).cmds = [] ∧ (s.ax 20).classB = 0 ∧
    s.axState 20 = axRunning ∧ s.axMode 20 = mmPosition ∧ (s.ax 20).dirty = false ∧ Claims.clearWay s 20 ∧
    planDone (s.ax 20).plan ((s.ax 20).tPlan + s.t3 20) = false ∧ (s.ccMode 0 = 1) := by
  unfold Claims.clearWay; decide +kernel

theorem hyp_AxisInstantsAndFaults_virtual :
    let s := ax 31 { cmds := [cmd 1] } [] []
    16 ≤ (31 : Fin 32).val ∧ (s.ax 31).cmds = [cmd 1] ∧ (cmd 1).tw < s.clock ∧ (cmd 1).code = 1 ∧ (s.ax 31).classB = 0 ∧
    s.axMode 31 = mmHold ∧ s.dev ≠ .locked ∧ s.axState 31 = axOff ∧ s.axState 31 ≠ axFault ∧
    (at_ 2 [(AX_AXIS_STATE 0, axFault)]).axState 0 = axFault := by decide +kernel

/-- The waiting SWITCH_ON of a virtual axis takes it to READY at its tick (R277, R279). -/
theorem test_switchOn : (aft (.virtualTick 31) (ax 31 { cmds := [cmd 1] } [] [])).axState 31 = axReady ∧
    (aft (.virtualTick 31) (ax 31 { cmds := [{ cmd 1 with tw := (ax 31 {} [] []).clock }] } [] [])).axState 31 = axOff := by decide +kernel

/-- A class A cause faults at once, a class B cause only arises (R281, R282). -/
theorem test_faults : (aft (.classAFault 31 7) (at_ 2 [(AX_AXIS_STATE 31, axRunning)])).axState 31 = axFault ∧
    (aft (.classBFault 31 8) (at_ 2 [(AX_AXIS_STATE 31, axRunning)])).axState 31 = axRunning := by decide +kernel

theorem hyp_PowerCommands : (at_ 2 []).admits (wq [1, 9]) (AX_COMMAND 31) ∧ (at_ 4 []).dev = .locked ∧ (at_ 2 []).dev ≠ .locked := by
  unfold State.admits; decide +kernel

/-- A physical axis that SWITCH_ON takes: a cell, a valid position, no flag, DC-link voltage. -/
theorem hyp_PowerCommands_switchOn :
    let s := cfg 2 [(FB_PORT_STATUS 0, 2)] [(CC_VDC_SOURCE 0, 0)]
    s.axState 0 = axOff ∧ s.ccMode 0 ≠ 0 ∧ s.posValid 0 = true ∧ s.legTripped 0 = false ∧ s.ocSet 0 = false ∧ s.modSet 0 = false ∧
    s.vdcLow 0 = false := by decide +kernel

theorem hyp_PowerCommands_states :
    let r (n st : Nat) := at_ 2 [(AX_AXIS_STATE n, st), (ST_FAULT_CAUSES n, 2)]
    (r 0 axReady).axState 0 = axReady ∧ (r 0 axReady).dev = .op ∧ (r 0 axReady).legTripped 0 = false ∧ tripped.legTripped 0 = true ∧
    (r 3 axEnabled).stageOn 3 = true ∧ (r 3 axEnabled).stopping 3 = false ∧ (r 3 axEnabled).standstill 3 = true ∧
    (r 3 axFault).axState 3 = axFault ∧ (r 3 axOff).stageOn 3 = false := by decide +kernel

theorem hyp_PowerCommands_moving :
    let s := at_ 2 [(AX_AXIS_STATE 20, axRunning), (AX_MOTION_MODE 20, mmVelocity), (PRF_V_SET 20, 1)]
    s.stageOn 20 = true ∧ s.stopping 20 = false ∧ s.standstill 20 = false ∧ s.axState 20 ≠ axEnabled ∧ s.axMode 20 ≠ mmHold := by decide +kernel

theorem hyp_PowerCommands_fault :
    let s (k : Nat) := cfg 2 [(AX_AXIS_STATE 0, axFault), (ST_FAULT_CAUSES 0, 2 ^ fcTrip), (TRIP_FLAGS, k)] [(TRIP_MASK 0, 1)]
    (s 1).causeStands 0 = true ∧ (s 0).causeStands 0 = false := by decide +kernel

theorem hyp_MotionCommands :
    let s := cfg 2 [(AX_AXIS_STATE 20, axEnabled)] [(HOM_HOMING_METHOD 20, 9)]
    s.dev = .op ∧ s.publisherOf 20 = none ∧ s.axState 20 = axEnabled ∧ s.hasProfile 20 = true ∧ Claims.clearWay s 20 ∧
    (at_ 2 [(AX_AXIS_STATE 20, axStopping)]).axState 20 = axStopping ∧ s.stageOn 21 = false ∧ s.homeConfigured 20 = true := by
  unfold Claims.clearWay; decide +kernel

theorem hyp_MotionCommands_setup :
    let s := at_ 2 [(AX_AXIS_STATE 20, axSetup), (AX_AXIS_STATE 21, axRunning), (AX_MOTION_MODE 21, mmPosition)]
    s.inSetup 20 = true ∧ s.hasProfile 20 = true ∧ Claims.clearWay s 20 ∧ s.axMode 20 = mmHold ∧
    s.axState 21 = axRunning ∧ s.stopping 21 = false ∧ s.hasProfile 21 = true ∧ Claims.clearWay s 21 := by
  unfold Claims.clearWay; decide +kernel

theorem hyp_MotionCommands_home : (cfg 2 [] [(HOM_HOMING_METHOD 0, 2), (LIM_HOME_SW 0, 255)]).homeConfigured 0 = false := by decide +kernel

theorem hyp_MotionCommands_follow :
    let s := cfg 2 [(AX_AXIS_STATE 20, axEnabled), (SUB_STATE 0, 2), (LT_STATE, 3), (LT_FOLLOWED_DOMAIN, 0), (DOM_STATE 0, 4)]
      [(FOL_FOLLOW_MODE 20, 1), (FOL_MASTER 20, 0x80), (SCH_GEN_SET 20, 0xff)]
    let s : State := { s with sub := Vector.replicate 8 { cur := some ⟨1, 0, 0, 0, 0, 0, 2000, 0⟩ } }
    s.axState 20 = axEnabled ∧ s.followReady 20 = true ∧ (s.masterState 20).isSome = true ∧ Claims.clearWay s 20 ∧
    s.genHas 20 (s.followNeeds 20) = true := by unfold Claims.clearWay; decide +kernel

theorem hyp_MotionCommands_writes :
    let s := cfg 2 [] [(PUB_ENABLE 0, 1), (PUB_SOURCE_AXIS 0, 4)]
    let one : Bytes := [1, 0, 0, 0, 0, 0, 0, 0]
    s.admits (wq one) (AX_TARGET_VELOCITY 31) ∧ s.publisherOf 31 = none ∧ s.publisherOf 4 ≠ none ∧ one.length = 8 ∧
    s.admits (wq one) (PRF_V_MAX 31 + (3 : Fin 4)) ∧ 0 < q32 (leNat one) := by unfold State.admits; decide +kernel

theorem hyp_LineShaftWrites :
    (at_ 2 []).admits (wq [1, 0, 0, 0]) (GEAR_DEN 31) ∧ (at_ 2 []).admits (wq [0, 0, 0, 0]) (GEAR_NUM 0) ∧ leNat [1, 0, 0, 0] ≠ 0 ∧
    (at_ 2 []).admits (wq [63]) (CAMA_CAM_NEXT 31) ∧ (at_ 2 []).admits (wq [255]) (CAMA_CAM_NEXT 0) ∧ leNat [63] < 64 ∧
    (at_ 2 []).admits (wq [1]) (REG_RESET 31) ∧ (at_ 2 []).admits (wq [1]) ADM_ADMIT_CHECK := by unfold State.admits; decide +kernel

theorem hyp_TableWrites :
    (at_ 2 []).admits (wq [1]) (tableKey 79 none) ∧ (at_ 2 []).admits (wq [4, 0, 0, 0]) (tableKey 0 (some 2)) ∧
    (at_ 2 [(CAM_TABLE_STATE 79, 1)]).admits (wq [1]) (CAM_FINISH 79) ∧
    (∀ r ∈ findRow (tableKey 0 (some 2) / 256) (tableKey 0 (some 2) % 256), [4, 0, 0, (0 : Byte)].length = r.ty.size) := by
  unfold State.admits; decide +kernel

/-- Table data go to the entry START on and put the table in LOADING (R337). -/
theorem test_tableData :
    let t := aft (.tableDataWrite (wq [7, 8]) 5 none) (at_ 2 [(CAM_START 5, 100), (CAM_LENGTH 5, 4)])
    t.rd (CAM_TABLE_STATE 5) = 1 ∧ t.tableRam.read 801 = 8 ∧ t.tableRam.read 802 = 0 := by decide +kernel

/-- REG_RESET sets REG_TOTAL to 0 (R344). -/
theorem test_regReset : (aft (.regReset (wq [1]) 3) (at_ 2 [(REG_TOTAL 3, 9)])).rd (REG_TOTAL 3) = 0 := by decide +kernel

/-! ### Chapter 08: acquisition -/

/-- The engine in state `st`, with internal state. -/
def acq (st : Nat) (a : AcqSt) : State := { at_ 2 [(ACQ_STATE, st)] with acq := a, time := { State.reset.time with line := ⟨1, 0, 0⟩, free := ⟨1, 0, 0⟩ } }

def trg : TrigAt := ⟨0, 0, 0, 0, false, 0, 0⟩

theorem hyp_AcquisitionEngine_writes :
    (at_ 2 []).admits (wq [1]) ACQ_CONTROL ∧ (at_ 2 []).admits (wq [0, 0, 0, 0]) ACQ_SEG_RELEASED ∧ (at_ 2 []).aqStill = true ∧
    (acq 6 { seg := 0 }).aqState = 6 ∧ (0 + 2 ^ 32 - 0) % 2 ^ 32 < (acq 6 {}).aq ACQ_SEG_COUNT := by unfold State.admits; decide +kernel

/-- Line time is 1 s, ACQ_LAG 0, and time 0 an L1 sample instant that is due. -/
theorem hyp_AcquisitionEngine_samples :
    let run (s : State) := s.rawDue 0 = true ∧ (∀ r ∈ s.acq.readyAt.or (s.acq.rAt.map (· + 8000)), (0 : Int) < r) ∧
      s.acq.stopReq.any (fun r => decide (r < 0)) = false
    run (acq 0 {}) ∧ (acq 0 {}).rawDue 1 = false ∧
    (let s := acq 3 { stopReq := some (-1), trig := some trg }
     s.rawDue 0 = true ∧ s.acq.stopReq.any (fun r => decide (r < 0)) = true ∧ s.acq.trig.isSome = true) ∧
    run (acq 1 { forceReq := some (-1) }) ∧ (acq 1 { forceReq := some (-1) }).acq.forceReq.any (fun r => decide (r < 0)) = true ∧
    (acq 0 { readyAt := some 0 }).acq.readyAt = some 0 ∧ run (acq 2 {}) ∧ run (acq 6 {}) ∧ (acq 2 {}).aq (TRU_TRIG_TYPE 0) = 0 := by decide +kernel

/-- A raw sample at which a trigger unit of type 7, source alarm 1, gives a trigger transition. -/
theorem hyp_AcquisitionEngine_trigger :
    let s := acq 2 { cfg := [(ACQ_TRIG_MASK, 1), (ACQ_WAIT_PRE, 1), (TRU_TRIG_TYPE 0, 7), (TRU_SOURCE 0, 1)], events := [⟨7, 1, 0, 5⟩] }
    (s.evalUnits 10).2.2 = true ∧ s.aq ACQ_WAIT_PRE ≠ 0 := by decide +kernel

theorem hyp_AcquisitionEngine_holdoff :
    let s := acq 4 { trig := some trg }
    s.aq ACQ_HOLDOFF_MODE = 0 ∧ s.aqState = 4 ∧ (∃ g ∈ s.acq.trig, g.t + 8 * (s.aq ACQ_HOLDOFF_TIME : Nat) ≤ s.nowT) := by decide +kernel

/-- START of an engine whose configuration enables no slot is refused with code 2 (Table AQ-3). -/
theorem test_acqStart : (aft (.acqStart (wq [1])) (at_ 2 [])).rd ACQ_START_RESULT = 2 := by decide +kernel

/-! ### Chapter 10: the enclave -/

/-- A claimed device in state `dev`, its owner's key 77, with two waiting counters. -/
def owned (dev : Nat) (r : List (Nat × Nat)) : State :=
  { at_ dev ((OWN_CLAIM_STATE, 1) :: (OWN_OWNER_COUNTER, 5) :: r) with sec := { State.reset.sec with ownerKey := some 77, nonce := some 8 } }

/-- A packet of the owner, decrypted, with the next COUNTER. -/
def pkt (typ : Nat) : Packet := ⟨true, typ, true, 0, 6, 8, 77, true, true, 0⟩

theorem hyp_SignedPackets_claim :
    let s : State := { at_ 1 [] with sec := { State.reset.sec with nonce := some 8, windowEnd := 1 } }
    s.admits (wq []) PKT_PACKET_IN ∧ Claims.packetGood (s.arrived (wq [])) { pkt 1 with signer := (9 : BitVec 384).toNat } 1 (9 : BitVec 384).toNat ∧
    (s.arrived (wq [])).claimed = false ∧ (s.arrived (wq [])).sec.windowOpen = true ∧ (s.arrived (wq [])).clock < (s.arrived (wq [])).sec.windowEnd ∧
    (s.arrived (wq [])).dev = .preop := by unfold State.admits Claims.packetGood; decide +kernel

theorem hyp_SignedPackets_owner :
    let s := owned 1 []
    let a := s.arrived (wq [])
    s.admits (wq []) PKT_PACKET_IN ∧ a.sec.ownerKey = some (pkt 2).signer ∧ Claims.packetGood a (pkt 2) 2 77 ∧ Claims.packetGood a (pkt 3) 3 77 ∧
    Claims.packetGood a (pkt 4) 4 77 ∧ Claims.packetGood a (pkt 5) 5 77 ∧ Claims.packetGood a (pkt 6) 6 77 ∧ Claims.packetGood a (pkt 8) 8 77 ∧
    a.claimed = true ∧ a.dev = .preop ∧ (pkt 4).decryptOk = true := by unfold State.admits Claims.packetGood; decide +kernel

theorem hyp_SignedPackets_bodies :
    let s := owned 1 []
    (∀ e ∈ [(⟨0x2101, 0x0d, 4, [100, 0, 0, 0]⟩ : SealedEntry)], s.sealedOk e = true) ∧
    s.packetContent (.keys [⟨2, false, 0, 0, 9⟩]) = true ∧ (revokeAll s.sec.revoked [1]).length ≤ 64 ∧ (1 : BitVec 32) ≠ 0 ∧
    1 ≤ (3 : BitVec 8).toNat ∧ (3 : BitVec 8).toNat ≤ 3 ∧ 60 ≤ (86400 : BitVec 32).toNat ∧ (86400 : BitVec 32).toNat ≤ 86400 := by decide +kernel

theorem hyp_SignedPackets_unlock :
    let s := owned 4 [(TAMP_TAMPER_CAUSES, 1)]
    let a := s.arrived (wq [])
    s.admits (wq []) PKT_PACKET_IN ∧ Claims.packetGood a (pkt 7) 7 77 ∧ a.claimed = true ∧ a.dev = .locked ∧ (pkt 7).reporting = 0 ∧
    a.bitOf TAMP_TAMPER_CAUSES 3 = false := by unfold State.admits Claims.packetGood; decide +kernel

theorem hyp_SignedPackets_refused :
    (owned 1 []).packetCheck { pkt 4 with typ := 1 } (.claim 9) ≠ 0 ∧ (owned 1 []).packetCheck { pkt 2 with target := 1 } (.transfer 9) ≠ 0 ∧
    (List.replicate 176 (0 : Byte)).length = 176 ∧ leAt (List.replicate 176 (0 : Byte)) 0 4 ≠ 0x4b505353 := by decide +kernel

/-- CLAIM binds the owner's key; a second one is refused with result 2 (R407, Table SE-7). -/
theorem test_claim :
    let s : State := { at_ 1 [] with sec := { State.reset.sec with nonce := some 8, windowEnd := 1 } }
    (aft (.claim (wq []) { pkt 1 with signer := 9 } 9) s).rd OWN_CLAIM_STATE = 1 ∧
    (aft (.claim (wq []) { pkt 1 with signer := 9 } 9) (owned 1 [])).rd PKT_PACKET_RESULT = 2 := by decide +kernel

/-- A session of the mailbox. -/
def ses : Session := ⟨3, .operator, .mailbox, 4, 1000, false, 0, none, false, 0, none, 0, 0⟩
def sesd (dev : Nat) : State := { owned dev [] with sec := { (owned dev []).sec with sessions := [ses], hellos := [⟨4, .mailbox, .operator, 5, 2000, 0, 0⟩] } }

theorem hyp_Sessions :
    let w := wq []
    let a := (sesd 1).acceptFresh 0 w.reqId w.fresh
    (sesd 1).served = true ∧ a.held w.chan < 8 ∧ w.chan = .mailbox ∧ a.claimed = true ∧ ((at_ 1 []).acceptFresh 0 1 1).claimed = false ∧
    a.sec.sessions.length < 8 ∧ a.sec.trngFailed = false ∧ (a.credential 1 (.ownerKey 78)) = none ∧
    8 ≤ ({ sesd 1 with sec := { (sesd 1).sec with sessions := List.replicate 8 ses } } : State).sec.sessions.length ∧
    (a.sec.hellos.find? (fun x => x.chan == w.chan && x.id == 4)).isSome = true := by decide +kernel

theorem hyp_Sessions_credential : ((sesd 1).credential 2 (.ownerKey 77)).isSome = true ∨ ((sesd 1).credential 3 (.ownerKey 77)).isSome = true := by decide +kernel

theorem hyp_Sessions_close :
    let w := { wq [] with session := 3 }
    (sesd 1).gate w.chan w.session w.reqId w.fresh true = .go ∧ ((sesd 1).arrived w).held w.chan < 8 ∧ w.session = (3 : BitVec 16).toNat ∧
    (((sesd 1).arrived w).session w.session).isSome = true ∧ (sesd 1).session 3 = some ses ∧ ses.role ≠ .owner ∧ (sesd 4).dev = .locked ∧
    (sesd 4).gate w.chan w.session w.reqId w.fresh true = .go := by decide +kernel

theorem hyp_Sessions_expiry :
    let s : State := { sesd 1 with regs := (LT_STATE, 3) :: (sesd 1).regs, time := { State.reset.time with line := ⟨1000, 0, 0⟩ } }
    s.ltSt.good = true ∧ ses.notAfter ≤ s.time.line.sec ∧ (State.reset).time.line.sec < ses.notAfter ∧ State.reset.session 3 = none := by decide +kernel

theorem hyp_Sessions_handshake :
    let w := { wq (4 :: leBytes 2 3) with session := 3 }
    (((sesd 1).arrived w).session w.session).isSome = true ∧ w.data = 4 :: leBytes 2 w.session ∧ w.session < 2 ^ 16 ∧
    (sesd 1).admits w (SDO_HANDSHAKE 3) := by unfold State.admits; decide +kernel

/-- At NOT_AFTER itself the session closes (R17, R420). -/
theorem test_certificate :
    let s (t : Nat) : State := { sesd 1 with regs := (LT_STATE, 3) :: (sesd 1).regs, time := { State.reset.time with line := ⟨t, 0, 0⟩ } }
    (aft (.certificateExpiry 3) (s 1000)).session 3 = none ∧ (aft (.certificateExpiry 3) (s 999)).session 3 ≠ none := by decide +kernel

theorem hyp_FirmwareAndAudit :
    let s := at_ 1 [(FW_SLOT_B_STATE, 2)]
    let d : Bytes := [0x4e, 0x4a, 0x46, 0x57, 1, 0, 0, 0, 0, 0, 0, 0, 0, 0, 0, 0]
    s.admits (wq d) FW_IMAGE ∧ (s.arrived (wq d)).fwImageState = true ∧ (s.arrived (wq d)).otherSlot < 2 ∧ leAt d 12 4 ≤ 2096640 ∧
    d.length < leAt d 12 4 + 512 ∧ leAt d 12 4 + 512 ≤ (d ++ List.replicate 496 (0 : Byte)).length ∧
    7 ≠ (at' (s.arrived (wq d)).sec.slots (s.arrived (wq d)).otherSlot).received ∧ s.admits (wq [1]) FW_NEXT_SLOT ∧
    State.admits { s with sec := { s.sec with booted := true } } (wq [1]) FW_CONFIRM ∧ (s.arrived (wq [1])).sec.booted = false := by unfold State.admits; decide +kernel

theorem hyp_FirmwareAndAudit_export : (at_ 1 []).gate .mailbox 0 1 1 true = .go ∧
    ((at_ 1 []).arrived (wq [])).readAccess (((at_ 1 []).arrived (wq [])).readRole 0) (AUD_AUDIT_EXPORT / 256) (AUD_AUDIT_EXPORT % 256) = 0 := by
  decide +kernel

/-- NEXT_SLOT takes a VALID slot only (R431). -/
theorem test_nextSlot : (aft (.nextSlot (wq [1])) (at_ 1 [(FW_SLOT_B_STATE, 2)])).rd FW_NEXT_SLOT = 1 ∧
    (aft (.nextSlot (wq [1])) (at_ 1 [(FW_SLOT_B_STATE, 3)])).rd FW_NEXT_SLOT = 0 := by decide +kernel

/-! ### Chapter 05 and 11: swaps, the object server, Quinup, CAN SDO, commit and store -/

theorem hyp_PendingSwapAndOffsets :
    let s := at_ 1 [(BNK_SWAP_PENDING 0, 1)]
    let a := s.arrived (wq [0, 0, 0, 0])
    State.reset.time.offsetAdd = none ∧ (0 : Int) ≤ State.reset.now + ((1 : BitVec 64).toInt + (2 : BitVec 64).toInt) * 65536 ∧
    s.served = true ∧ s.gate .mailbox 0 1 1 true = .go ∧ a.held .mailbox < 8 ∧ a.dev ≠ .locked ∧ idxExists 0x3025 = true ∧
    bankOfKey 0x302501 = some (0, 1, 1) ∧ (∃ r ∈ findRow 0x3025 1, r.isSealed = false ∧ r.writeRole ≤ Role.level (a.writeRole 0)) ∧
    a.bitOf (BNK_SWAP_PENDING 0) 0 = true ∧ a.bank 0 1 ≠ 1 := by decide +kernel

theorem hyp_PendingSwapAndOffsets_again :
    let s := at_ 1 [(BNK_SWAP_PENDING 0, 15)]
    s.admits (wq [15]) (BNK_SWAP_REQUEST 0) ∧ (15 : BitVec 8).toNat < 16 ∧
    ∀ i : Fin 4, (15 : BitVec 8).toNat.testBit i = true → (s.arrived (wq [15])).bitOf (BNK_SWAP_PENDING 0) i = true := by
  unfold State.admits; decide +kernel

/-- One witness for each check of Table OD-5, in its order. -/
theorem hyp_ObjectServer :
    let s := at_ 1 []
    State.reset.served = false ∧ s.served = true ∧ s.gate .mailbox 0 1 1 true = .go ∧ (s.arrived (wq [])).held .mailbox < 8 ∧
    idxExists 0x0fff = false ∧ idxExists 0x2101 = true ∧ findRow 0x2101 0 = none ∧ findRow 0x2101 0xff = none ∧
    (∃ r ∈ findRow 0x2000 2, r.acc = .ro) ∧ (at_ 2 []).writeState CAL_SAVE = false ∧ s.writeState (PUB_ENABLE 0) = true ∧ (∃ r ∈ findRow 0x2101 0x0d, r.isSealed = true) ∧
    (∃ r ∈ findRow (PUB_ENABLE 0 / 256) (PUB_ENABLE 0 % 256), (r.acc = .rw ∧ r.isSealed = false ∧
      r.writeRole ≤ Role.level ((s.arrived (wq [])).writeRole 0) ∧ lengthOk r 0 = false ∧ 0 < r.ty.size)) := by decide +kernel

theorem hyp_ObjectServer_done :
    let s := at_ 1 []
    let w := wq [1]
    let a := s.arrived w
    s.admits w (PUB_ENABLE 0) ∧ (∃ r ∈ findRow (PUB_ENABLE 0 / 256) (PUB_ENABLE 0 % 256), (0 < r.ty.size ∧ lengthOk r 1 = true ∧
      a.valueCode r (PUB_ENABLE 0 / 256) (PUB_ENABLE 0 % 256) 1 = 0 ∧ r.persistent = true)) ∧
    (∃ r ∈ findRow (PUB_ENABLE 0 / 256) (PUB_ENABLE 0 % 256), a.valueCode r (PUB_ENABLE 0 / 256) (PUB_ENABLE 0 % 256) 2 ≠ 0) ∧
    a.oneWrite vd0 (PUB_ENABLE 0) 1 = none ∧ a.familyWrite vd0 (PUB_ENABLE 0) 1 = none := by
  unfold State.admits; decide +kernel

/-- An object with flag P, a W1C object and MO_DATA; an object that is a row of its own; and COMMAND. -/
theorem hyp_ObjectValues :
    let s := at_ 1 []
    (s.admits (wq [1]) (PUB_ENABLE 0) ∧ ∀ r ∈ findRow (PUB_ENABLE 0 / 256) (PUB_ENABLE 0 % 256), [(1 : Byte)].length = r.ty.size ∧
      (s.arrived (wq [1])).valueCode r (PUB_ENABLE 0 / 256) (PUB_ENABLE 0 % 256) 1 = 0 ∧ r.persistent = true) ∧ (∀ n : Fin 16, PUB_ENABLE 0 ≠ CC_MODE n) ∧
    (s.admits (wq [8, 0]) 0x220015 ∧ Claims.acts 0x220015 = false ∧ ∀ r ∈ findRow 0x2200 0x15, [8, (0 : Byte)].length = r.ty.size ∧
      (s.arrived (wq [8, 0])).valueCode r 0x2200 0x15 8 = 0) ∧
    s.admits (wq (List.replicate 64 1)) (MO_DATA 3 127) ∧ [1, 9, 0, (0 : Byte)] = [(1 : BitVec 8), 9, 0, 0] := by
  unfold State.admits; decide +kernel

theorem hyp_ObjectValues_row : Claims.isWrite (wq [1]) (.commit (wq [1])) CMT_COMMIT ∧
    (Chan.mailbox ≠ .quinup ∨ (0 : Nat) ≠ (0 : BitVec 16).toNat) := ⟨by simp [Claims.isWrite], .inl (by decide)⟩

/-- CAN_STATUS and other W1C bits: a bit written 1 clears, one written 0 stays (R20). -/
theorem test_w1c : (aft (.objectWrite (wq [8, 0]) 0x2200 0x15) (at_ 1 [(0x220015, 0x18)])).rd 0x220015 = 0x10 := by decide +kernel

/-- An address and the port in force. -/
def net (s : State) : State := { s with force := [(NET_IPV4_ADDRESS, 0x0a000001), (NET_QUINUP_PORT, 10000)] }

/-- A Quinup datagram to the module's own address and port. -/
def dg (b : Bytes) : Dgram :=
  { udp := ⟨⟨1, 2, 3, 1⟩, 0x0a000001, 10000, false, true⟩, magic := 0x5171, version := 1, reqId := 1, session := 0,
    fresh := 1, index := 0x2000, sub := 2, last := true, segOffset := 0, dataLength := b.length, data := b, macOk := true, vd := vd0 }

theorem hyp_Datagrams_taken :
    let s := net (at_ 1 [])
    let d := dg []
    let b (x : Bytes) : Dgram := { dg x with session := 3 }
    State.reset.served = false ∧ s.served = true ∧ s.udpOk d.udp = true ∧ s.udpOk { d.udp with port := 0 } = false ∧ Machine.Dgram.wellFormed d = true ∧
    ¬({ d with magic := 0 } : Dgram).magic = 0x5171 ∧ s.gate .quinup 0 1 1 true = .go ∧ (s.arrived (wq [])).held .quinup < 8 ∧
    (net (sesd 1)).udpOk (b []).udp = true ∧ (b []).session ≠ 0 ∧ Machine.Dgram.opens (b []) 1 = false ∧
    (net (sesd 1)).gate .quinup 3 1 1 false = .drop ∧ (net (sesd 1)).gate .quinup 3 1 0 true = .drop ∧ (net (sesd 1)).session 3 = some ses := by decide +kernel

theorem hyp_Datagrams_repeat :
    let x : Session := { ses with chan := .quinup, accepted := some (1, 1), cached := some (1, 1, [9]) }
    let s : State := { net (sesd 1) with sec := { (net (sesd 1)).sec with sessions := [x] } }
    let t : State := { net (sesd 1) with sec := { (net (sesd 1)).sec with sessions := [{ x with cached := none }] } }
    let d : Dgram := { dg [] with session := 3 }
    (∃ y ∈ s.session d.session, y.accepted = some (d.reqId, d.fresh) ∧ y.cached = some (d.reqId, d.fresh, [9])) ∧
    (∃ y ∈ t.session d.session, y.accepted = some (d.reqId, d.fresh) ∧ y.cached = none) ∧ d.macOk = true := by decide +kernel

theorem hyp_Datagrams_segments :
    let c (op : Nat) : Ctx := ⟨.quinup, ⟨1, 2, 3, 1⟩, 0, 1, 1, op, 0x2a05, 0x0b, 1, 0, 0⟩
    let s := net (at_ 1 [])
    let x (write ab : Bool) : State := { s with dict := { s.dict with xfers := [{ chan := .quinup, session := 0, key := 0x2a050b, write := write, abandoned := ab }] } }
    s.xfer (c 3) false = none ∧ s.xfer (c 4) true = none ∧ ((x false false).xfer (c 3) false).isSome = true ∧ ((x false true).xfer (c 3) false).isSome = true ∧
    ((x true false).xfer (c 4) true).isSome = true ∧ ((x true true).xfer (c 4) true).isSome = true ∧
    s.readAccess (s.readRole 0) 0x2000 2 = 0 ∧ 0x2000 < 2 ^ 16 := by decide +kernel

theorem hyp_Datagrams_blob :
    let s := net (at_ 1 [])
    let k := MO_DATA 0 0
    (∃ r ∈ findRow (k / 256) (k % 256), (r.ty.size = 0 ∧ lengthOk r (0 + 8) = true)) ∧ k ≠ FW_IMAGE ∧ (moOf k).isSome = true ∧
    s.writeAccess (s.writeRole 0) (k / 256) (k % 256) = 0 ∧ s.openElsewhere k = false := by decide +kernel

theorem hyp_Datagrams_session : let x : Session := { ses with chan := .quinup }
    let s : State := { net (sesd 1) with sec := { (net (sesd 1)).sec with sessions := [x] } }
    let d : Dgram := { dg (4 :: leBytes 2 3) with session := 3 }
    (3 : BitVec 16).toNat = d.session ∧ (s.session d.session).isSome = true ∧ d.data = 4 :: leBytes 2 d.session ∧ s.served = true ∧
    s.udpOk d.udp = true ∧ Machine.Dgram.wellFormed d = true ∧ s.gate .quinup 3 1 1 true = .go := by decide +kernel

/-- A CAN channel in force, its SDO server at COB-ID 0x601. -/
def sdo (bound : Nat) (r : List (Nat × Nat)) : State :=
  let s := cfg 1 r [(CAN_MODE 0, 1), (SDO_COB_RX 0, 0x601)]
  { s with dict := { s.dict with sdoBound := s.dict.sdoBound.set 0 bound } }

theorem hyp_Datagrams_sdo :
    let s := sdo 0 []
    let rd : Bytes := [0x40, 0, 0x20, 2, 0, 0, 0, 0]
    let t : State := { sesd 1 with force := (sdo 0 []).force, dict := (sdo 3 []).dict }
    s.served = true ∧ s.cf (CAN_MODE 0) ≠ 0 ∧ (0x601 : BitVec 30).toNat = s.cf (SDO_COB_RX 0) % 2 ^ 30 ∧ (0x602 : BitVec 30).toNat ≠ s.cf (SDO_COB_RX 0) % 2 ^ 30 ∧
    at' s.dict.sdoBound 0 = 0 ∧ s.session 0 = none ∧ s.dict.xfers = [] ∧ s.held (.can 0) < 8 ∧ rd.length = 8 ∧ leAt rd 0 1 = 0x40 ∧
    s.readAccess (s.readRole 0) 0x2000 2 = 0 ∧ 1 ≤ (s.readBytes (s.readRole 0) 0x2000 2).length ∧ (s.readBytes (s.readRole 0) 0x2000 2).length ≤ 4 ∧
    160 ≤ leAt [0xa0, 0, 0, 0] 0 1 ∧ at' t.dict.sdoBound 0 = 3 ∧ (t.session 3).isSome = true := by decide +kernel

theorem hyp_CommitAndStore :
    let s := at_ 1 []
    s.admits (wq [1]) CMT_COMMIT ∧ s.admits (wq [0x73, 0x61, 0x76, 0x65]) ID_STORE ∧ leNat [0x73, 0x61, 0x76, 0x65] = 0x65766173 ∧
    s.admits (wq [0x6c, 0x6f, 0x61, 0x64]) ID_RESTORE_DEFAULTS ∧ leNat [0x6c, 0x6f, 0x61, 0x64] = 0x64616F6C ∧ s.dict.committing = none ∧
    s.dict.storing = none := by unfold State.admits; decide +kernel

/-- At its instant the configuration that waited is in force and counted (R453). -/
theorem test_commitTakeEffect :
    let s := at_ 1 []
    let s : State := { s with dict := { s.dict with committing := some [(NET_QUINUP_PORT, 77)], commitFrom := 0 } }
    (aft .commitTakeEffect s).cf NET_QUINUP_PORT = 77 ∧ (aft .commitTakeEffect s).rd CMT_COMMIT_COUNT = 1 := by decide +kernel

theorem hyp_CommitAndStore_instant :
    let s := at_ 1 []
    let c : State := { s with dict := { s.dict with committing := some [], commitFrom := 0 } }
    c.dict.committing = some [] ∧ c.dict.commitFrom ≤ c.clock ∧ s.dict.committing = none ∧ s.dict.storing = none ∧
    ({ s with dict := { s.dict with storing := some ⟨[], 0, [], []⟩ } } : State).dict.storing.isSome = true ∧
    (at_ 4 []).dev = .locked ∧ (at_ 4 []).gate .mailbox 0 1 1 true = .go := by decide +kernel

/-! ### Chapter 11: process data -/

/-- Line time COARSE, a second after its start; Ethernet receive object 0 with frame identifier 5 and CAN receive object 0 with COB-ID 0x201
in force. -/
def pd (dev : Nat) (f : List (Nat × Nat)) : State :=
  let s := cfg dev [(LT_STATE, 3)] ([(ERX_RX_ENABLE 0, 1), (ERX_FRAME_ID 0, 5), (CAN_MODE 0, 1), (RPDO_COB_ID 0, 0x201), (RPDO_CHANNEL 0, 0),
    (ETX_TX_ENABLE 0, 1), (TPDO_COB_ID 0, 0x181), (TPDO_CHANNEL 0, 0)] ++ f)
  { s with time := { s.time with line := ⟨1, 0, 0⟩, free := ⟨100, 0, 0⟩ }, sec := { s.sec with keys := [⟨2, 0, 0, 9⟩] } }

/-- A process-data PDU of frame 5 under line key 9 with SEQUENCE 1 and a valid stamp of 1 s. -/
def pdu : Bytes := [2, 1, 5, 0, 1, 0, 0, 0] ++ leBytes 8 ((pd 2 []).stamp 0) ++ [9, 0, 0, 0, 0, 0, 0, 0] ++ List.replicate 16 0

theorem hyp_ProcessData_frame :
    let s := pd 2 []
    let rcv := (s.now16 + 0 * 8192 + s.ingressShift 1) / 8192
    State.reset.served = false ∧ s.served = true ∧ (∀ g : Fin 8, s.rxOn (16 + g.val) = true ∧ s.cf (ERX_FRAME_ID g) = leAt pdu 2 2 ↔ g = 0) ∧
    mapBytes (s.rxMap 16) ≤ leAt pdu 18 2 ∧ leAt pdu 0 1 = 2 ∧ leAt pdu 1 1 = 1 ∧ leAt pdu 18 2 + 40 ≤ pdu.length ∧ s.ltSt.good = true ∧
    s.lineKey (leAt pdu 16 2) = true ∧ s.lineKey 10 = false ∧ stampValid (leAt pdu 8 8) = true ∧ stampDiff (leAt pdu 8 8) rcv = 0 ∧ (s.rxs 16).lastSeq = none ∧
    (∀ g : Fin 8, s.rxOn (16 + g.val) = true → s.cf (ERX_FRAME_ID g) ≠ leAt (List.replicate 40 (0 : Byte)) 2 2) ∧
    (pd 1 []).dev ≠ .op ∧ s.latency 16 = 0 ∧ (pd 2 [(ERX_APPLY_LATENCY 0, 100)]).latency 16 = 800 := by decide +kernel

theorem hyp_ProcessData_can :
    let s : State := { pd 1 [] with regs := (OWN_CLAIM_STATE, 1) :: (pd 1 []).regs }
    let b : Bytes := leBytes 4 (usOf s.now) ++ List.replicate 8 0
    (∀ q : Fin 16, (s.rxOn q = true ∧ s.cf (RPDO_CHANNEL q) = 0 ∧ s.cf (RPDO_COB_ID q) % 2 ^ 30 = (0x201 : BitVec 30).toNat) ↔ q = 0) ∧
    (∀ q : Fin 16, ¬(s.rxOn q = true ∧ s.cf (RPDO_CHANNEL q) = 0 ∧ s.cf (RPDO_COB_ID q) % 2 ^ 30 = (0x202 : BitVec 30).toNat)) ∧
    s.served = true ∧ s.cf (CAN_MODE 0) ≠ 0 ∧ s.claimed = true ∧ mapBytes (s.rxMap 0) + 12 ≤ b.length ∧
    s.freshOk (pairOf (s.cn 0).rxFresh 1000) (leAt b (b.length - 12) 4) = true ∧ s.freshOk none (leAt b (b.length - 12) 4 + 2 ^ 31) = false ∧
    s.dev ≠ .op ∧ s.latency 0 = 0 := by decide +kernel

theorem hyp_ProcessData_apply :
    let s := pd 2 [(rxCount 0, 1), (rxEntry 0 0, 0x20000208)]
    let w : State := { s with dict := { s.dict with rx := s.dict.rx.set 0 { waiting := some (0, [1]) } } }
    (s.rxs 0).waiting = none ∧ (w.rxs 0).waiting = some (0, [1]) ∧ (0 : Int) ≤ w.nowT ∧ w.dev = .op ∧ w.rxMap 0 = [0x20000208] ∧
    w.writeAccess .operator (0x20000208 / 65536) (0x20000208 / 256 % 256) ≠ 0 ∧ 0x20000208 / 65536 * 256 + 0x20000208 / 256 % 256 ≠ CAL_SAVE := by
  decide +kernel

theorem hyp_ProcessData_send :
    let s := pd 2 []
    s.served = true ∧ s.txOn 16 = true ∧ s.txOn 0 = true ∧ s.txOn 1 = false ∧ (at' s.dict.tx 0).last ≠ some (s.pdRead (s.txMap 0)).2 ∧
    (at' s.dict.tx 0).at_ = none ∧ s.cf (CAN_MODE 0) ≠ 0 ∧ s.listenOnly 0 = false := by decide +kernel

theorem hyp_ProcessData_timeout :
    let s := pd 2 [(ERX_TIMEOUT 0, 1000), (ERX_TIMEOUT_ACTION 0, 1), (rxCount 16, 1), (rxEntry 16 0, 0x30000110)]
    s.served = true ∧ s.rxOn 16 = true ∧ s.cf (ERX_TIMEOUT 0) = 1000 ∧ (s.rxs 16).lapsed = false ∧
    (s.rxs 16).seenAt + ((1000 * 1000 * 2 ^ 32 : Nat) : Int) ≤ s.clock ∧ s.cf (ERX_TIMEOUT_ACTION 0) = 1 := by decide +kernel

/-- A frame that repeats its SEQUENCE is stale (R462). -/
theorem test_pdSequence :
    let s := pd 1 []
    let t := aft (.pdFrameReceive 1 pdu true 0 vd0) s
    t.rd PD_NOT_APPLIED = 1 ∧ t.rd PD_STALE_DROPS = 0 ∧ (aft (.pdFrameReceive 1 pdu true 0 vd0) t).rd PD_STALE_DROPS = 1 := by decide +kernel

/-! ### Chapters 13 and 14: CAN and the serial ports -/

/-- Channel 0 on its bus, object 0 receiving identifier 0x123 and object 1 transmitting 0x124, with registers written. -/
def can (mode : Nat) (r : List (Nat × Nat)) : State :=
  cfg 1 ([(CANS_CHANNEL_STATUS 0, 2)] ++ r) [(CAN_MODE 0, mode), (MO_CONFIG 0 0, 0x11), (MO_ID 0 0, 0x123), (MO_MASK 0 0, 0x7ff), (MO_CONFIG 0 1, 2),
    (MO_ID 0 1, 0x124), (CAN_ID_CLASH_LIMIT 0, 1), (CAN_TDC_ENABLE 0, 1)]

theorem hyp_CanChannels_receive :
    let s := can 1 []
    s.cf (CAN_MODE 0) ≠ 0 ∧ s.bitOf (CANS_CHANNEL_STATUS 0) 1 = true ∧ s.bitOf (CANS_CHANNEL_STATUS 0) 3 = false ∧ s.on (CAN_FD_ENABLE 0) = true ∧
    (0x123 : BitVec 31).toNat ∉ s.protoIds 0 ∧ s.moAccepts 0 0 (0x123 : BitVec 31).toNat false = true ∧ s.moAuth 0 0 = false ∧
    (∀ n : Fin 128, s.moAccepts 0 n (0x125 : BitVec 31).toNat false = false) ∧ s.cf (SDO_COB_RX 0) ∈ s.protoIds 0 ∧
    (0x123 : BitVec 31).toNat.testBit 30 = false ∧ (0x40000123 : BitVec 31).toNat.testBit 30 = true := by decide +kernel

theorem hyp_CanChannels_request :
    let s := can 1 []
    let p := can 1 [(MO_STATUS 0 1, 1)]
    s.admits (wq [1]) (MO_REQUEST 0 1) ∧ (s.arrived (wq [1])).moDir 0 1 = 2 ∧ (s.arrived (wq [1])).moDir 0 0 ≠ 2 ∧
    (s.arrived (wq [1])).listenOnly 0 = false ∧ (s.arrived (wq [1])).bitOf (MO_STATUS 0 1) 0 = false ∧ (p.arrived (wq [2])).txPending 0 1 = true ∧
    vd0.phase = .waiting ∧ p.admits (wq [2]) (MO_REQUEST 0 1) := by unfold State.admits; decide +kernel

theorem hyp_CanChannels_transmit :
    let p := can 1 [(MO_STATUS 0 1, 1)]
    let q : State := { p with can := p.can.set 0 { proto := [⟨0x601, [1], 0⟩] } }
    (can 1 []).offered 0 0 = none ∧ p.canMayDrive 0 = true ∧ p.offered 0 0 = some (.object 1) ∧ (p.offerOut 0 (.object 1)).isFd = false ∧
    q.offered 0 0 = some (.object 1) ∧ ({ can 1 [] with can := q.can } : State).offered 0 0 = some (.proto ⟨0x601, [1], 0⟩) ∧ (p.cn 0).tx = none ∧
    (p.cn 0).proto = [] ∧ p.cf (CAN_ID_CLASH_LIMIT 0) = 1 ∧ (⟨.lost, 0, none⟩ : CanFail).how = .lost := by decide +kernel

/-- Two transmit objects pend; the one with the lower identifier goes first. -/
theorem hyp_CanChannels_arbitration :
    let p := cfg 1 [(CANS_CHANNEL_STATUS 0, 2), (MO_STATUS 0 1, 1), (MO_STATUS 0 2, 1)]
      [(CAN_MODE 0, 1), (MO_CONFIG 0 1, 2), (MO_ID 0 1, 0x124), (MO_CONFIG 0 2, 2), (MO_ID 0 2, 0x125)]
    (p.cn 0).tx = none ∧ (p.cn 0).proto = [] ∧ p.txPending 0 1 = true ∧ p.txPending 0 2 = true ∧
    (∀ e ∈ (p.cn 0).asked, e.1 = (1 : Fin 128).val → e.2 ≤ 0) ∧ arbKey (p.cf (MO_ID 0 1)) < arbKey (p.cf (MO_ID 0 2)) := by decide +kernel

theorem hyp_CanChannels_busOff :
    let s := can 1 [(CANS_CHANNEL_STATUS 0, 10)]
    let s : State := { s with regs := (CANS_CHANNEL_STATUS 0, 10) :: s.regs, can := s.can.set 0 { recovering := true } }
    s.admits (wq [1]) (CANS_RECOVER 0) ∧ (s.arrived (wq [1])).bitOf (CANS_CHANNEL_STATUS 0) 3 = true ∧ s.bitOf (CANS_CHANNEL_STATUS 0) 3 = true ∧
    (s.cn 0).recovering = true ∧ s.dev ≠ .boot ∧ s.dev ≠ .standby := by unfold State.admits; decide +kernel

/-- A bit error while sending adds 8 to TEC, and offers the frame again (R512, R516). -/
theorem test_canTec : let p := can 1 [(MO_STATUS 0 1, 1), (CANS_TEC 0, 96)]
    (aft (.canTxFailure 0 ⟨.bitError, 0, none⟩) p).rd (CANS_TEC 0) = 104 ∧ (aft (.canTxFailure 0 ⟨.bitError, 0, none⟩) p).txPending 0 1 = true := by decide +kernel

/-- Port 1 in PORT_MODE 1 or 2; port 0 as the host port. -/
def sp (mode : Nat) (r : List (Nat × Nat)) : State :=
  let s := cfg 1 r [(SP_PORT_MODE 1, mode)]
  { s with pw := { s.pw with hostSel := true }, time := { s.time with free := ⟨1, 0, 0⟩ } }

theorem hyp_SerialPorts_master :
    let s := sp 1 []
    let m := sp 3 [(SP_MST_RESULT 1, 1)]
    s.admits (wq [1]) (SP_MST_TX 1) ∧ (wq [1]).data.length = 1 ∧ (sp 2 []).spMode 1 ≠ 1 ∧ (sp 2 []).spMode 1 ≠ 3 ∧ m.spMode 1 = 3 ∧
    m.rd (SP_MST_RESULT 1) = 1 ∧ (m.spt 1).startAt + (((m.cf (SP_SS_LEAD 1) + (16 * (m.spt 1).tx.length - 1) * m.cf (SP_SCLK_DIV 1) + m.cf (SP_SS_LAG 1)) * 2 ^ 32 : Nat) : Int) ≤ m.clock := by
  unfold State.admits; decide +kernel

theorem hyp_SerialPorts_target :
    let s := sp 2 []
    let d : State := { s with sp := s.sp.set 1 { data := some [1, 2, 3, 4] } }
    let f : State := { s with sp := s.sp.set 1 { fetch := some (0, 1) } }
    (sp 0 []).spMode 1 = 0 ∧ s.spMode 1 = 2 ∧ s.spMode 0 = 2 ∧ s.hostPort 0 = true ∧ s.hostPort 1 = false ∧ (s.spt 0).fetch = none ∧
    (0x1000 : BitVec 24).toNat % 4 = 0 ∧ (0x1000 : BitVec 24).toNat < 2 ^ 22 ∧ 1 ≤ (64 : BitVec 8).toNat ∧ (64 : BitVec 8).toNat ≤ 64 ∧
    ¬((0x1001 : BitVec 24).toNat % 4 = 0) ∧ (d.spt 1).data = some [1, 2, 3, 4] ∧ (f.spt 1).fetch = some (0, 1) ∧
    3 < leAt [4] 0 1 ∧ ([2, 0] : Bytes).length < 5 ∧ leAt [2, 0] 0 1 = 2 := by decide +kernel

/-- A whole NOP is taken and SEQ advances modulo 32 (R527). -/
theorem test_targetNop : let s : State := { sp 2 [] with sp := (sp 2 []).sp.set 1 { seq := 31, err := true } }
    ((aft (.targetNop 1 0 false) s).spt 1).seq = 0 ∧ ((aft (.targetNop 1 0 false) s).spt 1).err = false := by decide +kernel

/-! ### Chapter 12: the host interface -/

theorem hyp_HostLink_words :
    let s : State := { State.reset with host := { State.reset.host with frozen := [⟨0x14, 7, 0x10, false, 0⟩] } }
    s.barField 0 = none ∧ s.barField ((0x10 : BitVec 22).toNat / 4 * 4) = some (0x10, 2) ∧ s.barField ((0x14 : BitVec 22).toNat / 4 * 4) = some (0x10, 2) ∧
    s.barField 0x020000 = some (0x020000, 3) ∧ 0x10 % 8 = 0 ∧ (0x14 : Nat) ≠ 0x10 ∧
    s.host.frozen.find? (fun x => x.offset == 0x14 && decide (s.clock < x.at_ + ((1000 * 2 ^ 32 : Nat) : Int))) = some ⟨0x14, 7, 0x10, false, 0⟩ ∧
    State.reset.host.frozen.find? (fun x => x.offset == 0x14 && decide (State.reset.clock < x.at_ + ((1000 * 2 ^ 32 : Nat) : Int))) = none := by
  decide +kernel

theorem hyp_HostLink_writes :
    let s : State := { State.reset with host := { State.reset.host with mbxStatus := 1 } }
    let e : State := { State.reset with host := { State.reset.host with rings := State.reset.host.rings.set 15 { ctrl := 0x601 } } }
    ([0, 0, 0, 0] : Bytes).length = 4 ∧ 0x1004 % 4 = 0 ∧ (List.replicate 8 (0 : Byte)).length = 8 ∧ 0x2000 % 8 = 0 ∧
    s.host.mbxStatus.testBit 0 = true ∧ State.reset.host.mbxStatus.testBit 0 = false ∧ 15 = (0x2f00 - 0x2000) / 0x100 ∧ 0x2f00 % 0x100 = 0 ∧
    (e.ring 15).enabled = true ∧ (State.reset.ring 15).enabled = false ∧ State.reset.pw.hostSel = false ∧ (0x2f14 : Nat) % 0x100 = 0x14 ∧
    65536 < (65537 : Nat) ∧ (0x2f18 : Nat) % 0x100 = 0x18 ∧ 1000000 < (1000001 : Nat) := by decide +kernel

/-- PCIe link up and bus mastering on, vector 3 pending and unmasked. -/
def link : State :=
  { State.reset with host := { State.reset.host with linkUp := true, busMaster := true, perst := false, pba := 8, cfg := { msixEnable := true }, msix := State.reset.host.msix.set 3 { masked := false } } }

theorem hyp_HostLink_link :
    let h : State := { State.reset with pw := { State.reset.pw with hostSel := true } }
    let d : State := { link with host := { link.host with busMaster := false } }
    link.host.linkUp = true ∧ link.pw.hostSel = false ∧ h.pw.hostSel = true ∧ State.reset.host.linkUp = false ∧ State.reset.host.perst = true ∧
    link.host.perst = false ∧ link.pcieWrites = true ∧ link.msixOn = true ∧ State.reset.msixOn = false ∧ d.pcieWrites = false ∧ d.host.pba.testBit 3 = true ∧ (at' d.host.msix 3).masked = false := by
  decide +kernel

/-- The high word frozen by a read of the low one is returned once (R476). -/
theorem test_freeze :
    let t := aft (.bar0ReadFreeze 0x10 false) State.reset
    t.host.frozen.length = 1 ∧ (aft (.bar0ReadFreeze 0x14 false) t).host.frozen.length = 0 := by decide +kernel

theorem hyp_MailboxAndRings_mailbox :
    let m (b : Nat) (d : Bool) (r : Option Bytes) : State := { at_ 1 [] with host := { (at_ 1 []).host with mbxStatus := b, mbxDropped := d, mbxReply := r } }
    let q : Bytes := [0x71, 0x51, 1, 1, 1, 0, 0, 0, 1, 0, 0, 0, 0, 0x20, 2, 0] ++ List.replicate 12 0
    let s : State := { at_ 1 [] with host := { (at_ 1 []).host with mbxReqLength := 28, mbxRequest := Memory.writeAll [] 0 q } }
    let b := s.host.mbxRequest.readAll 0 s.host.mbxReqLength
    (m 1 false none).host.mbxStatus.testBit 0 = true ∧ (m 1 true none).host.mbxDropped = true ∧ (m 1 false (some [1])).host.mbxReply = some [1] ∧
    b = q ∧ s.host.mbxStatus.testBit 0 = false ∧ s.served = true ∧ b.take 3 = [0x71, 0x51, 1] ∧ leAt b 3 1 = 1 ∧ leAt b 6 2 = 0 ∧ leAt b 20 2 = 0 ∧
    b.length = 28 ∧ s.session 0 = none ∧ s.held .mailbox < 8 ∧ leAt b 12 2 = 0x2000 ∧ leAt b 14 1 = 2 ∧ s.readAccess (s.readRole 0) 0x2000 2 = 0 ∧
    leAt (List.replicate 28 (0 : Byte)) 0 2 ≠ 0x5171 := by decide +kernel

theorem hyp_MailboxAndRings_done :
    let s : State := { link with host := { link.host with mbxStatus := 1, mbxReply := some [1], mbxVector := 0x103 } }
    s.host.mbxStatus.testBit 0 = true ∧ s.host.mbxDropped = false ∧ s.host.mbxReply = some [1] ∧ s.host.mbxVector.testBit 8 = true ∧ s.pcieWrites = true ∧ s.msixOn = true ∧
    (at' s.host.msix (fld s.host.mbxVector 0 5)).masked = false ∧ State.reset.host.mbxVector.testBit 8 = false := by decide +kernel

/-- Ring 0 enabled (with 64 slots where its CTRL says 6), and one record staged for it. -/
def ring (g : Ring) : State :=
  { link with host := { link.host with rings := link.host.rings.set 0 { g with ctrl := g.ctrl + 1 }, staging := [⟨default, 1, false⟩] } }

theorem hyp_MailboxAndRings_rings :
    let late : State := { ring { unsignalled := 1, ctrl := 0x604 } with time := { State.reset.time with free := ⟨1, 0, 0⟩ } }
    (State.reset.ring 0).enabled = false ∧ fld ((0x600 : BitVec 32).toNat &&& 0x001f1f0f) 8 5 = 6 ∧ fld ((0x500 : BitVec 32).toNat &&& 0x001f1f0f) 8 5 < 6 ∧
    (State.reset.ring 0).base % 4096 = 0 ∧ ((ring {}).ring 0).enabled = true ∧
    (late.ring 0).firstAt + (((late.ring 0).modTime * 1000 * 2 ^ 32 : Nat) : Int) ≤ late.clock ∧ (late.ring 0).unsignalled ≠ 0 ∧
    (late.ring 0).ctrl.testBit 2 = true ∧ late.pw.hostSel = false ∧
    State.reset.clock < ((ring { firstAt := 1 }).ring 0).firstAt + ((((ring { firstAt := 1 }).ring 0).modTime * 1000 * 2 ^ 32 : Nat) : Int) := by
  decide +kernel

theorem hyp_MailboxAndRings_records :
    let s := ring {}
    let f := ring { producer := 64 }
    let o := ring { producer := 64, ctrl := 0x602 }
    let m := ring { modCount := 2, modTime := 1 }
    State.reset.host.staging = [] ∧ s.host.staging.head? = some ⟨default, 1, false⟩ ∧ (⟨default, 1, false⟩ : Staged).rings.testBit 0 = true ∧
    (⟨default, 1, false⟩ : Staged).rings.testBit 1 = false ∧ s.pcieWrites = true ∧ 64 ≤ ((f.ring 0).producer + 2 ^ 32 - (f.ring 0).consumer) % 2 ^ 32 ∧
    (f.ring 0).ctrl.testBit 1 = false ∧ (o.ring 0).ctrl.testBit 1 = true ∧ (s.ring 0).modCount ≤ (s.ring 0).unsignalled + 1 ∧
    (m.ring 0).unsignalled + 1 < (m.ring 0).modCount ∧ (m.ring 0).modTime ≠ 0 ∧ (m.ring 0).ctrl.testBit 3 = false := by decide +kernel

/-- With a full ring and policy 0 the record is dropped and counted (R489). -/
theorem test_ringFull : ((aft (.recordDelivery 0) (ring { producer := 64 })).ring 0).overflows = 1 ∧
    ((aft (.recordDelivery 0) (ring { producer := 63 })).ring 0).producer = 64 := by decide +kernel

/-! ### Chapter 15: the twin -/

/-- A unit with twin operation in force, in twin state `st`, link state `ls`, a second after its start. -/
def twin (st ls ball : Nat) (t : TwinSt) : State :=
  let s := cfg 2 [(TW_TWIN_STATE, st), (TWL_LINK_STATE, ls), (TW_PAIR_ID, 7), (TW_HOLDS_BALL, ball)] [(TW_TWIN_ENABLE, 1)]
  { s with twin := t, time := { s.time with free := ⟨1, 0, 0⟩, line := ⟨1, 0, 0⟩ } }

/-- A state copy. -/
def copy (seq : Nat) (hand : Bool) : TwinCopy := { (State.reset.capCopy 1) with seq := seq, handover := hand }

theorem hyp_TwinLinkAndBall :
    let s := twin twPlaying 2 1 { hbLost := false, partnerState := twBench }
    let f := twin twFenced 0 0 { keepers := 1 }
    s.twlRuns = true ∧ s.rd TWL_LINK_STATE = 2 ∧ (twin twPlaying 1 1 {}).rd TWL_LINK_STATE = 1 ∧ (twin twPlaying 0 1 {}).rd TWL_LINK_STATE = 0 ∧
    s.twin.crcRun < 3 ∧ (twin twPlaying 2 1 { crcRun := 3 }).twin.crcRun = 3 ∧ s.rd TW_HOLDS_BALL = 1 ∧
    ¬(s.clock < s.twin.leaseEnd - ((s.cf TW_LEASE_TIME * 20 * 2 ^ 32 : Nat) : Int)) ∧ f.twState = twFenced ∧
    f.twin.fencedAt + ((1000000 * 2 ^ 32 : Nat) : Int) ≤ f.clock ∧ s.admits (wq [1]) TW_HANDOVER ∧
    (s.arrived (wq [1])).twState = twPlaying ∧ (s.arrived (wq [1])).twin.partnerState = twBench ∧ (s.arrived (wq [1])).bitOf TW_TWIN_STATUS 4 = false ∧
    (twin twBench 2 0 { dribbleIn := true }).twState = twBench ∧ (twin twBench 2 0 { dribbleIn := true }).twin.dribbleIn = true := by
  unfold State.admits; decide +kernel

theorem hyp_TwinLinkAndBall_release :
    let s := twin twPlaying 2 1 { sending := some (copy 1 true) }
    (∃ c ∈ s.twin.sending, c.handover = true) ∧ s.twin.copyEnd ≤ s.clock ∧ s.rd TW_HOLDS_BALL = 1 ∧
    (∃ c ∈ (twin twPlaying 2 1 { sending := some (copy 1 false) }).twin.sending, c.handover = false) := by decide +kernel

/-- The fourth bad burst in a row loses the link (R537). -/
theorem test_twlBurst :
    (aft (.twlBurstReceive false 10) (twin twPlaying 2 1 { crcRun := 3 })).rd TWL_LINK_STATE = 1 ∧
    (aft (.twlBurstReceive false 10) (twin twPlaying 2 1 { crcRun := 2 })).rd TWL_LINK_STATE = 2 := by decide +kernel

theorem hyp_TwinCopiesAndClaims_copies :
    let p := twin twPlaying 2 1 {}
    let b := twin twBench 2 0 { hbLost := false, held := some (copy 1 false) }
    let stale := twin twStale 2 0 { hbLost := false }
    p.twState = twPlaying ∧ p.rd TWL_LINK_STATE = 2 ∧ p.twin.waiting = none ∧ State.reset.twinOn = false ∧ b.twinOn = true ∧
    b.twin.partnerCounter < (1 : BitVec 64).toNat ∧ (0 : BitVec 64).toNat ≤ b.twin.partnerCounter ∧ b.isBench = true ∧ b.pw.bootWait = false ∧
    (∀ h ∈ b.twin.held, h.seq < (copy 2 false).seq) ∧ (∃ h ∈ b.twin.held, (copy 1 false).seq ≤ h.seq) ∧ b.rd TWL_LINK_STATE = 2 ∧ p.twinDue = true ∧ ¬p.clock < p.twin.copyEnd ∧ b.twState = twBench ∧
    b.bitOf TW_TWIN_STATUS 4 = false ∧ stale.twState = twStale ∧ stale.rd TWL_LINK_STATE ≠ 0 ∧ stale.twin.hbLost = false ∧ p.twlRuns = true ∧
    p.rd TW_HOLDS_BALL = 1 := by decide +kernel

theorem hyp_TwinCopiesAndClaims_claims :
    let c := twin twClaiming 0 0 { claimFrom := twBench, held := some (copy 1 false) }
    let d := twin twClaiming 0 0 { claimFrom := twCheck, dribbleIn := true }
    let b := twin twBench 0 0 { hbLost := false }
    let ok := twin twBench 2 0 { hbLost := false }
    let k := twin twCheck 0 0 {}
    c.twState = twClaiming ∧ c.twin.claimAt + ((1000 * 2 ^ 32 : Nat) : Int) ≤ c.clock ∧ c.pw.bootWait = false ∧ c.twin.dribbleIn = false ∧ (∃ x ∈ c.twin.held, x.seq = 1) ∧ c.twin.claimFrom = twBench ∧
    d.twin.dribbleIn = true ∧ d.twin.claimFrom < 4 ∧ d.rd TW_HOLDS_BALL = 0 ∧ d.twin.held = none ∧ d.axState 0 ≠ axSetup ∧
    d.legSet 0 &&& d.tripped = 0 ∧ b.onBench = true ∧ b.linkFault = true ∧ b.twin.claimed = false ∧ ok.linkFault = false ∧
    ({ b with twin := { b.twin with claimed := true } } : State).twin.claimed = true ∧
    b.twin.hbAt + ((100000 * 2 ^ 32 : Nat) : Int) ≤ b.clock ∧ b.twin.dribbleIn = false ∧
    b.twin.copyAt + ((4 * b.cf TW_TWIN_PERIOD * tickU : Nat) : Int) ≤ b.clock ∧ k.twState = twCheck ∧ k.twin.decideAt ≤ k.clock ∧
    k.twin.checkAt + ((400000000 * 2 ^ 32 : Nat) : Int) ≤ k.clock ∧ (twin twPlaying 2 1 {}).dev = .op := by decide +kernel

theorem hyp_TwinCopiesAndClaims_trip :
    let s : State := { twin twClaiming 0 0 { claimFrom := twBench } with force := [(TW_TWIN_ENABLE, 1), (CC_MODE 0, 2), (CCL_LEG 0 0, 0), (TRIP_MASK 0, 2 ^ 48 - 1)] }
    let s : State := { s with regs := (TRIP_FLAGS, 1) :: s.regs }
    s.twin.held = none ∧ s.axState 0 ≠ axSetup ∧ (0 : Fin 32).val < 16 ∧ s.legSet 0 &&& s.tripped ≠ 0 := by decide +kernel

/-- A payload whose tag fails, or whose COUNTER is not new, is counted (R554). -/
theorem test_copyRejected :
    (aft (.copyReceive 1 false (copy 2 false)) (twin twBench 2 0 {})).rd TW_COPIES_REJECTED = 1 ∧
    (aft (.copyReceive 5 true (copy 2 false)) (twin twBench 2 0 { partnerCounter := 5 })).rd TW_COPIES_REJECTED = 1 := by decide +kernel

/-! ### Chapter 16: resets, rails, standby, mains and clocks -/

/-- The device state `dev` with power as given, a second after its start. -/
def pow (dev : Nat) (p : Power) (r : List (Nat × Nat)) : State :=
  let s := at_ dev r
  { s with pw := p, time := { s.time with free := ⟨10, 0, 0⟩, line := ⟨10, 0, 0⟩ } }

/-- Running: no reset is held. -/
def run : Power := { porstLow := false, held := false }

theorem hyp_ResetsAndBoot_reset :
    let off : Vector Bool 5 := Vector.replicate 5 false
    let s := pow 5 {} []
    let n := pow 5 { railUp := off } []
    let b := pow 0 { cause := 8 } []
    let w := pow 2 run []
    let h := pow 0 { porstLow := false } []
    s.dev = .standby ∧ s.pw.railsUp = true ∧ n.pw.railsUp = false ∧ b.dev ≠ .standby ∧ b.pw.held = true ∧ b.pw.cause = 8 ∧ w.dev = .op ∧
    w.pw.held = false ∧ h.pw.held = true ∧ h.pw.porstLow = false ∧ h.pw.warmLow = false ∧ h.pw.refAbsent = false ∧ h.pw.sysPllLost = false ∧
    h.pw.railsUp = true ∧ h.pw.releaseAt ≤ h.aonClock ∧ (pow 5 { porstLow := false } []).dev = .standby ∧ (pow 0 { porstLow := false, railUp := off } []).pw.railsUp = false ∧
    (pow 0 { porstLow := false, refAbsent := true } []).pw.refAbsent = true ∧ (pow 2 { run with sysPllLost := true } []).pw.sysPllLost = true := by
  decide +kernel

theorem hyp_ResetsAndBoot_requests :
    let s := pow 2 run []
    let q := pow 2 { run with swReset := true } []
    let w := wq [0x72, 0x73, 0x65, 0x74]
    s.admits w DEV_RESET_REQUEST ∧ w.data.length = 4 ∧ leNat w.data = 0x74657372 ∧ q.pw.swAt + ((1000000 * 2 ^ 32 : Nat) : Int) ≤ q.clock := by
  unfold State.admits; decide +kernel

theorem hyp_ResetsAndBoot_boot :
    let s := pow 0 { porstLow := false, held := false } [(FW_SLOT_A_STATE, 2)]
    let f := pow 0 { porstLow := false, held := false, slotFails := 1 } [(FW_BOOT_FAILS, 2), (FW_SLOT_A_STATE, 3)]
    s.booting = true ∧ s.slotRefused = false ∧ f.slotRefused = true ∧ State.reset.booting = false ∧ s.dict.stored = none ∧ s.rd TW_TWIN_STATE = twSingle ∧ (∀ n : Fin 32, s.axState n = axOff) ∧
    (s.rd FW_BOOT_FAILS + 1) % 2 ^ 32 < 3 ∧ ¬((f.rd FW_BOOT_FAILS + 1) % 2 ^ 32 < 3) ∧ f.booting = true ∧ f.pw.slotFails = 1 ∧ s.pw.slotFails = 0 := by
  decide +kernel

/-- Each reset shows its cause at the next boot (Table PS-4). -/
theorem test_resetCause : (aft (.warmrstN true) (pow 2 run [])).pw.cause = 2 ∧ (aft .ref25InAbsent (pow 2 run [])).pw.cause = 4 := by decide +kernel

theorem hyp_RailsAndStandby :
    let off : Vector Bool 5 := Vector.replicate 5 false
    let s := pow 1 run []
    let w := wq [0x73, 0x6c, 0x65, 0x70]
    let e := pow 0 { hv := true, railUp := off } []
    let l := pow 1 { run with stbyPrep := true } []
    s.dev ≠ .standby ∧ s.pw.railsUp = true ∧ e.pw.hv = true ∧ e.pw.aonUp = true ∧ e.pw.railsUp = false ∧ e.dev ≠ .standby ∧
    s.admits w STBY_STANDBY_REQUEST ∧ w.data.length = 4 ∧ leNat w.data = 0x70656C73 ∧ l.pw.stbyAt + (secU : Int) ≤ l.clock ∧
    F.lt (0x3f000000 : BitVec 32).toNat 0x3f333333 = true ∧ F.lt (0x3f333333 : BitVec 32).toNat 0x3f333333 = false := by
  unfold State.admits; decide +kernel

theorem hyp_RailsAndStandby_wake :
    let s (i : Nat) := pow 5 { wakeCfg := [(STBY_WAKE_ENABLE, 15), (STBY_WAKE_WINDOW 0, 4)] } (if i = 0 then [] else [(TRK_TRACK_COUNT 0, 4), (TRK_TRACK_LOST, 1)])
    let t : State := { s 1 with track := (s 1).track.set 0 { on := true } }
    (s 0).dev = .standby ∧ (s 0).rd STBY_LAST_WAKE = 0 ∧ (∀ i : Fin 4, ((s 0).pw.wakeCfg.get STBY_WAKE_ENABLE).testBit i = true) ∧
    (true == ((s 0).pw.wakeCfg.get STBY_WAKE_IN_POLARITY == 0) && decide (10 ≤ 10)) = true ∧
    (t.pw.wakeCfg.get (STBY_WAKE_WINDOW 0) != 0 && (at' t.track 0).on &&
      decide ((t.pw.wakeCfg.get (STBY_WAKE_WINDOW 0) : Int) ≤ absI (toS 32 (t.rd (TRK_TRACK_COUNT 0)) - at' t.pw.entryCount 0))) = true ∧
    lt96Units ((s 0).pw.wakeCfg.get STBY_ALARM) ≤ lt96Units ((s 0).rd CLKS_AON_TIME) ∧ t.rd TRK_TRACK_LOST ≠ 0 := by decide +kernel

theorem hyp_MainsAndClocks :
    let s := pow 2 { run with lossSpan := some (7, 9, 0) } [(MAINS_STATE, 1), (MAINS_HV_STATUS, 8)]
    let r := pow 2 { run with backSpan := some 1000000, vLast := [0], lossDue := true } [(MAINS_STATE, 2)]
    s.pw.aonUp = true ∧ s.pw.vLast = [] ∧ r.pw.vLast ≠ [] ∧ s.rd MAINS_STATE = 1 ∧ s.pw.lossSpan = some (7, 9, 0) ∧ r.pw.lossSpan = none ∧
    r.pw.lossDue = true ∧ r.rd MAINS_STATE = 2 ∧ r.pw.backSpan = some 1000000 ∧ s.pw.backSpan = none ∧ r.awake = true ∧ (pow 5 {} []).awake = false ∧
    s.bitOf MAINS_HV_STATUS 3 = true ∧ F.lt 0x3f19999a (0x40000000 : BitVec 32).toNat = true ∧ F.lt 0x3ee66666 0 = false ∧ F.lt 0x3f19999a 0 = false ∧
    overVstby 0x40000000 = true ∧ s.pw.timePllLost = false ∧ s.pw.railsUp = true ∧ s.cf MAINS_SUPPLY_KIND = 0 ∧
    (cfg 2 [] [(MAINS_SUPPLY_KIND, 1)]).cf MAINS_SUPPLY_KIND = 1 := by decide +kernel

/-- MAINS_STATE reads LOST once the envelope has stayed below the loss level for LOSS_CONFIRM (R581). -/
theorem test_mainsLoss :
    (aft (.mainsLoss true) (pow 2 { run with lossSpan := some (7, 9, 0) } [(MAINS_STATE, 1)])).rd MAINS_STATE = 2 ∧
    (aft (.mainsLoss true) (pow 2 run [(MAINS_STATE, 1)])).rd MAINS_STATE = 1 := by decide +kernel

/-! ### Chapter 17: calibration -/

theorem hyp_CalibrationSet_save :
    let s := pow 1 run []
    let w := wq [0x73, 0x63, 0x61, 0x6c]
    let saving : State := { s with dict := { s.dict with calSaving := some ([], 1) } }
    s.admits w CAL_SAVE ∧ w.data.length = 4 ∧ leNat w.data = 0x6C616373 ∧ (∀ k ∈ calKeys, calRange k ((s.arrived w).calWork.get k) = true) ∧
    (∃ k ∈ calKeys, calRange k (((pow 1 run (calKeys.map (fun k => (k, 0x7f800000)))).arrived w).calWork.get k) = false) ∧
    saving.dict.calSaving = some ([], 1) ∧ s.dict.calSaving = none ∧ s.served = true ∧ (pow 2 run []).dev ≠ .preop ∧ s.admits (wq [1]) CAL_DISCARD ∧
    3 ≤ Role.level ((s.arrived w).writeRole 0) ∧ 1 ≤ Role.level ((s.arrived w).readRole 0) ∧ (pow 0 run []).booting = true := by
  unfold State.admits; decide +kernel

theorem hyp_CalibrationSet_import : let s := pow 1 run []
    s.admits (wq (List.replicate 16608 0)) CAL_IMPORT ∧ (s.arrived (wq [])).calState = true ∧ State.calState (pow 2 run []) = false := by
  unfold State.admits; decide +kernel

/-! ### Well-formedness: for each check an ill-formed term that it refuses -/

theorem wf_verdict : Verdict.wf vd0 = true ∧ Verdict.wf { vd0 with reporting := 32 } = false ∧ Verdict.wf { vd0 with oc := 2 ^ 32 } = false ∧
    Verdict.wf { vd0 with md := 2 ^ 32 } = false := by decide
theorem wf_peer : Peer.wf ⟨1, 2, 3, 0⟩ = true ∧ Peer.wf ⟨2 ^ 48, 2, 3, 0⟩ = false ∧ Peer.wf ⟨1, 2 ^ 32, 3, 0⟩ = false ∧ Peer.wf ⟨1, 2, 2 ^ 16, 0⟩ = false := by decide
theorem wf_request : Instr.wf (.commit (wq [1])) = true ∧ Instr.wf (.commit { wq [1] with session := 2 ^ 16 }) = false ∧
    Instr.wf (.commit { wq [1] with reqId := 2 ^ 16 }) = false ∧ Instr.wf (.commit { wq [1] with fresh := 2 ^ 32 }) = false ∧
    Instr.wf (.commit { wq [1] with peer := ⟨2 ^ 48, 0, 0, 0⟩ }) = false ∧ Instr.wf (.commit { wq [1] with vd := { vd0 with reporting := 32 } }) = false := by decide
theorem wf_datagram : Instr.wf (.quinupRead (dg [])) = true ∧ Instr.wf (.quinupRead { dg [] with magic := 2 ^ 16 }) = false ∧
    Instr.wf (.quinupRead { dg [] with index := 2 ^ 16 }) = false ∧ Instr.wf (.quinupWrite { dg [] with sub := 256 }) = false ∧
    Instr.wf (.quinupSession { dg [] with fresh := 2 ^ 32 }) = false ∧ Instr.wf (.quinupReadSegment { dg [] with segOffset := 2 ^ 32 }) = false ∧
    Instr.wf (.quinupWriteSegment { dg [] with dataLength := 2 ^ 16 }) = false := by decide
theorem wf_packet : Instr.wf (.unlock (wq []) (pkt 7)) = true ∧ Instr.wf (.unlock (wq []) { pkt 7 with typ := 256 }) = false ∧
    Instr.wf (.unlock (wq []) { pkt 7 with target := 2 ^ 64 }) = false ∧ Instr.wf (.unlock (wq []) { pkt 7 with counter := 2 ^ 64 }) = false ∧
    Instr.wf (.unlock (wq []) { pkt 7 with nonce := 2 ^ 256 }) = false ∧ Instr.wf (.unlock (wq []) { pkt 7 with signer := (BitVec.allOnes 384).toNat + 1 }) = false ∧
    Instr.wf (.unlock (wq []) { pkt 7 with reporting := 32 }) = false := by decide
theorem wf_ptp : let a : Announce := ⟨128, 248, 254, 65535, 128, 0, 0, 0, 1, 0, 37, 160⟩
    a.wf = true ∧ Announce.wf { a with priority1 := 256 } = false ∧ Announce.wf { a with identity := 2 ^ 64 } = false ∧
    Announce.wf { a with sender := 2 ^ 80 } = false ∧ Announce.wf { a with timeSource := 256 } = false := by decide
theorem wf_pass : let p : PassPdu := ⟨1, 1, 0, 0, 1, 0, 0, 0, 0, 0, 0, 0, 1000, 0⟩
    p.wf = true ∧ PassPdu.wf { p with master := 256 } = false ∧ PassPdu.wf { p with sequence := 2 ^ 32 } = false ∧
    PassPdu.wf { p with t0Ns := 1000000000 } = false ∧ PassPdu.wf { p with validity := 2 ^ 32 } = false := by decide
theorem wf_wave : Instr.wf (.ssiTransfer 0 ⟨true, [1, 2, 3]⟩ 0) = true ∧ Instr.wf (.ssiTransfer 0 ⟨true, [1, 3, 3]⟩ 0) = false := by decide
theorem wf_bytes : frameWf [] = false ∧ frameWf [0] = true ∧ canWf (List.replicate 65 0) = false ∧ canWf (List.replicate 64 0) = true ∧
    busWf [] = false ∧ busWf (List.replicate 257 0) = false := by decide +kernel
theorem wf_sync : let m : SyncMsg := ⟨1, false, 0, 999999999, 0, 0, default, 0, 0, false⟩
    m.wf = true ∧ SyncMsg.wf { m with originNs := 1000000000 } = false ∧ SyncMsg.wf { m with originSec := 2 ^ 48 } = false := by decide

/-- No row of the table gives its command bits (the block is not driven by instruction words). -/
theorem test_words : decodeTableWord 32 0 = none ∧ State.reset.withFetchWord 32 0 = State.reset := ⟨rfl, rfl⟩

end Sys2Proof.Tests
end

section
/-! SUPPORT. What every command keeps, and from it the ranges of the clocks at every step. -/
namespace Sys2Proof.Machine
open Sys2Proof Obj

/-! ### The parts that change -/

/-- The mask of a list of parts. -/
def partMask (l : List Part) : Nat := l.foldl (fun m p => m ||| 2 ^ p.idx) 0

theorem Part.idx_injective {p q : Part} (h : p.idx = q.idx) : p = q := by
  have hof (x : Part) : Part.ofNat x.idx = x := by cases x <;> rfl
  rw [← hof p, h, hof]

theorem testBit_partMask (l : List Part) (i : Nat) : (partMask l).testBit i = true ↔ ∃ p ∈ l, p.idx = i := by
  have hfold (m : Nat) : (l.foldl (fun m p => m ||| 2 ^ p.idx) m).testBit i = true ↔ m.testBit i = true ∨ ∃ p ∈ l, p.idx = i := by
    induction l generalizing m with
    | nil => simp
    | cons p l ih => simp [ih, Nat.testBit_or, Nat.testBit_two_pow, or_assoc]
  exact (hfold 0).trans (by simp)

/-- What keeps all but the parts of a list changes only them. -/
theorem Keeps.onlyIn {l : List Part} {s t : State} (h : Keeps (partMask l) s t) : s.onlyIn l t := by
  intro p hp
  refine h.same p (Bool.eq_false_iff.mpr fun hb => hp ?_)
  obtain ⟨q, hq, he⟩ := (testBit_partMask l p.idx).mp hb
  exact Part.idx_injective he ▸ hq

/-! ### What every command keeps -/

/-- What keeps all but the parts of a command's mask keeps all but the parts that `Claims.touches` lists for it. -/
theorem Runs.within {n : Nat} {s : State} {o : Host.Outcome State Fault Refusal} {c : Instr} (h : Runs n s o)
    (hm : n ||| partMask (Claims.touches c) = partMask (Claims.touches c) := by dsimp only [Claims.touches]; decide) :
    Runs (partMask (Claims.touches c)) s o :=
  let ⟨t, e, k⟩ := h
  ⟨t, e, k.lift hm (Keeps.refl _ s)⟩

/-- Every command answers a next state, changes only the parts that `Claims.touches` lists for it, and keeps the canonical forms
and the ranges of the clocks. -/
theorem exec_keeps (c : Instr) (s : State) : Runs (partMask (Claims.touches c)) s (exec c s) :=
  match c with
  | .porstNRelease => (execPorstNRelease_keeps ..).within
  | .bootComplete _ _ _ => (execBootComplete_keeps ..).within
  | .bootFailure => (execBootFailure_keeps ..).within
  | .ref25InAbsent => (execRef25InAbsent_keeps ..).within
  | .sysPllLoss => (execSysPllLoss_keeps ..).within
  | .timePllLoss => (execTimePllLoss_keeps ..).within
  | .timePllRelock => (execTimePllRelock_keeps ..).within
  | .ethPllLoss => (execEthPllLoss_keeps ..).within
  | .tamperReport _ => (execTamperReport_keeps ..).within
  | .deviceStart _ => (execDeviceStart_keeps ..).within
  | .deviceStop _ => (execDeviceStop_keeps ..).within
  | .deviceResetSafe _ => (execDeviceResetSafe_keeps ..).within
  | .scheduleSlewEnd => (execScheduleSlewEnd_keeps ..).within
  | .frameReceive _ _ _ _ _ _ => (execFrameReceive_keeps ..).within
  | .frameTransmit _ _ => (execFrameTransmit_keeps ..).within
  | .addressAgeing _ => (execAddressAgeing_keeps ..).within
  | .ptpSyncReceive _ _ => (execPtpSyncReceive_keeps ..).within
  | .domainAbsent _ => (execDomainAbsent_keeps ..).within
  | .requalifyTimeExpiry _ => (execRequalifyTimeExpiry_keeps ..).within
  | .domainRevert _ => (execDomainRevert_keeps ..).within
  | .selectRequest _ => (execSelectRequest_keeps ..).within
  | .tuIncrement _ => (execTuIncrement_keeps ..).within
  | .tuOffsetAdd _ => (execTuOffsetAdd_keeps ..).within
  | .offsetAddApply => (execOffsetAddApply_keeps ..).within
  | .lineTimeSlewEnd => (execLineTimeSlewEnd_keeps ..).within
  | .ppsInEdge _ => (execPpsInEdge_keeps ..).within
  | .todSeconds _ => (execTodSeconds_keeps ..).within
  | .ppsOutPulse _ => (execPpsOutPulse_keeps ..).within
  | .lineTimeAlarm _ => (execLineTimeAlarm_keeps ..).within
  | .alarmEnable _ => (execAlarmEnable_keeps ..).within
  | .echoOrArpRequest _ _ => (execEchoOrArpRequest_keeps ..).within
  | .quinupRead _ => (execQuinupRead_keeps ..).within
  | .quinupWrite _ => (execQuinupWrite_keeps ..).within
  | .quinupReadSegment _ => (execQuinupReadSegment_keeps ..).within
  | .quinupWriteSegment _ => (execQuinupWriteSegment_keeps ..).within
  | .quinupSession _ => (execQuinupSession_keeps ..).within
  | .passFrameReceive _ _ _ _ _ _ => (execPassFrameReceive_keeps ..).within
  | .quadTransition _ _ _ _ => (execQuadTransition_keeps ..).within
  | .ssiTransfer _ _ _ => (execSsiTransfer_keeps ..).within
  | .hybridReference _ _ _ => (execHybridReference_keeps ..).within
  | .hybridCheck _ _ _ => (execHybridCheck_keeps ..).within
  | .sincosConversion _ _ => (execSincosConversion_keeps ..).within
  | .indexEvent _ _ _ => (execIndexEvent_keeps ..).within
  | .indexArm _ _ => (execIndexArm_keeps ..).within
  | .trackerSample _ _ => (execTrackerSample_keeps ..).within
  | .latchEvent _ _ _ => (execLatchEvent_keeps ..).within
  | .arm _ _ => (execArm_keeps ..).within
  | .next _ _ => (execNext_keeps ..).within
  | .emuSourceSample _ => (execEmuSourceSample_keeps ..).within
  | .ssiTargetTransfer _ _ _ => (execSsiTargetTransfer_keeps ..).within
  | .ssiMonoflop _ => (execSsiMonoflop_keeps ..).within
  | .currentCellSample _ _ _ _ => (execCurrentCellSample_keeps ..).within
  | .reload _ _ => (execReload_keeps ..).within
  | .modFault _ => (execModFault_keeps ..).within
  | .overcurrent _ _ => (execOvercurrent_keeps ..).within
  | .ocFlags _ _ => (execOcFlags_keeps ..).within
  | .delayLineCalibration _ _ => (execDelayLineCalibration_keeps ..).within
  | .trip _ => (execTrip_keeps ..).within
  | .tripFlags _ => (execTripFlags_keeps ..).within
  | .directEnable _ _ => (execDirectEnable_keeps ..).within
  | .loadAll _ => (execLoadAll_keeps ..).within
  | .loadTransfer _ _ => (execLoadTransfer_keeps ..).within
  | .ccMode _ _ => (execCcMode_keeps ..).within
  | .vddCoreLow _ => (execVddCoreLow_keeps ..).within
  | .l2Sample _ => (execL2Sample_keeps ..).within
  | .l3Sample _ => (execL3Sample_keeps ..).within
  | .l4Sample _ => (execL4Sample_keeps ..).within
  | .virtualTick _ => (execVirtualTick_keeps ..).within
  | .outputInstant _ _ => (execOutputInstant_keeps ..).within
  | .deadlineMiss _ _ _ => (execDeadlineMiss_keeps ..).within
  | .swapRequest _ _ => (execSwapRequest_keeps ..).within
  | .bankSwap _ _ => (execBankSwap_keeps ..).within
  | .admitCheck _ => (execAdmitCheck_keeps ..).within
  | .switchOn _ _ _ => (execSwitchOn_keeps ..).within
  | .switchOff _ _ _ => (execSwitchOff_keeps ..).within
  | .enable _ _ _ => (execEnable_keeps ..).within
  | .disable _ _ _ => (execDisable_keeps ..).within
  | .setup _ _ _ => (execSetup_keeps ..).within
  | .move _ _ _ => (execMove_keeps ..).within
  | .velocity _ _ _ => (execVelocity_keeps ..).within
  | .replace _ _ _ => (execReplace_keeps ..).within
  | .stop _ _ _ => (execStop_keeps ..).within
  | .quickStop _ _ _ => (execQuickStop_keeps ..).within
  | .home _ _ _ => (execHome_keeps ..).within
  | .follow _ _ _ => (execFollow_keeps ..).within
  | .resetFault _ _ _ => (execResetFault_keeps ..).within
  | .badCommand _ _ _ _ => (execBadCommand_keeps ..).within
  | .classAFault _ _ => (execClassAFault_keeps ..).within
  | .classBFault _ _ => (execClassBFault_keeps ..).within
  | .targetVelocity _ _ => (execTargetVelocity_keeps ..).within
  | .profileParameterWrite _ _ _ => (execProfileParameterWrite_keeps ..).within
  | .homingTimeout _ => (execHomingTimeout_keeps ..).within
  | .passComesIntoForce _ => (execPassComesIntoForce_keeps ..).within
  | .passValidityEnd _ => (execPassValidityEnd_keeps ..).within
  | .graceTimeExpiry _ => (execGraceTimeExpiry_keeps ..).within
  | .commonStopEnd _ => (execCommonStopEnd_keeps ..).within
  | .publishInstant _ => (execPublishInstant_keeps ..).within
  | .canPassFrame _ _ _ _ _ => (execCanPassFrame_keeps ..).within
  | .passPartnerTimeout _ => (execPassPartnerTimeout_keeps ..).within
  | .gearRatioWrite _ _ _ => (execGearRatioWrite_keeps ..).within
  | .camNext _ _ => (execCamNext_keeps ..).within
  | .tableDataWrite _ _ _ => (execTableDataWrite_keeps ..).within
  | .finish _ _ => (execFinish_keeps ..).within
  | .regReset _ _ => (execRegReset_keeps ..).within
  | .acqStart _ => (execAcqStart_keeps ..).within
  | .acqStop _ => (execAcqStop_keeps ..).within
  | .acqForce _ => (execAcqForce_keeps ..).within
  | .rawSample _ => (execRawSample_keeps ..).within
  | .holdoffEnd => (execHoldoffEnd_keeps ..).within
  | .segmentReady => (execSegmentReady_keeps ..).within
  | .segReleased _ => (execSegReleased_keeps ..).within
  | .v24Ok _ _ => (execV24Ok_keeps ..).within
  | .v24Lost _ => (execV24Lost_keeps ..).within
  | .diTransition _ _ _ => (execDiTransition_keeps ..).within
  | .wireBreak _ => (execWireBreak_keeps ..).within
  | .doSet _ => (execDoSet_keeps ..).within
  | .doShort _ _ => (execDoShort_keeps ..).within
  | .doShortClear _ => (execDoShortClear_keeps ..).within
  | .totalOverload => (execTotalOverload_keeps ..).within
  | .openLoad _ _ => (execOpenLoad_keeps ..).within
  | .ainConversion _ _ _ => (execAinConversion_keeps ..).within
  | .claim _ _ _ => (execClaim_keeps ..).within
  | .transfer _ _ _ => (execTransfer_keeps ..).within
  | .sealedParams _ _ _ => (execSealedParams_keeps ..).within
  | .keyLoad _ _ _ => (execKeyLoad_keeps ..).within
  | .revoke _ _ _ => (execRevoke_keeps ..).within
  | .twinPairing _ _ _ _ => (execTwinPairing_keeps ..).within
  | .unlock _ _ => (execUnlock_keeps ..).within
  | .debugUnlock _ _ _ _ => (execDebugUnlock_keeps ..).within
  | .physicalRelease => (execPhysicalRelease_keeps ..).within
  | .claimWindowExpiry => (execClaimWindowExpiry_keeps ..).within
  | .hello _ _ _ => (execHello_keeps ..).within
  | .sessionFinish _ => (execSessionFinish_keeps ..).within
  | .sessionClose _ _ => (execSessionClose_keeps ..).within
  | .sessionIdle _ => (execSessionIdle_keeps ..).within
  | .certificateExpiry _ => (execCertificateExpiry_keeps ..).within
  | .fwImage _ _ => (execFwImage_keeps ..).within
  | .nextSlot _ => (execNextSlot_keeps ..).within
  | .fwConfirm _ => (execFwConfirm_keeps ..).within
  | .debugExpiry => (execDebugExpiry_keeps ..).within
  | .trngFailure => (execTrngFailure_keeps ..).within
  | .auditExport _ => (execAuditExport_keeps ..).within
  | .objectWrite _ _ _ => (execObjectWrite_keeps ..).within
  | .commit _ => (execCommit_keeps ..).within
  | .commitTakeEffect => (execCommitTakeEffect_keeps ..).within
  | .store _ => (execStore_keeps ..).within
  | .storeComplete => (execStoreComplete_keeps ..).within
  | .restoreDefaults _ => (execRestoreDefaults_keeps ..).within
  | .segmentTimeout _ _ _ _ => (execSegmentTimeout_keeps ..).within
  | .sdoFrame _ _ _ _ _ => (execSdoFrame_keeps ..).within
  | .handshake _ _ => (execHandshake_keeps ..).within
  | .pdFrameReceive _ _ _ _ _ => (execPdFrameReceive_keeps ..).within
  | .canPdoReceive _ _ _ _ _ => (execCanPdoReceive_keeps ..).within
  | .pdApply _ _ => (execPdApply_keeps ..).within
  | .pdTransmit _ => (execPdTransmit_keeps ..).within
  | .rxTimeout _ => (execRxTimeout_keeps ..).within
  | .pciePerst _ => (execPciePerst_keeps ..).within
  | .pcieLinkDown _ => (execPcieLinkDown_keeps ..).within
  | .pcieLinkRestored _ => (execPcieLinkRestored_keeps ..).within
  | .bar0ReadFreeze _ _ => (execBar0ReadFreeze_keeps ..).within
  | .freezeExpiry _ => (execFreezeExpiry_keeps ..).within
  | .bar0Write _ _ _ _ => (execBar0Write_keeps ..).within
  | .mbxSubmit _ _ => (execMbxSubmit_keeps ..).within
  | .mbxComplete => (execMbxComplete_keeps ..).within
  | .flush => (execFlush_keeps ..).within
  | .ringEnable _ _ => (execRingEnable_keeps ..).within
  | .consumer _ _ => (execConsumer_keeps ..).within
  | .recordDelivery _ => (execRecordDelivery_keeps ..).within
  | .ringSignalTimeout _ => (execRingSignalTimeout_keeps ..).within
  | .canFrameReceive _ _ _ _ _ _ _ => (execCanFrameReceive_keeps ..).within
  | .txRequest _ _ _ => (execTxRequest_keeps ..).within
  | .cancel _ _ _ => (execCancel_keeps ..).within
  | .canTransmitComplete _ _ _ => (execCanTransmitComplete_keeps ..).within
  | .canTxFailure _ _ => (execCanTxFailure_keeps ..).within
  | .recover _ _ => (execRecover_keeps ..).within
  | .busOffRecovered _ => (execBusOffRecovered_keeps ..).within
  | .canBusJoin _ => (execCanBusJoin_keeps ..).within
  | .mstTx _ _ => (execMstTx_keeps ..).within
  | .masterTransferDone _ _ => (execMasterTransferDone_keeps ..).within
  | .modeFault _ => (execModeFault_keeps ..).within
  | .targetNop _ _ _ => (execTargetNop_keeps ..).within
  | .targetWrite _ _ _ _ _ _ _ => (execTargetWrite_keeps ..).within
  | .readReq _ _ _ _ _ => (execReadReq_keeps ..).within
  | .readData _ _ _ => (execReadData_keeps ..).within
  | .fetchComplete _ => (execFetchComplete_keeps ..).within
  | .framing _ _ _ => (execFraming_keeps ..).within
  | .twlTrainingComplete _ _ => (execTwlTrainingComplete_keeps ..).within
  | .twlLinkLoss _ _ => (execTwlLinkLoss_keeps ..).within
  | .twlBurstReceive _ _ => (execTwlBurstReceive_keeps ..).within
  | .leaseRenewal _ => (execLeaseRenewal_keeps ..).within
  | .leaseExpiry => (execLeaseExpiry_keeps ..).within
  | .fenceReset => (execFenceReset_keeps ..).within
  | .keeperRelease _ => (execKeeperRelease_keeps ..).within
  | .handover _ => (execHandover_keeps ..).within
  | .handoverRelease => (execHandoverRelease_keeps ..).within
  | .twinInstant _ => (execTwinInstant_keeps ..).within
  | .copyReceive _ _ _ => (execCopyReceive_keeps ..).within
  | .heartbeatSend => (execHeartbeatSend_keeps ..).within
  | .heartbeatReceive _ _ _ _ _ => (execHeartbeatReceive_keeps ..).within
  | .heartbeatTimeout => (execHeartbeatTimeout_keeps ..).within
  | .copyStaleTimeout => (execCopyStaleTimeout_keeps ..).within
  | .dribbleSilence => (execDribbleSilence_keeps ..).within
  | .contestCheckEnd _ _ => (execContestCheckEnd_keeps ..).within
  | .partitionFault _ => (execPartitionFault_keeps ..).within
  | .twinCheckDecision => (execTwinCheckDecision_keeps ..).within
  | .twinCheckTimeout => (execTwinCheckTimeout_keeps ..).within
  | .railLoss _ _ _ => (execRailLoss_keeps ..).within
  | .standbyEntry => (execStandbyEntry_keeps ..).within
  | .brownout _ _ => (execBrownout_keeps ..).within
  | .vaonLoss => (execVaonLoss_keeps ..).within
  | .mainsSample _ => (execMainsSample_keeps ..).within
  | .mainsLoss _ => (execMainsLoss_keeps ..).within
  | .mainsReturn => (execMainsReturn_keeps ..).within
  | .vstbyOverload _ => (execVstbyOverload_keeps ..).within
  | .vstbyRetry => (execVstbyRetry_keeps ..).within
  | .vstbyLow _ => (execVstbyLow_keeps ..).within
  | .xt32Window _ => (execXt32Window_keeps ..).within
  | .aonTimeSet => (execAonTimeSet_keeps ..).within
  | .crystalStop => (execCrystalStop_keeps ..).within
  | .warmrstN _ => (execWarmrstN_keeps ..).within
  | .resetRequest _ => (execResetRequest_keeps ..).within
  | .softwareReset => (execSoftwareReset_keeps ..).within
  | .standbyRequest _ => (execStandbyRequest_keeps ..).within
  | .standbyRequestLapse => (execStandbyRequestLapse_keeps ..).within
  | .wake _ _ => (execWake_keeps ..).within
  | .tjWarning _ => (execTjWarning_keeps ..).within
  | .calSave _ => (execCalSave_keeps ..).within
  | .calSaveComplete => (execCalSaveComplete_keeps ..).within
  | .calImport _ => (execCalImport_keeps ..).within
  | .calDiscard _ => (execCalDiscard_keeps ..).within
  | .calExport _ => (execCalExport_keeps ..).within
  | .timePllTick => (execTimePllTick_keeps ..).within
  | .ref25InReturn _ _ => (execRef25InReturn_keeps ..).within
  | .sysPllRelock => (execSysPllRelock_keeps ..).within
  | .ethPllRelock => (execEthPllRelock_keeps ..).within
  | .ethLinkChange _ _ => (execEthLinkChange_keeps ..).within
  | .ptpMessageReceive _ _ => (execPtpMessageReceive_keeps ..).within
  | .ptpMessageInterval _ _ _ => (execPtpMessageInterval_keeps ..).within
  | .controlRailUp _ _ _ => (execControlRailUp_keeps ..).within
  | .internalResetRelease _ _ => (execInternalResetRelease_keeps ..).within
  | .resetHoldTimeout => (execResetHoldTimeout_keeps ..).within
  | .alwaysOnDomainStart _ _ => (execAlwaysOnDomainStart_keeps ..).within
  | .vaonSourceChange _ => (execVaonSourceChange_keeps ..).within
  | .pciePerstNRelease => (execPciePerstNRelease_keeps ..).within
  | .canReceiveError _ _ => (execCanReceiveError_keeps ..).within
  | .cmdError _ _ => (execCmdError_keeps ..).within
  | .twlReceiveClockReturn => (execTwlReceiveClockReturn_keeps ..).within
  | .dribbleSeen => (execDribbleSeen_keeps ..).within
  | .wireBreakClear _ => (execWireBreakClear_keeps ..).within
  | .tjWarnClear _ => (execTjWarnClear_keeps ..).within
  | .packetIn _ => (execPacketIn_keeps ..).within

/-- What a step leads to: the same state on an empty queue, else what the command at the front makes of the state with the rest of
the queue. -/
theorem step_keeps {s t : State} (h : step s = .next t) :
    t = s ∨ ∃ c rest, s.pending = c :: rest ∧ Keeps (partMask (Claims.touches c)) (s.withPending rest) t := by
  unfold step at h
  split at h
  case h_1 => exact .inl (Host.Outcome.next.inj h).symm
  case h_2 c rest hp =>
    obtain ⟨u, hu, hk⟩ := exec_keeps c (s.withPending rest)
    obtain rfl := Host.Outcome.next.inj (hu.symm.trans h)
    exact .inr ⟨c, rest, hp, hk⟩

/-- Settles O4: each command keeps the ranges of the clocks (`exec_keeps`), and taking it from the queue touches no clock. -/
theorem clocksStayInRange : Obligations.ClocksStayInRange := by
  unfold Obligations.ClocksStayInRange
  intro s t hs ht
  obtain rfl | ⟨c, rest, -, hk⟩ := step_keeps ht
  · exact hs
  · exact hk.clocks hs

end Sys2Proof.Machine
end

section
/-! SUPPORT. The host port: a 64-bit read of BAR0 whose freeze outlives it. -/
namespace Sys2Proof.Machine
open Sys2Proof Obj

/-- Segments of 20 bytes: the upper word of the 64-bit field at offset 16 lies beyond the only segment. START writes multiples of 8
to SEG_BYTES; the statement speaks of every state. -/
def oddSegments : State := State.reset.wr ACQ_SEG_BYTES 20

/-- The lower word of the field belongs to it, the upper word to none. -/
theorem oddSegments_barField : oddSegments.barField 0x300010 = some (0x300010, 2) ∧ oddSegments.barField 0x300014 = none := by
  decide +kernel

/-- The 64-bit read freezes the upper word at its lower half, and its upper half does not take the frozen word. -/
theorem oddSegments_wideRead_frozen {t : State} (h : exec (.bar0ReadFreeze 0x300010 true) oddSegments = .next t) :
    t.host.frozen.find? (fun x => x.field == 0x300010) ≠ none := by
  obtain rfl := Host.Outcome.next.inj h
  decide +kernel

/-- Refutes O53: a 64-bit read of an aligned field need not end the freeze of that field, where segments are no whole number of
64-bit words long (`oddSegments`). -/
theorem not_hostLink : ¬ Obligations.HostLink := by
  unfold Obligations.HostLink
  intro h
  obtain ⟨-, -, -, hwide, -⟩ := h.1 oddSegments 0x300010
  obtain ⟨t, ht, -, hnone⟩ := hwide _ oddSegments_barField.1 rfl (by decide)
  exact oddSegments_wideRead_frozen ht hnone

end Sys2Proof.Machine
end

section
/-! SUPPORT. The object-dictionary server: a write that passes its checks, what the write of a number does, and which objects are
persistent. -/
namespace Sys2Proof.Machine
open Sys2Proof Obj

/-! ### A write that passes its checks -/

/-- Taking a request's FRESHNESS leaves the response key of every session. -/
theorem State.arrived_respKey (s : State) (w : Wr) (id : Nat) : (s.arrived w).respKey id = s.respKey id := by
  unfold State.arrived State.acceptFresh
  split
  · rfl
  · unfold State.respKey State.session State.modSession
    rw [List.find?_map]
    have hid : ((fun x : Session => x.id == id) ∘ fun x : Session => if x.id = w.session then
        { x with fresh := w.fresh, accepted := some (w.reqId, w.fresh), failRun := false, usedAt := s.clock } else x) =
        fun x => x.id == id := by
      funext x
      dsimp only [Function.comp]
      split <;> rfl
    rw [hid]
    cases s.sec.sessions.find? (fun x => x.id == id) with
    | none => rfl
    | some x =>
      dsimp only [Option.map]
      split <;> rfl

/-- An answer goes to the same requester with the same key while the enclave is as the request found it. -/
theorem State.ctxOf_of_sec {s u : State} {w : Wr} (h : u.sec = (s.arrived w).sec) (i j : Nat) : u.ctxOf w i j = s.ctxOf w i j := by
  have hk : u.respKey w.session = s.respKey w.session := by
    rw [← State.arrived_respKey s w]
    unfold State.respKey State.session
    rw [h]
  rw [State.ctxOf, State.ctxOf, hk]

/-- A request that its session's check lets through is executed. -/
theorem State.gated_go {s : State} {c : Ctx} {macOk : Bool} (f : State → State)
    (h : s.gate c.chan c.session c.reqId c.fresh macOk = .go) :
    s.gated c macOk f = f (s.acceptFresh c.session c.reqId c.fresh) := by
  unfold State.gated
  rw [h]

/-- A request that finds room in the queue of its channel is answered with the code that its write gives. -/
theorem State.writeRequest_answered {s u : State} {c : Ctx} {vd : Verdict} {b : Bytes} {code : Nat} (hh : s.held c.chan < 8)
    (hw : s.writeObject (some c) (s.writeRole c.session) c.session vd c.index c.sub b = (u, some code)) :
    s.writeRequest c vd b = u.answer c code [] := by
  unfold State.writeRequest
  rw [if_neg (Nat.not_le.mpr hh), hw]

/-- A write whose first five checks pass, and whose object nobody else writes in segments, goes on to check 6. -/
theorem State.writeObject_passed {s : State} {ctx : Option Ctx} {role : Role} {session i j : Nat} {vd : Verdict} {b : Bytes} {r : Row}
    (hc : s.writeAccess role i j = 0) (ho : s.openElsewhere (i * 256 + j) = false) (hr : findRow i j = some r) :
    s.writeObject ctx role session vd i j b = s.writeValue ctx session vd r i j b := by
  unfold State.writeObject
  simp only [hc, ho, hr]
  rfl

/-- A request that passes its checks is answered with what checks 6 to 8 and the effect of the write give. -/
theorem State.rowWrite_of_admits {s u : State} {w : Wr} {k code : Nat} {r : Row} {b : Bytes} (ha : s.admits w k)
    (hr : findRow (k / 256) (k % 256) = some r)
    (hv : (s.arrived w).writeValue (some (s.ctxOf w (k / 256) (k % 256))) w.session w.vd r (k / 256) (k % 256) b = (u, some code)) :
    s.rowWrite w k b = u.answer (s.ctxOf w (k / 256) (k % 256)) code [] := by
  obtain ⟨hs, hg, hh, hc, ho⟩ := ha
  have ho' : (s.arrived w).openElsewhere (k / 256 * 256 + k % 256) = false := by rwa [Nat.div_add_mod']
  unfold State.rowWrite
  dsimp only
  rw [hs, Bool.not_true, if_neg Bool.false_ne_true, State.gated_go _ hg]
  exact State.writeRequest_answered hh ((State.writeObject_passed hc ho' hr).trans hv)

/-- The index and the subindex of an object's key. -/
theorem objectKey_div (i : BitVec 16) (j : BitVec 8) : (i.toNat * 256 + j.toNat) / 256 = i.toNat := by omega

theorem objectKey_mod (i : BitVec 16) (j : BitVec 8) : (i.toNat * 256 + j.toNat) % 256 = j.toNat := by omega

theorem findRow_objectKey {i : BitVec 16} {j : BitVec 8} {r : Row} (h : findRow i.toNat j.toNat = some r) :
    findRow ((i.toNat * 256 + j.toNat) / 256) ((i.toNat * 256 + j.toNat) % 256) = some r := by
  rwa [objectKey_div, objectKey_mod]

/-- A write that checks 6 to 8 accept is answered with success. -/
theorem written_of_writeValue {s u : State} {w : Wr} {i : BitVec 16} {j : BitVec 8} {r : Row} {p : State → Prop}
    (ha : s.admits w (i.toNat * 256 + j.toNat)) (hr : findRow i.toNat j.toNat = some r)
    (hv : ∀ ctx, (s.arrived w).writeValue ctx w.session w.vd r i.toNat j.toNat w.data = (u, some 0))
    (hsec : u.sec = (s.arrived w).sec) (hp : p u) : Written (.objectWrite w i j) s w (i.toNat * 256 + j.toNat) p := by
  refine ⟨u, ?_, hp⟩
  have h := State.rowWrite_of_admits (b := w.data) ha (findRow_objectKey hr) (by rw [objectKey_div, objectKey_mod]; exact hv _)
  rw [State.done, State.ctxOf_of_sec hsec, ← h]
  rfl

/-! ### What the write of a number does -/

/-- The objects of one number whose write acts. -/
def actingKeys : List Nat :=
  [ID_STORE, ID_RESTORE_DEFAULTS, DEV_DEVICE_REQUEST, CMT_COMMIT, DEV_RESET_REQUEST, STBY_STANDBY_REQUEST, SEL_SELECT_REQUEST,
    PPS_TOD_SECONDS, ALM_ALARM_ENABLE, LEGS_LOAD_ALL, TRIP_FLAGS, SDF_OC_FLAGS, SDF_MOD_FAULT_FLAGS, ADM_ADMIT_CHECK, FIELD_STATUS, DO_SET,
    DO_SHORT, TW_HANDOVER, FW_NEXT_SLOT, FW_CONFIRM, CAL_SAVE, CAL_DISCARD, ACQ_CONTROL, ACQ_SEG_RELEASED]

/-- The objects of an axis whose write acts, the profile parameters apart. -/
def actingAxisKeys (n : Nat) : List Nat :=
  [AX_COMMAND n, AX_TARGET_VELOCITY n, AI_INDEX_ARM n, CC_MODE n, CCV_CC_STATUS n, BNK_SWAP_REQUEST n, GEAR_NUM n, GEAR_DEN n,
    CAMA_CAM_NEXT n, REG_RESET n]

/-- The families of objects whose write acts. -/
theorem acts_iff (k : Nat) : Claims.acts k = true ↔ k ∈ actingKeys ∨
    (∃ c < 4, k / 256 = SDO_COB_RX c / 256 ∨ k = CANS_RECOVER c ∨
      (0x2710 + 16 * c ≤ k / 256 ∧ k / 256 < 0x2720 + 16 * c ∧ (k / 256 % 16 = 6 ∨ k / 256 % 16 = 8))) ∨
    (∃ u < 16, k = LU_ARM u ∨ k = LU_NEXT u) ∨ (∃ l < 48, k = LEG_DIRECT_ENABLE l) ∨
    (∃ t < 80, k / 256 = CAM_FINISH t / 256) ∨
    (∃ n < 32, k ∈ actingAxisKeys n ∨ (k / 256 = PRF_V_MAX n / 256 ∧ 2 ≤ k % 256 ∧ k % 256 ≤ 5)) := by
  simp only [Claims.acts, Bool.or_eq_true, Bool.and_eq_true, List.contains_iff_mem, List.any_eq_true, upto, List.mem_range,
    decide_eq_true_eq, beq_iff_eq, or_assoc, and_assoc, actingKeys, actingAxisKeys]

/-- The write of no other object of one number acts. -/
theorem State.oneWrite_eq_none {s : State} {vd : Verdict} {k v : Nat} (h : k ∉ actingKeys) : s.oneWrite vd k v = none := by
  unfold State.oneWrite
  split
  case h_23 => rfl
  all_goals exact absurd (by decide) h

/-- The offsets and subindexes of an axis block whose write acts. -/
theorem State.axisWrite_eq_none {s : State} {vd : Verdict} {n o j k v : Nat}
    (h : ∀ x ∈ [(0x00, 6), (0x11, 6), (0x20, 1), (0x22, 0xe), (0x31, 2), (0x40, 2), (0x40, 3), (0x40, 4), (0x40, 5), (0x61, 1),
      (0x61, 2), (0x62, 2), (0x63, 0xa)], (o, j) ≠ x) : s.axisWrite vd n o j k v = none := by
  unfold State.axisWrite
  split
  case h_14 => rfl
  all_goals exact absurd rfl (h _ (by decide))

/-- An object of an axis whose write has no effect of its own. -/
theorem State.axisWrite_eq_none_of_acts {s : State} {vd : Verdict} {k v : Nat} (h : Claims.acts k = false)
    (hi : 0x3000 ≤ k / 256 ∧ k / 256 < 0x4000) :
    s.axisWrite vd ((k / 256 - 0x3000) / 0x80) (axisOffset (k / 256)) (k % 256) k v = none := by
  refine State.axisWrite_eq_none fun x hx he => ?_
  have hn : (k / 256 - 0x3000) / 0x80 < 32 := by omega
  refine Bool.eq_false_iff.mp h ((acts_iff k).mpr (.inr (.inr (.inr (.inr (.inr ⟨_, hn, ?_⟩))))))
  simp only [List.mem_cons, List.not_mem_nil, or_false] at hx
  simp only [actingAxisKeys, List.mem_cons, List.not_mem_nil, or_false, AX_COMMAND, AX_TARGET_VELOCITY, AI_INDEX_ARM, CC_MODE,
    CCV_CC_STATUS, BNK_SWAP_REQUEST, GEAR_NUM, GEAR_DEN, CAMA_CAM_NEXT, REG_RESET, PRF_V_MAX]
  unfold axisOffset at he
  rcases hx with rfl | rfl | rfl | rfl | rfl | rfl | rfl | rfl | rfl | rfl | rfl | rfl | rfl <;>
    obtain ⟨ho, hj⟩ := Prod.mk.inj he <;> omega

/-- The objects of message objects: channel, message object and field. -/
theorem moOf_eq_some {k c n f : Nat} (h : moOf k = some (c, n, f)) :
    0x2710 ≤ k / 256 ∧ k / 256 < 0x2750 ∧ c = (k / 256 - 0x2710) / 16 ∧ n = k % 256 - 1 ∧ f = k / 256 % 16 := by
  unfold moOf at h
  dsimp only at h
  split at h
  · next hi =>
    cases h
    exact ⟨hi.1, hi.2, rfl, rfl, rfl⟩
  · cases h

/-- An object of a family whose write has no effect of its own. -/
theorem State.familyWrite_eq_none {s : State} {vd : Verdict} {k v : Nat} (h : Claims.acts k = false) :
    s.familyWrite vd k v = none := by
  have hk : ¬ Claims.acts k = true := by simp [h]
  rw [acts_iff] at hk
  simp only [not_or, not_exists, not_and] at hk
  obtain ⟨-, hcan, hlatch, hleg, htable, -⟩ := hk
  unfold State.familyWrite
  dsimp only
  split
  · next haxis => exact State.axisWrite_eq_none_of_acts h haxis
  split
  · exact absurd (by unfold SDO_COB_RX; omega) (hcan (k / 256 - 0x1200) (by omega)).1
  split
  · exact absurd (by unfold LU_ARM; omega) (hlatch (k / 256 - 0x2220) (by omega)).1
  split
  · exact absurd (by unfold LU_NEXT; omega) (hlatch (k / 256 - 0x2220) (by omega)).2
  split
  · exact absurd (by unfold LEG_DIRECT_ENABLE; omega) (hleg (k / 256 - 0x2310) (by omega))
  split
  · exact absurd (by unfold CANS_RECOVER; omega) (hcan (k / 256 - 0x2704) (by omega)).2.1
  split
  · exact absurd (by unfold CAM_FINISH; omega) (htable (k / 256 - 0x4010) (by omega))
  · have hfield {c n f : Nat} (he : moOf k = some (c, n, f)) : f ≠ 6 ∧ f ≠ 8 := by
      obtain ⟨hlo, hhi, -, -, rfl⟩ := moOf_eq_some he
      exact (hcan ((k / 256 - 0x2710) / 16) (by omega)).2.2 (by omega) (by omega)
    split
    case h_1 he => exact absurd rfl (hfield he).1
    case h_2 he => exact absurd rfl (hfield he).2
    case h_3 => rfl

/-- The bits of a written value that an object of this range has. -/
def Rng.kept (g : Rng) (v : Nat) : Nat :=
  match g with
  | .bits m => v &&& m
  | _ => v

/-- What a write of `v` leaves in an object of this range that held `old` and has no effect of its own. -/
def Rng.stored (g : Rng) (old v : Nat) : Nat :=
  match g with
  | .bits m => v &&& m
  | .w1c m => clrMask old (v &&& m)
  | _ => v

theorem keepBits_of_row {k v : Nat} {r : Row} (hr : findRow (k / 256) (k % 256) = some r) : keepBits k v = r.rng.kept v := by
  unfold keepBits
  rw [hr]
  rfl

/-- A number without an effect of its own is stored as its range says. -/
theorem State.numberWrite_plain {s : State} {vd : Verdict} {r : Row} {k v : Nat} (hr : findRow (k / 256) (k % 256) = some r)
    (h : Claims.acts k = false) : s.numberWrite vd r k v = okRes (s.wr k (r.rng.stored (s.rd k) v)) := by
  have hone : k ∉ actingKeys := fun hk => Bool.eq_false_iff.mp h ((acts_iff k).mpr (.inl hk))
  unfold State.numberWrite
  dsimp only
  rw [State.oneWrite_eq_none hone, State.familyWrite_eq_none h, keepBits_of_row hr]
  cases r.rng <;> rfl

/-- Checks 6 and 7 pass, and the object is a number that is neither STORE, COMMIT nor a COMMAND. -/
theorem State.writeValue_number {s : State} {ctx : Option Ctx} {session i j : Nat} {vd : Verdict} {r : Row} {b : Bytes}
    (hsize : 0 < r.ty.size) (hlen : b.length = r.ty.size) (hcode : s.valueCode r i j (leNat b) = 0)
    (hstore : i * 256 + j ≠ ID_STORE) (hcommit : i * 256 + j ≠ CMT_COMMIT)
    (hcmd : ¬ (0x3000 ≤ i ∧ i < 0x4000 ∧ axisOffset i = 0 ∧ j = 1)) :
    s.writeValue ctx session vd r i j b =
      ((s.numberWrite vd r (i * 256 + j) (leNat b)).st, some (s.numberWrite vd r (i * 256 + j) (leNat b)).code) := by
  have hl : lengthOk r b.length = true := by rw [lengthOk, if_pos hsize, hlen, beq_self_eq_true]
  unfold State.writeValue
  dsimp only
  rw [hl, Bool.not_true, if_neg Bool.false_ne_true, if_neg (Nat.ne_of_gt hsize), hcode, if_neg (by simp)]
  exact (if_neg hstore).trans ((if_neg hcommit).trans (if_neg hcmd))

/-! ### Persistent objects -/

/-- The row found for an object is one of its index, and holds its index and subindex. -/
theorem findRow_eq_some {i j : Nat} {r : Row} (h : findRow i j = some r) : r ∈ rowsOf i ∧ r.hasSub j = true ∧ r.hasIdx i = true := by
  unfold findRow at h
  have hp := List.find?_some h
  rw [Bool.and_eq_true] at hp
  exact ⟨List.mem_of_find?_eq_some h, hp⟩

/-- Every family of an axis block has one index in the block of each of its axes. -/
theorem rows3_axisBlock : ∀ r ∈ rows3, 0x3000 ≤ r.idx ∧ r.idx < 0x3080 ∧ r.stride = 0x80 := by decide +kernel

/-- The row of an object of an axis block: its offset in the block, and the axes that have the object. -/
theorem findRow_axis {i j : Nat} {r : Row} (hi : 0x3000 ≤ i ∧ i < 0x4000) (h : findRow i j = some r) :
    r ∈ rows3 ∧ r.hasSub j = true ∧ r.idx = 0x3000 + axisOffset i ∧ (i - 0x3000) / 0x80 < r.count := by
  obtain ⟨hm, hs, hx⟩ := findRow_eq_some h
  have hr : rowsOf i = rows3 := by
    unfold rowsOf
    rw [if_neg (by omega), if_neg (by omega), if_pos hi.2]
  rw [hr] at hm
  obtain ⟨hlo, hhi, hst⟩ := rows3_axisBlock r hm
  simp only [Row.hasIdx, hst, Bool.and_eq_true, decide_eq_true_eq, beq_iff_eq] at hx
  refine ⟨hm, hs, ?_, ?_⟩ <;> unfold axisOffset at * <;> omega

/-- No persistent object is written by the ones of its bits. -/
theorem rowsOf_persistent_not_w1c (i : Nat) : (rowsOf i).all (fun w => !w.persistent || match w.rng with
    | .w1c _ => false
    | _ => true) = true := by
  unfold rowsOf
  split
  · decide +kernel
  split
  · split <;> decide +kernel
  split
  · decide +kernel
  split
  · decide +kernel
  split <;> decide +kernel

/-- A persistent object keeps of a written value the bits that it has. -/
theorem Rng.stored_of_persistent {i j : Nat} {r : Row} (hr : findRow i j = some r) (hp : r.persistent = true) (old v : Nat) :
    r.rng.stored old v = r.rng.kept v := by
  have h := List.all_eq_true.mp (rowsOf_persistent_not_w1c i) r (findRow_eq_some hr).1
  rw [hp] at h
  cases hg : r.rng with
  | w1c m => simp [hg] at h
  | _ => rfl

/-- The object is a persistent one (R443). -/
def persistentKey (k : Nat) : Bool :=
  match findRow (k / 256) (k % 256) with
  | some r => r.persistent
  | none => false

/-- No index of these has a persistent object. -/
theorem not_persistentKey_of_idx {k : Nat} (h : (rowsOf (k / 256)).all (fun w => !(w.hasIdx (k / 256) && w.persistent)) = true) :
    persistentKey k = false := by
  unfold persistentKey
  split
  case h_1 r hr =>
    obtain ⟨hm, -, hx⟩ := findRow_eq_some hr
    simpa [hx] using List.all_eq_true.mp h r hm
  case h_2 => rfl

theorem not_persistentKey_of_mem_actingKeys : ∀ k ∈ actingKeys, persistentKey k = false := by decide +kernel

theorem canField_not_persistent : ∀ c : Fin 4, ∀ f ∈ [6, 8],
    (rowsOf (0x2710 + 16 * c + f)).all (fun w => !(w.hasIdx (0x2710 + 16 * c + f) && w.persistent)) = true := by decide +kernel

theorem recover_not_persistent : ∀ c : Fin 4, persistentKey (CANS_RECOVER c) = false := by decide +kernel

theorem latch_not_persistent : ∀ u : Fin 16, persistentKey (LU_ARM u) = false ∧ persistentKey (LU_NEXT u) = false := by
  decide +kernel

theorem directEnable_not_persistent : ∀ l : Fin 48, persistentKey (LEG_DIRECT_ENABLE l) = false := by decide +kernel

theorem finish_not_persistent : ∀ t : Fin 80, persistentKey (CAM_FINISH t) = false := by decide +kernel

/-- Of the acting objects of an axis block only CC_MODE, GEAR_NUM and GEAR_DEN are persistent, and CC_MODE is one of 16 axes. -/
theorem rows3_acting_persistent : ∀ r ∈ rows3, r.persistent = true →
    (∀ x ∈ [(0x00, 1), (0x00, 6), (0x11, 6), (0x22, 0xe), (0x31, 2), (0x62, 2), (0x63, 0xa)],
      r.idx = 0x3000 + x.1 → r.hasSub x.2 = false) ∧
    (r.idx = 0x3020 → r.hasSub 1 = true → r.count = 16) := by decide +kernel

theorem exists_row_of_persistentKey {k : Nat} (h : persistentKey k = true) :
    ∃ r, findRow (k / 256) (k % 256) = some r ∧ r.persistent = true := by
  unfold persistentKey at h
  split at h
  case h_1 r hr => exact ⟨r, hr, h⟩
  case h_2 => exact absurd h Bool.false_ne_true

/-- The object at an offset and subindex of the block of axis `n`. -/
theorem axisKey_parts {n o j : Nat} (hn : n < 32) (ho : o < 0x80) (hj : j < 256) :
    let k := 0x300000 + 0x8000 * n + 256 * o + j
    (0x3000 ≤ k / 256 ∧ k / 256 < 0x4000) ∧ axisOffset (k / 256) = o ∧ (k / 256 - 0x3000) / 0x80 = n ∧ k % 256 = j := by
  unfold axisOffset
  dsimp only
  omega

/-- Of the acting objects of an axis only CC_MODE and the gear ratio are persistent. -/
theorem gear_of_persistentKey {n k : Nat} (hn : n < 32) (h : k ∈ actingAxisKeys n) (hp : persistentKey k = true)
    (hcc : k = CC_MODE n → 16 ≤ n) : k = GEAR_NUM n ∨ k = GEAR_DEN n := by
  obtain ⟨r, hr, hp⟩ := exists_row_of_persistentKey hp
  have hax (o j : Nat) (e : k = 0x300000 + 0x8000 * n + 256 * o + j) (ho : o < 0x80) (hj : j < 256) :
      r.hasSub j = true ∧ r.idx = 0x3000 + o ∧ n < r.count ∧ r ∈ rows3 := by
    obtain ⟨hi, hoff, hnum, hsub⟩ := axisKey_parts hn ho hj
    rw [← e] at hi hoff hnum hsub
    obtain ⟨hm, hs, hidx, hcount⟩ := findRow_axis hi hr
    rw [hoff] at hidx
    rw [hsub] at hs
    rw [hnum] at hcount
    exact ⟨hs, hidx, hcount, hm⟩
  have hno (x : Nat × Nat) (hx : x ∈ [(0x00, 1), (0x00, 6), (0x11, 6), (0x22, 0xe), (0x31, 2), (0x62, 2), (0x63, 0xa)])
      (e : k = 0x300000 + 0x8000 * n + 256 * x.1 + x.2) (hb : x.1 < 0x80 ∧ x.2 < 256) : False := by
    obtain ⟨hs, hidx, -, hm⟩ := hax x.1 x.2 e hb.1 hb.2
    exact Bool.false_ne_true (((rows3_acting_persistent r hm hp).1 x hx hidx).symm.trans hs)
  simp only [actingAxisKeys, List.mem_cons, List.not_mem_nil, or_false] at h
  rcases h with h | h | h | h | h | h | h | h | h | h
  · exact (hno (0x00, 1) (by decide) (by unfold AX_COMMAND at h; omega) (by decide)).elim
  · exact (hno (0x00, 6) (by decide) (by unfold AX_TARGET_VELOCITY at h; omega) (by decide)).elim
  · exact (hno (0x11, 6) (by decide) (by unfold AI_INDEX_ARM at h; omega) (by decide)).elim
  · obtain ⟨hs, hidx, hcount, hm⟩ := hax 0x20 1 (by unfold CC_MODE at h; omega) (by decide) (by decide)
    rw [(rows3_acting_persistent r hm hp).2 hidx hs] at hcount
    exact absurd (hcc h) (Nat.not_le.mpr hcount)
  · exact (hno (0x22, 0xe) (by decide) (by unfold CCV_CC_STATUS at h; omega) (by decide)).elim
  · exact (hno (0x31, 2) (by decide) (by unfold BNK_SWAP_REQUEST at h; omega) (by decide)).elim
  · exact .inl h
  · exact .inr h
  · exact (hno (0x62, 2) (by decide) (by unfold CAMA_CAM_NEXT at h; omega) (by decide)).elim
  · exact (hno (0x63, 0xa) (by decide) (by unfold REG_RESET at h; omega) (by decide)).elim

/-- The acting objects that are persistent, CC_MODE apart: the COB-IDs of SDO channels, table headers, profile parameters and gear
ratios. -/
theorem acts_of_persistentKey {k : Nat} (hp : persistentKey k = true) (hcc : ∀ n : Fin 16, k ≠ CC_MODE n)
    (ha : Claims.acts k = true) :
    (0x1200 ≤ k / 256 ∧ k / 256 < 0x1204) ∨ (0x4010 ≤ k / 256 ∧ k / 256 < 0x4060 ∧ k % 256 ≠ 7) ∨
    ((0x3000 ≤ k / 256 ∧ k / 256 < 0x4000) ∧
      (axisOffset (k / 256) = 0x40 ∧ (k % 256 = 2 ∨ k % 256 = 3 ∨ k % 256 = 4 ∨ k % 256 = 5) ∨
       axisOffset (k / 256) = 0x61 ∧ (k % 256 = 1 ∨ k % 256 = 2))) := by
  have hnot : ¬ persistentKey k = false := by simp [hp]
  rcases (acts_iff k).mp ha with hone | ⟨c, hc, hcob | hrec | ⟨hlo, hhi, hf⟩⟩ | ⟨u, hu, h | h⟩ | ⟨l, hl, h⟩ | ⟨t, ht, h⟩ |
    ⟨n, hn, h | ⟨h, hj⟩⟩
  · exact absurd (not_persistentKey_of_mem_actingKeys k hone) hnot
  · refine .inl ?_
    unfold SDO_COB_RX at hcob
    omega
  · exact absurd (hrec ▸ recover_not_persistent ⟨c, hc⟩) hnot
  · have hi : k / 256 = 0x2710 + 16 * c + 6 ∨ k / 256 = 0x2710 + 16 * c + 8 := by omega
    refine absurd (not_persistentKey_of_idx ?_) hnot
    rcases hi with hi | hi <;> rw [hi]
    · exact canField_not_persistent ⟨c, hc⟩ 6 (by decide)
    · exact canField_not_persistent ⟨c, hc⟩ 8 (by decide)
  · exact absurd (h ▸ (latch_not_persistent ⟨u, hu⟩).1) hnot
  · exact absurd (h ▸ (latch_not_persistent ⟨u, hu⟩).2) hnot
  · exact absurd (h ▸ directEnable_not_persistent ⟨l, hl⟩) hnot
  · refine .inr (.inl ?_)
    have hfin : k ≠ CAM_FINISH t := fun e => hnot (e ▸ finish_not_persistent ⟨t, ht⟩)
    unfold CAM_FINISH at h hfin
    omega
  · have hlow : k = CC_MODE n → 16 ≤ n := fun e => Nat.not_lt.mp fun hlt => hcc ⟨n, hlt⟩ e
    refine .inr (.inr ?_)
    rcases gear_of_persistentKey hn h hp hlow with h | h
    · unfold GEAR_NUM at h
      unfold axisOffset
      omega
    · unfold GEAR_DEN at h
      unfold axisOffset
      omega
  · refine .inr (.inr ?_)
    unfold PRF_V_MAX at h
    unfold axisOffset
    omega

/-- The write stored `v` in object `k`, and left the values in force and the enclave alone. -/
def Stores (s : State) (k v : Nat) (x : Res) : Prop :=
  x.code = 0 ∧ x.st.rd k = v ∧ x.st.force = s.force ∧ x.st.sec = s.sec

theorem State.paramWrite_stores (s : State) (n k v : Nat) : Stores s k v (s.paramWrite n k v) := by
  refine ⟨?_, ?_, (State.paramWrite_keeps ..).same .force rfl, (State.paramWrite_keeps ..).same .sec rfl⟩ <;>
    unfold State.paramWrite
  · split <;> rfl
  · split
    · dsimp only [okRes]
      rw [State.rd, (State.holdBack_keeps ..).same .regs rfl]
      exact State.wr_rd_self s k v
    · exact State.wr_rd_self s k v

theorem State.gearWrite_stores (s : State) (n k v : Nat) : Stores s k v (s.gearWrite n k v) :=
  ⟨rfl, State.wr_rd_self s k v, rfl, rfl⟩

/-- The header of a table that is not in use. -/
theorem State.tableHeader_stores {s : State} {t : Nat} (k v : Nat) (h : s.tableState t ≠ 3) :
    Stores s k v (s.tableHeader t k v) := by
  refine ⟨?_, ?_, (State.tableHeader_keeps ..).same .force rfl, (State.tableHeader_keeps ..).same .sec rfl⟩ <;>
    unfold State.tableHeader <;> rw [if_neg h]
  · rfl
  · exact State.wr_rd_self _ k v

/-- The header of a table may be written only while the table is not in use (R337). -/
theorem State.tableState_of_writeState {s : State} {k : Nat} (h : s.writeState k = true)
    (hk : 0x4010 ≤ k / 256 ∧ k / 256 < 0x4060 ∧ k % 256 ≠ 7) : s.tableState (k / 256 - 0x4010) ≠ 3 := by
  obtain ⟨hlo, hhi, hj⟩ := hk
  have hcal : ¬ calKey k = true := by
    unfold calKey
    simp only [Bool.and_eq_true, decide_eq_true_eq]
    omega
  have hacq : ¬ acqConfigKey k = true := by
    unfold acqConfigKey
    simp only [Bool.and_eq_true, decide_eq_true_eq]
    omega
  unfold State.writeState at h
  have hobj := (Bool.and_eq_true_iff.mp h).2
  split at hobj
  case h_10 =>
    dsimp only at hobj
    rw [if_neg hcal, if_neg hacq, if_neg (by omega), if_neg (by omega), if_pos ⟨hlo, hhi⟩, if_neg hj] at hobj
    simpa using hobj
  all_goals exact absurd hlo (by decide)

/-- A write that check 5 lets through finds its object in a state for it. -/
theorem State.writeState_of_writeAccess {s : State} {role : Role} {i j : Nat} (h : s.writeAccess role i j = 0) :
    s.writeState (i * 256 + j) = true := by
  unfold State.writeAccess at h
  split at h
  · exact absurd h (by decide)
  · split at h
    · split at h <;> exact absurd h (by decide)
    · split at h
      · exact absurd h (by decide)
      split at h
      · exact absurd h (by decide)
      split at h
      · exact absurd h (by decide)
      · next hstate => simpa using hstate

/-- A persistent object but CC_MODE, written in a state for it, is stored with the bits that it has. -/
theorem State.numberWrite_stores {s : State} {vd : Verdict} {r : Row} {k : Nat} (v : Nat)
    (hr : findRow (k / 256) (k % 256) = some r) (hp : r.persistent = true) (hcc : ∀ n : Fin 16, k ≠ CC_MODE n)
    (hstate : s.writeState k = true) : Stores s k (r.rng.kept v) (s.numberWrite vd r k v) := by
  have hpk : persistentKey k = true := by rw [persistentKey, hr]; exact hp
  by_cases ha : Claims.acts k = true
  · have hone : k ∉ actingKeys := fun hk => by simp [not_persistentKey_of_mem_actingKeys k hk] at hpk
    unfold State.numberWrite
    dsimp only
    rw [State.oneWrite_eq_none hone, keepBits_of_row hr]
    dsimp only
    unfold State.familyWrite
    dsimp only
    rcases acts_of_persistentKey hpk hcc ha with hcob | htab | ⟨hax, ⟨ho, hj⟩ | ⟨ho, hj⟩⟩
    · rw [if_neg (by omega), if_pos hcob]
      exact ⟨rfl, State.wr_rd_self s k _, rfl, rfl⟩
    · rw [if_neg (by omega), if_neg (by omega), if_neg (by omega), if_neg (by omega), if_neg (by omega), if_neg (by omega),
        if_pos ⟨htab.1, htab.2.1⟩, if_neg htab.2.2]
      exact State.tableHeader_stores k _ (State.tableState_of_writeState hstate htab)
    · rw [if_pos hax, ho]
      rcases hj with hj | hj | hj | hj <;> rw [hj] <;> exact State.paramWrite_stores s _ k _
    · rw [if_pos hax, ho]
      rcases hj with hj | hj <;> rw [hj] <;> exact State.gearWrite_stores s _ k _
  · rw [State.numberWrite_plain hr (Bool.not_eq_true _ ▸ ha), Rng.stored_of_persistent hr hp]
    exact ⟨rfl, State.wr_rd_self s k _, rfl, rfl⟩

end Sys2Proof.Machine
end

section
/-! SUPPORT. What an accepted write of an object leaves. -/
namespace Sys2Proof.Machine
open Sys2Proof Obj

/-! ### Written numbers -/

/-- The write of the object is answered when it is executed: it is neither STORE, COMMIT nor a COMMAND. -/
def AnsweredAtOnce (k : Nat) : Prop :=
  k ≠ ID_STORE ∧ k ≠ CMT_COMMIT ∧ ¬ (0x3000 ≤ k / 256 ∧ k / 256 < 0x4000 ∧ axisOffset (k / 256) = 0 ∧ k % 256 = 1)

theorem answeredAtOnce_of_not_acts {k : Nat} (h : Claims.acts k = false) : AnsweredAtOnce k := by
  have hk : ¬ Claims.acts k = true := by simp [h]
  rw [acts_iff] at hk
  simp only [not_or, not_exists, not_and] at hk
  obtain ⟨hone, -, -, -, -, haxis⟩ := hk
  refine ⟨fun e => hone (e ▸ by decide), fun e => hone (e ▸ by decide), fun ⟨hlo, hhi, ho, hj⟩ => ?_⟩
  refine (haxis ((k / 256 - 0x3000) / 0x80) (by omega)).1 (List.mem_of_mem_head? (Option.mem_some.mpr ?_))
  unfold axisOffset at ho
  unfold AX_COMMAND
  omega

/-- No persistent object is STORE, COMMIT or a COMMAND. -/
theorem answeredAtOnce_of_persistent {k : Nat} (hp : persistentKey k = true) (hcc : ∀ n : Fin 16, k ≠ CC_MODE n) :
    AnsweredAtOnce k := by
  by_cases ha : Claims.acts k = true
  · have hfam := acts_of_persistentKey hp hcc ha
    unfold AnsweredAtOnce ID_STORE CMT_COMMIT
    omega
  · exact answeredAtOnce_of_not_acts (Bool.not_eq_true _ ▸ ha)

theorem State.arrived_force (s : State) (w : Wr) : (s.arrived w).force = s.force := (State.acceptFresh_keeps ..).same .force rfl

/-- A number that checks 6 and 7 accept, and whose write succeeds at once. -/
theorem written_of_numberWrite {s : State} {w : Wr} {i : BitVec 16} {j : BitVec 8} {r : Row} {p : State → Prop}
    (ha : s.admits w (i.toNat * 256 + j.toNat)) (hr : findRow i.toNat j.toNat = some r) (hlen : w.data.length = r.ty.size)
    (hsize : 0 < r.ty.size) (hcode : (s.arrived w).valueCode r i.toNat j.toNat (leNat w.data) = 0)
    (hk : AnsweredAtOnce (i.toNat * 256 + j.toNat))
    (hok : ((s.arrived w).numberWrite w.vd r (i.toNat * 256 + j.toNat) (leNat w.data)).code = 0)
    (hsec : ((s.arrived w).numberWrite w.vd r (i.toNat * 256 + j.toNat) (leNat w.data)).st.sec = (s.arrived w).sec)
    (hp : p ((s.arrived w).numberWrite w.vd r (i.toNat * 256 + j.toNat) (leNat w.data)).st) :
    Written (.objectWrite w i j) s w (i.toNat * 256 + j.toNat) p := by
  obtain ⟨hstore, hcommit, hcmd⟩ := hk
  rw [objectKey_div, objectKey_mod] at hcmd
  refine written_of_writeValue ha hr (fun ctx => ?_) hsec hp
  rw [State.writeValue_number hsize hlen hcode hstore hcommit hcmd, hok]

/-! ### Message data -/

/-- The row of MO_DATA: an octet string of up to 64 bytes. -/
theorem moData_rows : ∀ c : Fin 4, ∀ r ∈ rowsOf (0x2714 + 16 * c), r.hasIdx (0x2714 + 16 * c) = true →
    r.ty.size = 0 ∧ ∀ m : Fin 65, lengthOk r m = true := by decide +kernel

/-- A write that check 4 lets through is one of an object that exists. -/
theorem State.exists_row_of_writeAccess {s : State} {role : Role} {i j : Nat} (h : s.writeAccess role i j = 0) :
    ∃ r, findRow i j = some r := by
  unfold State.writeAccess at h
  split at h
  · exact absurd h (by decide)
  · split at h
    · split at h <;> exact absurd h (by decide)
    · exact ⟨_, ‹_›⟩

/-- Octets stored are what the object holds. -/
theorem State.wrBlob_blob (s : State) (k : Nat) (b : Bytes) : (s.wrBlob k b).blob k = b := by
  have hnone (l : List (Nat × Bytes)) (h : ∀ e ∈ l, e.1 ≠ k) : l.find? (fun e => e.1 == k) = none :=
    List.find?_eq_none.mpr fun e he => by simpa using h e he
  unfold State.wrBlob State.blob
  cases b with
  | nil =>
    dsimp only [List.isEmpty]
    rw [if_pos rfl, hnone _ (by simp)]
    rfl
  | cons x b =>
    dsimp only [List.isEmpty]
    rw [if_neg Bool.false_ne_true, List.find?_append, hnone _ (by simp), List.find?_cons_of_pos (by simp)]
    rfl

/-- MO_DATA reads the octets stored. -/
theorem State.octets_moData (s : State) (c : Fin 4) (n : Fin 128) : s.octets (MO_DATA c n) = s.blob (MO_DATA c n) := by
  have hk : 0x271401 ≤ MO_DATA c n ∧ MO_DATA c n < 0x274500 := by
    unfold MO_DATA
    omega
  unfold State.octets
  split
  case h_17 =>
    dsimp only
    rw [if_neg (by omega), if_neg (by omega), if_neg (by omega)]
  all_goals omega

/-- MO_DATA written is stored as octets. -/
theorem State.octetWrite_moData (s : State) (session : Nat) (vd : Verdict) (c : Fin 4) (n : Fin 128) (b : Bytes) :
    s.octetWrite session vd (MO_DATA c n) b = okRes (s.wrBlob (MO_DATA c n) b) := by
  have hk : 0x271401 ≤ MO_DATA c n ∧ MO_DATA c n < 0x274500 := by
    unfold MO_DATA
    omega
  unfold State.octetWrite PKT_PACKET_IN FW_IMAGE CAL_IMPORT
  dsimp only
  rw [if_neg (by omega), if_neg (by omega), if_neg (by omega), if_neg (by omega), if_neg (by omega), if_neg (by omega),
    if_neg (by omega)]

/-- MO_DATA takes the bytes written to it (R518). -/
theorem written_moData {s : State} {w : Wr} (c : Fin 4) (n : Fin 128) (ha : s.admits w (MO_DATA c n)) (hlen : w.data.length ≤ 64) :
    Written (.objectWrite w (BitVec.ofNat 16 (MO_DATA c n / 256)) (BitVec.ofNat 8 (MO_DATA c n % 256))) s w (MO_DATA c n) fun u =>
      u.octets (MO_DATA c n) = w.data ∧ (s.arrived w).onlyIn [.blobs] u := by
  obtain ⟨r, hr⟩ := State.exists_row_of_writeAccess ha.2.2.2.1
  have hi : MO_DATA c n / 256 = 0x2714 + 16 * c := by
    unfold MO_DATA
    omega
  have hrow := findRow_eq_some hr
  rw [hi] at hrow
  obtain ⟨hsize, hlens⟩ := moData_rows c r hrow.1 hrow.2.2
  have hI : (BitVec.ofNat 16 (MO_DATA c n / 256)).toNat = MO_DATA c n / 256 := by
    rw [BitVec.toNat_ofNat]
    omega
  have hJ : (BitVec.ofNat 8 (MO_DATA c n % 256)).toNat = MO_DATA c n % 256 := by
    rw [BitVec.toNat_ofNat]
    omega
  have hk : (BitVec.ofNat 16 (MO_DATA c n / 256)).toNat * 256 + (BitVec.ofNat 8 (MO_DATA c n % 256)).toNat = MO_DATA c n := by
    omega
  have h := written_of_writeValue (u := (s.arrived w).wrBlob (MO_DATA c n) w.data)
    (p := fun u => u.octets (MO_DATA c n) = w.data ∧ (s.arrived w).onlyIn [.blobs] u)
    (i := BitVec.ofNat 16 (MO_DATA c n / 256)) (j := BitVec.ofNat 8 (MO_DATA c n % 256)) (hk.symm ▸ ha) (r := r)
    (by rw [hI, hJ]; exact hr) (fun ctx => ?_) ((State.wrBlob_keeps ..).same .sec rfl)
    ⟨(State.octets_moData ..).trans (State.wrBlob_blob ..), Keeps.onlyIn (State.wrBlob_keeps ..)⟩
  · rwa [hk] at h
  · have hl : lengthOk r w.data.length = true := hlens ⟨w.data.length, by omega⟩
    unfold State.writeValue
    dsimp only
    rw [hl, Bool.not_true, if_neg Bool.false_ne_true, if_pos hsize, hk, State.octetWrite_moData]
    rfl

/-! ### Rows that stand for one write -/

/-- A row that stands for one write does what the write of its object does. -/
theorem exec_of_isWrite {w : Wr} {c : Instr} {k : Nat} (h : Claims.isWrite w c k) (s : State) :
    exec c s = .next (s.rowWrite w k w.data) := by
  unfold Claims.isWrite at h
  rcases h with ⟨rfl, rfl⟩ | ⟨rfl, rfl⟩ | ⟨rfl, rfl⟩ | ⟨rfl, rfl⟩ | ⟨rfl, rfl⟩ | ⟨rfl, rfl⟩ | ⟨rfl, rfl⟩ | ⟨rfl, rfl⟩ | ⟨rfl, rfl⟩ |
    ⟨rfl, rfl⟩ | ⟨rfl, rfl⟩ | ⟨rfl, rfl⟩ | ⟨rfl, rfl⟩ | ⟨rfl, rfl⟩ | ⟨rfl, rfl⟩ | ⟨rfl, rfl⟩ | ⟨rfl, rfl⟩ | ⟨rfl, rfl⟩ | ⟨rfl, rfl⟩ |
    ⟨rfl, rfl⟩ | ⟨rfl, rfl⟩ | ⟨rfl, rfl⟩ | ⟨rfl, rfl⟩ |
    ⟨n, ⟨rfl, rfl⟩ | ⟨rfl, rfl⟩⟩ |
    ⟨n, ⟨rfl, rfl⟩ | ⟨rfl, rfl⟩ | ⟨rfl, rfl⟩ | ⟨rfl, rfl⟩ | ⟨rfl, rfl⟩⟩ |
    ⟨n, ⟨rfl, rfl⟩ | ⟨rfl, rfl⟩ | ⟨rfl, rfl⟩ | ⟨rfl, rfl⟩ | ⟨rfl, rfl⟩⟩ |
    ⟨l, rfl, rfl⟩ | ⟨p, rfl, rfl⟩ | ⟨t, ⟨rfl, rfl⟩ | ⟨rfl, rfl⟩⟩ <;> rfl

/-- COMMAND written with a code, a SEQ and 0. -/
theorem exec_badCommand {w : Wr} {n : Fin 32} {code q : BitVec 8} (h : w.data = [code, q, 0, 0]) (s : State) :
    exec (.badCommand w n code q) s = .next (s.rowWrite w (AX_COMMAND n) w.data) := by
  have hb (x : BitVec 8) : leBytes 1 x.toNat = [x] := by simp [leBytes]
  have hdata : leBytes 1 code.toNat ++ leBytes 1 q.toNat ++ [0, 0] = w.data := by rw [hb, hb, h]; rfl
  show Host.Outcome.next (s.rowWrite w (AX_COMMAND n) (leBytes 1 code.toNat ++ leBytes 1 q.toNat ++ [0, 0])) = _
  rw [hdata]

/-! ### A transfer without a segment for 1 s -/

/-- A transfer as its timeout leaves it, if it is the one named: abandoned once its last segment is 1 s old (R448). -/
def Xfer.timedOut (chan : Chan) (session key : Nat) (now : Int) (x : Xfer) : Xfer :=
  if x.chan = chan ∧ x.session = session ∧ x.key = key ∧ x.seenAt + (secU : Int) ≤ now then { x with abandoned := true, buf := [] }
  else x

/-- The transfers of a requester after a timeout. -/
theorem State.xfer_timedOut (s : State) (chan : Chan) (session key : Nat) (c : Ctx) (write : Bool) :
    (s.modDict (fun d => { d with xfers := d.xfers.map (Xfer.timedOut chan session key s.clock) })).xfer c write =
      (s.xfer c write).map (Xfer.timedOut chan session key s.clock) := by
  unfold State.xfer State.modDict
  dsimp only
  rw [List.find?_map]
  congr 2
  funext x
  unfold Xfer.timedOut
  dsimp only [Function.comp]
  split <;> rfl

/-- The fields of a transfer that is found. -/
theorem State.xfer_eq_some {s : State} {c : Ctx} {write : Bool} {x : Xfer} (h : s.xfer c write = some x) :
    x.chan = c.chan ∧ x.session = c.session ∧ x.key = c.index * 256 + c.sub := by
  have hp := List.find?_some h
  simp only [Bool.and_eq_true, beq_iff_eq] at hp
  obtain ⟨⟨⟨hchan, hsession⟩, hkey⟩, -⟩ := hp
  exact ⟨hchan, hsession, hkey⟩

/-- The transfer named is abandoned once its last segment is 1 s old. -/
theorem Xfer.timedOut_named {x : Xfer} {chan : Chan} {session key : Nat} {now : Int}
    (h : x.chan = chan ∧ x.session = session ∧ x.key = key) : x.timedOut chan session key now =
      if x.seenAt + 4294967296000000000 ≤ now then { x with abandoned := true, buf := [] } else x := by
  obtain ⟨rfl, rfl, rfl⟩ := h
  simp only [Xfer.timedOut, true_and]
  rfl

/-- Every other transfer stays. -/
theorem Xfer.timedOut_other {x : Xfer} {chan chan' : Chan} {session session' key key' : Nat} {now : Int}
    (h : x.chan = chan' ∧ x.session = session' ∧ x.key = key') (hne : chan' ≠ chan ∨ session' ≠ session ∨ key' ≠ key) :
    x.timedOut chan session key now = x := by
  obtain ⟨rfl, rfl, rfl⟩ := h
  exact if_neg fun ⟨hchan, hsession, hkey, _⟩ => by simp [hchan, hsession, hkey] at hne

/-- A timeout changes the transfer it names and no other (R448). -/
theorem segmentTimeout_completes (s : State) (chan : Chan) (session i : BitVec 16) (j : BitVec 8) :
    Completes (.segmentTimeout chan session i j) s fun t =>
      s.onlyIn [.dict] t ∧ t.dict.xfers.length = s.dict.xfers.length ∧
      ∀ (c : Ctx) (write : Bool),
        t.xfer c write = (s.xfer c write).map (Xfer.timedOut chan session.toNat (i.toNat * 256 + j.toNat) s.clock) := by
  obtain ⟨t, ht, hk⟩ := exec_keeps (.segmentTimeout chan session i j) s
  refine ⟨t, ht, Keeps.onlyIn hk, ?_⟩
  obtain rfl := Host.Outcome.next.inj ht
  exact ⟨List.length_map .., fun c write => State.xfer_timedOut s chan session.toNat (i.toNat * 256 + j.toNat) c write⟩

/-! ### What an accepted write leaves -/

/-- A persistent number reads back what was written, its reserved bits 0, and no value in force changes (R443, R4). -/
theorem written_persistent {s : State} {w : Wr} {i : BitVec 16} {j : BitVec 8} {r : Row}
    (ha : s.admits w (i.toNat * 256 + j.toNat)) (hr : findRow i.toNat j.toNat = some r) (hlen : w.data.length = r.ty.size)
    (hcode : (s.arrived w).valueCode r i.toNat j.toNat (leNat w.data) = 0) (hp : r.persistent = true)
    (hcc : ∀ n : Fin 16, i.toNat * 256 + j.toNat ≠ CC_MODE n) (hsize : 0 < r.ty.size) :
    Written (.objectWrite w i j) s w (i.toNat * 256 + j.toNat) fun u => u.force = s.force ∧
      u.rd (i.toNat * 256 + j.toNat) = r.rng.kept (leNat w.data) := by
  have hrow := findRow_objectKey hr
  have hpk : persistentKey (i.toNat * 256 + j.toNat) = true := by rw [persistentKey, hrow]; exact hp
  have hstate := State.writeState_of_writeAccess ha.2.2.2.1
  rw [Nat.div_add_mod'] at hstate
  obtain ⟨hok, hrd, hforce, hsec⟩ := State.numberWrite_stores (vd := w.vd) (leNat w.data) hrow hp hcc hstate
  exact written_of_numberWrite ha hr hlen hsize hcode (answeredAtOnce_of_persistent hpk hcc) hok hsec
    ⟨hforce.trans (State.arrived_force s w), hrd⟩

/-- A number without an effect of its own changes that register alone (R20, R443). -/
theorem written_plain {s : State} {w : Wr} {i : BitVec 16} {j : BitVec 8} {r : Row}
    (ha : s.admits w (i.toNat * 256 + j.toNat)) (hr : findRow i.toNat j.toNat = some r) (hlen : w.data.length = r.ty.size)
    (hcode : (s.arrived w).valueCode r i.toNat j.toNat (leNat w.data) = 0) (hacts : Claims.acts (i.toNat * 256 + j.toNat) = false)
    (hsize : 0 < r.ty.size) :
    Written (.objectWrite w i j) s w (i.toNat * 256 + j.toNat) fun u =>
      (s.arrived w).frame [i.toNat * 256 + j.toNat] [.regs] u ∧
        u.rd (i.toNat * 256 + j.toNat) = r.rng.stored ((s.arrived w).rd (i.toNat * 256 + j.toNat)) (leNat w.data) := by
  have hrow := findRow_objectKey hr
  have hplain := State.numberWrite_plain (s := s.arrived w) (vd := w.vd) (v := leNat w.data) hrow hacts
  refine written_of_numberWrite ha hr hlen hsize hcode (answeredAtOnce_of_not_acts hacts) ?_ ?_ ?_ <;> rw [hplain]
  · rfl
  · rfl
  · exact ⟨⟨fun k hk => State.wr_rd_ne _ _ (by simpa using hk), Keeps.onlyIn (State.wr_keeps ..)⟩, State.wr_rd_self ..⟩

/-- Settles O47: the effect of a number's write is followed through `numberWrite`, once for the persistent objects and once for those
whose write does not act; the rows are the writes that they stand for; a timeout maps the transfers one by one. -/
theorem objectValues : Obligations.ObjectValues := by
  unfold Obligations.ObjectValues
  refine ⟨?numbers, ?octets, ?rows, ?command, ?timeout⟩
  case numbers =>
    intro s w i j a k v ha r hr hlen hcode
    constructor
    · intro hp hcc hsize
      exact written_persistent ha hr hlen hcode hp hcc hsize
    · intro hacts hsize
      exact written_plain ha hr hlen hcode hacts hsize
  case octets => exact fun s w c n ha hlen => written_moData c n ha hlen
  case rows => exact fun s w i j c hc => (exec_of_isWrite hc s).symm
  case command =>
    intro s w n code q hdata
    have hk : (BitVec.ofNat 16 (0x3000 + 0x80 * n.val)).toNat * 256 + (1 : BitVec 8).toNat = AX_COMMAND n := by
      have hsub : (1 : BitVec 8).toNat = 1 := rfl
      rw [BitVec.toNat_ofNat, hsub]
      unfold AX_COMMAND
      omega
    rw [exec_badCommand hdata, ← hk]
    rfl
  case timeout =>
    intro s chan session i j
    obtain ⟨t, ht, hparts, hlen, hx⟩ := segmentTimeout_completes s chan session i j
    refine ⟨t, ht, hparts, hlen, fun write => ?_, fun c write hc => ?_⟩
    · exact (hx _ write).trans (Option.map_congr fun x hm => Xfer.timedOut_named (State.xfer_eq_some hm))
    · have hother : (s.xfer c write).map (Xfer.timedOut chan session.toNat (i.toNat * 256 + j.toNat) s.clock) = (s.xfer c write).map id :=
        Option.map_congr fun x hm => Xfer.timedOut_other (State.xfer_eq_some hm) hc
      rw [hx, hother, Option.map_id, id]

end Sys2Proof.Machine
end
